-- ==== Sys2Proof/Word.lean ====
section
/-!
DEFINITION. The word types of the register map and of the wire, and plain data helpers every other file uses.
-/

namespace Sys2Proof

/-- A register, a QFT header word, a payload word or a descriptor word (R9). -/
abbrev Word := BitVec 64

/-- A byte of a payload, of HBM, of tile SRAM or of flash. -/
abbrev Byte := BitVec 8

/-- The field [hi:lo] of a word, as a number (chapter 0, "Bits, registers and wire layouts"). -/
def Word.field (w : Word) (hi lo : Nat) : Nat := (w.toNat / 2 ^ lo) % 2 ^ (hi + 1 - lo)

/-- Bit `i` of a word. -/
def Word.bit (w : Word) (i : Nat) : Bool := w.getLsbD i

/-- The number with the field [hi:lo] of `n` replaced by the low bits of `v`. -/
def Nat.withField (n hi lo v : Nat) : Nat :=
  n - ((n / 2 ^ lo) % 2 ^ (hi + 1 - lo)) * 2 ^ lo + (v % 2 ^ (hi + 1 - lo)) * 2 ^ lo

/-- The word with the field [hi:lo] replaced by the low bits of `v`. -/
def Word.setField (w : Word) (hi lo v : Nat) : Word :=
  BitVec.ofNat 64 (Nat.withField w.toNat hi lo v)

end Sys2Proof
end

