-- ==== Sys2Proof/Syntax.lean ====
section
/-!
DEFINITION. The commands of the block: one constructor of `Instr` per row of the command table, with the operands that
only the world outside the model knows (which port, which frame, which reading, which physical outcome).
-/

namespace Sys2Proof

/-- A frame on a port's line, or on the management Ethernet: addresses, 802.1Q tag control words, EtherType, the bytes
between the EtherType and the FCS, and whether the FCS is good. -/
structure Frame where
  fcsOk : Bool
  dmac  : Nat
  smac  : Nat
  tags  : List Nat
  etype : Nat
  body  : List Byte
  deriving DecidableEq, Repr

/-- Frame length from the destination address to the FCS inclusive (R309, R365). -/
def Frame.len (f : Frame) : Nat := 14 + 4 * f.tags.length + f.body.length + 4

/-- Where a management packet enters: a port, or the management Ethernet port (R518). -/
inductive Ingress where
  | port (p : Nat)
  | mgmtEth
  deriving DecidableEq, Repr

/-- The receive errors of R380, a codeword's with the lane of the port that it came on; and a codeword that the FEC corrected, which is
none, with the symbols corrected (Table 15.8; log entry 103). -/
inductive RxErr where
  | codeword (lane : Nat) | pcs | fcs | runt
  | corrected (symbols : Nat)
  deriving DecidableEq, Repr

/-- What a bad tail is (R317), a poisoned cell by its place among the packet's cells; and a cell whose error was corrected, which makes no
tail bad (Table 18.5). -/
inductive TailFault where
  | none | fcs | icrc | short
  | poisonedCell (i : Nat)
  | correctedCell (i : Nat)
  deriving DecidableEq, Repr

/-- A fault that a die's hardware finds in a unit whose own commands do not report it (Table 18.5, kinds ENGINE_ERR and ROUTER_FAIL; log
entry 103). -/
inductive Found where
  | streamEngine (e : Nat)
  | poolEngine (e addr : Nat)
  | replicationEngine (e : Nat)
  | router (inst : Nat)
  deriving DecidableEq, Repr

/-- A pool access of a stack's head item, as the memory returns it: whether its lines read clean, corrected or
uncorrectable (R214). -/
inductive MemResult where
  | clean | corrected | uncorrectable
  deriving DecidableEq, Repr

/-- How a contribution's slot reads in tile SRAM: clean, corrected, or uncorrectable in its accumulators (R72) or in its header
or bitmap (R161). -/
inductive SlotRead where
  | clean | corrected | accumulators | header
  deriving DecidableEq, Repr

/-- A word of a context's slot: the context, the chunk, and whether the word is the slot's header or bitmap (R161). -/
structure SlotWord where
  ctx    : Nat
  chunk  : Nat
  header : Bool
  deriving DecidableEq, Repr

/-- The vector unit's IEEE formats. -/
inductive VFmt where
  | b16 | b32 | b64
  deriving DecidableEq, Repr

/-- The operations whose operands may have other formats than their result (IEEE 754-2019 5.4.1). -/
inductive FOp where
  | add | sub | mul | div | sqrt | fma
  deriving DecidableEq, Repr

/-- The vector operations of R244 and R245. A comparison is given by the relations it holds for (8 less, 4 equal,
2 greater, 1 unordered) and whether it signals on a quiet NaN. -/
inductive VOp where
  | add | sub | mul | div | rem | minimum | maximum | minimumNumber | maximumNumber | copySign
  | compare (rels : Nat) (signalling : Bool)
  | totalOrder | totalOrderMag
  | fma
  | sqrt | roundIntegral (exact : Bool) | nextUp | nextDown | logB | copy | negate | abs | classOf
  | isSignMinus | isNormal | isFinite | isZero | isSubnormal | isInfinite | isNaN | isSignaling
  | isCanonical | radix | conforms (year : Nat)
  | scaleB (n : Int)
  | formatOf (op : FOp) (dst second third : VFmt)
  | toCharacter | fromCharacter
  | toFormat (dst : VFmt)
  | toInt (bits : Nat) (signed exact : Bool)
  | ofInt (bits : Nat) (signed : Bool)
  | intAdd | intSub | intAnd | intOr | intXor | intShl | intShr | intSar | intLt (signed : Bool) | intEq
  | intMin (signed : Bool) | intMax (signed : Bool) | intMul32 (signed : Bool)
  | convert (src dst : Nat)
  | blockEncode (src dst : Nat)
  | blockDecode (src dst : Nat)
  deriving DecidableEq, Repr

/-- The scalar operations of slot S (R247, Table 10.5), with the flag operations of IEEE 754-2019 5.7.4. -/
inductive SOp where
  | add | sub | and | or | xor | shl | shr | sar | eq | ne | lt | ltu | imm (v : Word)
  | branch (ifNonZero : Bool) (target : Nat)
  | loopStart (level : Nat)
  | loopEnd (level : Nat) (target : Nat)
  | readFlags | lowerFlags | raiseFlags
  deriving DecidableEq, Repr

/-- The conditions of WAIT (R248). -/
inductive WaitOn where
  | receiveQueue (q : Nat) | credit (vc : Nat) | counter (reg : Nat) (atLeast : Word) | globalCount (atLeast : Word)
  deriving DecidableEq, Repr

/-- What may delay a bundle beside interlocks and time (R248): the condition of its WAIT, or the credits of its SEND. -/
inductive Hold where
  | wait (on_ : WaitOn)
  | send (vc len : Nat)
  deriving DecidableEq, Repr

/-- Where a micro-operation issues: the tile's logical coordinate, the bundle address, for a service image the context whose counts it
feeds and the chunk it works on (R72, R240, R245), and how its bundle reads from the store (R249). `holds` is what the bundle's other slots
wait for, and `last` marks the bundle's last micro-operation (R247). -/
structure Issue where
  x      : Nat
  y      : Nat
  bundle : Nat
  ctx    : Nat
  fetch  : MemResult
  chunk  : Nat := 0
  holds  : List Hold := []
  last   : Bool := true
  deriving DecidableEq, Repr

/-- What a tile's SRAM finds as it reads for a micro-operation: no error, or one in the word that holds a byte address (R235). -/
inductive SramEcc where
  | clean | corrected (addr : Nat) | uncorrectable (addr : Nat)
  deriving DecidableEq, Repr

/-- The destination of a SEND, relative to the partition's north-west tile (R255, R261, R267): a tile, a place on an edge (0 north,
1 east, 2 south, 3 west), or a segment of a row or a column. -/
inductive SendTo where
  | tile (dx dy : Nat)
  | edge (side place : Nat)
  | row (dy first last : Nat)
  | column (dx first last : Nat)
  deriving DecidableEq, Repr

/-- A packet that the edge logic of a hub die forms from what a stream engine's buffer holds (R29, R255, R257): where it goes, relative to the
partition of the engine's image, its receive queue, its bytes, and the words that the engine's templates fix. -/
structure Feed where
  hub    : Nat
  engine : Nat
  dst    : SendTo
  queue  : Nat
  len    : Nat
  tag    : Nat
  user   : Word
  deriving DecidableEq, Repr

/-- A mesh packet: header words M0 to M2 and the data (Table 11.1). -/
structure MeshPkt where
  m0   : Word
  m1   : Word
  m2   : Word
  data : List Byte
  deriving DecidableEq, Repr

/-- The outcome of a targeted self-test. -/
inductive TestResult where
  | pass | fail
  deriving DecidableEq, Repr

/-- A temperature sensor's reading: none when it gives none (kind SENSOR_FAIL), else in 1/8 °C. -/
abbrev Reading := Option Int

/-- The commands. -/
inductive Instr where
  -- management access (chapters 0, 4, 22, 23)
  | registerWrite (addr size : Nat) (value : Word)
  | badRegisterAccess (addr size : Nat) (isWrite : Bool)
  | mgmtRead (src : Ingress) (f : Frame)
  | mgmtWrite (src : Ingress) (f : Frame)
  | i3cRead (bytes : List Byte)
  | i3cWrite (bytes : List Byte)
  -- probes, forwarding, the switch core (chapters 4, 12, 13, 14, 15, 16)
  | probe (src : Ingress) (f : Frame)
  | probeReplyReceive (src : Ingress) (f : Frame)
  | qftForward (port : Nat) (f : Frame)
  | ipRoute (port : Nat) (f : Frame)
  | ethernetBridge (port : Nat) (f : Frame)
  | receiveError (port : Nat) (kind : RxErr)
  | hubAdmit (hub : Nat)
  | packetTailArrive (hub id : Nat) (tail : TailFault)
  | transmitSelect (port : Nat)
  | pfcXoffRepeat (port : Nat)
  | pfcFrameReceive (port enable : Nat) (times : List Nat)
  | pfcPauseExpire (port prio : Nat)
  | ptpMessage (port : Nat) (f : Frame) (isSync fromMaster : Bool) (sourceNs : Nat)
  | hubReplicate (hub ties : Nat)
  | bpmAlloc (pool owner : Nat) (rival : Option Nat)
  | bpmShare (pool buf owner n tag last : Nat)
  | bpmRelease (pool buf owner tag : Nat)
  | bpmErrFirstClear
  | mirrorBlockWrite (session die : Nat)
  | mirrorEnable (session : Nat)
  | mirrorDisable (session : Nat)
  -- contexts (chapter 5)
  | setup (port : Nat) (f : Frame)
  | setupAssemblyTimeout (src setupId : Nat)
  | setupTablesWritten (ctx : Nat)
  | genReuseHoldEnd (ctx : Nat)
  | deferredSetupExpire (seq : Nat)
  | rearm (port : Nat) (f : Frame)
  | teardown (port : Nat) (f : Frame)
  | contextDrainEnd (ctx : Nat)
  | contextQuarantineEnd (ctx : Nat)
  | gatherContextStart (ctx : Nat)
  -- the data phase (chapter 6)
  | contrib (port : Nat) (f : Frame)
  | contribTileArrival (seq ties : Nat) (sram : SlotRead)
  | releaseReport (ctx : Nat)
  | grantDelayExpire (ctx : Nat)
  | grantRepeat (ctx : Nat)
  | completeSend (ctx : Nat)
  | contextTimeout (ctx : Nat)
  | closureEnd (ctx : Nat)
  | abort (port : Nat) (f : Frame)
  | abortAtHome (ctx ties : Nat)
  | ackNackReceive (port : Nat) (f : Frame)
  | resend (port : Nat) (f : Frame)
  | resendHubCheck (seq hub : Nat)
  | resendGo (seq : Nat)
  | resendDrop (seq : Nat)
  -- the optimizer (chapter 7)
  | step (port : Nat) (f : Frame)
  | stepAtHome (ctx ties : Nat)
  | optimizerStateStaged (ctx chunk : Nat) (mem : MemResult)
  | updateUnitDone (ctx chunk : Nat)
  | slotSnapshot (value : Word)
  -- the pool (chapter 8)
  | poolRd (port : Nat) (f : Frame)
  | poolWr (port : Nat) (f : Frame)
  | poolAtom (port : Nat) (f : Frame)
  | poolFence (port : Nat) (f : Frame)
  | poolAccessPerform (seq : Nat) (mem : MemResult) (tie : Bool)
  | orderedStreamExpire (die src region : Nat)
  | regionCreate
  | regionDelete
  | regionRekey
  | regionGrow
  | regionDrainEnd (region : Nat)
  | regionQuarantineEnd (region : Nat)
  | pageZeroDone (stack page : Nat)
  -- the gather service (chapter 9)
  | gatherReq (port : Nat) (f : Frame)
  | gatherLineRead (seq line : Nat) (mem : MemResult) (ties : Nat)
  | gatherPlainResponse (seq : Nat)
  | gatherSegmentReduce (seq segment ties : Nat)
  | streamReadComplete (hub engine : Nat) (result : MemResult)
  -- memory stacks and scrubbers (chapters 8, 10, 14, 17)
  | stackServe (stack : Nat)
  | stackSelfRefreshEnter (stack : Nat)
  | recalDue (stack : Nat)
  | recalForced (stack : Nat)
  | hbmScrubBurst (stack : Nat) (results : List MemResult)
  | tileScrubAccess (x y bank : Nat) (words : List (MemResult × Option SlotWord))
  -- tile micro-operations (chapter 10)
  | cubeMm (i : Issue) (aAddr aPitch aFmt bAddr bPitch bFmt depth set : Nat) (int strict residueOk : Bool) (ecc : SramEcc)
  | cubeLdc (i : Issue) (set addr : Nat) (ecc : SramEcc)
  | cubeStc (i : Issue) (set addr : Nat) (ecc : SramEcc)
  | vectorOperation (i : Issue) (op : VOp) (fmt : VFmt) (rd ra rb rc rm : Nat) (strict : Bool)
  | laAdd (i : Issue) (addr wmode : Nat) (anchor : Int) (fmt vr : Nat) (ecc : SramEcc)
  | laFin (i : Issue) (addr wmode : Nat) (anchor : Int) (src n divisor fmt dst rm : Nat) (strict : Bool) (ecc : SramEcc)
  | load (i : Issue) (vr addr size : Nat) (ecc : SramEcc)
  | store (i : Issue) (vr addr size : Nat) (ecc : SramEcc)
  | send (i : Issue) (dst : SendTo) (addr len vc queue tag : Nat) (user : Word) (ecc : SramEcc)
  | recv (i : Issue) (queue rd : Nat)
  | wait (i : Issue) (on : WaitOn)
  | setrm (i : Issue) (rm : Nat)
  | halt (i : Issue)
  | scalarOperation (i : Issue) (op : SOp) (rd ra rb : Nat)
  -- the mesh and fabric images (chapter 11)
  | meshDeliver (x y input vc : Nat) (feed : Option Feed) (ties : List Nat) (ecc : SramEcc)
  | meshMulticastDeliver (x y input : Nat) (feed : Option Feed) (ties : List Nat) (ecc : SramEcc)
  | meshCreditReturn (x y input vc : Nat)
  | imageLoad
  | imageLoadComplete (slot : Nat)
  | imageActivate
  | imageLaunch (slot : Nat)
  | imageStop
  | imageUnload
  | spareSelftestDone (die : Nat) (result : TestResult)
  | substitutionComplete (die : Nat)
  -- route banks (chapter 12)
  | tableWrite
  | tableRead
  | tableDelete
  | bankCopy
  | bankCopyDone
  | swapArm
  | swapDisarm
  | bankSwap
  | bankWritable
  | livenessUpdate (port : Nat)
  | adaptEstimateUpdate
  -- scheduling (chapter 14)
  | shaperClear (port : Nat) (cls : Option Nat)
  | shaperConfigWrite (addr : Nat) (value : Word)
  | gateArm (port : Nat)
  | gateDisarm (port : Nat)
  | gateListStart (port : Nat)
  | gateEntryChange (port : Nat)
  | queueSample
  | samplerClear (port cls : Nat)
  -- ports and links (chapter 15)
  | pfcThreshWrite (die : Nat) (value : Word)
  | linkEnable (port : Nat)
  | anComplete (port : Nat) (ability : Bool)
  | trainingComplete (port : Nat)
  | trainingTimeout (port failed : Nat)
  | laneAligned (port : Nat)
  | holdExpire (port : Nat)
  | linkFault (port : Nat) (localFault remoteFault : Bool)
  | linkFaultClear (port : Nat)
  | linkFaultTimeout (port : Nat)
  | adminDown (port : Nat)
  | retrain (port : Nat)
  | helloSend (port : Nat)
  | hello (port : Nat) (f : Frame)
  | negotiationTimeout (port : Nat)
  | linkCredit (port : Nat) (f : Frame)
  | creditUpdateSend (port cls : Nat)
  | ack (port : Nat) (f : Frame)
  | retryAckSend (port cls : Nat)
  | nak (port : Nat) (f : Frame)
  | nakResendTimer (port cls : Nat)
  | replay (port : Nat) (f : Frame)
  -- the global count (chapter 16)
  | syncPulse
  | syncEpochWord (w : Word)
  | syncPulseMissing
  | ptpSyncTimeout
  | syncOutPulse
  | resync
  | clrMax
  -- power (chapter 17)
  | powerEvaluation (inputW : Nat)
  | sensorRead (dieT stackT : List Reading)
  | mainRange (readingCv : Nat)
  | auxLoss
  | serviceImageRetry
  -- faults (chapter 18)
  | faultMessageTake (die : Nat) (tie : Bool) (found : Option Found)
  | selftestDone (seq : Nat) (result : TestResult)
  | verdictExpire
  | logMirrorWrite
  | fltAck (seq : Nat)
  | firstFaultClear
  | forceSafe
  | isolationClear (n : Nat)
  | temondCheckin
  | firmwareHang
  | aliveToggle
  -- recovery (chapter 19)
  | watchdogFire (unit : Nat)
  | domainResetDone (domain : Nat)
  | suspectCleared
  | domainGo (domain : Nat)
  | warm
  | cold
  | resetNPulse
  | resetNHeld
  | stackRetrainDone (stack : Nat) (result : TestResult)
  | crashDumpDone
  | clearAll
  -- start-up and firmware (chapters 1, 20)
  | coldStart (hd0 hd3 flashA flashB : TestResult)
  | stagedCopyDone
  | temondStart
  | mainRailsGood
  | trainStageDone (failed : List Nat)
  | fwdReady
  | ready
  | nvmRead
  | eraseStaging
  | nvmWrite
  | copyFromRegion
  | verify
  | markPending
  | activate
  | cancel
  | promote
  | nvmCommandComplete (flashOk : Bool)
  | liveActivation
  | newTemondCheckin
  | serviceSwapDone (slot : Nat)
  | activeCopyDone
  | shaperDebtEnd (port : Nat) (cls : Option Nat)
  | pllUnlock (die pll : Nat)
  | trussLinkError (die link : Nat) (repaired : Bool)
  | complexFail
  deriving DecidableEq, Repr

end Sys2Proof
end

