-- ==== Sys2Proof/Machine/Bytes.lean ====
section
/-!
DEFINITION. Byte strings: big-endian numbers, words and fields (R9: QFT headers, payload words and descriptor words are
big-endian on the wire).
-/

namespace Sys2Proof.Machine

/-- The number a big-endian byte string spells. -/
def beNat (bs : List Byte) : Nat := bs.foldl (fun n b => n * 256 + b.toNat) 0

/-- The `k` low bytes of `n`, most significant first. -/
def natBytes : Nat → Nat → List Byte
  | 0, _ => []
  | k + 1, n => natBytes k (n / 256) ++ [BitVec.ofNat 8 n]

/-- The eight bytes of a word, bit 63 first. -/
def wordBytes (w : Word) : List Byte := natBytes 8 w.toNat

/-- The bytes of a list of words. -/
def wordsBytes (ws : List Word) : List Byte := ws.flatMap wordBytes

/-- A byte string cut into pieces of `k` bytes, the fuel bounding the number of pieces; a short last piece is kept. -/
def chunksOf (k : Nat) : Nat → List Byte → List (List Byte)
  | 0, _ => []
  | _ + 1, [] => []
  | n + 1, b :: bs => (b :: bs).take k :: chunksOf k n ((b :: bs).drop k)

/-- A byte string cut into pieces of `k` bytes. -/
def pieces (k : Nat) (bs : List Byte) : List (List Byte) := chunksOf (max k 1) bs.length bs

/-- The big-endian words of a byte string; a last short piece is filled with zero bytes on the right. -/
def bytesWords (bs : List Byte) : List Word :=
  (pieces 8 bs).map fun p => BitVec.ofNat 64 (beNat p * 256 ^ (8 - p.length))

/-- Word `i` of a payload; zero beyond its end. -/
def wordAt (ws : List Word) (i : Nat) : Word := ws.getD i 0

/-- `n` divided by `d`, rounded up. -/
def ceilDiv (n d : Nat) : Nat := (n + d - 1) / d

/-- The largest value of a counter of `w` bits. -/
def maxOf (w : Nat) : Nat := 2 ^ w - 1

/-- Add to a counter of `w` bits that stays at its largest value. -/
def satAdd (w a b : Nat) : Nat := min (a + b) (maxOf w)

/-- A two's complement number of `w` bits. -/
def toSigned (w n : Nat) : Int := if n % 2 ^ w < 2 ^ (w - 1) then (n % 2 ^ w : Nat) else (n % 2 ^ w : Nat) - (2 ^ w : Nat)

/-- The two's complement pattern of an integer in `w` bits. -/
def ofSigned (w : Nat) (i : Int) : Nat := (i % (2 ^ w : Nat)).toNat

end Sys2Proof.Machine
end

