-- ==== Sys2Proof/Machine/Numbers.lean ====
section
/-!
DEFINITION. Exact values, the format codes of Table 2.1, decoding to an exact value and the one rounding of R50.
-/

namespace Sys2Proof.Machine

/-- The exact value an encoding decodes to: a signed rational `num / den` (`den` positive), a signed infinity or NaN
(chapter 2, introduction). The sign of a zero is kept. -/
inductive XVal where
  | fin (neg : Bool) (num den : Nat)
  | inf (neg : Bool)
  | nan
  deriving DecidableEq, Repr

/-- `floor (log2 (num / den))` for a positive rational. -/
def ilog2 (num den : Nat) : Int :=
  let k : Int := (Nat.log2 num : Int) - (Nat.log2 den : Int)
  let ge : Bool := if 0 ≤ k then decide (den * 2 ^ k.toNat ≤ num) else decide (den ≤ num * 2 ^ (-k).toNat)
  if ge then k else k - 1

/-- The rational `num / den` divided by `2 ^ q`. -/
def scaleRat (num den : Nat) (q : Int) : Nat × Nat :=
  if 0 ≤ q then (num, den * 2 ^ q.toNat) else (num * 2 ^ (-q).toNat, den)

/-- The value `m * 2 ^ e` as an exact value. -/
def XVal.ofScaled (neg : Bool) (m : Nat) (e : Int) : XVal :=
  if 0 ≤ e then .fin neg (m * 2 ^ e.toNat) 1 else .fin neg m (2 ^ (-e).toNat)

/-- An integer as an exact value. -/
def XVal.ofInt (i : Int) : XVal := .fin (decide (i < 0)) i.natAbs 1

/-- Whether rounding direction `dir` of Table 2.12 rounds the magnitude up, given the truncated magnitude `m` and the
remainder `r` of `d`. -/
def roundsUp (dir : Nat) (neg : Bool) (m r d : Nat) : Bool :=
  match dir with
  | 0 => decide (d < 2 * r) || (decide (2 * r = d) && decide (m % 2 = 1))
  | 1 => decide (d ≤ 2 * r)
  | 2 => decide (0 < r) && !neg
  | 3 => decide (0 < r) && neg
  | _ => false

/-- The magnitude `num / den` rounded to an integer in direction `dir` (Table 2.12). -/
def roundMag (dir : Nat) (neg : Bool) (num den : Nat) : Nat :=
  let m := num / den
  if roundsUp dir neg m (num % den) den then m + 1 else m

/-- A binary floating-point layout: fraction bits, bias, the pattern of the largest finite magnitude, the total width,
the pattern of infinity where the format has one, and the canonical NaN where it has one (Table 2.3, R37). -/
structure FloatFmt where
  frac   : Nat
  bias   : Nat
  maxFin : Nat
  width  : Nat
  infPat : Option Nat
  nanPat : Option Nat
  deriving DecidableEq, Repr

def fFP64 : FloatFmt := ⟨52, 1023, 0x7FEFFFFFFFFFFFFF, 64, some 0x7FF0000000000000, some 0x7FF8000000000000⟩
def fFP32 : FloatFmt := ⟨23, 127, 0x7F7FFFFF, 32, some 0x7F800000, some 0x7FC00000⟩
def fFP16 : FloatFmt := ⟨10, 15, 0x7BFF, 16, some 0x7C00, some 0x7E00⟩
def fE8M7 : FloatFmt := ⟨7, 127, 0x7F7F, 16, some 0x7F80, some 0x7FC0⟩
def fE5M2 : FloatFmt := ⟨2, 15, 0x7B, 8, some 0x7C, some 0x7E⟩
def fE4M3 : FloatFmt := ⟨3, 7, 0x7E, 8, none, some 0x7F⟩
def fE3M2 : FloatFmt := ⟨2, 3, 0x1F, 6, none, none⟩
def fE2M1 : FloatFmt := ⟨1, 1, 0x7, 4, none, none⟩

/-- Exponent of the smallest subnormal of a layout: `1 - bias - m` (R41). -/
def FloatFmt.qmin (f : FloatFmt) : Int := 1 - (f.bias : Int) - (f.frac : Int)

/-- The sign weight of a layout. -/
def FloatFmt.signWeight (f : FloatFmt) : Nat := 2 ^ (f.width - 1)

/-- Decode a pattern (R37, R41, Table 2.3). Every NaN pattern is NaN; signalling is a matter of the vector unit alone. -/
def FloatFmt.decode (f : FloatFmt) (pat : Nat) : XVal :=
  let p := pat % 2 ^ f.width
  let neg := decide (f.signWeight ≤ p)
  let mag := p % f.signWeight
  if f.maxFin < mag then
    match f.infPat with
    | some i => if mag = i then .inf neg else .nan
    | none => .nan
  else
    let e := mag / 2 ^ f.frac
    let m := mag % 2 ^ f.frac
    if e = 0 then XVal.ofScaled neg m f.qmin
    else XVal.ofScaled neg (2 ^ f.frac + m) (f.qmin + (e : Int) - 1)

/-- Round a positive rational once to the layout, the exponent unbounded above: the magnitude pattern it would have,
which exceeds `maxFin` exactly when the rounded value overflows (R50: overflow is judged after rounding, underflow
takes the destination's subnormals first). -/
def FloatFmt.roundPat (f : FloatFmt) (dir : Nat) (neg : Bool) (num den : Nat) : Nat :=
  if num = 0 then 0 else
    let q := max (ilog2 num den - (f.frac : Int)) f.qmin
    let s := scaleRat num den q
    (q - f.qmin).toNat * 2 ^ f.frac + roundMag dir neg s.1 s.2

/-- A delivered pattern and its part in the two counts of R54. -/
structure Conv where
  pat   : Nat
  sat   : Nat
  flush : Nat
  deriving DecidableEq, Repr

/-- The IEEE 754-2019 overflow result for direction `dir` is an infinity (text under Table 2.13). -/
def overflowToInf (dir : Nat) (neg : Bool) : Bool :=
  match dir with
  | 0 => true
  | 1 => true
  | 2 => !neg
  | 3 => neg
  | _ => false

/-- One conversion into a floating-point destination: a row of Table 2.13. -/
def FloatFmt.encode (f : FloatFmt) (dir : Nat) (strict : Bool) (v : XVal) : Conv :=
  let sg (neg : Bool) : Nat := if neg then f.signWeight else 0
  match v with
  | .nan => ⟨f.nanPat.getD f.maxFin, 0, 0⟩
  | .inf neg =>
    match f.infPat with
    | some i => ⟨sg neg + i, 0, 0⟩
    | none => if strict then ⟨f.nanPat.getD f.maxFin, 1, 0⟩ else ⟨sg neg + f.maxFin, 1, 0⟩
  | .fin neg num den =>
    let p := f.roundPat dir neg num den
    if f.maxFin < p then
      if strict then
        match f.infPat with
        | some i => if overflowToInf dir neg then ⟨sg neg + i, 1, 0⟩ else ⟨sg neg + f.maxFin, 1, 0⟩
        | none => ⟨f.nanPat.getD f.maxFin, 1, 0⟩
      else ⟨sg neg + f.maxFin, 1, 0⟩
    else if p = 0 ∧ num ≠ 0 then ⟨sg neg, 0, 1⟩
    else ⟨sg neg + p, 0, 0⟩

/-- Decode a two's complement integer of `w` bits (R38). -/
def decodeInt (w pat : Nat) : XVal :=
  let p := pat % 2 ^ w
  if 2 ^ (w - 1) ≤ p then .fin true (2 ^ w - p) 1 else .fin false p 1

/-- One conversion into a two's complement integer of `w` bits: the integer row of Table 2.13 and R52. -/
def encodeInt (w dir : Nat) (v : XVal) : Conv :=
  match v with
  | .nan => ⟨0, 1, 0⟩
  | .inf neg => ⟨if neg then 2 ^ (w - 1) else 2 ^ (w - 1) - 1, 1, 0⟩
  | .fin neg num den =>
    let m := roundMag dir neg num den
    if neg then
      if 2 ^ (w - 1) < m then ⟨2 ^ (w - 1), 1, 0⟩
      else if m = 0 then ⟨0, 0, if num = 0 then 0 else 1⟩
      else ⟨2 ^ w - m, 0, 0⟩
    else
      if 2 ^ (w - 1) ≤ m then ⟨2 ^ (w - 1) - 1, 1, 0⟩
      else if m = 0 then ⟨0, 0, if num = 0 then 0 else 1⟩
      else ⟨m, 0, 0⟩

/-- The assigned format codes of Table 2.1. -/
inductive Fmt where
  | opaque8 | fp64 | fp32 | fp16 | e8m7 | e4m3 | e5m2 | int8 | int16 | int32 | int64 | fp32x2
  | bs8 | bs6 | bs4 | bs8x16 | bs6x16 | bs4x16 | bsi8
  deriving DecidableEq, Repr

/-- The format of a 6-bit code; none for a code R34 leaves unassigned. -/
def Fmt.ofCode : Nat → Option Fmt
  | 0x00 => some .opaque8 | 0x01 => some .fp64 | 0x02 => some .fp32 | 0x03 => some .fp16
  | 0x04 => some .e8m7 | 0x05 => some .e4m3 | 0x06 => some .e5m2 | 0x07 => some .int8
  | 0x08 => some .int16 | 0x09 => some .int32 | 0x0A => some .int64 | 0x0B => some .fp32x2
  | 0x10 => some .bs8 | 0x11 => some .bs6 | 0x12 => some .bs4 | 0x13 => some .bs8x16
  | 0x14 => some .bs6x16 | 0x15 => some .bs4x16 | 0x16 => some .bsi8
  | _ => none

/-- The code of a format (Table 2.1). -/
def Fmt.code : Fmt → Nat
  | .opaque8 => 0x00 | .fp64 => 0x01 | .fp32 => 0x02 | .fp16 => 0x03 | .e8m7 => 0x04 | .e4m3 => 0x05
  | .e5m2 => 0x06 | .int8 => 0x07 | .int16 => 0x08 | .int32 => 0x09 | .int64 => 0x0A | .fp32x2 => 0x0B
  | .bs8 => 0x10 | .bs6 => 0x11 | .bs4 => 0x12 | .bs8x16 => 0x13 | .bs6x16 => 0x14 | .bs4x16 => 0x15
  | .bsi8 => 0x16

/-- The composition of a block format: element bits and elements per block (Table 2.7). -/
structure BlockFmt where
  elemBits : Nat
  perBlock : Nat
  bigExp   : Nat
  deriving DecidableEq, Repr

/-- Table 2.7; none for a format that is not a block format. -/
def Fmt.block : Fmt → Option BlockFmt
  | .bs8 => some ⟨8, 32, 8⟩ | .bs6 => some ⟨6, 32, 4⟩ | .bs4 => some ⟨4, 32, 2⟩
  | .bs8x16 => some ⟨8, 16, 8⟩ | .bs6x16 => some ⟨6, 16, 4⟩ | .bs4x16 => some ⟨4, 16, 2⟩
  | .bsi8 => some ⟨8, 32, 6⟩
  | _ => none

/-- The element bytes of one block (Table 2.7). -/
def BlockFmt.elemBytes (b : BlockFmt) : Nat := b.elemBits * b.perBlock / 8

/-- The bytes of one unit of a format (Table 2.1, column Unit). -/
def Fmt.unitBytes (f : Fmt) : Nat :=
  match f with
  | .opaque8 => 1 | .fp64 => 8 | .fp32 => 4 | .fp16 => 2 | .e8m7 => 2 | .e4m3 => 1 | .e5m2 => 1
  | .int8 => 1 | .int16 => 2 | .int32 => 4 | .int64 => 8 | .fp32x2 => 8
  | .bs8 => 264 | .bs6 => 200 | .bs4 => 136 | .bs8x16 => 136 | .bs6x16 => 104 | .bs4x16 => 72 | .bsi8 => 264

/-- The elements of one unit. -/
def Fmt.unitElems (f : Fmt) : Nat :=
  match f.block with
  | some b => 8 * b.perBlock
  | none => 1

/-- Reduction inputs (Table 2.1). -/
def Fmt.reductionInput : Fmt → Bool
  | .opaque8 => false | .fp64 => false | .fp32x2 => false | _ => true

/-- Cube inputs (Table 2.1). -/
def Fmt.cubeInput : Fmt → Bool
  | .fp16 => true | .e8m7 => true | .e4m3 => true | .e5m2 => true | .int8 => true
  | .bs8 => true | .bs6 => true | .bs4 => true | .bs8x16 => true | .bs6x16 => true | .bs4x16 => true | .bsi8 => true
  | _ => false

/-- Outputs (Table 2.1): every assigned code but OPAQUE, which serves pool payloads and plain gather rows only. -/
def Fmt.output : Fmt → Bool
  | .opaque8 => false | _ => true

/-- Formats whose elements an operation can take as numbers: FP32X2 exists as an output alone, and OPAQUE holds none (Table 2.1, R39). -/
def Fmt.number : Fmt → Bool
  | .opaque8 => false | .fp32x2 => false | _ => true

/-- `a + b` of finite values, the zero sum taking the sign `zneg`. -/
def XVal.addFin (zneg : Bool) (an : Bool) (a ad : Nat) (bn : Bool) (b bd : Nat) : XVal :=
  let x := a * bd
  let y := b * ad
  let d := ad * bd
  if an = bn then .fin an (x + y) d
  else if x = y then .fin zneg 0 1
  else if x < y then .fin bn (y - x) d
  else .fin an (x - y) d

/-- Decode one element of a format that is not a block format (R37 to R41; FP32X2 is the sum of its two parts, R39); a block element
decodes through its block. -/
def Fmt.decodeElem (f : Fmt) (pat : Nat) : XVal :=
  match f with
  | .fp64 => fFP64.decode pat
  | .fp32 => fFP32.decode pat
  | .fp16 => fFP16.decode pat
  | .e8m7 => fE8M7.decode pat
  | .e4m3 => fE4M3.decode pat
  | .e5m2 => fE5M2.decode pat
  | .int8 => decodeInt 8 pat
  | .int16 => decodeInt 16 pat
  | .int32 => decodeInt 32 pat
  | .int64 => decodeInt 64 pat
  | .fp32x2 =>
    match fFP32.decode (pat / 2 ^ 32), fFP32.decode pat with
    | .fin hn h hd, .fin ln l ld => XVal.addFin false hn h hd ln l ld
    | .nan, _ => .nan
    | _, .nan => .nan
    | .inf n, _ => .inf n
    | _, .inf n => .inf n
  | _ => .fin false (pat % 256) 1

/-- The FP32X2 output of R53: hi in bytes 0 to 3 and lo in bytes 4 to 7, only hi counted. -/
def encodeFP32X2 (dir : Nat) (strict : Bool) (v : XVal) : Conv :=
  let hi := fFP32.encode dir strict v
  match v with
  | .fin neg num den =>
    if hi.sat = 0 then
      match fFP32.decode hi.pat with
      | .fin hn h hd =>
        if h = 0 then ⟨hi.pat * 2 ^ 32, hi.sat, hi.flush⟩
        else
          match XVal.addFin false neg num den (!hn) h hd with
          | .fin _ 0 _ => ⟨hi.pat * 2 ^ 32, hi.sat, hi.flush⟩
          | lo => ⟨hi.pat * 2 ^ 32 + (fFP32.encode dir strict lo).pat, hi.sat, hi.flush⟩
      | _ => ⟨hi.pat * 2 ^ 32, hi.sat, hi.flush⟩
    else ⟨hi.pat * 2 ^ 32, hi.sat, hi.flush⟩
  | _ => ⟨hi.pat * 2 ^ 32, hi.sat, hi.flush⟩

/-- One conversion of an exact value into an element of a format that is not a block format (R50 to R54). OPAQUE is no
destination of a conversion (Table 2.1); its arm is the low byte of the integer row. -/
def Fmt.encodeElem (f : Fmt) (dir : Nat) (strict : Bool) (v : XVal) : Conv :=
  match f with
  | .fp64 => fFP64.encode dir strict v
  | .fp32 => fFP32.encode dir strict v
  | .fp16 => fFP16.encode dir strict v
  | .e8m7 => fE8M7.encode dir strict v
  | .e4m3 => fE4M3.encode dir strict v
  | .e5m2 => fE5M2.encode dir strict v
  | .int8 => encodeInt 8 dir v
  | .int16 => encodeInt 16 dir v
  | .int32 => encodeInt 32 dir v
  | .int64 => encodeInt 64 dir v
  | .fp32x2 => encodeFP32X2 dir strict v
  | _ => encodeInt 8 dir v

end Sys2Proof.Machine
end

