-- ==== Sys2Proof/Machine/Block.lean ====
section
/-!
DEFINITION. Block-scaled formats (R42 to R46) and whole payloads of elements (R35).
-/

namespace Sys2Proof.Machine

/-- The value of an element pattern of a block format before its scale (R43, Table 2.7). -/
def blockElemValue (f : Fmt) (pat : Nat) : XVal :=
  match f with
  | .bs8 => fE4M3.decode pat
  | .bs8x16 => fE4M3.decode pat
  | .bs6 => fE3M2.decode pat
  | .bs6x16 => fE3M2.decode pat
  | .bs4 => fE2M1.decode pat
  | .bs4x16 => fE2M1.decode pat
  | _ => decodeInt 8 pat

/-- An exact value times `2 ^ e`. -/
def XVal.scale (v : XVal) (e : Int) : XVal :=
  match v with
  | .fin neg num den => if 0 ≤ e then .fin neg (num * 2 ^ e.toNat) den else .fin neg num (den * 2 ^ (-e).toNat)
  | w => w

/-- Element `j` of a block: its scale byte `s` and the block's element bytes (R43, R44). -/
def blockElem (f : Fmt) (b : BlockFmt) (s : Nat) (bits : Nat) (j : Nat) : XVal :=
  if s = 0xFF then .nan
  else
    let pat := bits / 2 ^ ((b.perBlock - 1 - j) * b.elemBits) % 2 ^ b.elemBits
    (blockElemValue f pat).scale ((s : Int) - 127)

/-- Decode one group of eight blocks (R44). -/
def decodeGroup (f : Fmt) (b : BlockFmt) (bs : List Byte) : List XVal :=
  (List.range 8).flatMap fun k =>
    let s := (bs.getD k 0).toNat
    let bits := beNat ((bs.drop (8 + k * b.elemBytes)).take b.elemBytes)
    (List.range b.perBlock).map (blockElem f b s bits)

/-- Decode a payload of whole units into its elements (R35). -/
def decodePayload (f : Fmt) (bs : List Byte) : List XVal :=
  match f.block with
  | some b => (pieces f.unitBytes bs).flatMap (decodeGroup f b)
  | none => (pieces f.unitBytes bs).map fun p => f.decodeElem (beNat p)

/-- The largest finite magnitude pattern of a block's element format, and the pattern bits of a negative zero. -/
def blockElemFmt (f : Fmt) : Option FloatFmt :=
  match f with
  | .bs8 => some fE4M3 | .bs8x16 => some fE4M3
  | .bs6 => some fE3M2 | .bs6x16 => some fE3M2
  | .bs4 => some fE2M1 | .bs4x16 => some fE2M1
  | _ => none

/-- The element formats that hold a NaN (R46: BS8 and BS8-16 only). -/
def Fmt.blockHoldsNan : Fmt → Bool
  | .bs8 => true | .bs8x16 => true | _ => false

/-- The larger of two finite magnitudes `num / den`. -/
def maxMag (a b : Nat × Nat) : Nat × Nat := if a.1 * b.2 < b.1 * a.2 then b else a

/-- The largest magnitude among the finite inputs of a block, zero if there is none (R46 step 3). -/
def blockMax (xs : List XVal) : Nat × Nat :=
  xs.foldl (fun m x => match x with | .fin _ n d => maxMag m (n, d) | _ => m) (0, 1)

def XVal.isInf : XVal → Bool
  | .inf _ => true | _ => false

def XVal.isNan : XVal → Bool
  | .nan => true | _ => false

def XVal.isZero : XVal → Bool
  | .fin _ 0 _ => true | _ => false

def XVal.neg? : XVal → Bool
  | .fin n _ _ => n | .inf n => n | .nan => false

/-- The scale byte of a block (R46 steps 2 and 3). -/
def blockScale (b : BlockFmt) (xs : List XVal) : Nat :=
  let m := blockMax xs
  if m.1 ≠ 0 then (min (max (ilog2 m.1 m.2 - (b.bigExp : Int) + 127) 0) 254).toNat
  else if xs.any XVal.isInf then 254 else 0

/-- One block element: its pattern, whether it saturated, whether it flushed, and whether it is an overflow under STRICT
(R46 step 4). -/
structure BlockElem where
  pat      : Nat
  sat      : Bool
  flush    : Bool
  ovf      : Bool
  deriving DecidableEq, Repr

/-- Encode one input of a block under scale `s` (R46 step 4); elements round to nearest even (R45). -/
def encodeBlockElem (f : Fmt) (strict : Bool) (s : Nat) (x : XVal) : BlockElem :=
  match blockElemFmt f with
  | some ef =>
    let top (neg : Bool) : Nat := (if neg then ef.signWeight else 0) + ef.maxFin
    match x with
    | .nan => ⟨0x7F, false, false, false⟩
    | .inf neg => if strict then ⟨0x7F, true, false, false⟩ else ⟨top neg, true, false, false⟩
    | .fin neg num den =>
      match (XVal.fin neg num den).scale (127 - (s : Int)) with
      | .fin _ n d =>
        let p := ef.roundPat 0 neg n d
        if ef.maxFin < p then
          if strict then
            ⟨if f.blockHoldsNan then 0x7F else 0, true, false, true⟩
          else ⟨top neg, true, false, false⟩
        else ⟨(if neg then ef.signWeight else 0) + p, false, decide (num ≠ 0 ∧ p = 0), false⟩
      | _ => ⟨0, false, false, false⟩
  | none =>
    match x with
    | .nan => ⟨0, false, false, false⟩
    | .inf neg => ⟨if neg then 0x80 else 0x7F, true, false, false⟩
    | .fin neg num den =>
      match (XVal.fin neg num den).scale (127 - (s : Int)) with
      | .fin _ n d =>
        let m := roundMag 0 neg n d
        if (if neg then 128 < m else 127 < m) then
          if strict then ⟨0, true, false, true⟩ else ⟨if neg then 0x80 else 0x7F, true, false, false⟩
        else ⟨if neg ∧ m ≠ 0 then 256 - m else m, false, decide (num ≠ 0 ∧ m = 0), false⟩
      | _ => ⟨0, false, false, false⟩

/-- An encoded block: scale byte, the element bits as one number, and the two counts. -/
structure BlockOut where
  scale : Nat
  bits  : Nat
  sat   : Nat
  flush : Nat
  deriving DecidableEq, Repr

/-- Encode one block of inputs (R46). Under a STRICT overflow nothing in the block counts as flushed, in BS8 and BS8-16 as
in the others: R46 step 4 says "in both cases" (DEDUCED, log entry 12). -/
def encodeBlock (f : Fmt) (b : BlockFmt) (strict : Bool) (xs : List XVal) : BlockOut :=
  if !f.blockHoldsNan && (xs.any XVal.isNan || (strict && xs.any XVal.isInf)) then
    ⟨0xFF, 0, (xs.filter XVal.isInf).length, 0⟩
  else
    let s := if xs.all XVal.isZero then 0 else blockScale b xs
    let es := xs.map (encodeBlockElem f strict s)
    let ovf := es.any BlockElem.ovf
    if ovf && !f.blockHoldsNan then ⟨0xFF, 0, (es.filter BlockElem.ovf).length, 0⟩
    else ⟨s, es.foldl (fun n e => n * 2 ^ b.elemBits + e.pat) 0, (es.filter BlockElem.sat).length,
          if ovf then 0 else (es.filter BlockElem.flush).length⟩

/-- A list cut into pieces of `k`, the fuel bounding the number of pieces. -/
def splitEvery {α : Type} (k : Nat) : Nat → List α → List (List α)
  | 0, _ => []
  | _ + 1, [] => []
  | n + 1, x :: xs => (x :: xs).take k :: splitEvery k n ((x :: xs).drop k)

/-- Bytes with the two counts of R54. -/
structure Encoded where
  bytes : List Byte
  sat   : Nat
  flush : Nat
  deriving DecidableEq, Repr

/-- Encode one group of eight blocks (R44). -/
def encodeGroup (f : Fmt) (b : BlockFmt) (strict : Bool) (xs : List XVal) : Encoded :=
  let bl := (splitEvery b.perBlock 8 xs).map (encodeBlock f b strict)
  ⟨bl.map (fun o => BitVec.ofNat 8 o.scale) ++ bl.flatMap (fun o => natBytes b.elemBytes o.bits),
   (bl.map BlockOut.sat).sum, (bl.map BlockOut.flush).sum⟩

/-- Encode elements as a payload (R35, R50); a block format takes whole groups, the last filled with zeros. -/
def encodePayload (f : Fmt) (dir : Nat) (strict : Bool) (xs : List XVal) : Encoded :=
  match f.block with
  | some b =>
    let n := 8 * b.perBlock
    let full := xs ++ List.replicate (ceilDiv xs.length n * n - xs.length) (XVal.fin false 0 1)
    let gs := (splitEvery n full.length full).map (encodeGroup f b strict)
    ⟨gs.flatMap Encoded.bytes, (gs.map Encoded.sat).sum, (gs.map Encoded.flush).sum⟩
  | none =>
    let cs := xs.map (f.encodeElem dir strict)
    ⟨cs.flatMap (fun c => natBytes f.unitBytes c.pat), (cs.map Conv.sat).sum, (cs.map Conv.flush).sum⟩

end Sys2Proof.Machine
end

