-- ==== Sys2Proof/Machine/Accum.lean ====
section
/-!
DEFINITION. The long adder (chapter 3): windows, special states, and the one rounding of a finalised element.
-/

namespace Sys2Proof.Machine

/-- A window geometry (R57, Table 3.1): full, or anchored at `A`. -/
inductive Window where
  | full
  | anchored (a : Int)
  deriving DecidableEq, Repr

/-- Width in bits (Table 3.1). -/
def Window.width : Window → Nat
  | .full => 384 | .anchored _ => 192

/-- Exponent of the least significant bit (Table 3.1). -/
def Window.lsb : Window → Int
  | .full => -192 | .anchored a => a - 160

/-- Default anchors (Table 3.2). -/
def Fmt.defaultAnchor : Fmt → Int
  | .fp32 => 112 | .e8m7 => 112 | .fp16 => 0 | .e5m2 => 0 | .int16 => 0 | .e4m3 => -7 | .int8 => -8
  | .int32 => 16 | .int64 => 48 | .bs8 => 120 | .bs8x16 => 120 | .bs6 => 116 | .bs6x16 => 116
  | .bs4 => 114 | .bs4x16 => 114 | .bsi8 => 119 | _ => 0

/-- The window that WMODE and ANCHOR select for an input format (R56); none for the reserved WMODE 3. -/
def windowOf (wmode : Nat) (anchor : Int) (f : Fmt) : Option Window :=
  match wmode with
  | 0 => some .full
  | 1 => some (.anchored f.defaultAnchor)
  | 2 => some (.anchored anchor)
  | _ => none

/-- The special state of an accumulator (R62). -/
inductive Special where
  | finite | posInf | negInf | nan
  deriving DecidableEq, Repr

/-- One element's accumulator: an integer of weight `2 ^ L` and its special state (R57, R62). -/
structure Accum where
  sp  : Special
  int : Int
  deriving DecidableEq, Repr

/-- Every accumulator starts finite at integer 0 (R62, R65). -/
def Accum.zero : Accum := ⟨.finite, 0⟩

/-- Table 3.3. -/
def Special.after : Special → XVal → Special
  | .finite, .fin _ _ _ => .finite
  | .finite, .inf false => .posInf
  | .finite, .inf true => .negInf
  | .posInf, .fin _ _ _ => .posInf
  | .posInf, .inf false => .posInf
  | .posInf, .inf true => .nan
  | .negInf, .fin _ _ _ => .negInf
  | .negInf, .inf false => .nan
  | .negInf, .inf true => .negInf
  | .nan, _ => .nan
  | _, .nan => .nan

/-- A contribution's integer in the window and its part in the two counts (R58, R59). -/
structure ToWindow where
  int   : Int
  sat   : Nat
  flush : Nat
  deriving DecidableEq, Repr

/-- R58 in the full window, R59 in the anchored window. -/
def toWindow (w : Window) (neg : Bool) (num den : Nat) : ToWindow :=
  let sg (n : Nat) : Int := if neg then -(n : Int) else (n : Int)
  let t := scaleRat num den w.lsb
  match w with
  | .full => ⟨sg (t.1 / t.2), 0, 0⟩
  | .anchored _ =>
    if t.2 * 2 ^ 176 ≤ t.1 then ⟨sg (2 ^ 176 - 1), 1, 0⟩
    else if t.1 / t.2 = 0 ∧ num ≠ 0 then ⟨0, 0, 1⟩
    else ⟨sg (t.1 / t.2), 0, 0⟩

/-- An accumulator and the two counts after a contribution. -/
structure Added where
  acc   : Accum
  sat   : Nat
  flush : Nat
  deriving DecidableEq, Repr

/-- Add one contribution (R58, R59, R62; nothing is counted or added once the state has left finite, R70). -/
def Accum.add (w : Window) (a : Accum) (x : XVal) : Added :=
  match a.sp, x with
  | .finite, .fin neg num den =>
    let t := toWindow w neg num den
    ⟨⟨.finite, a.int + t.int⟩, t.sat, t.flush⟩
  | sp, y => ⟨⟨sp.after y, a.int⟩, 0, 0⟩

/-- The pattern of an accumulator in its window's bits (R57, R63, Table 3.4). -/
def Accum.pattern (w : Window) (a : Accum) : Nat :=
  match a.sp with
  | .finite => ofSigned w.width a.int
  | .posInf => 0b0101 * 2 ^ (w.width - 4)
  | .negInf => 0b0110 * 2 ^ (w.width - 4)
  | .nan => 0b0111 * 2 ^ (w.width - 4)

/-- The accumulator a pattern of the window's bits holds (R63). -/
def Accum.ofPattern (w : Window) (p : Nat) : Accum :=
  let top := p / 2 ^ (w.width - 4) % 16
  if top = 0b0101 then ⟨.posInf, 0⟩
  else if top = 0b0110 then ⟨.negInf, 0⟩
  else if top = 0b0111 then ⟨.nan, 0⟩
  else ⟨.finite, toSigned w.width p⟩

/-- The exact value a finalised accumulator delivers, divided by `n` (1 for SUM, the members or the gather's divisor for
AVG): R66, R67. An exact zero is +0. -/
def Accum.value (w : Window) (a : Accum) (n : Nat) : XVal :=
  match a.sp with
  | .finite =>
    if a.int = 0 then .fin false 0 1
    else
      match XVal.ofScaled (decide (a.int < 0)) a.int.natAbs w.lsb with
      | .fin neg num den => .fin neg num (den * max n 1)
      | v => v
  | .posInf => .inf false
  | .negInf => .inf true
  | .nan => .nan

/-- Whether exact value `a` lies below `b` in the order of R68, with -0 below +0; neither is NaN. -/
def XVal.below : XVal → XVal → Bool
  | .inf true, .inf true => false
  | .inf true, _ => true
  | _, .inf true => false
  | .inf false, _ => false
  | _, .inf false => true
  | .fin an a ad, .fin bn b bd =>
    if a = 0 ∧ b = 0 then an && !bn
    else if a = 0 then !bn
    else if b = 0 then an
    else if an ≠ bn then an
    else if an then decide (b * ad < a * bd)
    else decide (a * bd < b * ad)
  | _, _ => false

/-- MIN or MAX of two exact values (R68). -/
def XVal.pick (isMax : Bool) (a b : XVal) : XVal :=
  if a.isNan || b.isNan then .nan
  else if isMax then (if a.below b then b else a)
  else (if b.below a then b else a)

end Sys2Proof.Machine
end

