-- ==== Sys2Proof/Machine/Sha.lean ====
section
/-!
DEFINITION. SHA-256 (R90, R400) and SHA-384 (R264, R479) as one function over the parameters in which FIPS 180-4 tells them apart.
-/

namespace Sys2Proof.Machine

/-- A number cut into `n` words of `w` bits, the most significant word first. -/
def packedWords (w n x : Nat) : List Nat := (List.range n).map fun i => x / 2 ^ (w * (n - 1 - i)) % 2 ^ w

/-- The fractional bits of the cube roots of the first 80 primes, 64 bits of each, four to a number (FIPS 180-4 4.2.3). -/
def cubeRoots : List Nat :=
  [0x428a2f98d728ae227137449123ef65cdb5c0fbcfec4d3b2fe9b5dba58189dbbc,
    0x3956c25bf348b53859f111f1b605d019923f82a4af194f9bab1c5ed5da6d8118,
    0xd807aa98a303024212835b0145706fbe243185be4ee4b28c550c7dc3d5ffb4e2,
    0x72be5d74f27b896f80deb1fe3b1696b19bdc06a725c71235c19bf174cf692694]
  ++ [0xe49b69c19ef14ad2efbe4786384f25e30fc19dc68b8cd5b5240ca1cc77ac9c65,
    0x2de92c6f592b02754a7484aa6ea6e4835cb0a9dcbd41fbd476f988da831153b5,
    0x983e5152ee66dfaba831c66d2db43210b00327c898fb213fbf597fc7beef0ee4,
    0xc6e00bf33da88fc2d5a79147930aa72506ca6351e003826f142929670a0e6e70]
  ++ [0x27b70a8546d22ffc2e1b21385c26c9264d2c6dfc5ac42aed53380d139d95b3df,
    0x650a73548baf63de766a0abb3c77b2a881c2c92e47edaee692722c851482353b,
    0xa2bfe8a14cf10364a81a664bbc423001c24b8b70d0f89791c76c51a30654be30,
    0xd192e819d6ef5218d69906245565a910f40e35855771202a106aa07032bbd1b8]
  ++ [0x19a4c116b8d2d0c81e376c085141ab532748774cdf8eeb9934b0bcb5e19b48a8,
    0x391c0cb3c5c95a634ed8aa4ae3418acb5b9cca4f7763e373682e6ff3d6b2b8a3,
    0x748f82ee5defb2fc78a5636f43172f6084c87814a1f0ab728cc702081a6439ec,
    0x90befffa23631e28a4506cebde82bde9bef9a3f7b2c67915c67178f2e372532b]
  ++ [0xca273eceea26619cd186b8c721c0c207eada7dd6cde0eb1ef57d4f7fee6ed178,
    0x06f067aa72176fba0a637dc5a2c898a6113f9804bef90dae1b710b35131c471b,
    0x28db77f523047d8432caab7b40c724933c9ebe0a15c9bebc431d67c49c100d4c,
    0x4cc5d4becb3e42b6597f299cfc657e2a5fcb6fab3ad6faec6c44198c4a475817]

/-- Where the members of the family differ: the word width, the rotations of the two sums over a working word, the rotations and the final
shift of the two sums over schedule words, the round constants, and the hash value before the first block. -/
structure Sha2 where
  bits   : Nat
  bigA   : List Nat
  bigE   : List Nat
  old    : List Nat × Nat
  recent : List Nat × Nat
  consts : List Nat
  start  : List Nat
  deriving DecidableEq, Repr

/-- SHA-256: its round constants are the upper halves of the first 64 cube roots. -/
def shaSmall : Sha2 :=
  { bits := 32, bigA := [2, 13, 22], bigE := [6, 11, 25], old := ([7, 18], 3), recent := ([17, 19], 10)
    consts := ((cubeRoots.flatMap (packedWords 64 4)).take 64).map (· / 2 ^ 32)
    start := packedWords 32 8 0x6a09e667bb67ae853c6ef372a54ff53a510e527f9b05688c1f83d9ab5be0cd19 }

/-- SHA-384. -/
def shaLarge : Sha2 :=
  { bits := 64, bigA := [28, 34, 39], bigE := [14, 18, 41], old := ([1, 8], 7), recent := ([19, 61], 6)
    consts := cubeRoots.flatMap (packedWords 64 4)
    start := packedWords 64 8
      0xcbbb9d5dc1059ed8629a292a367cd5079159015a3070dd17152fecd8f70e593967332667ffc00b318eb44a8768581511db0c2e0d64f98fa747b5481dbefa4fa4 }

/-- The exclusive or of a word's right rotations. -/
def Sha2.rotations (p : Sha2) (x : Nat) (by_ : List Nat) : Nat :=
  by_.foldl (fun acc n => Nat.xor acc (x / 2 ^ n + x % 2 ^ n * 2 ^ (p.bits - n))) 0

/-- A sum over a schedule word: its rotations and one plain shift. -/
def Sha2.mix (p : Sha2) (x : Nat) (by_ : List Nat × Nat) : Nat := Nat.xor (p.rotations x by_.1) (x / 2 ^ by_.2)

/-- The working words and the sixteen schedule words that come next, oldest first. -/
structure ShaRun where
  work  : List Nat
  sched : List Nat
  deriving DecidableEq, Repr

/-- The word the schedule gains as its oldest leaves it. -/
def Sha2.nextWord (p : Sha2) (q : List Nat) : Nat :=
  let at_ (i : Nat) : Nat := q.getD i 0
  (at_ 0 + p.mix (at_ 1) p.old + at_ 9 + p.mix (at_ 14) p.recent) % 2 ^ p.bits

/-- One round with a constant: the work words move one place on, the first and the fifth with something added. -/
def Sha2.turn (p : Sha2) (r : ShaRun) (const : Nat) : ShaRun :=
  let reg (i : Nat) : Nat := r.work.getD i 0
  let choose := Nat.lor (Nat.land (reg 4) (reg 5)) (Nat.land (maxOf p.bits - reg 4) (reg 6))
  let most := Nat.lor (Nat.land (reg 0) (Nat.lor (reg 1) (reg 2))) (Nat.land (reg 1) (reg 2))
  let gain := reg 7 + p.rotations (reg 4) p.bigE + choose + const + r.sched.headD 0
  let head := gain + p.rotations (reg 0) p.bigA + most
  { work := head % 2 ^ p.bits :: ((r.work.take 7).set 3 ((reg 3 + gain) % 2 ^ p.bits))
    sched := r.sched.tail ++ [p.nextWord r.sched] }

/-- The hash value after a block of sixteen words. -/
def Sha2.absorb (p : Sha2) (h : List Nat) (block : List Byte) : List Nat :=
  let r := p.consts.foldl p.turn ⟨h, (pieces (p.bits / 8) block).map beNat⟩
  (h.zip r.work).map fun e => (e.1 + e.2) % 2 ^ p.bits

/-- The message with its padding: a one bit, zeros, and its length in bits as two words, up to a whole block. -/
def Sha2.pad (p : Sha2) (msg : List Byte) : List Byte :=
  let block := 2 * p.bits
  let used := (msg.length + 1 + p.bits / 4) % block
  msg ++ (128 :: List.replicate ((block - used) % block) 0) ++ natBytes (p.bits / 4) (8 * msg.length)

/-- The first `n` words of the hash of a message. -/
def Sha2.digest (p : Sha2) (n : Nat) (msg : List Byte) : List Byte :=
  (((pieces (2 * p.bits) (p.pad msg)).foldl p.absorb p.start).take n).flatMap (natBytes (p.bits / 8))

/-- SHA-256 of a byte string, as 32 bytes. -/
def sha256 (bs : List Byte) : List Byte := shaSmall.digest 8 bs

/-- SHA-384 of a byte string, as 48 bytes. -/
def sha384 (bs : List Byte) : List Byte := shaLarge.digest 6 bs

end Sys2Proof.Machine
end

