-- ==== Sys2Proof/Machine/Hash.lean ====
section
/-!
DEFINITION. The check sums and hashes the spec names: CRC-16 (R81), CRC-32C (R82), CRC-8 (R394), and the lane
hash over GF(2^128) (R397, R398).
-/

namespace Sys2Proof.Machine

/-- One bit of a CRC register of `w` bits, most significant bit first. -/
def crcBit (w poly reg : Nat) (bit : Bool) : Nat :=
  let top := decide (2 ^ (w - 1) ≤ reg)
  let sh := reg * 2 % 2 ^ w
  if top != bit then Nat.xor sh poly else sh

/-- One byte, most significant bit first. -/
def crcByte (w poly reg : Nat) (b : Byte) : Nat :=
  [7, 6, 5, 4, 3, 2, 1, 0].foldl (fun r i => crcBit w poly r (b.getLsbD i)) reg

/-- HCRC: CRC-16, polynomial 0x1021, initial 0xFFFF, no reflection (R81). -/
def crc16 (bs : List Byte) : Nat := bs.foldl (crcByte 16 0x1021) 0xFFFF

/-- CRC-8 of the epoch word, polynomial 0x07, initial 0 (Table 16.2). -/
def crc8 (bs : List Byte) : Nat := bs.foldl (crcByte 8 0x07) 0

/-- One bit of a reflected CRC register. -/
def crcBitR (poly reg : Nat) : Nat := if reg % 2 = 1 then Nat.xor (reg / 2) poly else reg / 2

/-- One byte of a reflected CRC. -/
def crcByteR (poly reg : Nat) (b : Byte) : Nat :=
  let r := Nat.xor reg b.toNat
  [0, 1, 2, 3, 4, 5, 6, 7].foldl (fun r _ => crcBitR poly r) r

/-- ICRC: CRC-32C, polynomial 0x1EDC6F41 reflected, initial and final XOR of all ones (R82). -/
def crc32c (bs : List Byte) : Nat := Nat.xor (bs.foldl (crcByteR 0x82F63B78) 0xFFFFFFFF) 0xFFFFFFFF

/-- The four bytes of an Ethernet frame's FCS, as IEEE 802.3 forms and sends it (PRESUMED, log entry 111). -/
def fcsBytes (bs : List Byte) : List Byte := (natBytes 4 (Nat.xor (bs.foldl (crcByteR 0xEDB88320) 0xFFFFFFFF) 0xFFFFFFFF)).reverse

/-- The internet one's complement sum of 16-bit words, folded (the header checksum R296 checks and the UDP checksum of R76). -/
def onesSum (bs : List Byte) : Nat :=
  let t := ((pieces 2 bs).map fun p => beNat p * 256 ^ (2 - p.length)).sum
  let f (n : Nat) : Nat := n % 65536 + n / 65536
  f (f (f t))

/-- The product in GF(2^128) with reduction polynomial x^128 + x^7 + x^2 + x + 1 (R397), by the bits of `b` from the top. -/
def gfMulBits (a b : Nat) : Nat → Nat → Nat
  | 0, r => r
  | k + 1, r =>
    let d := r * 2
    let d := if 2 ^ 128 ≤ d then Nat.xor (d % 2 ^ 128) 0x87 else d
    gfMulBits a b k (if b / 2 ^ k % 2 = 1 then Nat.xor d a else d)

def gfMul (a b : Nat) : Nat := gfMulBits a b 128 0

/-- The default lane-hash key (R397). -/
def defaultHashKey : Nat := 0xC3A51F076D2B9E480A71E5C93B86F20D

/-- The position block B0 of an item of kind `k`, rank `r`, chunk `c` and `n` payload bytes (R398 step 1). -/
def hashPosition (k r c n : Nat) : Nat :=
  k % 256 * 2 ^ 120 + r % 2 ^ 14 * 2 ^ 104 + c % 2 ^ 40 * 2 ^ 64 + n % 2 ^ 64

/-- The term of one item, Horner form (R398). -/
def laneTerm (key k r c : Nat) (p : List Byte) : Nat :=
  let blocks := (pieces 16 p).map fun b => beNat b * 256 ^ (16 - b.length)
  (hashPosition k r c p.length :: blocks).foldl (fun h b => gfMul (Nat.xor h b) key) 0

end Sys2Proof.Machine
end

