-- ==== Sys2Proof/Config.lean ====
section
/-!
DEFINITION. What the spec leaves open: values without a body that no proof can evaluate, and named predicates over
encodings the spec does not document. Each is named in the assumption log.
-/

namespace Sys2Proof.Config

/-- A fresh free value: the step applies it to the counter `free` of State and advances the counter (log entry 1). -/
opaque freeValue : Nat → Nat

/-- The pattern a vector comparison or predicate writes for true and for false: R244 gives none (log entry 2). -/
opaque boolPattern : Bool → Nat

/-- The pattern the vector operation `class` writes for each of the ten IEEE classes: R244 gives none (log entry 2). -/
opaque classPattern : Nat → Nat

/-- The payload bits of a NaN converted between IEEE formats of different widths (source width, destination width,
pattern): R244 keeps the payload and does not place it in the other width (log entry 2). -/
opaque nanPayload : Nat → Nat → Nat → Nat

/-- The results of IEEE 754-2019 operations for which that standard itself leaves the value to the implementation:
integer conversion of a NaN, an infinity or a value out of range (operation code, operand pattern) (log entry 2). -/
opaque invalidInteger : Nat → Nat → Nat

/-- A shift by the width of its operand or more (operation, operand, amount): Table 10.5 and R244 give none (log entry 2). -/
opaque shiftBeyond : Nat → Nat → Nat → Nat

/-- Character `i` of the sequence an element's pattern is converted to (element bytes, rounding direction, pattern), and the pattern and flags
that a register of characters is converted to: R244 asks for these conversions and gives no form of the characters (log entry 2). -/
opaque toCharacters : Nat → Nat → Nat → Nat → Nat
opaque fromCharacters : Nat → Nat → List Byte → Nat × Nat

/-- What the vector unit answers when asked whether it conforms to IEEE 754 of an earlier year than 2019 (log entry 2). -/
opaque conformsTo : Nat → Bool

/-- The public keys held in the boot ROM, as 97-byte points: Knagen's, which the spec does not list (R264, R479; log entry 53). -/
opaque romKeys : List (List Byte)

/-- The input that a hub die's rotating order began at (R313; log entry 74). -/
opaque hubTurn : Nat → Nat

/-- The FCS bytes of a frame whose FCS is bad, which the spec does not give (R331; log entry 111). -/
opaque badFcs : List Byte → List Byte

/-- The identification of an outer IPv4 header and the flow label of an outer IPv6 header of the packet with these bytes, which the spec
leaves open (R77; log entry 115). -/
opaque ipIdent : List Byte → Nat
opaque flowLabel : List Byte → Nat

/-- What the edge logic puts into QUEUE, TAG and USER of a service packet's mesh header, by the packet and the field: the service image's own
(log entry 122). -/
opaque edgeWord : Nat → Nat → Nat

/-- Check 4 of Table 11.5 on an image container's programs, whose sections are in Knagen's own form (R263; log entry 53). -/
opaque imageProgramsOk : List Byte → Bool

/-- Base, size and virtual channel of receive queue `q` in a container's router section, size 0 for none (R260; log entry 53). -/
opaque imageQueue : List Byte → Nat → Nat × Nat × Nat

/-- The first SRAM contents of the tile at an offset from the partition's origin: pieces, each its address and bytes (R263 section 4; log
entry 53). -/
opaque imageSram : List Byte → Nat → Nat → List (Nat × List Byte)

/-- The descriptor list of the `e`-th stream engine that an image uses in hub die `h`: pieces of its regions, each a region by its place among
them, an offset and a length (R29, R263 section 5; log entry 53). -/
opaque imageStream : List Byte → Nat → Nat → List (Nat × Nat × Nat)

/-- The key of the regions a container declares, which Table 11.4 does not place (R269; log entry 53). -/
opaque imageRegionKey : List Byte → Nat

/-- A declared flow's source, destination (0 the partition, 1 north, 2 east, 3 south, 4 west) and rate in GB/s from its 16 bytes (R266;
log entry 53). -/
opaque imageFlow : List Byte → Nat × Nat × Nat

/-- The hash of (SRC, DST, CTX, CLASS) from which R77 takes the UDP source port (log entry 22). -/
opaque udpHash : Nat → Nat → Nat → Nat → Nat

/-- Which of a hub die's 16 pool and gather engines, or 16 replication engines, an item is with: the spec does not say (log entry 44). -/
opaque engineOf : Nat → Nat

/-- Which of a hub die's four stacks a retention block lies on (pool, block), as a number 0 to 3: R128 says only that it is one of them
(log entry 59). -/
opaque blockStack : Nat → Nat → Nat

/-- The row index within its pseudo-channel of the memory line a fault ADDRESS names, which Table 18.11 reports and the spec does not
place (log entry 40). -/
opaque memoryRow : Nat → Nat

/-- Check 4 of Table 20.3 on firmware.temond at a compatibility level: its form is Knagen's own (R479, R480; log entry 63). -/
opaque temondOk : List Byte → Nat → Bool

/-- The slot layout that an image's author records in it, which Temond compares (R492; log entry 63). -/
opaque slotLayout : List Byte → Nat

/-- The entries a value of the route key of table `t` spells, each an index and four data words: their record form is not given (Table
20.4; log entry 63). -/
opaque routeEntries : Nat → List Byte → List (Nat × Nat × Nat × Nat × Nat)

/-- The values of the factory golden image's keys, its IMAGE_SEQ and the hash of the logical image, its pages in flash, and the Temond
version of an image (R483, Table 19.6; log entry 63). -/
opaque factoryKeys : List (List Byte × Nat × List Byte)
opaque factorySeq : Nat
opaque factoryHash : List Byte
opaque factoryPage : Nat → List Byte
opaque temondVersion : List Byte → Nat

/-- What a partition record holds behind its MAGIC, from STATE, LENGTH and the hash: the field sizes are not given (R476; log entry 63). -/
opaque recordRest : Nat → Nat → List Byte → List Byte

/-- The 1 MiB of control trace that crash dump `n` holds, whose content the spec does not describe (Table 19.6; log entry 63). -/
opaque controlTrace : Nat → List Byte

end Sys2Proof.Config
end

