-- ==== Sys2Proof/Machine/Packet.lean ====
section
/-!
DEFINITION. QFT packets (chapter 4): the base header of Table 4.1, the packet types and statuses, and building packets.
-/

namespace Sys2Proof.Machine

/-- A QFT packet: its five header words as on the wire, its payload bytes and the ICRC it carries (R79, R82). -/
structure Packet where
  w0      : Word
  w1      : Word
  w2      : Word
  w3      : Word
  w4      : Word
  payload : List Byte
  icrc    : Nat
  deriving DecidableEq, Repr

namespace Packet

def ver (p : Packet) : Nat := p.w0.field 63 60
def typ (p : Packet) : Nat := p.w0.field 59 54
def cls (p : Packet) : Nat := p.w0.field 53 51
def epoch (p : Packet) : Nat := p.w0.field 50 50
def lastBit (p : Packet) : Nat := p.w0.field 49 49
def ackReq (p : Packet) : Bool := p.w0.bit 48
def ttl (p : Packet) : Nat := p.w0.field 47 42
def len (p : Packet) : Nat := p.w0.field 41 29
def fmt (p : Packet) : Nat := p.w0.field 28 23
def gen (p : Packet) : Nat := p.w0.field 22 15
def dst (p : Packet) : Nat := p.w1.field 63 44
def src (p : Packet) : Nat := p.w1.field 43 24
def ctx (p : Packet) : Nat := p.w1.field 23 8
def seq (p : Packet) : Nat := p.w2.field 63 32
def rank (p : Packet) : Nat := p.w2.field 31 18
def offset (p : Packet) : Nat := p.w3.field 63 16
def key (p : Packet) : Nat := p.w3.field 15 0
def birth (p : Packet) : Nat := p.w4.field 63 32
def hcrc (p : Packet) : Nat := p.w4.field 31 16

/-- Payload word `i` (chapter 4: payload words are named P0, P1 and so on). -/
def word (p : Packet) (i : Nat) : Word := BitVec.ofNat 64 (beNat ((p.payload.drop (8 * i)).take 8))

/-- HCRC over W0 to W3 and W4[63:32] in wire order (R81). -/
def headCrc (p : Packet) : Nat :=
  crc16 (wordsBytes [p.w0, p.w1, p.w2, p.w3] ++ (wordBytes p.w4).take 4)

/-- ICRC with W0[50], W0[47:42] and W4 replaced by ones (R82). -/
def bodyCrc (p : Packet) : Nat :=
  let m0 := (p.w0.setField 50 50 1).setField 47 42 63
  crc32c (wordsBytes [m0, p.w1, p.w2, p.w3, BitVec.allOnes 64] ++ p.payload)

/-- The packet with HCRC recomputed (R81). -/
def fixHcrc (p : Packet) : Packet := { p with w4 := p.w4.setField 31 16 p.headCrc }

/-- The packet with both checks computed, as a sender forms it. -/
def sealed (p : Packet) : Packet := fixHcrc { p with icrc := p.bodyCrc }

/-- BIRTH and EPOCH stamped at ingress or at origination, HCRC recomputed (R80, R81). -/
def stamp (p : Packet) (birth : Option Nat) (epoch : Nat) : Packet :=
  fixHcrc { p with
    w0 := p.w0.setField 50 50 epoch
    w4 := match birth with | some b => p.w4.setField 63 32 b | none => p.w4 }

/-- TTL decremented by a forwarding device (R80). -/
def decTtl (p : Packet) : Packet := fixHcrc { p with w0 := p.w0.setField 47 42 (p.ttl - 1) }

/-- The bytes of the packet between the encapsulation and the FCS. -/
def bytes (p : Packet) : List Byte :=
  wordsBytes [p.w0, p.w1, p.w2, p.w3, p.w4] ++ p.payload ++ natBytes 4 p.icrc

/-- The header of a byte string of at least 40 bytes, its payload cut to LEN bytes and its ICRC after it (R78). -/
def parse (bs : List Byte) : Packet :=
  let w (i : Nat) : Word := BitVec.ofNat 64 (beNat ((bs.drop (8 * i)).take 8))
  let n := (w 0).field 41 29
  ⟨w 0, w 1, w 2, w 3, w 4, (bs.drop 40).take n, beNat ((bs.drop (40 + n)).take 4)⟩

end Packet

/-- Packet type codes (Table 4.3). -/
def tCONTRIB : Nat := 0x01
def tRESULT : Nat := 0x02
def tGRANT : Nat := 0x03
def tABORT : Nat := 0x04
def tCOMPLETE : Nat := 0x05
def tRESEND : Nat := 0x06
def tSETUP : Nat := 0x08
def tSETUP_ACK : Nat := 0x09
def tTEARDOWN : Nat := 0x0A
def tREARM : Nat := 0x0B
def tSTEP : Nat := 0x0C
def tPOOL_RD : Nat := 0x10
def tPOOL_WR : Nat := 0x11
def tPOOL_RSP : Nat := 0x12
def tPOOL_ATOM : Nat := 0x13
def tPOOL_FENCE : Nat := 0x14
def tGATHER_REQ : Nat := 0x18
def tGATHER_RSP : Nat := 0x19
def tACK : Nat := 0x20
def tNACK : Nat := 0x21
def tLINK_CREDIT : Nat := 0x30
def tLINK_RETRY : Nat := 0x31
def tPROBE : Nat := 0x32
def tMGMT : Nat := 0x3F

/-- The assigned types (Table 4.3). -/
def typeAssigned (t : Nat) : Bool :=
  [1, 2, 3, 4, 5, 6, 8, 9, 0xA, 0xB, 0xC, 0x10, 0x11, 0x12, 0x13, 0x14, 0x18, 0x19, 0x20, 0x21, 0x30, 0x31, 0x32,
    0x3F].contains t

/-- Status codes (Table 4.5). -/
def stOK : Nat := 0x00
def stNOSPACE : Nat := 0x01
def stBADDESC : Nat := 0x02
def stNOTMEMBER : Nat := 0x03
def stTIMEOUT : Nat := 0x04
def stMEMBER_ABORT : Nat := 0x05
def stSTALE_GEN : Nat := 0x06
def stKEY_FAIL : Nat := 0x07
def stRANGE : Nat := 0x08
def stPOISON : Nat := 0x09
def stPOWER_DEFER : Nat := 0x0A
def stQUARANTINED : Nat := 0x0B
def stRETRY : Nat := 0x0C
def stUNSUPPORTED_FMT : Nat := 0x0D
def stDEVICE_RESET : Nat := 0x0E
def stNOT_MY_JOB : Nat := 0x0F

/-- The types a service endpoint number accepts (Table 1.4). -/
def typeService (t : Nat) : Bool :=
  [tSETUP, tTEARDOWN, tREARM, tMGMT, tCONTRIB, tABORT, tSTEP, tACK, tNACK, tRESEND, tPOOL_RD, tPOOL_WR, tPOOL_ATOM,
    tPOOL_FENCE, tGATHER_REQ, tPROBE].contains t

def typePool (t : Nat) : Bool := [tPOOL_RD, tPOOL_WR, tPOOL_ATOM, tPOOL_FENCE].contains t

/-- Whether CLASS is the one Table 4.3 gives a service type; an ACK or NACK may carry 0, 1, 2 or 7 (R102). -/
def classOk (t c : Nat) : Bool :=
  if t = tCONTRIB then c == 3
  else if t = tABORT ∨ t = tRESEND ∨ t = tSETUP ∨ t = tTEARDOWN ∨ t = tREARM ∨ t = tSTEP then c == 0
  else if typePool t ∨ t = tGATHER_REQ then c == 2
  else if t = tACK ∨ t = tNACK then [0, 1, 2, 7].contains c
  else c == 7

/-- Whether LEN is one Table 4.3 gives a service type, whole units of FMT for a CONTRIB (R35). A CONTRIB whose FMT is
unassigned has no unit and passes here to step 12. A SETUP's part 0 holds S0 and the descriptor, a later part at least S0,
and entries of four bytes follow (R89). -/
def lenOk (p : Packet) : Bool :=
  let n := p.len
  let t := p.typ
  if t = tCONTRIB then
    match Fmt.ofCode p.fmt with
    | some f => n % f.unitBytes == 0
    | none => true
  else if t = tABORT ∨ t = tRESEND ∨ t = tREARM ∨ t = tPOOL_RD then n == 8
  else if t = tTEARDOWN ∨ t = tPOOL_FENCE then n == 0
  else if t = tSTEP ∨ t = tPROBE then n == 32
  else if t = tPOOL_WR then true
  else if t = tPOOL_ATOM then n == 24
  else if t = tGATHER_REQ then n % 4 == 0
  else if t = tACK then n == 8
  else if t = tNACK then n == 16
  else if t = tMGMT then decide (8 ≤ n) && n % 8 == 0
  else if t = tSETUP then decide ((if (p.word 0).field 39 35 = 0 then 264 else 8) ≤ n) && n % 4 == 0
  else true

/-- The fields of a packet the device originates (Table 4.1). -/
structure Hdr where
  typ    : Nat
  cls    : Nat
  dst    : Nat
  src    : Nat
  ctx    : Nat := 0
  gen    : Nat := 0
  fmt    : Nat := 0
  last   : Bool := false
  seq    : Nat := 0
  rank   : Nat := 0
  offset : Nat := 0
  key    : Nat := 0
  deriving DecidableEq, Repr

/-- A packet from its fields and payload; TTL, BIRTH, EPOCH and the checks are set where it is queued (R80). -/
def Hdr.packet (h : Hdr) (payload : List Byte) : Packet :=
  ⟨BitVec.ofNat 64 (2 ^ 60 + h.typ * 2 ^ 54 + h.cls * 2 ^ 51 + (if h.last then 2 ^ 49 else 0)
      + payload.length * 2 ^ 29 + h.fmt % 64 * 2 ^ 23 + h.gen % 256 * 2 ^ 15),
   BitVec.ofNat 64 (h.dst % 2 ^ 20 * 2 ^ 44 + h.src % 2 ^ 20 * 2 ^ 24 + h.ctx % 2 ^ 16 * 2 ^ 8),
   BitVec.ofNat 64 (h.seq % 2 ^ 32 * 2 ^ 32 + h.rank % 2 ^ 14 * 2 ^ 18),
   BitVec.ofNat 64 (h.offset % 2 ^ 48 * 2 ^ 16 + h.key % 2 ^ 16), 0, payload, 0⟩

/-- The class an answer travels in: the class of the packet answered, class 1 for answers to CONTRIB (R83). -/
def answerClass (p : Packet) : Nat := if p.typ = tCONTRIB then 1 else p.cls

/-- An answer to `p`: it carries the request's SEQ, GEN, CTX, OFFSET, KEY and W2[31:18] (R86). -/
def answerHdr (p : Packet) (typ self : Nat) : Hdr :=
  { typ := typ, cls := answerClass p, dst := p.src, src := self, ctx := p.ctx, gen := p.gen, seq := p.seq,
    rank := p.rank, offset := p.offset, key := p.key }

/-- An ACK of `p` (R100). -/
def ackOf (p : Packet) (self status : Nat) : Packet :=
  (answerHdr p tACK self).packet (natBytes 8 (status * 2 ^ 56 + p.typ * 2 ^ 50))

/-- A NACK of `p`; `expect` is the SEQ expected next on an ordered stream, 0 elsewhere (R101). -/
def nackOf (p : Packet) (self status expect : Nat) : Packet :=
  (answerHdr p tNACK self).packet (natBytes 8 (status * 2 ^ 56 + p.typ * 2 ^ 50) ++ natBytes 8 (expect % 2 ^ 32 * 2 ^ 32))

end Sys2Proof.Machine
end

