-- ==== Sys2Proof/Machine/NetTypes.lean ====
section
/-!
DEFINITION. The state of ports, the packet buffer, forwarding, scheduling, mirroring and fault collection
(chapters 12 to 16 and 18) as plain data.
-/

namespace Sys2Proof.Machine

/-- Port link states (Table 15.3). -/
inductive LinkState where
  | disabled | an | training | align | hold | up | fault
  deriving DecidableEq, Repr

/-- The code PRT_LINK_STATUS STATE gives a link state (Table 15.7). -/
def LinkState.code : LinkState → Nat
  | .disabled => 0 | .an => 1 | .training => 2 | .align => 3 | .hold => 4 | .up => 5 | .fault => 6

/-- A port's link: state, the local time it was entered, faults seen, and what negotiation settled (R366, R372). -/
structure Link where
  state      : LinkState := .disabled
  since      : Nat := 0
  lf         : Bool := false
  rf         : Bool := false
  laneHold   : Bool := false
  negotiated : Bool := false
  retryAct   : Nat := 0
  creditRx   : Nat := 0
  creditTx   : Nat := 0
  peerRbuf   : Nat := 0
  helloGot   : Bool := false
  helloMore  : Nat := 0
  helloAt    : Option Nat := none
  retryFail  : Bool := false
  retryOwn   : Nat := 0
  creditOwn  : Nat := 0
  deriving DecidableEq, Repr

/-- One credit-active class as the sender keeps it: the last LIMIT received and the cells sent (R378). -/
structure CreditTx where
  limit : Option Nat := none
  used  : Nat := 0
  deriving DecidableEq, Repr

/-- One credit-active class as the receiver keeps it: window, cells released and received, and what was last advertised (R376,
R377). -/
structure CreditRx where
  window   : Nat := 0
  released : Nat := 0
  received : Nat := 0
  sentRel  : Option Nat := none
  sentAt   : Nat := 0
  grewAt   : Option Nat := none
  deriving DecidableEq, Repr

/-- One retry-active class at the sender: next link sequence, held frames, NAKs in a row, and the last replay (R379, R381). -/
structure RetryTx where
  nextSeq  : Nat := 0
  held     : List (Nat × Frame) := []
  naks     : Nat := 0
  replayed : Option (Nat × Nat) := none
  deriving DecidableEq, Repr

/-- One retry-active class at the receiver: next expected sequence, waiting since a NAK, and frames not yet acknowledged
(R379, R380). -/
structure RetryRx where
  expected  : Nat := 0
  waiting   : Option Nat := none
  unacked   : Nat := 0
  ackDueAt  : Option Nat := none
  deriving DecidableEq, Repr

/-- A gate list as it runs or waits: the words of SCH_GATE_PEND and the entries by index (R347, R350). -/
structure GateList where
  pend    : Nat := 0
  entries : Tbl Nat := []
  deriving DecidableEq, Repr

/-- A port's gates: the running list with its start, the entry in force, the pending list and its arm (R347 to R350). -/
structure Gate where
  run    : GateList := {}
  b0     : Nat := 0
  entry  : Nat := 0
  mask   : Nat := 0xFF
  wait   : GateList := {}
  actAt  : Nat := 0
  armed  : Bool := false
  status : Nat := 0
  longest : Tbl Nat := []
  deriving DecidableEq, Repr

/-- A packet waiting in a hub die's queues (R309 to R321): where it goes, the frame as it will be sent and, of a forwarded packet, as it was
received, its QFT packet, its charges (`own`: the shared-pool cells its own release returns), what ageing and the mirror need, the link-up
time of the credit it was received under (R377), the next-hop record of a PROBE reply, whose T_TX is filled in as it leaves (R110), and of a
packet that cuts through the time it started and the cells sent since (R316). -/
structure QItem where
  id       : Nat
  port     : Nat
  cls      : Nat
  inPort   : Nat
  frame    : Frame
  pkt      : Option Packet
  cells    : Nat
  birth    : Nat
  sojourn  : Bool
  enqAt    : Nat
  floorC   : Nat
  sharedC  : Nat
  hdrmC    : Nat
  own      : Nat
  bufs     : List Nat
  group    : Option Nat
  cut      : Bool
  started  : Bool
  whole    : Bool
  tail     : TailFault
  ctxNote  : Nat
  rcvd     : Option Frame := none
  credit   : Option Nat := none
  late     : Option Nat := none
  startAt  : Nat := 0
  gone     : Nat := 0
  deriving DecidableEq, Repr

/-- What a port notes as one of its own frames goes out: nothing, one more in a counter of Table 15.8, or the start of a replay (R381,
R386). -/
inductive LocalNote where
  | plain
  | counted (i : Nat)
  | replay (cls lseq : Nat)
  deriving DecidableEq, Repr

/-- A link-local or MAC control frame that waits for the next frame boundary (R371, R373). -/
structure LocalFrame where
  frame : Frame
  note  : LocalNote := .plain
  deriving DecidableEq, Repr

/-- The egress scheduler of a port: round-robin pointers over the hub dies by class, deficit round robin, the frame on the
line, priority pauses, and the priorities that PFC paused since the XOFF (R339, R340, R370, R371). -/
structure Sched where
  hubTurn : Tbl Nat := []
  visit   : Nat := 2
  granted : Bool := false
  deficit : Tbl Nat := []
  busyTo  : Nat := 0
  busy    : Option QItem := none
  busyHub : Nat := 0
  paused  : Tbl Nat := []
  xoffAt  : Option Nat := none
  xoffMask : Nat := 0
  delay   : Tbl Nat := []
  waitAt  : Tbl Nat := []
  deriving DecidableEq, Repr

/-- Everything a port holds beside its registers: `replays` are the frames of each class still to be sent again (R381), `seq` the next SEQ of
its link-local packets (R86; log entry 114). -/
structure PortSt where
  link  : Link := {}
  sched : Sched := {}
  gate  : Gate := {}
  ctx   : Tbl CreditTx := []
  crx   : Tbl CreditRx := []
  rtx   : Tbl RetryTx := []
  rrx   : Tbl RetryRx := []
  localTx : List LocalFrame := []
  replays : List (Nat × List Frame) := []
  seq     : Nat := 0
  cwLog   : List (Nat × Nat) := []
  trainFails : Tbl Nat := []
  deriving DecidableEq, Repr

/-- A packet that has reached its hub die and waits for admission, with the other copies of a flooded frame, and the time its header came
(R295, R312, R313). -/
structure Arrival where
  item   : QItem
  cut    : Bool
  copies : List QItem
  at_    : Nat
  deriving DecidableEq, Repr

/-- The cells the copies of one replicated packet have in common: group tag, the buffers, and the shared-pool cells that
return when they become FREE (R324). -/
structure CopyGroup where
  tag    : Nat
  shared : Nat
  bufs   : List Nat
  lastId : Nat
  deriving DecidableEq, Repr

/-- What left the mesh at a hub die for the members of a context (R26): the packet for each recipient rank is formed at
replication. -/
structure MeshOut where
  ctx     : Nat
  gen     : Nat
  typ     : Nat
  fmt     : Nat
  status  : Nat
  offset  : Nat
  chunk   : Option Nat
  payload : List Byte
  only    : Option Nat
  except  : Option Nat
  deriving DecidableEq, Repr

/-- A hub die: the waiting arrivals, the queued packets in order of entry, buffer accounting, headroom by ingress port, copy
groups and mesh output (R309 to R313). -/
structure Hub where
  arrive  : List Arrival := []
  queue   : List QItem := []
  shared  : Nat := 294912
  floorU  : Nat := 0
  hdrm    : Tbl Nat := []
  groups  : List CopyGroup := []
  meshOut : List MeshOut := []
  deriving DecidableEq, Repr

/-- One BPM buffer that is not FREE (R324). -/
inductive Buf where
  | held (owner : Nat)
  | shared (count tag last : Nat) (lastReleased : Bool)
  | withheld
  deriving DecidableEq, Repr

/-- A BPM pool: capacity, the buffers not FREE, the next bank of a cell pool and the arbiter's priority (R323, R327). -/
structure BpmPool where
  cap  : Nat := 0
  bufs : Tbl Buf := []
  bank : Nat := 0
  prio : Nat := 0
  deriving DecidableEq, Repr

/-- One route bank (R299), its tables sparse. -/
structure Bank where
  endpoint : Tbl Nat := []
  member   : Tbl Nat := []
  nhr      : Tbl (List Nat) := []
  v4       : List (Nat × Nat × Nat) := []
  v6       : List (Nat × Nat × Nat) := []
  bridge   : List (Nat × Nat × Nat) := []
  vlan     : Tbl (List Nat) := []
  cmap     : Tbl Nat := []
  deriving DecidableEq, Repr

/-- The forwarding state: both banks, the swap, the liveness each lookup uses, and the port dies' adaptive copies (R286 to
R302). -/
structure Fwd where
  bank0     : Bank := {}
  bank1     : Bank := {}
  active    : Nat := 0
  armed     : Option Nat := none
  inactive  : Option Nat := none
  busy      : Bool := false
  status    : Nat := 0
  swaps     : Nat := 0
  lastSwap  : Nat := 0
  tblStatus : Nat := 0
  tblDone   : Nat := 0
  live      : Tbl Bool := []
  reports   : List (Nat × Bool × Nat) := []
  qEst      : Tbl Nat := []
  dEst      : Tbl Nat := []
  turn      : Tbl Nat := []
  estAt     : Nat := 0
  sampledAt : Option Nat := none
  deriving DecidableEq, Repr

/-- A shaper's or policer's level in 1/256 of its unit, its remainder in 1/10^9 of that, and the local time it was last
grown (R342, R357). -/
structure Meter where
  level : Int := 0
  part  : Nat := 0
  at_   : Nat := 0
  deriving DecidableEq, Repr

/-- A staged mirror record; one of an earlier enable carries its place in the region (R334). -/
structure StageRec where
  place : Option Nat
  bytes : List Byte
  deriving DecidableEq, Repr

/-- A staging block: its recording die, its buffer, the time it was begun and its records (R331). -/
structure StageBlock where
  die  : Nat
  buf  : Nat
  at_  : Nat
  recs : List StageRec
  deriving DecidableEq, Repr

/-- A mirror session: whether it runs, its counts, and its staging blocks (R331 to R334). -/
structure MirSess where
  enabled     : Bool := false
  written     : Nat := 0
  taken       : Nat := 0
  overwritten : Nat := 0
  frozenLost  : Nat := 0
  stageLost   : Nat := 0
  frozen      : Bool := false
  capacity    : Nat := 0
  base        : Nat := 0
  ratio       : Tbl Nat := []
  staged      : List StageBlock := []
  deriving DecidableEq, Repr

/-- A fault message (Table 18.1); the global count at detection stands for COUNT_LO (R434). -/
structure FaultMsg where
  die   : Nat
  block : Nat
  inst  : Nat
  kind  : Nat
  sev   : Nat
  count : Nat
  addr  : Nat
  deriving DecidableEq, Repr

/-- A log entry (Table 18.4). -/
structure LogEntry where
  msg      : FaultMsg
  seq      : Nat
  reaction : Nat
  verdict  : Nat
  isOpen   : Bool
  mirrored : Bool
  rep      : Nat
  deriving DecidableEq, Repr

/-- A targeted self-test running or waiting: the entry it belongs to, its unit, and whether a second message came (R443). -/
structure SelfTest where
  seq    : Nat
  msg    : FaultMsg
  again  : Bool
  deriving DecidableEq, Repr

/-- A transient verdict the tracker holds: the unit's message and when its window ends (R443). -/
structure Verdict where
  msg   : FaultMsg
  until_ : Nat
  deriving DecidableEq, Repr

/-- A record of the isolation list of flash B (R445, Table 18.11). -/
structure Isolation where
  die     : Nat
  block   : Nat
  inst    : Nat
  kind    : Nat
  unit    : Nat
  pending : Bool
  deriving DecidableEq, Repr

/-- A reset domain: whether it is under reset and since when, and the times of its last resets (R457, R471). -/
structure DomSt where
  since : Option Nat := none
  times : List Nat := []
  deriving DecidableEq, Repr

/-- A search for a guilty context (R464, R465): the domain, the suspects not yet readmitted, the one readmitted and when, when the search
began, and every suspect readmitted so far. -/
structure Search where
  domain  : Nat
  left    : List Nat
  current : Option Nat
  since   : Nat
  from_   : Nat
  cleared : List Nat
  deriving DecidableEq, Repr

/-- Recovery (chapter 19); `genAll` counts the warm resets, which advance every domain generation (R463), and `later` holds the searches
that wait for the one under way (log entry 58). -/
structure RecSt where
  doms   : Tbl DomSt := []
  genAll : Nat := 0
  search : Option Search := none
  later  : List Search := []
  deriving DecidableEq, Repr

end Sys2Proof.Machine
end

