-- ==== Sys2Proof/Machine/Ieee.lean ====
section
/-!
DEFINITION. The vector unit's IEEE 754-2019 arithmetic (R37, R244): every result is the exact value rounded once, with the
five exception flags.
-/

namespace Sys2Proof.Machine

/-- Flag bits in the order of FAB_TILE_FLAGS (Table 10.8): 4 invalid, 3 divideByZero, 2 overflow, 1 underflow, 0 inexact. -/
def flInvalid : Nat := 16
def flDivZero : Nat := 8
def flOverflow : Nat := 4
def flUnderflow : Nat := 2
def flInexact : Nat := 1

/-- A result pattern and the flags the operation raises. -/
structure Fl where
  pat   : Nat
  flags : Nat
  deriving DecidableEq, Repr

/-- The sign bit of a pattern. -/
def FloatFmt.signOf (f : FloatFmt) (p : Nat) : Bool := decide (f.signWeight ≤ p % 2 ^ f.width)

/-- The pattern without its sign. -/
def FloatFmt.magOf (f : FloatFmt) (p : Nat) : Nat := p % f.signWeight

/-- A pattern from a sign and a magnitude. -/
def FloatFmt.mk' (f : FloatFmt) (neg : Bool) (mag : Nat) : Nat := (if neg then f.signWeight else 0) + mag

/-- The pattern of infinity of an IEEE layout. -/
def FloatFmt.infMag (f : FloatFmt) : Nat := f.infPat.getD 0

/-- A NaN of any kind. -/
def FloatFmt.isNan (f : FloatFmt) (p : Nat) : Bool := decide (f.infMag < f.magOf p)

/-- A signalling NaN: its quiet bit, the top fraction bit, is 0. -/
def FloatFmt.isSig (f : FloatFmt) (p : Nat) : Bool := f.isNan p && decide (p / 2 ^ (f.frac - 1) % 2 = 0)

/-- A NaN with its quiet bit set (R244). -/
def FloatFmt.quiet (f : FloatFmt) (p : Nat) : Nat :=
  if p / 2 ^ (f.frac - 1) % 2 = 0 then p + 2 ^ (f.frac - 1) else p

/-- The canonical NaN of an invalid operation (R244). -/
def FloatFmt.canon (f : FloatFmt) : Nat := f.nanPat.getD 0

/-- The exponent of the smallest normal. -/
def FloatFmt.emin (f : FloatFmt) : Int := 1 - (f.bias : Int)

/-- Tininess after rounding (R244): the value rounded with the exponent unbounded lies below the smallest normal. -/
def FloatFmt.tiny (f : FloatFmt) (dir : Nat) (neg : Bool) (num den : Nat) : Bool :=
  let e := ilog2 num den
  if f.emin ≤ e then false
  else if e < f.emin - 1 then true
  else
    let s := scaleRat num den (e - (f.frac : Int))
    decide (roundMag dir neg s.1 s.2 ≠ 2 ^ (f.frac + 1))

/-- A finite exact value delivered to an IEEE layout with its flags (R37, R244). A zero keeps the sign given. -/
def FloatFmt.round (f : FloatFmt) (dir : Nat) (neg : Bool) (num den : Nat) : Fl :=
  if num = 0 then ⟨f.mk' neg 0, 0⟩
  else
    let p := f.roundPat dir neg num den
    let q := max (ilog2 num den - (f.frac : Int)) f.qmin
    let s := scaleRat num den q
    let inexact := decide (s.1 % s.2 ≠ 0)
    if f.maxFin < p then
      ⟨f.mk' neg (if overflowToInf dir neg then f.infMag else f.maxFin), flOverflow + flInexact⟩
    else
      ⟨f.mk' neg p, (if inexact then flInexact else 0) + (if inexact && f.tiny dir neg num den then flUnderflow else 0)⟩

/-- The exact value delivered to an IEEE layout. -/
def FloatFmt.deliver (f : FloatFmt) (dir : Nat) (v : XVal) : Fl :=
  match v with
  | .nan => ⟨f.canon, flInvalid⟩
  | .inf neg => ⟨f.mk' neg f.infMag, 0⟩
  | .fin neg num den => f.round dir neg num den

/-- The first NaN operand in operand order, quieted, with invalid if any operand signals (R244); none without a NaN. -/
def FloatFmt.nanResult (f : FloatFmt) (ops : List Nat) : Option Fl :=
  match ops.find? f.isNan with
  | none => none
  | some p => some ⟨f.quiet p, if ops.any f.isSig then flInvalid else 0⟩

/-- The sign of an exact zero sum of operands of different signs: minus only toward negative (IEEE 754-2019 6.3). -/
def zeroSign (dir : Nat) : Bool := dir == 3

/-- The exact sum of two values that are not NaN; `.nan` for the invalid sum of opposite infinities. -/
def XVal.sum (dir : Nat) (a b : XVal) : XVal :=
  match a, b with
  | .nan, _ => .nan
  | _, .nan => .nan
  | .inf x, .inf y => if x = y then .inf x else .nan
  | .inf x, _ => .inf x
  | _, .inf y => .inf y
  | .fin an x xd, .fin bn y yd => XVal.addFin (zeroSign dir) an x xd bn y yd

/-- The exact product; `.nan` for infinity times zero. -/
def XVal.prod (a b : XVal) : XVal :=
  match a, b with
  | .fin an x xd, .fin bn y yd => .fin (an != bn) (x * y) (xd * yd)
  | .inf x, .inf y => .inf (x != y)
  | .inf x, .fin bn y _ => if y = 0 then .nan else .inf (x != bn)
  | .fin an x _, .inf y => if x = 0 then .nan else .inf (an != y)
  | _, _ => .nan

/-- The value with its sign changed. -/
def XVal.negate : XVal → XVal
  | .fin n a d => .fin (!n) a d
  | .inf n => .inf (!n)
  | .nan => .nan

/-- Integer square root by bits, most significant first. -/
def isqrtBits (n : Nat) : Nat → Nat → Nat
  | 0, r => r
  | k + 1, r => if (r + 2 ^ k) * (r + 2 ^ k) ≤ n then isqrtBits n k (r + 2 ^ k) else isqrtBits n k r

/-- Floor of the square root. -/
def isqrt (n : Nat) : Nat := isqrtBits n (Nat.log2 n / 2 + 1) 0

/-- The square root of `m * 2 ^ e` (`m` positive) as a rational that rounds to any binary format of at most 64 significand
bits exactly as the root itself does: the integer root of `m` shifted up, and one half more where the root is not exact. -/
def sqrtRat (m : Nat) (e : Int) : XVal :=
  let m' := if e % 2 = 0 then m else 2 * m
  let e' := if e % 2 = 0 then e else e - 1
  let n := m' * 2 ^ 160
  let r := isqrt n
  if r * r = n then XVal.ofScaled false r (e' / 2 - 80) else XVal.ofScaled false (2 * r + 1) (e' / 2 - 81)

/-- The significand and exponent of a finite pattern: its value is the first times two to the second. -/
def FloatFmt.parts (f : FloatFmt) (p : Nat) : Nat × Int :=
  let mag := f.magOf p
  let e := mag / 2 ^ f.frac
  let m := mag % 2 ^ f.frac
  if e = 0 then (m, f.qmin) else (2 ^ f.frac + m, f.qmin + (e : Int) - 1)

/-- Add (IEEE 754-2019 5.4.1). -/
def FloatFmt.add (f : FloatFmt) (dir a b : Nat) : Fl :=
  (f.nanResult [a, b]).getD (f.deliver dir (XVal.sum dir (f.decode a) (f.decode b)))

/-- Subtract. -/
def FloatFmt.sub (f : FloatFmt) (dir a b : Nat) : Fl :=
  (f.nanResult [a, b]).getD (f.deliver dir (XVal.sum dir (f.decode a) (f.decode b).negate))

/-- Multiply. -/
def FloatFmt.mul (f : FloatFmt) (dir a b : Nat) : Fl :=
  (f.nanResult [a, b]).getD (f.deliver dir (XVal.prod (f.decode a) (f.decode b)))

/-- The quotient of two values that are not NaN, with divideByZero for a finite non-zero dividend. -/
def FloatFmt.quotient (f : FloatFmt) (dir : Nat) : XVal → XVal → Fl
  | .inf _, .inf _ => ⟨f.canon, flInvalid⟩
  | .inf x, .fin bn _ _ => ⟨f.mk' (x != bn) f.infMag, 0⟩
  | .fin an _ _, .inf y => ⟨f.mk' (an != y) 0, 0⟩
  | .fin an x xd, .fin bn y yd =>
    if y = 0 then
      if x = 0 then ⟨f.canon, flInvalid⟩ else ⟨f.mk' (an != bn) f.infMag, flDivZero⟩
    else f.round dir (an != bn) (x * yd) (xd * y)
  | _, _ => ⟨f.canon, flInvalid⟩

/-- Divide. -/
def FloatFmt.div (f : FloatFmt) (dir a b : Nat) : Fl :=
  (f.nanResult [a, b]).getD (f.quotient dir (f.decode a) (f.decode b))

/-- Fused multiply-add `a * b + c`, one rounding. Infinity times zero is invalid whatever number is added; a NaN operand is the result
(R244: the first NaN operand). -/
def FloatFmt.fma (f : FloatFmt) (dir a b c : Nat) : Fl :=
  let p := XVal.prod (f.decode a) (f.decode b)
  match f.nanResult [a, b, c] with
  | some r => r
  | none => f.deliver dir (XVal.sum dir p (f.decode c))

/-- The square root in layout `g` of a pattern of layout `f` that is not NaN. -/
def FloatFmt.root (g f : FloatFmt) (dir a : Nat) : Fl :=
  if f.magOf a = 0 then ⟨g.mk' (f.signOf a) 0, 0⟩
  else if f.signOf a then ⟨g.canon, flInvalid⟩
  else if f.magOf a = f.infMag then ⟨g.infMag, 0⟩
  else
    let p := f.parts a
    g.deliver dir (sqrtRat p.1 p.2)

/-- Square root. -/
def FloatFmt.sqrt (f : FloatFmt) (dir a : Nat) : Fl := (f.nanResult [a]).getD (f.root f dir a)

/-- remainder: `x - y * n` for the integer `n` nearest `x / y`, ties to even; exact, a zero taking the sign of `x`. -/
def FloatFmt.rem (f : FloatFmt) (a b : Nat) : Fl :=
  (f.nanResult [a, b]).getD
    (match f.decode a, f.decode b with
     | .inf _, _ => ⟨f.canon, flInvalid⟩
     | .fin _ _ _, .inf _ => ⟨a % 2 ^ f.width, 0⟩
     | .fin an x xd, .fin _ y yd =>
       if y = 0 then ⟨f.canon, flInvalid⟩
       else
         let n := roundMag 0 false (x * yd) (xd * y)
         match XVal.addFin an an x xd (!an) (n * y) yd with
         | .fin rn r rd => if r = 0 then ⟨f.mk' an 0, 0⟩ else f.round 0 rn r rd
         | _ => ⟨f.canon, flInvalid⟩
     | _, _ => ⟨f.canon, flInvalid⟩)

/-- roundToIntegral in direction `dir`; the `exact` form alone signals inexact. -/
def FloatFmt.toIntegral (f : FloatFmt) (dir : Nat) (exact : Bool) (a : Nat) : Fl :=
  (f.nanResult [a]).getD
    (match f.decode a with
     | .fin neg num den =>
       let m := roundMag dir neg num den
       ⟨(f.round 0 neg m 1).pat, if exact && decide (num % den ≠ 0) then flInexact else 0⟩
     | _ => ⟨a % 2 ^ f.width, 0⟩)

/-- nextUp (`down = false`) or nextDown. -/
def FloatFmt.next (f : FloatFmt) (down : Bool) (a : Nat) : Fl :=
  (f.nanResult [a]).getD
    (let neg := f.signOf a
     let mag := f.magOf a
     if mag = 0 then ⟨f.mk' down 1, 0⟩
     else if neg = down then
       if mag = f.infMag then ⟨a % 2 ^ f.width, 0⟩ else ⟨f.mk' neg (mag + 1), 0⟩
     else ⟨f.mk' neg (mag - 1), 0⟩)

/-- logB: the exponent of a finite non-zero operand, delivered in the operand's format. -/
def FloatFmt.logB (f : FloatFmt) (a : Nat) : Fl :=
  (f.nanResult [a]).getD
    (match f.decode a with
     | .fin _ num den =>
       if num = 0 then ⟨f.mk' true f.infMag, flDivZero⟩
       else let e := ilog2 num den
            f.round 0 (decide (e < 0)) e.natAbs 1
     | _ => ⟨f.infMag, 0⟩)

/-- scaleB: the operand times two to the integer `n`, rounded once. -/
def FloatFmt.scaleB (f : FloatFmt) (dir a : Nat) (n : Int) : Fl :=
  (f.nanResult [a]).getD
    (match (f.decode a) with
     | .fin neg num den => f.deliver dir ((XVal.fin neg num den).scale (max (min n 5000) (-5000)))
     | _ => ⟨a % 2 ^ f.width, 0⟩)

/-- minimum, maximum, minimumNumber, maximumNumber (IEEE 754-2019 9.6): -0 lies below +0; the Number forms prefer a number
to a NaN. -/
def FloatFmt.minMax (f : FloatFmt) (isMax number : Bool) (a b : Nat) : Fl :=
  let pick : Nat :=
    if isMax then (if (f.decode a).below (f.decode b) then b else a)
    else (if (f.decode b).below (f.decode a) then b else a)
  let sig := if f.isSig a || f.isSig b then flInvalid else 0
  match f.isNan a, f.isNan b with
  | false, false => ⟨pick % 2 ^ f.width, 0⟩
  | true, false => if number then ⟨b % 2 ^ f.width, sig⟩ else ⟨f.quiet a % 2 ^ f.width, sig⟩
  | false, true => if number then ⟨a % 2 ^ f.width, sig⟩ else ⟨f.quiet b % 2 ^ f.width, sig⟩
  | true, true => ⟨f.quiet a % 2 ^ f.width, sig⟩

/-- The relation of two operands: 8 less, 4 equal, 2 greater, 1 unordered. -/
def FloatFmt.relation (f : FloatFmt) (a b : Nat) : Nat :=
  if f.isNan a || f.isNan b then 1
  else if f.magOf a = 0 ∧ f.magOf b = 0 then 4
  else if (f.decode a).below (f.decode b) then 8
  else if (f.decode b).below (f.decode a) then 2
  else 4

/-- A comparison predicate given as the set of relations it holds for; the signalling forms raise invalid on any NaN. -/
def FloatFmt.compare (f : FloatFmt) (rels : Nat) (signalling : Bool) (a b : Nat) : Bool × Nat :=
  (decide (Nat.land rels (f.relation a b) ≠ 0),
   if f.isSig a || f.isSig b || (signalling && (f.isNan a || f.isNan b)) then flInvalid else 0)

/-- totalOrder (IEEE 754-2019 5.10): patterns as sign-magnitude integers, with a negative below a positive. -/
def FloatFmt.totalOrder (f : FloatFmt) (a b : Nat) : Bool :=
  match f.signOf a, f.signOf b with
  | true, false => true
  | false, true => false
  | false, false => decide (f.magOf a ≤ f.magOf b)
  | true, true => decide (f.magOf b ≤ f.magOf a)

/-- The IEEE class of an operand: 0 signallingNaN, 1 quietNaN, 2 -inf, 3 -normal, 4 -subnormal, 5 -0, 6 +0, 7 +subnormal,
8 +normal, 9 +inf. -/
def FloatFmt.classOf (f : FloatFmt) (a : Nat) : Nat :=
  let mag := f.magOf a
  if f.isNan a then (if f.isSig a then 0 else 1)
  else
    let k := if mag = f.infMag then 0 else if 2 ^ f.frac ≤ mag then 1 else if mag = 0 then 3 else 2
    if f.signOf a then 2 + k else 9 - k

/-- Conversion between IEEE formats: rounds once, raises the flags, adds nothing to the counts (R245). -/
def convertIeee (src dst : FloatFmt) (dir a : Nat) : Fl :=
  if src.isNan a then
    ⟨dst.mk' (src.signOf a) (dst.infMag + 2 ^ (dst.frac - 1) +
        (if src.width = dst.width then a % 2 ^ (dst.frac - 1)
         else Config.nanPayload src.width dst.width a % 2 ^ (dst.frac - 1))),
      if src.isSig a then flInvalid else 0⟩
  else dst.deliver dir (src.decode a)

/-- A signed or unsigned integer of `w` bits converted to an IEEE format. -/
def FloatFmt.ofIntPat (f : FloatFmt) (dir w : Nat) (signed : Bool) (p : Nat) : Fl :=
  let i : Int := if signed then toSigned w p else ((p % 2 ^ w : Nat) : Int)
  f.round dir (decide (i < 0)) i.natAbs 1

/-- convertToInteger into `w` bits (IEEE 754-2019 5.8); `exact` forms signal inexact. An operand with no result in range is
invalid and its result is open. -/
def FloatFmt.toIntPat (f : FloatFmt) (dir w : Nat) (signed exact : Bool) (a : Nat) : Fl :=
  let bad : Fl := ⟨Config.invalidInteger w a % 2 ^ w, flInvalid⟩
  match f.decode a with
  | .fin neg num den =>
    let m := roundMag dir neg num den
    let lim := if signed then (if neg then 2 ^ (w - 1) else 2 ^ (w - 1) - 1) else (if neg then 0 else 2 ^ w - 1)
    if lim < m then bad
    else ⟨if neg ∧ m ≠ 0 then 2 ^ w - m else m, if exact && decide (num % den ≠ 0) then flInexact else 0⟩
  | _ => bad

/-- An operation on operands of several formats, delivered once in layout `g` (IEEE 754-2019 5.4.1, formatOf): a NaN operand is converted
to it, the first in operand order, and any that signals raises invalid; `k` acts on exact values. -/
def FloatFmt.mixed (g : FloatFmt) (dir : Nat) (ops : List (FloatFmt × Nat)) (k : List XVal → Fl) : Fl :=
  match ops.find? fun o => o.1.isNan o.2 with
  | some o => ⟨(convertIeee o.1 g dir o.2).pat, if ops.any (fun q => q.1.isSig q.2) then flInvalid else 0⟩
  | none => k (ops.map fun o => o.1.decode o.2)

end Sys2Proof.Machine
end

