-- ==== Sys2Proof/Machine/OptMath.lean ====
section
/-!
DEFINITION. The optimizer's arithmetic (R179 to R183): binary32 operations rounded to nearest with ties to even, the constants
of a STEP, the update sequences of the three rules, and the sum of squares.
-/

namespace Sys2Proof.Machine

/-! ### Binary32 operations (R179) -/

def f32Add (a b : Nat) : Nat := (fFP32.add 0 a b).pat
def f32Sub (a b : Nat) : Nat := (fFP32.sub 0 a b).pat
def f32Mul (a b : Nat) : Nat := (fFP32.mul 0 a b).pat
def f32Div (a b : Nat) : Nat := (fFP32.div 0 a b).pat
def f32Fma (a b c : Nat) : Nat := (fFP32.fma 0 a b c).pat
def f32Sqrt (a : Nat) : Nat := (fFP32.sqrt 0 a).pat
def f32Neg (a : Nat) : Nat := if a < 2 ^ 31 then a + 2 ^ 31 else a - 2 ^ 31

/-- The binary32 pattern of 1. -/
def f32One : Nat := 0x3F800000

/-- NaN of either kind and sign. -/
def f32IsNan (a : Nat) : Bool := fFP32.isNan a

/-- Infinity of either sign. -/
def f32IsInf (a : Nat) : Bool := a % 2 ^ 31 == 0x7F800000

/-- Every NaN stored is 0x7FC0_0000 (R179). -/
def f32Store (a : Nat) : Nat := if f32IsNan a then 0x7FC00000 else a

/-- b^t rounded once to binary32 to nearest-even, for a finite b at or above 0 (R180). Where b is so far below 1 that b^t is below
e^-104, less than half the smallest subnormal number, it rounds to 0, and where it is above e^89, more than 2^128, to infinity: with
b = 1 - d, b^t is at most e^(-dt), and with b = 1 / (1 - d) at least e^(dt). These two are taken without the power itself (log entry 29). -/
def powRn (b t : Nat) : Nat :=
  match fFP32.decode b with
  | .fin _ num den =>
    if 104 * den ≤ t * (den - num) then 0
    else if 89 * num < t * (num - den) then 0x7F800000
    else fFP32.roundPat 0 false (num ^ t) (den ^ t)
  | _ => 0

/-! ### The STEP's fields (R95, R173) -/

/-- The fields of a STEP payload, every zero as +0. -/
structure StepArgs where
  t     : Nat
  lr    : Nat
  beta1 : Nat
  beta2 : Nat
  eps   : Nat
  wd    : Nat
  clip  : Nat
  deriving DecidableEq, Repr

/-- A binary32 field with a negative zero read as +0 (R173). -/
def plusZero (a : Nat) : Nat := if a = 2 ^ 31 then 0 else a

/-- The fields of a STEP. -/
def stepArgs (pl : List Byte) : StepArgs :=
  let f (i : Nat) : Nat := plusZero (beNat ((pl.drop i).take 4))
  ⟨beNat (pl.take 8), f 8, f 12, f 16, f 20, f 24, f 28⟩

/-- Finite and at or above 0. -/
def f32NonNeg (a : Nat) : Bool := decide (a < 0x7F800000)

/-- Finite, 0 to below 1. -/
def f32Fraction (a : Nat) : Bool := decide (a < f32One)

/-- Every field lies within Table 7.4; `rule` 0 is the adaptive-moment rule. -/
def StepArgs.ok (a : StepArgs) (rule : Nat) : Bool :=
  decide (1 ≤ a.t) && decide (a.t < 2 ^ 48) && f32NonNeg a.lr && f32NonNeg a.wd && f32NonNeg a.clip
    && (if rule = 0 then f32Fraction a.beta1 && f32Fraction a.beta2 && f32NonNeg a.eps else f32NonNeg a.beta1)

/-! ### Constants (R180) -/

/-- The constants of an accepted STEP. -/
structure Consts where
  omb1 : Nat
  omb2 : Nat
  lwd  : Nat
  a1   : Nat
  bc2  : Nat
  q2   : Nat
  s    : Nat
  deriving DecidableEq, Repr

/-- The constants of R180; with NO_BC and under a momentum rule there is no bias correction. -/
def constsOf (a : StepArgs) (noBc : Bool) : Consts :=
  let omb1 := f32Sub f32One a.beta1
  let omb2 := f32Sub f32One a.beta2
  let lwd := f32Mul a.lr a.wd
  let s := if a.clip = 0 then f32One else a.clip
  if noBc then ⟨omb1, omb2, lwd, a.lr, f32One, f32One, s⟩
  else
    let bc1 := f32Sub f32One (powRn a.beta1 a.t)
    let bc2 := f32Sub f32One (powRn a.beta2 a.t)
    ⟨omb1, omb2, lwd, f32Div a.lr bc1, bc2, f32Sqrt bc2, s⟩

/-! ### Update sequences -/

/-- What an element's update leaves: the weight and the moments, unrounded. -/
structure Updated where
  w : Nat
  m : Nat
  v : Nat
  deriving DecidableEq, Repr

/-- The adaptive-moment rule (R181). -/
def adaptive (a : StepArgs) (k : Consts) (epsIn : Bool) (w m v g : Nat) : Updated :=
  let g1 := if k.s = f32One then g else f32Mul g k.s
  let m1 := f32Fma a.beta1 m (f32Mul k.omb1 g1)
  let t3 := f32Mul k.omb2 (f32Mul g1 g1)
  let v1 := f32Fma a.beta2 v t3
  let d := if epsIn then f32Sqrt (f32Add (f32Div v1 k.bc2) a.eps) else f32Add (f32Div (f32Sqrt v1) k.q2) a.eps
  let u := f32Div m1 d
  let w1 := if a.wd = 0 then w else f32Fma (f32Neg k.lwd) w w
  ⟨f32Fma (f32Neg k.a1) u w1, m1, v1⟩

/-- The momentum rules (R182). -/
def momentum (a : StepArgs) (k : Consts) (lookAhead dampen : Bool) (w m g : Nat) : Updated :=
  let g1 := if k.s = f32One then g else f32Mul g k.s
  let g2 := if a.wd = 0 then g1 else f32Fma a.wd w g1
  let m1 := if dampen then f32Fma a.beta1 m (f32Mul k.omb1 g2) else f32Fma a.beta1 m g2
  let n := if lookAhead then f32Fma a.beta1 m1 g2 else m1
  ⟨f32Fma (f32Neg a.lr) n w, m1, 0⟩

/-! ### Sum of squares (R183) -/

/-- An exact sum of squares of binary32 values, in units of 2^-298, with its NaN and infinity marks. -/
structure Squares where
  units : Nat := 0
  nan   : Bool := false
  inf   : Bool := false
  deriving DecidableEq, Repr

/-- The square of a finite binary32 value in units of 2^-298. -/
def squareUnits (g : Nat) : Nat :=
  match fFP32.decode g with
  | .fin _ num den => (num * 2 ^ 149 / den) ^ 2
  | _ => 0

def Squares.add (s : Squares) (g : Nat) : Squares :=
  if f32IsNan g then { s with nan := true }
  else if f32IsInf g then { s with inf := true }
  else { s with units := s.units + squareUnits g }

/-- SUMSQ as binary64 (R183). -/
def Squares.binary64 (s : Squares) : Nat :=
  if s.nan then 0x7FF8000000000000
  else if s.inf then 0x7FF0000000000000
  else fFP64.roundPat 0 false s.units (2 ^ 298)

end Sys2Proof.Machine
end

