-- ==== Sys2Proof/Machine/CtxTypes.lean ====
section
/-!
DEFINITION. The state of contexts, pool regions and gather requests (chapters 5 to 9) as plain data.
-/

namespace Sys2Proof.Machine

/-- States of a context whose number is not FREE (Table 5.5). -/
inductive CtxSt where
  | settingUp | armed | active | complete | draining | quarantine
  deriving DecidableEq, Repr

/-- The code SVC_CTX_STATE gives a state (Table 5.7). -/
def CtxSt.code : CtxSt → Nat
  | .settingUp => 1 | .armed => 2 | .active => 3 | .complete => 4 | .draining => 5 | .quarantine => 6

/-- STATE of a context's steering entry (Table 12.6). -/
inductive Steer where
  | absent | open_ | closed | held
  deriving DecidableEq, Repr

/-- A chunk's parameter state as staged: the W, M and V bytes in span order, S[c], and whether a line was uncorrectable
(R176). -/
structure Staged where
  w   : List Byte
  m   : List Byte
  v   : List Byte
  s   : Nat
  bad : Bool
  deriving DecidableEq, Repr

/-- A slot in use: the chunk's bitmap, its accumulators or extremes or carried bytes, the counts and the partial hash of its
accepted contributions, whether ranks came out of order, whether it is poisoned, and its staged state (R126, R149, R399,
R402). -/
structure Slot where
  bitmap : Nat := 0
  accs   : List Accum := []
  exts   : List XVal := []
  raw    : List Byte := []
  sat    : Nat := 0
  flush  : Nat := 0
  hash   : Nat := 0
  mixed  : Bool := false
  bad    : Bool := false
  staged : Option Staged := none
  deriving DecidableEq, Repr

/-- A RESULT as formed and retained: its FMT, its payload, and its retention block (R128, R149). -/
structure Kept where
  fmt     : Nat
  payload : List Byte
  deriving DecidableEq, Repr

/-- What a chunk's release adds to its generation (R70, R99, R183, R399, R402): counts, lane-hash parts, whether its ranks came out
of order, whether it is poisoned, the squares of its gradients, and non-finite weights. -/
structure ChunkEnd where
  sat       : Nat := 0
  flush     : Nat := 0
  inHash    : Nat := 0
  outHash   : Nat := 0
  paramHash : Nat := 0
  mixed     : Bool := false
  bad       : Bool := false
  squares   : Squares := {}
  replayed  : Bool := false
  nonfinite : Nat := 0
  deriving DecidableEq, Repr

/-- An update unit issued and not yet written (R176 step 4): its writes by physical address, the RESULT and the release that
follow it, and whether its chunk still waits for them. -/
structure Unit_ where
  gen    : Nat
  writes : List (Nat × List Byte)
  out    : Kept
  fin    : ChunkEnd
  live   : Bool
  deriving DecidableEq, Repr

/-- What one generation of a context holds. -/
structure Run where
  startAt    : Nat := 0
  start      : Option Nat := none
  finish     : Nat := 0
  timerAt    : Option Nat := none
  slots      : Tbl Slot := []
  fin        : List Nat := []
  done       : Nat := 0
  reports    : List Nat := []
  low        : Nat := 0
  rel        : List Nat := []
  grantSent  : Nat := 0
  grantAt    : Nat := 0
  grantDue   : Option Nat := none
  closing    : Bool := false
  sat        : Nat := 0
  flush      : Nat := 0
  tchoice    : Nat := 0
  bchoice    : Nat := 0
  inHash     : Nat := 0
  outHash    : Nat := 0
  paramHash  : Nat := 0
  poisoned   : List Nat := []
  seqs       : Tbl Nat := []
  record     : Option (List Byte) := none
  completeDue : Bool := false
  deriving DecidableEq, Repr

/-- What a generation of an optimizer context holds beside: the accepted STEP's payload, and the exact sum of squares with its
NaN and infinity marks (R175, R183). -/
structure OptRun where
  step    : Option (List Byte) := none
  squares : Squares := {}
  deriving DecidableEq, Repr

/-- What a context keeps through REARM: who set it up, its descriptor, members and placement, and its reservations. -/
structure CtxFix where
  kind     : Nat
  job      : Nat
  desc     : List Byte
  convener : Nat
  setupId  : Nat
  setupPkt : Packet
  gen0     : Nat
  port     : Nat
  members  : List Nat
  mlist    : Nat
  c        : Nat
  n        : Nat
  k        : Nat
  w        : Nat
  slotKib  : Nat
  tiles    : List Nat
  tokens   : Nat
  blocks   : List (Nat × Nat)
  deriving DecidableEq, Repr

/-- A context (R133). -/
structure Ctx where
  fix       : CtxFix
  gen       : Nat
  state     : CtxSt := .settingUp
  endStatus : Nat := 0
  steer     : Steer := .absent
  holdFrom  : Option (Nat × Nat) := none
  rearm     : List (Nat × Packet) := []
  tear      : Option (Nat × Packet) := none
  since     : Nat := 0
  run       : Run := {}
  opt       : OptRun := {}
  optHdr    : Nat × Nat := (0, 0)
  bound     : Bool := false
  units     : Tbl Unit_ := []
  kept      : Tbl Kept := []
  oldSeqs   : Tbl Nat := []
  suspect   : Bool := false
  lost      : Bool := false
  ackDue    : Bool := false
  deriving DecidableEq, Repr

/-- A SETUP under assembly (R90): its parts' payloads by number, and the port and header of part 0. -/
structure Asm where
  src     : Nat
  setupId : Nat
  at_     : Nat
  kind    : Nat
  parts   : Nat
  got     : Tbl (List Byte)
  first   : Option (Nat × Packet)
  port    : Nat
  deriving DecidableEq, Repr

/-- An assembled SETUP: the port and header of part 0, its S0, the descriptor and the member entries (R89, R90). -/
structure SetupMsg where
  port    : Nat
  pkt     : Packet
  kind    : Nat
  setupId : Nat
  parts   : Nat
  desc    : List Byte
  entries : List Nat
  at_     : Nat
  deriving DecidableEq, Repr

/-- A setup in the deferral queue with its finish tag and the members that step 5 of Table 5.4 found (R132, R353). -/
structure Deferred where
  id      : Nat
  msg     : SetupMsg
  job     : Nat
  tagF    : Nat
  members : List Nat
  deriving DecidableEq, Repr

/-- What Temond holds while a domain is under reset or a live activation runs (R462, R493). -/
inductive HeldMsg where
  | setup (m : SetupMsg)
  | ctl (port : Nat) (p : Packet)
  deriving DecidableEq, Repr

/-- The virtual time and last finish tags of a weighted fair arbiter (R352). -/
structure Wfq where
  v : Nat := 0
  f : Tbl Nat := []
  deriving DecidableEq, Repr

/-- A packet on the service path past its steering lookup, the tile it is for, and the generation of the tile's partition as the edge knew it (R24,
R25, R256, R293). -/
structure Flight where
  id   : Nat
  port : Nat
  ctx  : Nat
  pkt  : Packet
  tile : Nat
  pgen : Nat
  deriving DecidableEq, Repr

/-- One hub die's part of a RESEND: its chunks, whether it also holds the completion record, and its answer (R157). -/
structure ResendPart where
  hub    : Nat
  chunks : List Nat
  record : Bool
  answer : Option Bool
  deriving DecidableEq, Repr

/-- A RESEND split by its port die (R157); `kept` and `rec_` are the RESULTs and the completion record that the hub dies which passed
hold. -/
structure Resend where
  id    : Nat
  port  : Nat
  ctx   : Nat
  pkt   : Packet
  parts : List ResendPart
  kept  : List (Nat × Kept)
  rec_  : Option (List Byte)
  deriving DecidableEq, Repr

/-- A stored member list (R123). -/
structure MList where
  job     : Nat
  entries : List Nat
  deriving DecidableEq, Repr

/-- Temond's tables of the collective service. -/
structure Svc where
  ctxs     : Tbl Ctx := []
  nextNew  : Nat := 1
  freed    : List Nat := []
  lastGen  : Tbl Nat := []
  leftAt   : Tbl (Nat × Nat) := []
  asms     : List Asm := []
  deferq   : List Deferred := []
  defArb   : Wfq := {}
  mlists   : Tbl MList := []
  flight   : List Flight := []
  resends  : List Resend := []
  quar     : List (List Byte) := []
  snap     : List Nat := []
  holding  : Bool := false
  held     : List HeldMsg := []
  deriving DecidableEq, Repr

/-- States of a region that is not FREE (Table 8.1). -/
inductive RgnSt where
  | live | draining | quarantine
  deriving DecidableEq, Repr

def RgnSt.code : RgnSt → Nat
  | .live => 1 | .draining => 2 | .quarantine => 3

/-- A pool region (R190, R192): its pages' numbers within their stacks, in page order. -/
structure Region where
  state   : RgnSt := .live
  job     : Nat
  key     : Nat
  perm    : Nat
  orddef  : Nat
  size    : Nat
  stackSet : List Nat
  base    : Nat
  pages   : List Nat
  since   : Nat := 0
  answer  : Option (Option (Nat × Packet)) := none
  deriving DecidableEq, Repr

/-- A region operation waiting for Temond: D0, D1 and the job, and the SETUP it came in, none for the registers (R194). -/
structure RegOp where
  d0   : Nat
  d1   : Nat
  job  : Nat
  from_ : Option (Nat × Packet)
  deriving DecidableEq, Repr

/-- A region operation taken by Temond under a (SRC, SETUP_ID): its answer once given, and the repeats that wait (R196). -/
structure RegAnswer where
  src     : Nat
  setupId : Nat
  at_     : Nat
  status  : Option Nat
  region  : Nat
  repeats : List (Nat × Packet)
  deriving DecidableEq, Repr

/-- A pool access past its steering lookup: where it entered, its region and home, whether it is ordered, whether it has been
forwarded to its home and holds an entry, whether the stack has chosen it, the earlier accesses a fence waits for, the first
bytes of its frame for the mirror (R206, R210, R331), and how far it has been performed: the lines done, the bytes read from them, and whether
one of them completed a race (R204, R212). -/
structure PReq where
  id      : Nat
  port    : Nat
  pkt     : Packet
  region  : Nat
  stack   : Nat
  stream  : Bool
  sent    : Bool
  served  : Bool
  tagF    : Nat
  behind  : List Nat
  dups    : List (Nat × Packet)
  head    : List Byte
  next    : Nat := 0
  got     : List Byte := []
  raced   : Bool := false
  deriving DecidableEq, Repr

/-- An open ordered stream (R107, R206); `refused` holds the SEQs that refused accesses consumed, which no ACK may name (R208). -/
structure Stream where
  die      : Nat
  src      : Nat
  region   : Nat
  expected : Nat
  at_      : Nat
  refused  : List Nat := []
  deriving DecidableEq, Repr

/-- A line access the race tracker remembers: the region and line, the bytes touched, the source, whether it wrote, when, and
the gather context that read, with its generation (context 0 for a pool access) (R212, R229). -/
structure Track where
  region : Nat
  line   : Nat
  lo     : Nat
  hi     : Nat
  src    : Nat
  write  : Bool
  at_    : Nat
  gctx   : Nat
  ggen   : Nat
  deriving DecidableEq, Repr

/-- A hub die's race tracker: the last line accesses, newest first, and the accesses it dropped whose window has not passed
(R212, R229). -/
structure Tracker where
  seen : List Track := []
  lost : List Track := []
  deriving DecidableEq, Repr

/-- One line read of a gather: its row, its line's offset in the region, the row's bytes it holds once read, its tag in its stack's arbiter,
and the status of the check that keeps it from entering there (R222, R354). -/
structure GLine where
  row    : Nat
  off    : Nat
  lo     : Nat
  len    : Nat
  data   : Option (List Byte)
  tagF   : Nat
  served : Bool
  bad    : Option Nat := none
  deriving DecidableEq, Repr

/-- A gather request that holds an entry (R223): its lines in order, the response bytes already sent, and its reduced
segments. -/
structure GReq where
  id      : Nat
  port    : Nat
  ctx     : Nat
  pkt     : Packet
  lines   : List GLine
  sent    : Nat
  segs    : List Nat
  tile    : Nat
  deriving DecidableEq, Repr

/-- A memory stack's controller (R414, R425 to R427): power state, background work, pages being zeroed, and its arbiter. -/
structure StackSt where
  off       : Bool := true
  retrain   : Bool := false
  asleep    : Bool := false
  lastUse   : Nat := 0
  recalAt   : Nat := 0
  recalTemp : Int := 0
  dueAt     : Option Nat := none
  busyTo    : Nat := 0
  zeroing   : List Nat := []
  taken     : Nat := 0
  scrubPos  : Nat := 0
  passFrom  : Nat := 0
  scrubAt   : Nat := 0
  catchup   : Bool := false
  arb       : Wfq := {}
  deriving DecidableEq, Repr

/-- The pool and gather services. -/
structure PoolSt where
  regions  : Tbl Region := []
  freed    : List Nat := []
  ops      : List RegOp := []
  answers  : List RegAnswer := []
  reqs     : List PReq := []
  streams  : List Stream := []
  trackers : Tbl Tracker := []
  greqs    : List GReq := []
  gtile    : Nat := 0
  cmdBusy  : Bool := false
  cmdStatus : Nat := 0
  cmdRegion : Nat := 0
  cmdSeq   : Nat := 0
  poison   : List (Nat × Nat) := []
  hbm      : Tbl StackSt := []
  mirrorRgn : Nat := 0
  deriving DecidableEq, Repr

end Sys2Proof.Machine
end

