-- ==== Sys2Proof/Machine/NvmTypes.lean ====
section
/-!
DEFINITION. The state of power (chapter 17), of the flash devices and of the start (chapter 20), and of crash dumps (R469), as plain
data.
-/

namespace Sys2Proof.Machine

/-- The power controller (R416, R422, R423): when it last read the sensors, the hottest readings of the last 1 ms, newest first, in
1/8 °C, the last multiple of 1 ms it evaluated, evaluations in a row that met the conditions of R423 step 2, the multiple at which
STEP last changed, the words of PWR_CLASS_k as the last evaluation found them, by which admissions go (R421), and the sensors whose last
reading was 105.0 °C or more (R424). -/
structure PowSt where
  readAt : Option Nat := none
  tj     : List Int := []
  evalAt : Nat := 0
  okRun  : Nat := 0
  stepAt : Nat := 0
  costs  : Tbl Nat := []
  crit   : List Nat := []
  deriving DecidableEq, Repr

/-- An entry of an Eudel image (R478). -/
structure Entry where
  key  : List Byte
  typ  : Nat
  opt  : Bool
  val  : List Byte
  deriving DecidableEq, Repr

/-- An Eudel image as read: MINCOMPAT, IMAGE_SEQ, the entries, the SHA-256 of the logical image, and the signer's public key (none for
a Knagen key) (R478, R479). -/
structure Eudel where
  compat : Nat := 1
  seq    : Nat := 0
  entries : List Entry := []
  hash   : List Byte := []
  signer : Option (List Byte) := none
  deriving DecidableEq, Repr

/-- A partition record: LENGTH and the hash; the staging partition's STATE is `stg` (R476). -/
structure FlashRec where
  length : Nat
  hash   : List Byte
  deriving DecidableEq, Repr

/-- A flash partition: the 4 KiB pages that are not erased, and the record of its last page (R476). -/
structure Part where
  pages  : Tbl (List Byte) := []
  record : Option FlashRec := none
  deriving DecidableEq, Repr

/-- A crash dump as written (R469, Table 19.6): the header's numbers, and the words of each section. -/
structure Dump where
  dseq     : Nat
  logSeq   : Nat
  omitted  : Nat
  at_      : Nat
  done     : Nat
  head     : List Nat
  snap     : List Nat
  ctxs     : List (List Nat)
  regions  : List (List Nat)
  tiles    : List (List Nat)
  trace    : Nat
  deriving DecidableEq, Repr

/-- A live activation under way (R493): whether the new Temond is awaited, and the image slots whose service is paused for its swap. -/
structure Live where
  image   : Eudel
  checked : Bool := false
  slots   : List Nat := []
  from_   : Nat := 0
  deriving DecidableEq, Repr

/-- The flash devices and what the start and the NVM commands keep (chapter 20). `golden` none is the factory's image (R483). -/
structure NvmSt where
  active    : Part := {}
  staging   : Part := {}
  golden    : Option Part := none
  stg       : Nat := 0
  stgHash   : List Byte := []
  bootFails : Nat := 0
  fellback  : Bool := false
  lastReason : Nat := 0
  owners    : List (List Byte) := []
  source    : Nat := 0
  boot      : Option Eudel := none
  refused   : List Nat := []
  run       : Option Eudel := none
  trained   : Bool := false
  stopped   : Bool := false
  badA      : Bool := false
  badB      : Bool := false
  svcTry    : Nat := 0
  warm      : Bool := false
  cmd       : Option Nat := none
  cmdWord   : Nat := 0
  cmdArg1   : Nat := 0
  cmdArg2   : Nat := 0
  reason    : Nat := 0
  doneSeq   : Nat := 0
  actAt     : Option Nat := none
  live      : Option Live := none
  copying   : Bool := false
  mlog      : Tbl (List Nat) := []
  dumps     : Tbl Dump := []
  dumpSlot  : Option Nat := none
  dseq      : Nat := 0
  dumping   : List Nat := []
  deriving DecidableEq, Repr

end Sys2Proof.Machine
end

