-- ==== Sys2Proof/Machine/RegMap.lean ====
section
/-!
DEFINITION. The register map of chapter 23: every register of the spec's tables with its address, its instances and its
fields (bits, access code of Table 0.3, reset value). The tables of the spec are cited by register name.
-/

namespace Sys2Proof.Machine

/-- Access codes (Table 0.3). -/
inductive Access where
  | rw | ro | w1c | w1s | wo | rws
  deriving DecidableEq, Repr

/-- A field: bits [hi:lo], access code and reset value. Bits no field names are reserved (R10). -/
structure RegField where
  hi    : Nat
  lo    : Nat
  acc   : Access
  reset : Nat
  deriving DecidableEq, Repr

/-- The registers of the spec's tables; a constructor stands for every instance of its register. -/
inductive Reg where
  | ctlId | ctlSerial | ctlComplex | ctlMgmtMac | ctlFmtCap | ctlAccCap | ctlTileCap | ctlStart
  | ctlPins | timCount | timStatus | timOffset | timCfg | timEpoch | timStep | timErr
  | timCmd | pwrCap | pwrStatus | pwrTokens | pwrTemp | pwrClkLimit | pwrThrCnt | pwrScrubCfg
  | pwrInput | pwrDieTemp | pwrStackTemp | pwrClass | pwrMem | pwrScrub | fltStatus | fltCounts
  | fltFirst | fltFirstCtl | fltAck | fltMgmtBadacc | fltSelftest | fltCmd | fltDump | fltSearch
  | fltWdgCfg | fltReset | fltReact | fltIsolClr | fltIsol | fltLog | fltDom | nvmCmd
  | nvmArg0 | nvmArg1 | nvmArg2 | nvmStatus | nvmBoot | nvmRunSeq | nvmImgHash | nvmStgHash
  | nvmBuf | prtPortCfg | prtPortCtl | prtLinkStatus | prtCnt | prtQft | prtLaneStatus | prtPfcThresh
  | hubBufClass | hubBufHdrm | hubBufCtl | hubBufStatus | bufCnt | fabSpare | fabMeshDrop | tileStatus
  | tileFlags | tileSat | tileFlush | tileSecc | tileSunc | tileCubecyc | imgCmd | imgArg0
  | imgArg1 | imgArg2 | imgArg3 | imgStatus | subDrop | imgSlot | imgSlotId | imgSlotHash
  | ctxState | ctxSize | ctxProgress | ctxPlace | ctxRx | ctxDup | ctxDrop | ctxLate
  | svcCap | svcAcc | svcRetain | svcMlist | setupResult | quarCtl | quarHash | slotSel
  | slotInfo | slotAcc | optStep | optHdr | optCnt | optStepRx | rgnCfg | rgnSize
  | rgnBase | rgnBchoice | rgnTchoice | rgnAcc | rgnErr | poolCmd | poolArg0 | poolArg1
  | poolCmdStatus | poolOut | poolStreams | poolStat | poolRacewin | poolStack | bpmCap | bpmStat
  | bpmErr | bpmErrFirst | fwdBank | fwdSwapAt | fwdSwapCmd | fwdSwapLast | fwdTblAddr | fwdTblData
  | fwdTblCmd | fwdTblStatus | fwdClassMode | fwdHashCfg | fwdAdaptCfg | fwdCnt | schWeight | schPortShape
  | schPortLevel | schClsShape | schClsLevel | gatePend | gateActAt | gateCmd | gateStatus | gateCnt
  | polPort | polPortDrop | polCls | polClsDrop | schJob | polCtx | polCtxSel | admStatus
  | sampleCfg | admRebase | smpLast | smpMax | smpClr | smpDhist | smpThist | gateEntry
  | mirCfg | mirSel | mirWptr | mirLost | mirRing
  deriving DecidableEq, Repr

/-- Where a register lies: the address of its first instance and its repetitions, outermost first, as (stride, count)
(Tables 23.1 to 23.5). -/
structure RegPlace where
  base : Nat
  dims : List (Nat × Nat)
  deriving DecidableEq, Repr

/-- The place of each register (chapter 23). -/
def Reg.place : Reg → RegPlace
  | .ctlId => ⟨0x0, []⟩ -- CTL_ID
  | .ctlSerial => ⟨0x8, []⟩ -- CTL_SERIAL
  | .ctlComplex => ⟨0x10, []⟩ -- CTL_COMPLEX
  | .ctlMgmtMac => ⟨0x18, []⟩ -- CTL_MGMT_MAC
  | .ctlFmtCap => ⟨0x20, []⟩ -- CTL_FMT_CAP
  | .ctlAccCap => ⟨0x28, []⟩ -- CTL_ACC_CAP
  | .ctlTileCap => ⟨0x30, []⟩ -- CTL_TILE_CAP
  | .ctlStart => ⟨0x40, []⟩ -- CTL_START
  | .ctlPins => ⟨0x48, []⟩ -- CTL_PINS
  | .timCount => ⟨0x100000, []⟩ -- TIM_COUNT
  | .timStatus => ⟨0x100008, []⟩ -- TIM_STATUS
  | .timOffset => ⟨0x100010, []⟩ -- TIM_OFFSET
  | .timCfg => ⟨0x100018, []⟩ -- TIM_CFG
  | .timEpoch => ⟨0x100020, []⟩ -- TIM_EPOCH
  | .timStep => ⟨0x100028, []⟩ -- TIM_STEP
  | .timErr => ⟨0x100030, []⟩ -- TIM_ERR
  | .timCmd => ⟨0x100038, []⟩ -- TIM_CMD
  | .pwrCap => ⟨0x200000, []⟩ -- PWR_CAP
  | .pwrStatus => ⟨0x200008, []⟩ -- PWR_STATUS
  | .pwrTokens => ⟨0x200010, []⟩ -- PWR_TOKENS
  | .pwrTemp => ⟨0x200018, []⟩ -- PWR_TEMP
  | .pwrClkLimit => ⟨0x200020, []⟩ -- PWR_CLK_LIMIT
  | .pwrThrCnt => ⟨0x200028, []⟩ -- PWR_THR_CNT
  | .pwrScrubCfg => ⟨0x200030, []⟩ -- PWR_SCRUB_CFG
  | .pwrInput => ⟨0x200038, []⟩ -- PWR_INPUT
  | .pwrDieTemp => ⟨0x200100, [(0x8, 20)]⟩ -- PWR_DIE_TEMP_d
  | .pwrStackTemp => ⟨0x200200, [(0x8, 16)]⟩ -- PWR_STACK_TEMP_s
  | .pwrClass => ⟨0x200300, [(0x8, 16)]⟩ -- PWR_CLASS_k
  | .pwrMem => ⟨0x200400, [(0x8, 16)]⟩ -- PWR_MEM_s
  | .pwrScrub => ⟨0x200480, [(0x8, 16)]⟩ -- PWR_SCRUB_s
  | .fltStatus => ⟨0x300000, []⟩ -- FLT_STATUS
  | .fltCounts => ⟨0x300008, []⟩ -- FLT_COUNTS
  | .fltFirst => ⟨0x300010, [(0x8, 4)]⟩ -- FLT_FIRSTi
  | .fltFirstCtl => ⟨0x300030, []⟩ -- FLT_FIRST_CTL
  | .fltAck => ⟨0x300038, []⟩ -- FLT_ACK
  | .fltMgmtBadacc => ⟨0x300040, []⟩ -- FLT_MGMT_BADACC
  | .fltSelftest => ⟨0x300048, []⟩ -- FLT_SELFTEST
  | .fltCmd => ⟨0x300050, []⟩ -- FLT_CMD
  | .fltDump => ⟨0x300058, []⟩ -- FLT_DUMP
  | .fltSearch => ⟨0x300060, []⟩ -- FLT_SEARCH
  | .fltWdgCfg => ⟨0x300068, []⟩ -- FLT_WDG_CFG
  | .fltReset => ⟨0x300070, []⟩ -- FLT_RESET
  | .fltReact => ⟨0x301000, [(0x8, 4096)]⟩ -- FLT_REACT_k
  | .fltIsolClr => ⟨0x309FF8, []⟩ -- FLT_ISOL_CLR
  | .fltIsol => ⟨0x30A000, [(0x8, 1024)]⟩ -- FLT_ISOL_n
  | .fltLog => ⟨0x320000, [(0x20, 4096), (0x8, 4)]⟩ -- FLT_LOG_n_i
  | .fltDom => ⟨0x340000, [(0x8, 1497)]⟩ -- FLT_DOM_n
  | .nvmCmd => ⟨0x400000, []⟩ -- NVM_CMD
  | .nvmArg0 => ⟨0x400008, []⟩ -- NVM_ARG0
  | .nvmArg1 => ⟨0x400010, []⟩ -- NVM_ARG1
  | .nvmArg2 => ⟨0x400018, []⟩ -- NVM_ARG2
  | .nvmStatus => ⟨0x400020, []⟩ -- NVM_STATUS
  | .nvmBoot => ⟨0x400028, []⟩ -- NVM_BOOT
  | .nvmRunSeq => ⟨0x400030, []⟩ -- NVM_RUN_SEQ
  | .nvmImgHash => ⟨0x400040, [(0x8, 4)]⟩ -- NVM_IMG_HASH_i
  | .nvmStgHash => ⟨0x400060, [(0x8, 4)]⟩ -- NVM_STG_HASH_i
  | .nvmBuf => ⟨0x401000, [(0x8, 512)]⟩ -- NVM_BUF_i
  | .prtPortCfg => ⟨0x1000000, [(0x100000, 8), (0x100, 96)]⟩ -- PRT_PORT_CFG
  | .prtPortCtl => ⟨0x1000008, [(0x100000, 8), (0x100, 96)]⟩ -- PRT_PORT_CTL
  | .prtLinkStatus => ⟨0x1000010, [(0x100000, 8), (0x100, 96)]⟩ -- PRT_LINK_STATUS
  | .prtCnt => ⟨0x1040000, [(0x100000, 8), (0x100, 96), (0x8, 20)]⟩ -- PRT_RX_FRAMES to PRT_CREDIT_WAIT_NS
  | .prtQft => ⟨0x1080000, [(0x100000, 8), (0x100, 96), (0x8, 13)]⟩ -- PRT_QFT_RX to PRT_QFT_NACKTX
  | .prtLaneStatus => ⟨0x10C0000, [(0x100000, 8), (0x40, 96)]⟩ -- PRT_LANE_STATUS
  | .prtPfcThresh => ⟨0x10F0000, [(0x100000, 8)]⟩ -- PRT_PFC_THRESH
  | .hubBufClass => ⟨0x2000000, [(0x400000, 4), (0x8, 8)]⟩ -- HUB_BUF_CLASS_c
  | .hubBufHdrm => ⟨0x2000040, [(0x400000, 4)]⟩ -- HUB_BUF_HDRM
  | .hubBufCtl => ⟨0x2000048, [(0x400000, 4)]⟩ -- HUB_BUF_CTL
  | .hubBufStatus => ⟨0x2000050, [(0x400000, 4)]⟩ -- HUB_BUF_STATUS
  | .bufCnt => ⟨0x2001000, [(0x400000, 4), (0x80, 8), (0x8, 8)]⟩ -- BUF_ENQ to BUF_FLUSH
  | .fabSpare => ⟨0x3000000, [(0x200000, 8)]⟩ -- FAB_SPARE
  | .fabMeshDrop => ⟨0x3000008, [(0x200000, 8)]⟩ -- FAB_MESH_DROP
  | .tileStatus => ⟨0x3010000, [(0x200000, 8), (0x40, 2640)]⟩ -- FAB_TILE_STATUS
  | .tileFlags => ⟨0x3010008, [(0x200000, 8), (0x40, 2640)]⟩ -- FAB_TILE_FLAGS
  | .tileSat => ⟨0x3010010, [(0x200000, 8), (0x40, 2640)]⟩ -- FAB_TILE_SAT
  | .tileFlush => ⟨0x3010018, [(0x200000, 8), (0x40, 2640)]⟩ -- FAB_TILE_FLUSH
  | .tileSecc => ⟨0x3010020, [(0x200000, 8), (0x40, 2640)]⟩ -- FAB_TILE_SECC
  | .tileSunc => ⟨0x3010028, [(0x200000, 8), (0x40, 2640)]⟩ -- FAB_TILE_SUNC
  | .tileCubecyc => ⟨0x3010030, [(0x200000, 8), (0x40, 2640)]⟩ -- FAB_TILE_CUBECYC
  | .imgCmd => ⟨0x3040000, []⟩ -- FAB_IMG_CMD
  | .imgArg0 => ⟨0x3040008, []⟩ -- FAB_IMG_ARG0
  | .imgArg1 => ⟨0x3040010, []⟩ -- FAB_IMG_ARG1
  | .imgArg2 => ⟨0x3040018, []⟩ -- FAB_IMG_ARG2
  | .imgArg3 => ⟨0x3040020, []⟩ -- FAB_IMG_ARG3
  | .imgStatus => ⟨0x3040028, []⟩ -- FAB_IMG_STATUS
  | .subDrop => ⟨0x3040030, []⟩ -- FAB_SUB_DROP
  | .imgSlot => ⟨0x3041000, [(0x40, 64)]⟩ -- FAB_IMG_SLOT_n
  | .imgSlotId => ⟨0x3041008, [(0x40, 64)]⟩ -- FAB_IMG_SLOT_n (+0x08)
  | .imgSlotHash => ⟨0x3041010, [(0x40, 64), (0x8, 4)]⟩ -- FAB_IMG_SLOT_n (+0x10 to +0x28)
  | .ctxState => ⟨0x4000000, [(0x40, 65536)]⟩ -- SVC_CTX_STATE
  | .ctxSize => ⟨0x4000008, [(0x40, 65536)]⟩ -- SVC_CTX_SIZE
  | .ctxProgress => ⟨0x4000010, [(0x40, 65536)]⟩ -- SVC_CTX_PROGRESS
  | .ctxPlace => ⟨0x4000018, [(0x40, 65536)]⟩ -- SVC_CTX_PLACE
  | .ctxRx => ⟨0x4000020, [(0x40, 65536)]⟩ -- SVC_CTX_RX
  | .ctxDup => ⟨0x4000028, [(0x40, 65536)]⟩ -- SVC_CTX_DUP
  | .ctxDrop => ⟨0x4000030, [(0x40, 65536)]⟩ -- SVC_CTX_DROP
  | .ctxLate => ⟨0x4000038, [(0x40, 65536)]⟩ -- SVC_CTX_LATE
  | .svcCap => ⟨0x4400000, []⟩ -- SVC_CAP
  | .svcAcc => ⟨0x4400008, []⟩ -- SVC_ACC
  | .svcRetain => ⟨0x4400010, []⟩ -- SVC_RETAIN
  | .svcMlist => ⟨0x4400018, []⟩ -- SVC_MLIST
  | .setupResult => ⟨0x4400100, [(0x8, 16)]⟩ -- SVC_SETUP_RESULT_s
  | .quarCtl => ⟨0x4401000, []⟩ -- SVC_QUAR_CTL
  | .quarHash => ⟨0x4401100, [(0x20, 256), (0x8, 4)]⟩ -- SVC_QUAR_n_i
  | .slotSel => ⟨0x4410000, []⟩ -- SVC_SLOT_SEL
  | .slotInfo => ⟨0x4410008, []⟩ -- SVC_SLOT_INFO
  | .slotAcc => ⟨0x4410010, [(0x8, 6)]⟩ -- SVC_SLOT_ACCn
  | .optStep => ⟨0x4420000, [(0x20, 65536)]⟩ -- SVC_OPT_STEP
  | .optHdr => ⟨0x4420008, [(0x20, 65536)]⟩ -- SVC_OPT_HDR
  | .optCnt => ⟨0x4420010, [(0x20, 65536)]⟩ -- SVC_OPT_CNT
  | .optStepRx => ⟨0x4420018, [(0x20, 65536)]⟩ -- SVC_OPT_STEPRX
  | .rgnCfg => ⟨0x4800000, [(0x40, 4097)]⟩ -- POOL_RGN_CFG
  | .rgnSize => ⟨0x4800008, [(0x40, 4097)]⟩ -- POOL_RGN_SIZE
  | .rgnBase => ⟨0x4800010, [(0x40, 4097)]⟩ -- POOL_RGN_BASE
  | .rgnBchoice => ⟨0x4800018, [(0x40, 4097)]⟩ -- POOL_RGN_BCHOICE
  | .rgnTchoice => ⟨0x4800020, [(0x40, 4097)]⟩ -- POOL_RGN_TCHOICE
  | .rgnAcc => ⟨0x4800028, [(0x40, 4097)]⟩ -- POOL_RGN_ACC
  | .rgnErr => ⟨0x4800030, [(0x40, 4097)]⟩ -- POOL_RGN_ERR
  | .poolCmd => ⟨0x4880000, []⟩ -- POOL_CMD
  | .poolArg0 => ⟨0x4880008, []⟩ -- POOL_CMD_ARG0
  | .poolArg1 => ⟨0x4880010, []⟩ -- POOL_CMD_ARG1
  | .poolCmdStatus => ⟨0x4880018, []⟩ -- POOL_CMD_STATUS
  | .poolOut => ⟨0x4880020, []⟩ -- POOL_OUT
  | .poolStreams => ⟨0x4880028, []⟩ -- POOL_STREAMS
  | .poolStat => ⟨0x4880030, []⟩ -- POOL_STAT
  | .poolRacewin => ⟨0x4880038, []⟩ -- POOL_RACEWIN
  | .poolStack => ⟨0x4880100, [(0x8, 16)]⟩ -- POOL_STACK_s
  | .bpmCap => ⟨0x5000000, [(0x20, 32)]⟩ -- BPM_POOL_CAP
  | .bpmStat => ⟨0x5000008, [(0x20, 32)]⟩ -- BPM_POOL_STAT
  | .bpmErr => ⟨0x5000010, [(0x20, 32)]⟩ -- BPM_POOL_ERR
  | .bpmErrFirst => ⟨0x5001000, []⟩ -- BPM_ERR_FIRST
  | .fwdBank => ⟨0x5800000, []⟩ -- FWD_BANK
  | .fwdSwapAt => ⟨0x5800008, []⟩ -- FWD_SWAP_AT
  | .fwdSwapCmd => ⟨0x5800010, []⟩ -- FWD_SWAP_CMD
  | .fwdSwapLast => ⟨0x5800018, []⟩ -- FWD_SWAP_LAST
  | .fwdTblAddr => ⟨0x5800020, []⟩ -- FWD_TBL_ADDR
  | .fwdTblData => ⟨0x5800028, [(0x8, 4)]⟩ -- FWD_TBL_DATAi
  | .fwdTblCmd => ⟨0x5800048, []⟩ -- FWD_TBL_CMD
  | .fwdTblStatus => ⟨0x5800050, []⟩ -- FWD_TBL_STATUS
  | .fwdClassMode => ⟨0x5800058, []⟩ -- FWD_CLASS_MODE
  | .fwdHashCfg => ⟨0x5800060, []⟩ -- FWD_HASH_CFG
  | .fwdAdaptCfg => ⟨0x5800068, []⟩ -- FWD_ADAPT_CFG
  | .fwdCnt => ⟨0x5810000, [(0x100, 12), (0x8, 14)]⟩ -- FWD_QFT to FWD_FAILOVER
  | .schWeight => ⟨0x6000000, [(0x200, 768)]⟩ -- SCH_PORT_WEIGHT
  | .schPortShape => ⟨0x6000008, [(0x200, 768)]⟩ -- SCH_PORT_SHAPE
  | .schPortLevel => ⟨0x6000010, [(0x200, 768)]⟩ -- SCH_PORT_LEVEL
  | .schClsShape => ⟨0x6000040, [(0x200, 768), (0x10, 8)]⟩ -- SCH_CLS_SHAPE_c
  | .schClsLevel => ⟨0x6000048, [(0x200, 768), (0x10, 8)]⟩ -- SCH_CLS_LEVEL_c
  | .gatePend => ⟨0x60000C0, [(0x200, 768)]⟩ -- SCH_GATE_PEND
  | .gateActAt => ⟨0x60000C8, [(0x200, 768)]⟩ -- SCH_GATE_ACT_AT
  | .gateCmd => ⟨0x60000D0, [(0x200, 768)]⟩ -- SCH_GATE_CMD
  | .gateStatus => ⟨0x60000D8, [(0x200, 768)]⟩ -- SCH_GATE_STATUS
  | .gateCnt => ⟨0x60000E0, [(0x200, 768)]⟩ -- SCH_GATE_CNT
  | .polPort => ⟨0x6000100, [(0x200, 768)]⟩ -- SCH_POL_PORT
  | .polPortDrop => ⟨0x6000108, [(0x200, 768)]⟩ -- SCH_POL_PORT_DROP
  | .polCls => ⟨0x6000110, [(0x200, 768), (0x10, 8)]⟩ -- SCH_POL_CLS_c
  | .polClsDrop => ⟨0x6000118, [(0x200, 768), (0x10, 8)]⟩ -- SCH_POL_CLS_DROP_c
  | .schJob => ⟨0x6060000, [(0x8, 4096)]⟩ -- SCH_JOB_j
  | .polCtx => ⟨0x6070000, [(0x10, 1024)]⟩ -- SCH_POL_CTX_k
  | .polCtxSel => ⟨0x6070008, [(0x10, 1024)]⟩ -- SCH_POL_CTX_SEL_k
  | .admStatus => ⟨0x6078000, []⟩ -- SCH_ADM_STATUS
  | .sampleCfg => ⟨0x6078008, []⟩ -- SCH_SAMPLE_CFG
  | .admRebase => ⟨0x6078010, []⟩ -- SCH_ADM_REBASE
  | .smpLast => ⟨0x6080000, [(0x100, 6144)]⟩ -- SCH_SMP_LAST
  | .smpMax => ⟨0x6080008, [(0x100, 6144)]⟩ -- SCH_SMP_MAX
  | .smpClr => ⟨0x6080010, [(0x100, 6144)]⟩ -- SCH_SMP_CLR
  | .smpDhist => ⟨0x6080040, [(0x100, 6144), (0x8, 8)]⟩ -- SCH_SMP_DHIST_k
  | .smpThist => ⟨0x6080080, [(0x100, 6144), (0x8, 8)]⟩ -- SCH_SMP_THIST_k
  | .gateEntry => ⟨0x6200000, [(0x2000, 768), (0x8, 1024)]⟩ -- SCH_GATE_ENTRY
  | .mirCfg => ⟨0x6800000, [(0x40, 64)]⟩ -- MIR_SESS_CFG
  | .mirSel => ⟨0x6800008, [(0x40, 64)]⟩ -- MIR_SESS_SEL
  | .mirWptr => ⟨0x6800010, [(0x40, 64)]⟩ -- MIR_SESS_WPTR
  | .mirLost => ⟨0x6800018, [(0x40, 64)]⟩ -- MIR_SESS_LOST
  | .mirRing => ⟨0x6800020, [(0x40, 64)]⟩ -- MIR_SESS_RING

/-- The fields of each register, reserved bits left out (the field tables of the chapters Table 23.1 names). -/
def Reg.fields : Reg → List RegField
  | .ctlId => [⟨63, 48, .ro, 0x7680⟩, ⟨47, 40, .ro, 0x1⟩, ⟨39, 32, .ro, 0x1⟩]
  | .ctlSerial => [⟨63, 16, .ro, 0x0⟩]
  | .ctlComplex => [⟨3, 3, .ro, 0x0⟩, ⟨2, 2, .ro, 0x0⟩, ⟨1, 1, .ro, 0x0⟩, ⟨0, 0, .ro, 0x0⟩]
  | .ctlMgmtMac => [⟨47, 0, .ro, 0x0⟩]
  | .ctlFmtCap => [⟨63, 0, .ro, 0x7F0FFF⟩]
  | .ctlAccCap => [⟨63, 48, .ro, 0x4000⟩, ⟨47, 32, .ro, 0x180⟩, ⟨31, 16, .ro, 0xC0⟩, ⟨15, 12, .ro, 0x8⟩]
  | .ctlTileCap => [⟨63, 48, .ro, 0x100⟩, ⟨47, 32, .ro, 0x1000⟩, ⟨31, 24, .ro, 0x40⟩, ⟨23, 20, .ro, 0x8⟩, ⟨19, 16, .ro, 0x2⟩, ⟨15, 12, .ro, 0x4⟩, ⟨11, 8, .ro, 0x4⟩, ⟨7, 4, .ro, 0x4⟩]
  | .ctlStart => [⟨63, 60, .ro, 0x0⟩, ⟨59, 59, .ro, 0x0⟩, ⟨58, 58, .ro, 0x0⟩, ⟨31, 0, .ro, 0x0⟩]
  | .ctlPins => [⟨63, 63, .ro, 0x1⟩, ⟨62, 62, .ro, 0x1⟩, ⟨61, 61, .ro, 0x1⟩, ⟨60, 60, .ro, 0x0⟩, ⟨59, 59, .ro, 0x0⟩, ⟨58, 58, .ro, 0x0⟩, ⟨57, 57, .ro, 0x0⟩, ⟨56, 56, .ro, 0x0⟩, ⟨55, 55, .ro, 0x0⟩, ⟨54, 54, .ro, 0x0⟩, ⟨53, 53, .ro, 0x0⟩]
  | .timCount => [⟨63, 0, .ro, 0x0⟩]
  | .timStatus => [⟨63, 62, .ro, 0x0⟩, ⟨61, 59, .ro, 0x0⟩, ⟨58, 58, .ro, 0x0⟩, ⟨57, 42, .ro, 0x0⟩, ⟨41, 26, .ro, 0x0⟩]
  | .timOffset => [⟨63, 32, .ro, 0x0⟩, ⟨31, 0, .ro, 0x0⟩]
  | .timCfg => [⟨63, 48, .rw, 0x0⟩, ⟨47, 47, .rw, 0x0⟩]
  | .timEpoch => [⟨63, 0, .ro, 0x0⟩]
  | .timStep => [⟨63, 0, .ro, 0x0⟩]
  | .timErr => [⟨63, 32, .ro, 0x0⟩, ⟨31, 0, .ro, 0x0⟩]
  | .timCmd => [⟨1, 1, .wo, 0x0⟩, ⟨0, 0, .wo, 0x0⟩]
  | .pwrCap => [⟨63, 51, .rw, 0x15E0⟩]
  | .pwrStatus => [⟨63, 50, .ro, 0x0⟩, ⟨49, 46, .ro, 0x0⟩, ⟨45, 45, .ro, 0x0⟩, ⟨44, 44, .ro, 0x0⟩, ⟨43, 43, .ro, 0x0⟩, ⟨42, 42, .ro, 0x0⟩]
  | .pwrTokens => [⟨63, 48, .ro, 0x0⟩, ⟨47, 32, .ro, 0x0⟩, ⟨31, 16, .ro, 0x0⟩]
  | .pwrTemp => [⟨63, 52, .ro, 0x800⟩, ⟨51, 46, .ro, 0x0⟩, ⟨45, 36, .ro, 0x0⟩]
  | .pwrClkLimit => [⟨63, 60, .rw, 0x0⟩]
  | .pwrThrCnt => [⟨63, 32, .ro, 0x0⟩, ⟨31, 0, .ro, 0x0⟩]
  | .pwrScrubCfg => [⟨63, 59, .rw, 0x18⟩]
  | .pwrInput => [⟨63, 48, .ro, 0x0⟩, ⟨47, 32, .ro, 0x0⟩, ⟨31, 16, .ro, 0x0⟩, ⟨15, 0, .ro, 0x0⟩]
  | .pwrDieTemp => [⟨63, 52, .ro, 0x800⟩, ⟨51, 40, .ro, 0x800⟩]
  | .pwrStackTemp => [⟨63, 52, .ro, 0x800⟩, ⟨51, 40, .ro, 0x800⟩]
  | .pwrClass => [⟨63, 48, .rw, 0x0⟩, ⟨47, 32, .rw, 0x0⟩]
  | .pwrMem => [⟨63, 62, .ro, 0x3⟩, ⟨61, 61, .ro, 0x0⟩, ⟨60, 45, .ro, 0x0⟩, ⟨44, 29, .ro, 0x0⟩]
  | .pwrScrub => [⟨63, 32, .ro, 0x0⟩, ⟨31, 22, .ro, 0x0⟩, ⟨21, 21, .ro, 0x0⟩]
  | .fltStatus => [⟨63, 63, .ro, 0x0⟩, ⟨62, 62, .ro, 0x0⟩, ⟨61, 49, .ro, 0x0⟩, ⟨48, 17, .ro, 0x0⟩]
  | .fltCounts => [⟨63, 48, .ro, 0x0⟩, ⟨47, 32, .ro, 0x0⟩, ⟨31, 0, .ro, 0x0⟩]
  | .fltFirst => [⟨63, 0, .ro, 0x0⟩]
  | .fltFirstCtl => [⟨63, 63, .w1c, 0x0⟩, ⟨62, 62, .ro, 0x0⟩, ⟨61, 60, .rw, 0x1⟩, ⟨59, 32, .ro, 0x0⟩]
  | .fltAck => [⟨63, 32, .wo, 0x0⟩]
  | .fltMgmtBadacc => [⟨63, 0, .ro, 0x0⟩]
  | .fltSelftest => [⟨63, 59, .ro, 0x0⟩, ⟨58, 44, .ro, 0x0⟩, ⟨43, 22, .ro, 0x0⟩, ⟨21, 0, .ro, 0x0⟩]
  | .fltCmd => [⟨0, 0, .wo, 0x0⟩]
  | .fltDump => [⟨63, 63, .ro, 0x0⟩, ⟨62, 62, .ro, 0x0⟩, ⟨61, 61, .ro, 0x0⟩, ⟨60, 29, .ro, 0x0⟩]
  | .fltSearch => [⟨63, 63, .ro, 0x0⟩, ⟨62, 52, .ro, 0x0⟩, ⟨51, 36, .ro, 0x0⟩, ⟨35, 22, .ro, 0x0⟩, ⟨21, 0, .ro, 0x0⟩]
  | .fltWdgCfg => [⟨63, 48, .rw, 0x0⟩, ⟨47, 32, .rw, 0x0⟩, ⟨31, 16, .rw, 0x0⟩, ⟨15, 0, .rw, 0x0⟩]
  | .fltReset => [⟨63, 63, .wo, 0x0⟩, ⟨62, 62, .wo, 0x0⟩, ⟨61, 61, .wo, 0x0⟩, ⟨10, 0, .wo, 0x0⟩]
  | .fltReact => [⟨63, 61, .rw, 0x0⟩, ⟨60, 44, .rw, 0x0⟩]
  | .fltIsolClr => [⟨63, 63, .wo, 0x0⟩, ⟨9, 0, .wo, 0x0⟩]
  | .fltIsol => [⟨63, 63, .ro, 0x0⟩, ⟨62, 62, .ro, 0x0⟩, ⟨61, 57, .ro, 0x0⟩, ⟨56, 50, .ro, 0x0⟩, ⟨49, 38, .ro, 0x0⟩, ⟨37, 26, .ro, 0x0⟩, ⟨25, 0, .ro, 0x0⟩]
  | .fltLog => [⟨63, 0, .ro, 0x0⟩]
  | .fltDom => [⟨63, 56, .ro, 0x0⟩, ⟨55, 32, .ro, 0x0⟩, ⟨31, 0, .ro, 0x0⟩]
  | .nvmCmd => [⟨0, 0, .wo, 0x0⟩]
  | .nvmArg0 => [⟨63, 56, .rw, 0x0⟩, ⟨55, 55, .rw, 0x0⟩, ⟨54, 40, .rw, 0x0⟩, ⟨39, 24, .rw, 0x0⟩, ⟨23, 8, .rw, 0x0⟩]
  | .nvmArg1 => [⟨63, 0, .rw, 0x0⟩]
  | .nvmArg2 => [⟨63, 0, .rw, 0x0⟩]
  | .nvmStatus => [⟨63, 63, .ro, 0x0⟩, ⟨62, 55, .ro, 0x0⟩, ⟨54, 52, .ro, 0x0⟩, ⟨51, 20, .ro, 0x0⟩]
  | .nvmBoot => [⟨63, 62, .ro, 0x0⟩, ⟨61, 61, .ro, 0x0⟩, ⟨60, 58, .ro, 0x0⟩, ⟨57, 55, .ro, 0x0⟩, ⟨54, 47, .ro, 0x0⟩]
  | .nvmRunSeq => [⟨63, 0, .ro, 0x0⟩]
  | .nvmImgHash => [⟨63, 0, .ro, 0x0⟩]
  | .nvmStgHash => [⟨63, 0, .ro, 0x0⟩]
  | .nvmBuf => [⟨63, 0, .rw, 0x0⟩]
  | .prtPortCfg => [⟨63, 61, .ro, 0x0⟩, ⟨60, 60, .ro, 0x0⟩, ⟨59, 59, .ro, 0x0⟩, ⟨58, 58, .ro, 0x0⟩, ⟨57, 46, .ro, 0x0⟩, ⟨45, 32, .ro, 0x2400⟩, ⟨31, 31, .ro, 0x1⟩, ⟨30, 30, .ro, 0x0⟩]
  | .prtPortCtl => [⟨63, 63, .rw, 0x0⟩, ⟨62, 62, .wo, 0x0⟩, ⟨61, 54, .rw, 0x0⟩, ⟨53, 46, .rw, 0x0⟩, ⟨45, 38, .rw, 0x8F⟩, ⟨37, 30, .rw, 0x8⟩]
  | .prtLinkStatus => [⟨63, 61, .ro, 0x0⟩, ⟨60, 60, .ro, 0x0⟩, ⟨59, 59, .ro, 0x0⟩, ⟨58, 58, .ro, 0x0⟩, ⟨57, 50, .ro, 0x0⟩, ⟨49, 42, .ro, 0x0⟩, ⟨41, 34, .ro, 0x0⟩, ⟨33, 18, .ro, 0x0⟩]
  | .prtCnt => [⟨63, 0, .ro, 0x0⟩]
  | .prtQft => [⟨63, 0, .ro, 0x0⟩]
  | .prtLaneStatus => [⟨63, 63, .ro, 0x0⟩, ⟨62, 62, .ro, 0x0⟩, ⟨61, 61, .ro, 0x0⟩, ⟨60, 60, .ro, 0x0⟩, ⟨59, 59, .ro, 0x0⟩, ⟨58, 51, .ro, 0x0⟩]
  | .prtPfcThresh => [⟨63, 45, .rw, 0x8000⟩, ⟨44, 26, .rw, 0xC000⟩]
  | .hubBufClass => [⟨63, 54, .ro, 0x0⟩, ⟨53, 50, .rw, 0x0⟩, ⟨49, 49, .rw, 0x0⟩, ⟨48, 48, .rw, 0x0⟩, ⟨47, 28, .rw, 0x0⟩]
  | .hubBufHdrm => [⟨63, 53, .ro, 0x80⟩]
  | .hubBufCtl => [⟨63, 63, .rw, 0x0⟩]
  | .hubBufStatus => [⟨63, 45, .ro, 0x48000⟩, ⟨44, 26, .ro, 0x0⟩, ⟨25, 7, .ro, 0x0⟩]
  | .bufCnt => [⟨63, 0, .ro, 0x0⟩]
  | .fabSpare => [⟨63, 63, .rws, 0x0⟩, ⟨62, 57, .rws, 0x0⟩, ⟨56, 47, .rws, 0x0⟩]
  | .fabMeshDrop => [⟨63, 48, .ro, 0x0⟩, ⟨47, 32, .ro, 0x0⟩, ⟨31, 16, .ro, 0x0⟩]
  | .tileStatus => [⟨63, 61, .ro, 0x0⟩, ⟨60, 55, .ro, 0x0⟩, ⟨54, 51, .ro, 0x0⟩, ⟨50, 39, .ro, 0x0⟩]
  | .tileFlags => [⟨4, 0, .w1c, 0x0⟩]
  | .tileSat => [⟨63, 0, .ro, 0x0⟩]
  | .tileFlush => [⟨63, 0, .ro, 0x0⟩]
  | .tileSecc => [⟨63, 0, .ro, 0x0⟩]
  | .tileSunc => [⟨63, 0, .ro, 0x0⟩]
  | .tileCubecyc => [⟨63, 0, .ro, 0x0⟩]
  | .imgCmd => [⟨0, 0, .wo, 0x0⟩]
  | .imgArg0 => [⟨63, 56, .rw, 0x0⟩, ⟨55, 50, .rw, 0x0⟩, ⟨49, 38, .rw, 0x0⟩, ⟨37, 22, .rw, 0x0⟩, ⟨21, 6, .rw, 0x0⟩]
  | .imgArg1 => [⟨63, 0, .rw, 0x0⟩]
  | .imgArg2 => [⟨63, 56, .rw, 0x0⟩, ⟨55, 49, .rw, 0x0⟩, ⟨48, 41, .rw, 0x0⟩, ⟨40, 34, .rw, 0x0⟩]
  | .imgArg3 => [⟨63, 0, .rw, 0x0⟩]
  | .imgStatus => [⟨63, 63, .ro, 0x0⟩, ⟨62, 55, .ro, 0x0⟩, ⟨54, 49, .ro, 0x0⟩, ⟨48, 17, .ro, 0x0⟩]
  | .subDrop => [⟨63, 0, .ro, 0x0⟩]
  | .imgSlot => [⟨63, 61, .ro, 0x0⟩, ⟨60, 60, .ro, 0x0⟩, ⟨59, 48, .ro, 0x0⟩, ⟨47, 40, .ro, 0x0⟩, ⟨39, 32, .ro, 0x0⟩, ⟨31, 25, .ro, 0x0⟩, ⟨24, 17, .ro, 0x0⟩, ⟨16, 10, .ro, 0x0⟩, ⟨9, 0, .ro, 0x0⟩]
  | .imgSlotId => [⟨63, 32, .ro, 0x0⟩, ⟨31, 0, .ro, 0x0⟩]
  | .imgSlotHash => [⟨63, 0, .ro, 0x0⟩]
  | .ctxState => [⟨63, 61, .ro, 0x0⟩, ⟨60, 58, .ro, 0x0⟩, ⟨57, 50, .ro, 0xFF⟩, ⟨49, 42, .ro, 0x0⟩, ⟨41, 30, .ro, 0x0⟩, ⟨29, 27, .ro, 0x0⟩, ⟨26, 25, .ro, 0x0⟩, ⟨24, 10, .ro, 0x0⟩]
  | .ctxSize => [⟨63, 32, .ro, 0x0⟩, ⟨31, 19, .ro, 0x0⟩]
  | .ctxProgress => [⟨63, 32, .ro, 0x0⟩, ⟨31, 0, .ro, 0x0⟩]
  | .ctxPlace => [⟨63, 32, .ro, 0x0⟩, ⟨31, 17, .ro, 0x0⟩, ⟨16, 0, .ro, 0x0⟩]
  | .ctxRx => [⟨63, 0, .ro, 0x0⟩]
  | .ctxDup => [⟨63, 32, .ro, 0x0⟩, ⟨31, 0, .ro, 0x0⟩]
  | .ctxDrop => [⟨63, 48, .ro, 0x0⟩, ⟨47, 32, .ro, 0x0⟩, ⟨31, 16, .ro, 0x0⟩, ⟨15, 0, .ro, 0x0⟩]
  | .ctxLate => [⟨63, 32, .ro, 0x0⟩, ⟨31, 0, .ro, 0x0⟩]
  | .svcCap => [⟨63, 48, .ro, 0xFFFF⟩, ⟨47, 32, .ro, 0x0⟩, ⟨31, 16, .ro, 0x0⟩, ⟨15, 0, .ro, 0x0⟩]
  | .svcAcc => [⟨63, 32, .ro, 0x0⟩, ⟨31, 0, .ro, 0x0⟩]
  | .svcRetain => [⟨63, 32, .ro, 0x0⟩, ⟨31, 0, .ro, 0x0⟩]
  | .svcMlist => [⟨63, 52, .ro, 0x0⟩, ⟨51, 30, .ro, 0x200000⟩]
  | .setupResult => [⟨63, 0, .ro, 0x0⟩]
  | .quarCtl => [⟨63, 55, .ro, 0x0⟩, ⟨54, 54, .wo, 0x0⟩]
  | .quarHash => [⟨63, 0, .ro, 0x0⟩]
  | .slotSel => [⟨63, 48, .rw, 0x0⟩, ⟨47, 16, .rw, 0x0⟩, ⟨15, 3, .rw, 0x0⟩]
  | .slotInfo => [⟨63, 63, .ro, 0x0⟩, ⟨62, 55, .ro, 0x0⟩, ⟨54, 47, .ro, 0x0⟩, ⟨46, 40, .ro, 0x0⟩, ⟨39, 25, .ro, 0x0⟩]
  | .slotAcc => [⟨63, 0, .ro, 0x0⟩]
  | .optStep => [⟨63, 16, .ro, 0x0⟩]
  | .optHdr => [⟨63, 16, .ro, 0x0⟩, ⟨15, 14, .ro, 0x0⟩]
  | .optCnt => [⟨63, 32, .ro, 0x0⟩, ⟨31, 0, .ro, 0x0⟩]
  | .optStepRx => [⟨63, 48, .ro, 0x0⟩, ⟨47, 32, .ro, 0x0⟩, ⟨31, 16, .ro, 0x0⟩]
  | .rgnCfg => [⟨63, 62, .ro, 0x0⟩, ⟨61, 50, .ro, 0x0⟩, ⟨49, 47, .ro, 0x0⟩, ⟨46, 46, .ro, 0x0⟩, ⟨45, 30, .ro, 0x0⟩, ⟨29, 14, .ro, 0x0⟩]
  | .rgnSize => [⟨63, 32, .ro, 0x0⟩, ⟨31, 12, .ro, 0x0⟩]
  | .rgnBase => [⟨63, 0, .ro, 0x0⟩]
  | .rgnBchoice => [⟨63, 0, .ro, 0x0⟩]
  | .rgnTchoice => [⟨63, 0, .ro, 0x0⟩]
  | .rgnAcc => [⟨63, 0, .ro, 0x0⟩]
  | .rgnErr => [⟨63, 48, .ro, 0x0⟩, ⟨47, 32, .ro, 0x0⟩, ⟨31, 16, .ro, 0x0⟩, ⟨15, 0, .ro, 0x0⟩]
  | .poolCmd => [⟨0, 0, .wo, 0x0⟩]
  | .poolArg0 => [⟨63, 0, .rw, 0x0⟩]
  | .poolArg1 => [⟨63, 16, .rw, 0x0⟩, ⟨15, 4, .rw, 0x0⟩]
  | .poolCmdStatus => [⟨63, 63, .ro, 0x0⟩, ⟨62, 55, .ro, 0x0⟩, ⟨54, 39, .ro, 0x0⟩, ⟨38, 7, .ro, 0x0⟩]
  | .poolOut => [⟨63, 0, .ro, 0x0⟩]
  | .poolStreams => [⟨63, 48, .ro, 0x0⟩]
  | .poolStat => [⟨63, 0, .ro, 0x0⟩]
  | .poolRacewin => [⟨16, 0, .rw, 0x0⟩]
  | .poolStack => [⟨63, 48, .ro, 0x0⟩, ⟨47, 32, .ro, 0x0⟩, ⟨31, 16, .ro, 0x0⟩, ⟨0, 0, .ro, 0x0⟩]
  | .bpmCap => [⟨63, 32, .ro, 0x0⟩, ⟨31, 0, .ro, 0x0⟩]
  | .bpmStat => [⟨63, 32, .ro, 0x0⟩, ⟨31, 0, .ro, 0x0⟩]
  | .bpmErr => [⟨63, 32, .ro, 0x0⟩, ⟨31, 16, .ro, 0x0⟩, ⟨15, 0, .ro, 0x0⟩]
  | .bpmErrFirst => [⟨63, 63, .w1c, 0x0⟩, ⟨62, 60, .ro, 0x0⟩, ⟨59, 55, .ro, 0x0⟩, ⟨54, 32, .ro, 0x0⟩, ⟨31, 16, .ro, 0x0⟩]
  | .fwdBank => [⟨63, 63, .ro, 0x0⟩, ⟨62, 62, .ro, 0x0⟩, ⟨61, 61, .ro, 0x1⟩, ⟨60, 60, .ro, 0x0⟩, ⟨59, 52, .ro, 0x0⟩, ⟨51, 20, .ro, 0x0⟩]
  | .fwdSwapAt => [⟨63, 0, .rw, 0x0⟩]
  | .fwdSwapCmd => [⟨2, 2, .wo, 0x0⟩, ⟨1, 1, .wo, 0x0⟩, ⟨0, 0, .wo, 0x0⟩]
  | .fwdSwapLast => [⟨63, 0, .ro, 0x0⟩]
  | .fwdTblAddr => [⟨63, 60, .rw, 0x0⟩, ⟨59, 56, .rw, 0x0⟩, ⟨55, 32, .rw, 0x0⟩, ⟨31, 31, .rw, 0x0⟩]
  | .fwdTblData => [⟨63, 0, .rw, 0x0⟩]
  | .fwdTblCmd => [⟨0, 0, .wo, 0x0⟩]
  | .fwdTblStatus => [⟨63, 63, .ro, 0x0⟩, ⟨62, 55, .ro, 0x0⟩, ⟨54, 23, .ro, 0x0⟩]
  | .fwdClassMode => [⟨7, 0, .rw, 0x78⟩]
  | .fwdHashCfg => [⟨63, 32, .rw, 0x0⟩, ⟨31, 31, .rw, 0x0⟩, ⟨30, 30, .rw, 0x0⟩, ⟨29, 29, .rw, 0x0⟩]
  | .fwdAdaptCfg => [⟨63, 56, .rw, 0x0⟩, ⟨55, 48, .rw, 0x0⟩]
  | .fwdCnt => [⟨63, 0, .ro, 0x0⟩]
  | .schWeight => [⟨63, 16, .rw, 0x0⟩]
  | .schPortShape => [⟨63, 63, .rw, 0x0⟩, ⟨62, 62, .rw, 0x0⟩, ⟨61, 61, .wo, 0x0⟩, ⟨60, 54, .rw, 0x0⟩, ⟨53, 30, .rw, 0x0⟩, ⟨29, 6, .rw, 0x0⟩]
  | .schPortLevel => [⟨63, 0, .ro, 0x0⟩]
  | .schClsShape => [⟨63, 63, .rw, 0x0⟩, ⟨62, 62, .rw, 0x0⟩, ⟨61, 61, .wo, 0x0⟩, ⟨60, 54, .rw, 0x0⟩, ⟨53, 30, .rw, 0x0⟩, ⟨29, 6, .rw, 0x0⟩]
  | .schClsLevel => [⟨63, 0, .ro, 0x0⟩]
  | .gatePend => [⟨63, 53, .rw, 0x0⟩, ⟨52, 18, .rw, 0x0⟩]
  | .gateActAt => [⟨63, 0, .rw, 0x0⟩]
  | .gateCmd => [⟨1, 1, .wo, 0x0⟩, ⟨0, 0, .wo, 0x0⟩]
  | .gateStatus => [⟨63, 63, .ro, 0x0⟩, ⟨62, 55, .ro, 0xFF⟩, ⟨54, 44, .ro, 0x0⟩, ⟨43, 36, .ro, 0x0⟩]
  | .gateCnt => [⟨63, 32, .ro, 0x0⟩, ⟨31, 0, .ro, 0x0⟩]
  | .polPort => [⟨63, 63, .rw, 0x0⟩, ⟨62, 62, .rw, 0x0⟩, ⟨61, 61, .wo, 0x0⟩, ⟨60, 54, .rw, 0x0⟩, ⟨53, 30, .rw, 0x0⟩, ⟨29, 6, .rw, 0x0⟩]
  | .polPortDrop => [⟨63, 0, .ro, 0x0⟩]
  | .polCls => [⟨63, 63, .rw, 0x0⟩, ⟨62, 62, .rw, 0x0⟩, ⟨61, 61, .wo, 0x0⟩, ⟨60, 54, .rw, 0x0⟩, ⟨53, 30, .rw, 0x0⟩, ⟨29, 6, .rw, 0x0⟩]
  | .polClsDrop => [⟨63, 0, .ro, 0x0⟩]
  | .schJob => [⟨63, 56, .rw, 0x0⟩]
  | .polCtx => [⟨63, 63, .rw, 0x0⟩, ⟨62, 62, .rw, 0x0⟩, ⟨61, 61, .wo, 0x0⟩, ⟨60, 54, .rw, 0x0⟩, ⟨53, 30, .rw, 0x0⟩, ⟨29, 6, .rw, 0x0⟩]
  | .polCtxSel => [⟨63, 48, .rw, 0x0⟩, ⟨47, 0, .ro, 0x0⟩]
  | .admStatus => [⟨63, 52, .ro, 0x0⟩, ⟨51, 0, .ro, 0x0⟩]
  | .sampleCfg => [⟨63, 53, .rw, 0x0⟩]
  | .admRebase => [⟨63, 32, .ro, 0x0⟩]
  | .smpLast => [⟨63, 48, .ro, 0xFFFF⟩, ⟨47, 32, .ro, 0xFFFF⟩, ⟨31, 0, .ro, 0x0⟩]
  | .smpMax => [⟨63, 48, .ro, 0xFFFF⟩, ⟨47, 32, .ro, 0xFFFF⟩]
  | .smpClr => [⟨0, 0, .wo, 0x0⟩]
  | .smpDhist => [⟨63, 32, .ro, 0x0⟩, ⟨31, 0, .ro, 0x0⟩]
  | .smpThist => [⟨63, 32, .ro, 0x0⟩, ⟨31, 0, .ro, 0x0⟩]
  | .gateEntry => [⟨63, 56, .rw, 0xFF⟩, ⟨55, 32, .rw, 0x0⟩]
  | .mirCfg => [⟨63, 63, .rw, 0x0⟩, ⟨62, 62, .rw, 0x0⟩, ⟨61, 60, .rw, 0x0⟩, ⟨59, 59, .rw, 0x0⟩, ⟨58, 49, .rw, 0x0⟩, ⟨48, 41, .rw, 0x0⟩, ⟨40, 17, .rw, 0x0⟩]
  | .mirSel => [⟨63, 48, .rw, 0x0⟩, ⟨47, 32, .rw, 0x0⟩, ⟨31, 20, .rw, 0x0⟩]
  | .mirWptr => [⟨63, 0, .ro, 0x0⟩]
  | .mirLost => [⟨63, 32, .ro, 0x0⟩, ⟨31, 16, .ro, 0x0⟩, ⟨15, 0, .ro, 0x0⟩]
  | .mirRing => [⟨63, 32, .ro, 0x0⟩, ⟨31, 31, .ro, 0x0⟩]

/-- Registers 0 to 23. -/
def Reg.part0 : List Reg :=
  [.ctlId, .ctlSerial, .ctlComplex, .ctlMgmtMac, .ctlFmtCap, .ctlAccCap, .ctlTileCap, .ctlStart, .ctlPins, .timCount, .timStatus, .timOffset, .timCfg, .timEpoch, .timStep, .timErr, .timCmd, .pwrCap, .pwrStatus, .pwrTokens, .pwrTemp, .pwrClkLimit, .pwrThrCnt, .pwrScrubCfg]

/-- Registers 24 to 47. -/
def Reg.part1 : List Reg :=
  [.pwrInput, .pwrDieTemp, .pwrStackTemp, .pwrClass, .pwrMem, .pwrScrub, .fltStatus, .fltCounts, .fltFirst, .fltFirstCtl, .fltAck, .fltMgmtBadacc, .fltSelftest, .fltCmd, .fltDump, .fltSearch, .fltWdgCfg, .fltReset, .fltReact, .fltIsolClr, .fltIsol, .fltLog, .fltDom, .nvmCmd]

/-- Registers 48 to 71. -/
def Reg.part2 : List Reg :=
  [.nvmArg0, .nvmArg1, .nvmArg2, .nvmStatus, .nvmBoot, .nvmRunSeq, .nvmImgHash, .nvmStgHash, .nvmBuf, .prtPortCfg, .prtPortCtl, .prtLinkStatus, .prtCnt, .prtQft, .prtLaneStatus, .prtPfcThresh, .hubBufClass, .hubBufHdrm, .hubBufCtl, .hubBufStatus, .bufCnt, .fabSpare, .fabMeshDrop, .tileStatus]

/-- Registers 72 to 95. -/
def Reg.part3 : List Reg :=
  [.tileFlags, .tileSat, .tileFlush, .tileSecc, .tileSunc, .tileCubecyc, .imgCmd, .imgArg0, .imgArg1, .imgArg2, .imgArg3, .imgStatus, .subDrop, .imgSlot, .imgSlotId, .imgSlotHash, .ctxState, .ctxSize, .ctxProgress, .ctxPlace, .ctxRx, .ctxDup, .ctxDrop, .ctxLate]

/-- Registers 96 to 119. -/
def Reg.part4 : List Reg :=
  [.svcCap, .svcAcc, .svcRetain, .svcMlist, .setupResult, .quarCtl, .quarHash, .slotSel, .slotInfo, .slotAcc, .optStep, .optHdr, .optCnt, .optStepRx, .rgnCfg, .rgnSize, .rgnBase, .rgnBchoice, .rgnTchoice, .rgnAcc, .rgnErr, .poolCmd, .poolArg0, .poolArg1]

/-- Registers 120 to 143. -/
def Reg.part5 : List Reg :=
  [.poolCmdStatus, .poolOut, .poolStreams, .poolStat, .poolRacewin, .poolStack, .bpmCap, .bpmStat, .bpmErr, .bpmErrFirst, .fwdBank, .fwdSwapAt, .fwdSwapCmd, .fwdSwapLast, .fwdTblAddr, .fwdTblData, .fwdTblCmd, .fwdTblStatus, .fwdClassMode, .fwdHashCfg, .fwdAdaptCfg, .fwdCnt, .schWeight, .schPortShape]

/-- Registers 144 to 167. -/
def Reg.part6 : List Reg :=
  [.schPortLevel, .schClsShape, .schClsLevel, .gatePend, .gateActAt, .gateCmd, .gateStatus, .gateCnt, .polPort, .polPortDrop, .polCls, .polClsDrop, .schJob, .polCtx, .polCtxSel, .admStatus, .sampleCfg, .admRebase, .smpLast, .smpMax, .smpClr, .smpDhist, .smpThist, .gateEntry]

/-- Registers 168 to 172. -/
def Reg.part7 : List Reg :=
  [.mirCfg, .mirSel, .mirWptr, .mirLost, .mirRing]

/-- Every register, in address order of the blocks. -/
def Reg.all : List Reg :=
  Reg.part0 ++ Reg.part1 ++ Reg.part2 ++ Reg.part3 ++ Reg.part4 ++ Reg.part5 ++ Reg.part6 ++ Reg.part7

/-- The indices of an offset in nested repetitions; none where it names no instance or falls inside one. -/
def placeIndex : List (Nat × Nat) → Nat → Option (List Nat)
  | [], off => if off = 0 then some [] else none
  | (stride, count) :: ds, off =>
    if off / stride < count then
      match placeIndex ds (off % stride) with
      | some is => some (off / stride :: is)
      | none => none
    else none

/-- The instance of register `r` at byte address `a`, if there is one. -/
def Reg.indexAt (r : Reg) (a : Nat) : Option (List Nat) :=
  if a < r.place.base then none else placeIndex r.place.dims (a - r.place.base)

/-- The address of an instance. -/
def Reg.addr (r : Reg) (is : List Nat) : Nat :=
  r.place.base + ((r.place.dims.zip is).map fun p => p.1.1 * p.2).sum

/-- The register and instance an address names (R518, R519); none where it names no register. -/
def locate (a : Nat) : Option (Reg × List Nat) :=
  Reg.all.findSome? fun r => (r.indexAt a).map fun is => (r, is)

/-- The number whose fields hold their reset values. -/
def fieldsReset (fs : List RegField) : Nat := (fs.map fun f => f.reset * 2 ^ f.lo).sum

/-- FLOOR, EVICTABLE and EVICTING at reset by class (Table 13.8). -/
def hubClassReset (c : Nat) : Nat :=
  ([8, 24, 16, 48, 0, 0, 0, 0].getD c 0) * 2 ^ 54
    + (if 4 ≤ c ∧ c ≤ 6 then 2 ^ 49 else 0) + (if c ≤ 2 ∨ c = 7 then 2 ^ 48 else 0)

/-- The reset value of an instance (the Reset columns; R11). -/
def regReset (r : Reg) (is : List Nat) : Nat :=
  match r with
  | .hubBufClass => hubClassReset (is.getD 1 0)
  | .pwrClass =>
    let k := is.getD 0 0
    if k = 0 then 0 else 6 * (k - 1) * 2 ^ 48 + k * 2 ^ 32
  | .setupResult => 0
  | _ => fieldsReset r.fields

/-- The always-on blocks CTL, TIM, PWR, FLT and NVM (R520). -/
def alwaysOn (a : Nat) : Bool := decide (a < 0x500000)

/-- A register word after a write of `v` by the access codes of Table 0.3. -/
def applyWrite (fs : List RegField) (old v : Nat) : Nat :=
  fs.foldl (fun n f =>
    let w := f.hi + 1 - f.lo
    let o := (n / 2 ^ f.lo) % 2 ^ w
    let x := (v / 2 ^ f.lo) % 2 ^ w
    match f.acc with
    | .rw => Nat.withField n f.hi f.lo x
    | .rws => Nat.withField n f.hi f.lo x
    | .w1c => Nat.withField n f.hi f.lo (o - Nat.land o x)
    | .w1s => Nat.withField n f.hi f.lo (Nat.lor o x)
    | .ro => n
    | .wo => n) old

end Sys2Proof.Machine
end

