-- ==== Sys2Proof/Machine/Memory.lean ====
section
/-!
DEFINITION. HBM as a sparse list of bytes in canonical form: addresses strictly rising, no zero byte listed. An address is
(stack x 36,864 + page) x 2 MiB + the offset in the page (R192, R193); an unlisted byte reads 0, as a page handed out does
(R193; log entry 31).
-/

namespace Sys2Proof.Machine

/-- HBM contents. -/
abbrev Memory := List Host.Cell

/-- The byte an unlisted address reads as (R193). -/
def blankByte : Byte := 0

namespace Memory

/-- The canonical form: addresses strictly rising, and no entry equal to what an unlisted address reads as. -/
def wf : Memory → Bool
  | [] => true
  | [c] => c.2 != blankByte
  | c :: d :: t => c.2 != blankByte && decide (c.1 < d.1) && wf (d :: t)

/-- One byte. -/
def byte (m : Memory) (a : Nat) : Byte :=
  match m.find? fun c => c.1 == a with
  | some c => c.2
  | none => blankByte

/-- `n` bytes from `a`. -/
def read (m : Memory) (a n : Nat) : List Byte :=
  let sub : Memory := m.filter fun c => decide (a ≤ c.1) && decide (c.1 < a + n)
  (List.range n).map fun i => byte sub (a + i)

/-- The listed cells of a byte string placed at `a`. -/
def cellsAt : Nat → List Byte → Memory
  | _, [] => []
  | a, b :: bs => if b = blankByte then cellsAt (a + 1) bs else (a, b) :: cellsAt (a + 1) bs

/-- The memory with the bytes `bs` at `a`. -/
def write (m : Memory) (a : Nat) (bs : List Byte) : Memory :=
  (m.filter fun c => decide (c.1 < a)) ++ cellsAt a bs ++ (m.filter fun c => decide (a + bs.length ≤ c.1))

/-- The memory with `n` bytes from `a` zeroed (R193). -/
def zero (m : Memory) (a n : Nat) : Memory := m.filter fun c => decide (c.1 < a) || decide (a + n ≤ c.1)

end Memory

/-- One change a command makes to HBM. -/
inductive MemOp where
  | put (a : Nat) (bs : List Byte)
  | clear (a n : Nat)
  deriving DecidableEq, Repr

/-- The memory after one change. -/
def MemOp.on (o : MemOp) (m : Memory) : Memory :=
  match o with
  | .put a bs => m.write a bs
  | .clear a n => m.zero a n

/-- The memory after a list of changes, in order. -/
def Memory.after (m : Memory) (ops : List MemOp) : Memory := ops.foldl (fun m o => o.on m) m

end Sys2Proof.Machine
end

