-- ==== Sys2Proof/Machine/TileTypes.lean ====
section
/-!
DEFINITION. The state of tiles, the mesh and image slots (chapters 10 and 11) as plain data.
-/

namespace Sys2Proof.Machine

/-- Image slot states (Table 11.7), with the quiesced state of R276. -/
inductive ImgSt where
  | empty | loading | loaded | running
  deriving DecidableEq, Repr

def ImgSt.code : ImgSt → Nat
  | .empty => 0 | .loading => 1 | .loaded => 2 | .running => 3

/-- A declared flow (Table 11.4). -/
structure Flow where
  src  : Nat
  dst  : Nat
  rate : Nat
  deriving DecidableEq, Repr

/-- A receive queue's place in SRAM, its size and its virtual channel (R260). -/
structure QPlace where
  base : Nat
  size : Nat
  vc   : Nat
  deriving DecidableEq, Repr

/-- What the device reads of an image container: the header fields, the resource declaration (Tables 11.3 and 11.4), and what
its sections of Knagen's own form hold (`uops` bundles, the receive queues, the first SRAM bytes, the stream descriptors). -/
structure Image where
  user      : Bool := false
  imageId   : Nat := 0
  imageVer  : Nat := 0
  svc       : Nat := 0
  minW      : Nat := 0
  minH      : Nat := 0
  maxW      : Nat := 0
  maxH      : Nat := 0
  extends_  : Nat := 0
  absentOk  : Nat := 0
  uops      : Nat := 0
  sramKib   : Nat := 0
  respOut   : Nat := 0
  nregions  : Nat := 0
  regionMib : Nat := 0
  streams   : List Nat := []
  pclass    : Nat := 1
  flows     : List Flow := []
  logical   : List Byte := []
  deriving DecidableEq, Repr

/-- An image slot (Table 11.8); `wakeAt` is when the tiles of its partition are awake (R413). -/
structure ImgSlot where
  state   : ImgSt := .empty
  quiet   : Bool := false
  image   : Image := {}
  job     : Nat := 0
  pgen    : Nat := 0
  x0      : Nat := 0
  y0      : Nat := 0
  w       : Nat := 0
  h       : Nat := 0
  absent  : Nat := 0
  actAt   : Option Nat := none
  tokens  : Nat := 0
  regions : List Nat := []
  doneBy  : Nat := 0
  runOn   : Bool := false
  wakeAt  : Nat := 0
  deriving DecidableEq, Repr

/-- A tile (Table 10.1): its sequencer, registers, cube sets with those a failed residue check marked, SRAM with its poisoned words,
its receive queues with the packets not yet taken and the next place written, and the scrubber's next word of each bank (R237). Of the
sequencer, `pc` is the bundle that issues, `held` says that it is delayed, `slots` are the slots of it that have issued, and `next` is
where a branch or loop end of it goes (R247, R248). -/
structure Tile where
  waiting : Bool := false
  held    : Bool := false
  halt    : Nat := 0
  pc      : Nat := 0
  next    : Option Nat := none
  slots   : List Nat := []
  gregs   : Tbl Word := []
  vregs   : Tbl (List Byte) := []
  cube    : Tbl (List Nat) := []
  cubeBad : List Nat := []
  loops   : Tbl Nat := []
  trm     : Nat := 0
  sram    : Memory := []
  poison  : List Nat := []
  queues  : Tbl QPlace := []
  inbox   : Tbl (List MeshPkt) := []
  wpos    : Tbl Nat := []
  scrubs  : Tbl Nat := []
  deriving DecidableEq, Repr

/-- A router's input buffer of one virtual channel (R258): whole packets, oldest first, and the flits that have left it and whose
credits have not gone back to the sender. -/
structure MeshBuf where
  pkts : List MeshPkt := []
  owed : Nat := 0
  deriving DecidableEq, Repr

/-- A hub die's stream engine (R29): the image slot it serves, what its 64 KiB buffer holds, the reads asked for and not yet returned
and the pieces that its descriptor list still names, each a region, an offset and a length. -/
structure StreamEng where
  slot : Option Nat := none
  buf  : List Byte := []
  out  : List (Nat × Nat × Nat) := []
  list : List (Nat × Nat × Nat) := []
  deriving DecidableEq, Repr

/-- A spare-column substitution in progress on a die (R276). -/
structure Subst where
  die     : Nat
  tile    : Nat
  pcol    : Nat
  from_   : Nat
  slots   : List Nat
  passed  : Bool
  msg     : FaultMsg
  deriving DecidableEq, Repr

/-- The fabric (the routers' input buffers in `mesh`, and in `taken` whether the image command under way has been taken): image slots, tiles, stream engines, the substitution in progress and the messages of lasting tiles that wait for one,
 retired tiles, failed routers, and the image command registers. -/
structure Fabric where
  slots    : Tbl ImgSlot := []
  tiles    : Tbl Tile := []
  engines  : Tbl StreamEng := []
  subst    : Option Subst := none
  substq   : List FaultMsg := []
  routers  : List Nat := []
  retired  : List Nat := []
  pgens    : Tbl Nat := []
  cmdBusy  : Option Nat := none
  cmdArgs  : List Nat := []
  reason   : Nat := 0
  cmdSlot  : Nat := 0
  doneSeq  : Nat := 0
  waiting  : List Nat := []
  shipped  : Tbl Image := []
  mesh     : Tbl MeshBuf := []
  taken    : Bool := false
  deriving DecidableEq, Repr

end Sys2Proof.Machine
end

