-- ==== Sys2Proof/Machine/State.lean ====
section
/-!
DEFINITION. The state of the block: plain data, one home for each piece of state the spec names.
-/

namespace Sys2Proof.Machine

/-- Lock states of the global count (Table 16.1). -/
inductive LockState where
  | unlocked | acquiring | locked | holdover
  deriving DecidableEq, Repr

/-- The code TIM_STATUS STATE gives a lock state (Table 16.10). -/
def LockState.code : LockState → Nat
  | .unlocked => 0 | .acquiring => 1 | .locked => 2 | .holdover => 3

/-- The global count, the free-running local count and the lock (R389 to R394). -/
structure TimeSt where
  count    : Nat := 0
  localNs  : Nat := 0
  lock     : LockState := .unlocked
  behind   : Bool := false
  resync   : Bool := false
  word     : Option Word := none
  prev     : Option Nat := none
  base     : Option Int := none
  good     : Nat := 0
  misses   : Nat := 0
  lastAt   : Nat := 0
  pulseAt  : Option Nat := none
  syncAt   : Option Nat := none
  outAt    : Option Nat := none
  started  : Bool := false
  slew     : Int := 0
  outLog   : List (Nat × Word) := []
  deriving DecidableEq, Repr

/-- Fault collection (chapter 18). -/
structure FltSt where
  queues   : Tbl (List FaultMsg) := []
  holding  : Tbl (List FaultMsg) := []
  log      : Tbl LogEntry := []
  nextSeq  : Nat := 0
  openOld  : List (Nat × Nat) := []
  first    : Option LogEntry := none
  tie      : Bool := false
  tests    : List SelfTest := []
  waiting  : List SelfTest := []
  tracker  : List Verdict := []
  isol     : List Isolation := []
  notes    : List (Nat × Nat × Nat) := []
  pageAt   : Option Nat := none
  pageFrom : Nat := 0
  wroteAt  : Nat := 0
  urgent   : Bool := false
  safe     : Bool := false
  safeSeq  : Option Nat := none
  fwSeen   : Bool := false
  checkin  : Nat := 0
  alive    : Bool := false
  aliveAt  : Nat := 0
  romLow   : Bool := false
  deriving DecidableEq, Repr

/-- What the Eudel image's keys fix beyond register fields (Table 20.4 and the chapters that name each key). -/
structure Keys where
  svcEp     : Nat := 0
  etherType : Nat := 0x88B5
  udpPort   : Nat := 49374
  ttl       : Nat := 16
  dscp      : Tbl Nat := []
  mac       : Tbl Nat := []
  ip4       : Tbl Nat := []
  ip6       : Tbl Nat := []
  pvid      : Tbl Nat := []
  timeSrc   : Nat := 0
  ptpLog    : Int := 0
  deriving DecidableEq, Repr

/-- What the Eudel image's keys fix for the services (Table 20.4, R128, R130, R221, R268). -/
structure SvcCfg where
  accKib      : Nat := 0
  winPct      : Nat := 25
  retain      : Nat := 0
  jobTimeout  : Nat := 2000000
  rect        : Nat × Nat × Nat × Nat := (0, 0, 220, 80)
  gatherTiles : Nat := 1024
  gatherRect  : Nat × Nat × Nat × Nat := (156, 80, 64, 16)
  meshPct     : Nat := 75
  userKeys    : List (List Byte × Nat) := []
  deriving DecidableEq, Repr

/-- The I3C target (R515): the register address the last 7-byte private write named, and the bytes of the last private
read. The word that the last register read over PCIe returned is `busRead` of the state. -/
structure I3cSt where
  addr : Option Nat := none
  out  : List Byte := []
  deriving DecidableEq, Repr

/-- Levels of pins, supplies and reference clocks the block sees or drives (chapter 22), the port dies whose SerDes PLLs are not
locked, and the local time the main regulators were last switched off; `thermLow` is what a THERM_CRIT fault latches (chapter 22). -/
structure Pins where
  auxGood   : Bool := true
  refAux    : Bool := true
  pwrGood   : Bool := false
  mainOn    : Bool := false
  resetN    : Bool := true
  recoveryN : Bool := true
  sampledN  : Bool := true
  thermLow  : Bool := false
  sdA       : Bool := true
  sdB       : Bool := true
  pcieClk   : Bool := false
  pllLost   : List Nat := []
  offAt     : Nat := 0
  deriving DecidableEq, Repr

/-- What the factory sets (Tables 0.1, 20.6 and 22.14): a later stepping reports a higher value. -/
structure Factory where
  stepping : Nat := 1
  serial   : Nat := 1
  mac      : Nat := 1
  deriving DecidableEq, Repr

/-- The state of the block. -/
structure State where
  pending : List Instr := []
  factory : Factory := {}
  mem     : List Host.Cell := []
  mops    : List MemOp := []
  time    : TimeSt := {}
  regs    : Tbl Nat := []
  ageLog  : List (Nat × Nat) := [(0, 4000)]
  ports   : Tbl PortSt := []
  hubs    : Tbl Hub := []
  bpm     : Tbl BpmPool := []
  fwd     : Fwd := {}
  meters  : Tbl Meter := []
  mirror  : Tbl MirSess := []
  cfg     : SvcCfg := {}
  svc     : Svc := {}
  mp      : PoolSt := {}
  fab     : Fabric := {}
  flt     : FltSt := {}
  reco    : RecSt := {}
  pow     : PowSt := {}
  nvm     : NvmSt := {}
  keys    : Keys := {}
  i3c     : I3cSt := {}
  busRead : Option Nat := none
  pins    : Pins := {}
  sent    : List (Nat × Frame) := []
  mgmtOut : List Frame := []
  nextId  : Nat := 0
  free    : Nat := 0
  deriving DecidableEq, Repr

/-- Why a step stops with a fault. No command of this block faults: the spec gives every command an effect on every state
or calls it one without effect. -/
inductive Fault where
  /-- Never raised: kept so that the interface has a type of faults. Safe. -/
  | none
  deriving DecidableEq, Repr

/-- Why a command has no meaning. -/
inductive Refusal where
  /-- Raised by the dispatch for a command the model does not give a meaning yet. Safe: the step does not run. -/
  | notModelled (mnemonic : String)
  deriving DecidableEq, Repr

/-- The block right after reset: the moment AUX12 comes within range (R408, R484), before the ROM has run. -/
def State.reset : State := {}

end Sys2Proof.Machine
end

