-- ==== Sys2Proof/Machine/Ops.lean ====
section
/-!
DEFINITION. The named operations every command shares: register words and counters, time and age limits, fault messages,
ports and hubs by number.
-/

namespace Sys2Proof.Machine

/-! ### Outcomes -/

/-- What a command answers. -/
abbrev Out : Type := Host.Outcome State Fault Refusal

/-- The next state of a command that writes no memory: the queue, the factory's values and HBM are those before it. -/
def commit (s s' : State) : Out :=
  .next { s' with pending := s.pending, factory := s.factory, mem := s.mem, mops := s.mops }

/-- The next state of a command that may write HBM: `body` notes its changes in `mops`, and they are made here. -/
def commitMem (s : State) (body : State → State) : Out :=
  let t := body { s with mops := [] }
  .next { t with pending := s.pending, factory := s.factory, mem := Memory.after s.mem t.mops, mops := s.mops }

/-- HBM as the command has left it so far. -/
def State.hbm (s : State) : Memory := Memory.after s.mem s.mops

/-- Note a change of HBM. -/
def State.memOp (s : State) (o : MemOp) : State := { s with mops := s.mops ++ [o] }

/-! ### Registers -/

/-- The stored word of instance `is` of register `r`. -/
def State.reg (s : State) (r : Reg) (is : List Nat) : Nat :=
  s.regs.get (r.addr is) (regReset r is)

/-- The state with that word stored. -/
def State.setReg (s : State) (r : Reg) (is : List Nat) (v : Nat) : State :=
  { s with regs := s.regs.set (r.addr is) v }

/-- Field [hi:lo] of a stored register. -/
def State.fld (s : State) (r : Reg) (is : List Nat) (hi lo : Nat) : Nat :=
  s.reg r is / 2 ^ lo % 2 ^ (hi + 1 - lo)

/-- The state with field [hi:lo] of a register set. -/
def State.setFld (s : State) (r : Reg) (is : List Nat) (hi lo v : Nat) : State :=
  s.setReg r is (Nat.withField (s.reg r is) hi lo v)

/-- Add `n` to a saturating counting field (R495). -/
def State.bump (s : State) (r : Reg) (is : List Nat) (hi lo : Nat) (n : Nat := 1) : State :=
  s.setFld r is hi lo (satAdd (hi + 1 - lo) (s.fld r is hi lo) n)

/-- Add `n` to a modular counting field (R495). -/
def State.bumpMod (s : State) (r : Reg) (is : List Nat) (hi lo : Nat) (n : Nat := 1) : State :=
  s.setFld r is hi lo (s.fld r is hi lo + n)

/-- Add 1 to a counter with the layout of Table 4.11. -/
def State.count64 (s : State) (r : Reg) (is : List Nat) (n : Nat := 1) : State := s.bump r is 63 0 n

/-- The die and local number of a port in the PRT block (R116). -/
def portIdx (p : Nat) : List Nat := [p / 96, p % 96]

/-- Add 1 to QFT receive counter `i` of port `p` (R116, Table 4.10). -/
def State.qftCount (s : State) (p i : Nat) : State := s.count64 .prtQft (portIdx p ++ [i])

/-- Add `n` to link counter `i` of port `p` (R386, Table 15.8). -/
def State.portCount (s : State) (p i : Nat) (n : Nat := 1) : State := s.count64 .prtCnt (portIdx p ++ [i]) n

/-- Add 1 to forwarding counter `i` of die `d` (R308, Table 12.12). -/
def State.fwdCount (s : State) (d i : Nat) : State := s.count64 .fwdCnt [d, i]

/-- Add 1 to buffer counter `i` of class `c` of hub die `h` (R336, Table 13.9). -/
def State.bufCount (s : State) (h c i : Nat) : State := s.count64 .bufCnt [h, c, i]

/-! ### Time -/

/-- The global count (R389). -/
def State.now (s : State) : Nat := s.time.count

/-- The free-running local count in nanoseconds. -/
def State.local (s : State) : Nat := s.time.localNs

/-- The device is locked in LOCKED and HOLDOVER (R391); an origin is always LOCKED (R390). -/
def State.countLocked (s : State) : Bool :=
  s.keys.timeSrc == 0 || s.time.lock == .locked || s.time.lock == .holdover

/-- BIRTH: bits 41:10 of the global count, or of the local count while unlocked (R80, R320). -/
def State.birthNow (s : State) : Nat :=
  (if s.countLocked then s.now else s.local) / 1024 % 2 ^ 32

/-- AGE_US of class `c` in hub die `h` as it acts (Table 13.8). -/
def State.ageUs (s : State) (h c : Nat) : Nat :=
  let v := s.fld .hubBufClass [h, c] 47 28
  if v = 0 then 4000 else min v 1000000

/-- The largest age limit now (R318). -/
def State.largestAgeNow (s : State) : Nat :=
  (List.range 32).foldl (fun m i => max m (s.ageUs (i / 8) (i % 8))) 0

/-- The largest age limit in effect at any time since local time `t` (R301, R318). -/
def State.largestAgeSince (s : State) (t : Nat) : Nat :=
  let before := (s.ageLog.filter fun e => decide (e.1 ≤ t)).getLast?
  let after := (s.ageLog.filter fun e => decide (t < e.1)).map Prod.snd
  max (after.foldl max 0) (match before with | some e => e.2 | none => 0)

/-- Twice the largest age limit has passed since local time `t`. -/
def State.twiceAgePassed (s : State) (t : Nat) : Bool :=
  decide (t + 2 * s.largestAgeSince t * 1000 ≤ s.local)

/-- STAGE of CTL_START (Table 20.6). -/
def State.stage (s : State) : Nat := s.fld .ctlStart [] 63 60

/-- The device is READY (R484, R485). -/
def State.isReady (s : State) : Bool := s.stage == 7

/-- COMPAT of CTL_ID, the level up to which images are accepted (R4, R5, Table 0.1). -/
def State.compat (s : State) : Nat := s.fld .ctlId [] 39 32

/-- The lock state replaced; LOCKS and LOSSES count, and a loss forgets what the comparisons built up (R391, Table 16.10). -/
def State.setLock (s : State) (l : LockState) : State :=
  let old := s.time.lock
  let s := { s with time := { s.time with lock := l } }
  if l = .locked ∧ old = .acquiring then s.bump .timStatus [] 57 42
  else if l = .unlocked ∧ (old = .locked ∨ old = .holdover) then
    ({ s with time := { s.time with slew := 0, prev := none, base := none, good := 0 } } : State).bump .timStatus [] 41 26
  else s

/-! ### Ports and hub dies -/

/-- The state of port `p`. -/
def State.port (s : State) (p : Nat) : PortSt := s.ports.get p {}

def State.setPort (s : State) (p : Nat) (q : PortSt) : State := { s with ports := s.ports.set p q }

/-- The state of hub die `h`. -/
def State.hub (s : State) (h : Nat) : Hub := s.hubs.get h {}

def State.setHub (s : State) (h : Nat) (u : Hub) : State := { s with hubs := s.hubs.set h u }

/-- SPEED of a port; 0 where the number names no port (R362). -/
def State.speed (s : State) (p : Nat) : Nat := s.fld .prtPortCfg (portIdx p) 63 61

/-- A number that names a port (R362). -/
def State.isPort (s : State) (p : Nat) : Bool := decide (p < 768) && s.speed p != 0

/-- Lanes of a port (Table 15.1). -/
def State.lanes (s : State) (p : Nat) : Nat :=
  match s.speed p with
  | 1 => 1 | 2 => 2 | 3 => 4 | 4 => 8 | _ => 0

/-- Payload bytes per nanosecond of a port (Table 15.1). -/
def State.bytesPerNs (s : State) (p : Nat) : Nat := 25 * s.lanes p

/-- The port is up only in state UP (R366). -/
def State.linkUp (s : State) (p : Nat) : Bool := (s.port p).link.state == .up

/-- Port role fabric (R364). -/
def State.isFabric (s : State) (p : Nat) : Bool := s.fld .prtPortCfg (portIdx p) 59 59 == 1

/-- The job bound to a port (R364). -/
def State.portJob (s : State) (p : Nat) : Nat := s.fld .prtPortCfg (portIdx p) 57 46

/-- MAX_FRAME of a port (R365). -/
def State.maxFrame (s : State) (p : Nat) : Nat := s.fld .prtPortCfg (portIdx p) 45 32

/-- The hub die that buffers what enters on port die `n` (R23). -/
def hubOfDie (n : Nat) : Nat := n % 4

/-- A reset domain is under reset (R457). -/
def State.domBusy (s : State) (n : Nat) : Bool := (s.reco.doms.get n {}).since.isSome

/-- The body of a command of the datapath or of Temond's service, which the safe state stops (R449). -/
def State.unlessSafe (s : State) (f : State → State) : State := if s.flt.safe then s else f s

/-- The always-on islands run: AUX12 in range, REFCLK_AUX present, out of reset (R508, R511, R520). -/
def State.islandsUp (s : State) : Bool := s.pins.auxGood && s.pins.refAux && s.pins.resetN

/-- The body of a command that is a write of an always-on register: without effect while those registers do not answer (R520). -/
def State.ifIslands (s : State) (f : State → State) : State := if s.islandsUp then f s else s

/-- The body of a command that is a write of a main-domain register: ignored unless PWR_GOOD is high (R520). -/
def State.ifMain (s : State) (f : State → State) : State := if s.islandsUp && s.pins.pwrGood then f s else s

/-! ### Free values and identifiers -/

/-- A fresh free value and the state with its counter advanced (log entry 1). -/
def State.freeVal (s : State) : Nat := Config.freeValue s.free

def State.tickFree (s : State) : State := { s with free := s.free + 1 }

/-! ### Fault messages -/

/-- The default severity of a kind (Table 18.5). UNIT_ISOLATED's severity is that of Table 18.7. -/
def kindSeverity (k : Nat) : Nat :=
  if [0x003, 0x008, 0x010, 0x020, 0x030].contains k then 0
  else if [0x022, 0x036, 0x040, 0x048].contains k then 2
  else if [0x009, 0x060, 0x061, 0x070, 0x071].contains k then 3
  else 1

/-- Entries of a die's queue that hold NOTE and MINOR messages may take (R435). -/
def queueOpen : Nat := 240

/-- One detection: the message joins its die's queue; a NOTE or MINOR message that finds the unreserved part full is lost, a
MAJOR or FATAL message that finds the reserved part full waits in its unit's holding register (R431, R435). -/
def State.raise (s : State) (die block inst kind sev addr : Nat) : State :=
  let m : FaultMsg := ⟨die, block, inst, kind, sev, s.now, addr⟩
  let q := s.flt.queues.get die []
  if sev < 2 then
    if (q.filter fun x => decide (x.sev < 2)).length < queueOpen ∧ q.length < 256 then
      { s with flt := { s.flt with queues := s.flt.queues.set die (q ++ [m]) } }
    else s.bump .fltCounts [] 63 48
  else if q.length < 256 then
    { s with flt := { s.flt with queues := s.flt.queues.set die (q ++ [m]) } }
  else
    let h := s.flt.holding.get die []
    if h.any fun x => x.block == block && x.inst == inst then s
    else { s with flt := { s.flt with holding := s.flt.holding.set die (h ++ [m]) } }

end Sys2Proof.Machine
end

