-- ==== Sys2Proof/Machine/Buffer.lean ====
section
/-!
DEFINITION. The buffer pool manager (R322 to R328), mirroring (R329 to R334), and admission to a hub die's cells (R309 to
R315).
-/

namespace Sys2Proof.Machine

/-! ### Buffer pool manager -/

/-- The lowest number at or above `n` missing from a rising list. -/
def firstGap : List Nat → Nat → Nat
  | [], n => n
  | k :: ks, n => if k = n then firstGap ks (n + 1) else if k < n then firstGap ks n else n

/-- The pool's state. -/
def State.pool (s : State) (p : Nat) : BpmPool := s.bpm.get p {}

def State.setPool (s : State) (p : Nat) (b : BpmPool) : State := { s with bpm := s.bpm.set p b }

/-- The lowest free buffer of bank `b` of 16 in a cell pool (R323). -/
def BpmPool.bankFree (q : BpmPool) (b : Nat) : Option Nat :=
  let g := firstGap ((q.bufs.keys.filter fun k => k % 16 == b).map fun k => k / 16) 0
  if g * 16 + b < q.cap then some (g * 16 + b) else none

/-- The buffer the pool would grant next: by bank in rotation for a cell pool (0 to 3), lowest index otherwise (R323). -/
def BpmPool.nextFree (q : BpmPool) (p : Nat) : Option Nat :=
  if p < 4 then (List.range 16).findSome? fun i => q.bankFree ((q.bank + i) % 16)
  else
    let g := firstGap q.bufs.keys 0
    if g < q.cap then some g else none

/-- FREE buffers of a pool. -/
def BpmPool.freeCount (q : BpmPool) : Nat := q.cap - q.bufs.length

/-- CAPACITY: buffers less those isolation removed (Table 18.7). -/
def BpmPool.capacity (q : BpmPool) : Nat :=
  q.cap - (q.bufs.filter fun e => match e.2 with | .withheld => true | _ => false).length

/-- ALLOC for one owner: the buffer granted and the pool after it; none is EMPTY (R324). -/
def BpmPool.alloc (q : BpmPool) (p owner : Nat) : Option (Nat × BpmPool) :=
  (q.nextFree p).map fun i => (i, { q with bufs := q.bufs.set i (.held owner), bank := (i % 16 + 1) % 16 })

/-- The outcome of a RELEASE (R325): accepted with the pool after it, or refused with the KIND of Table 13.10. -/
inductive Released where
  | done (q : BpmPool)
  | refused (kind : Nat)
  deriving DecidableEq, Repr

/-- RELEASE(buffer, owner, tag) (R325): 1 double free, 2 unknown owner, 3 over-release. -/
def BpmPool.release (q : BpmPool) (i owner tag : Nat) : Released :=
  match q.bufs.find? i with
  | none => .refused 1
  | some .withheld => .refused 1
  | some (.held o) => if o = owner then .done { q with bufs := q.bufs.erase i } else .refused 2
  | some (.shared n t last lr) =>
    if t ≠ tag then .refused 2
    else if owner = last ∧ lr then .refused 3
    else
      let lr' := lr || owner == last
      if n = 1 then
        if lr' then .done { q with bufs := q.bufs.erase i } else .refused 3
      else .done { q with bufs := q.bufs.set i (.shared (n - 1) t last lr') }

/-- SHARE by the holder of a HELD buffer (R324); another sender or count changes nothing. -/
def BpmPool.share (q : BpmPool) (i owner n tag last : Nat) : BpmPool :=
  match q.bufs.find? i with
  | some (.held o) =>
    if o = owner ∧ 2 ≤ n ∧ n ≤ 65535 then { q with bufs := q.bufs.set i (.shared n tag last false) } else q
  | _ => q

/-- Grant up to `n` cells to one owner; the admission rule has checked the room (R327). -/
def allocCells (p owner : Nat) : Nat → BpmPool → List Nat → List Nat × BpmPool
  | 0, q, acc => (acc, q)
  | n + 1, q, acc =>
    match q.alloc p owner with
    | some (i, q') => allocCells p owner n q' (acc ++ [i])
    | none => (acc, q)

/-- The row of 16 cells that holds cell `i` of pool `p` is under self-test or isolated, so a cell that becomes FREE is withheld from
grant (Tables 18.6 and 18.7). -/
def State.rowOut (s : State) (p i : Nat) : Bool :=
  decide (p < 4)
    && ((s.flt.tests.any fun t => t.msg.die == 8 + p && t.msg.block == 0x08 && t.msg.addr / 16 == i / 16)
        || (s.flt.isol.any fun r => r.die == 8 + p && r.block == 0x08 && r.unit == i / 16))

/-- A release by the device itself: a refusal is counted and reported by R326. -/
def State.bpmRelease (s : State) (p i owner tag : Nat) : State :=
  match (s.pool p).release i owner tag with
  | .done q => s.setPool p (if (q.bufs.find? i).isNone && s.rowOut p i then { q with bufs := q.bufs.set i .withheld } else q)
  | .refused k =>
    let s := match k with
      | 1 => s.bump .bpmErr [p] 63 32
      | 2 => s.bump .bpmErr [p] 31 16
      | _ => s.bump .bpmErr [p] 15 0
    let s := if s.fld .bpmErrFirst [] 63 63 = 0 then
        s.setReg .bpmErrFirst [] (2 ^ 63 + k % 8 * 2 ^ 60 + p % 32 * 2 ^ 55 + i % 2 ^ 23 * 2 ^ 32 + owner % 65536 * 65536)
      else s
    let die := if p < 12 then 8 + p % 4 else 8 + (p - 16) / 4
    s.raise die 0x09 p 0x012 1 (p % 256 * 2 ^ 56 + i % 2 ^ 24 * 2 ^ 32 + owner % 65536)

/-- The owner number a queue presents: 8 x port + class (log entry 20). -/
def queueOwner (port cls : Nat) : Nat := 8 * port + cls

/-- The owner number under which a copy that is not the last queued releases the common cells (log entry 20). -/
def engineOwner : Nat := 0x7000

/-! ### Mirroring -/

/-- The session's state. -/
def State.sess (s : State) (i : Nat) : MirSess := s.mirror.get i {}

def State.setSess (s : State) (i : Nat) (m : MirSess) : State := { s with mirror := s.mirror.set i m }

/-- What a mirror point sees of a packet (R329, R331). -/
structure Seen where
  point  : Nat
  reason : Nat
  inPort : Nat
  outPort : Nat
  cls    : Nat
  ctx    : Nat
  isQft  : Bool
  len    : Nat
  depth  : Nat
  addr   : Nat
  frame  : List Byte
  deriving DecidableEq, Repr

/-- The criteria of R329 other than RATIO. -/
def State.selects (s : State) (i : Nat) (v : Seen) : Bool :=
  let f (hi lo : Nat) : Nat := s.fld .mirCfg [i] hi lo
  let port := if v.point = 0 ∨ v.point = 3 then v.inPort else v.outPort
  let c := s.fld .mirSel [i] 63 48
  (s.sess i).enabled && f 61 60 == v.point && (f 59 59 == 1 || f 58 49 == port)
    && (f 48 41 == 0 || f 48 41 / 2 ^ v.cls % 2 == 1) && (c == 0 || (v.isQft && c == v.ctx))

/-- The 144 bytes of a mirror record (Table 13.7). -/
def mirrorRecord (now i : Nat) (v : Seen) : List Byte :=
  let w := v.inPort % 1024 * 2 ^ 54 + i % 64 * 2 ^ 48 + v.cls % 8 * 2 ^ 45 + v.reason % 64 * 2 ^ 39
    + (if v.point = 3 then 2 ^ 38 + v.addr % 2 ^ 35
       else v.len % 2 ^ 14 * 2 ^ 24 + v.outPort % 1024 * 2 ^ 14 + v.depth % 2 ^ 14)
  natBytes 8 now ++ natBytes 8 w ++ (v.frame.take 128 ++ List.replicate (128 - v.frame.length) 0)

/-- One session records a packet it selects, by RATIO and its ring mode (R329, R331, R333). A staging block holds 32 records
of one session and one recording die; a record without one is lost, its ALLOC answered EMPTY (R327). -/
def State.mirrorOne (s : State) (die i : Nat) (v : Seen) : State :=
  if s.selects i v then
    let m := s.sess i
    let ratio := max (s.fld .mirCfg [i] 40 17) 1
    let k := m.ratio.get die 0
    let m := { m with ratio := m.ratio.set die ((k + 1) % ratio) }
    if k ≠ 0 then s.setSess i m
    else if m.frozen ∨ (s.fld .mirCfg [i] 62 62 = 1 ∧ m.capacity ≤ m.taken) then
      s.setSess i { m with frozen := true, frozenLost := satAdd 16 m.frozenLost 1 }
    else
      let rec' := mirrorRecord s.now i v
      let full := s.fld .mirCfg [i] 62 62 == 1 && decide (m.capacity ≤ m.taken + 1)
      match m.staged.find? fun b => b.die == die && decide (b.recs.length < 32) with
      | some b =>
        s.setSess i { m with
          taken := m.taken + 1
          frozen := full
          staged := m.staged.map fun c => if c == b then { b with recs := b.recs ++ [⟨none, rec'⟩] } else c }
      | none =>
        let p := 8 + (if die < 8 then die % 4 else (die - 8) % 4)
        match (s.pool p).alloc p (0x8000 + i) with
        | some (buf, q) =>
          (s.setPool p q).setSess i { m with
            taken := m.taken + 1, frozen := full, staged := m.staged ++ [⟨die, buf, s.local, [⟨none, rec'⟩]⟩] }
        | none => (s.setSess i { m with stageLost := satAdd 16 m.stageLost 1 }).bump .bpmStat [p] 63 32
  else s

/-- Every session looks at a packet at its mirror point (R329, R330). -/
def State.mirrorAt (s : State) (die : Nat) (v : Seen) : State :=
  s.mirror.keys.foldl (fun (s : State) i => s.mirrorOne die i v) s

/-- The bytes of a frame from its destination address to its FCS (log entry 111). -/
def frameBytes (f : Frame) : List Byte :=
  let bs := natBytes 6 f.dmac ++ natBytes 6 f.smac ++ f.tags.flatMap (fun t => natBytes 2 0x8100 ++ natBytes 2 t)
    ++ natBytes 2 f.etype ++ f.body
  bs ++ (if f.fcsOk then fcsBytes bs else (Config.badFcs bs).take 4)

/-- The frame as it was received, or as it will be sent where the device originates it, and its length L (R309, R331). -/
def QItem.shown (q : QItem) : Frame := q.rcvd.getD q.frame
def QItem.len (q : QItem) : Nat := q.shown.len

/-- What a queued packet shows at a hub die's mirror points. -/
def Hub.seen (u : Hub) (q : QItem) (point reason : Nat) : Seen :=
  let charge := (u.queue.filter fun x => x.port == q.port && x.cls == q.cls).foldl (fun n x => n + x.floorC + x.sharedC) 0
  ⟨point, reason, q.inPort, q.port, q.cls, (match q.pkt with | some p => p.ctx | none => 0), q.pkt.isSome,
    q.len, charge / 32, 0, frameBytes q.shown⟩

/-! ### Admission -/

/-- Cells of a frame of `n` bytes (R309). -/
def cellsOf (n : Nat) : Nat := ceilDiv n 256

/-- The exponent v of alpha = 2^(v - 5) for a class (Table 13.8). -/
def State.alpha (s : State) (h c : Nat) : Nat :=
  let v := s.fld .hubBufClass [h, c] 53 50
  if v = 0 then (if c ≤ 2 ∨ c = 7 then 6 else if c = 3 then 5 else 4) else min v 8

/-- EVICTABLE, which reads 0 for classes 0, 1 and 3 (Table 13.8). -/
def State.evictable (s : State) (h c : Nat) : Bool :=
  s.fld .hubBufClass [h, c] 49 49 == 1 && !(c == 0 || c == 1 || c == 3)

def State.evicting (s : State) (h c : Nat) : Bool := s.fld .hubBufClass [h, c] 48 48 == 1

/-- The queue of an egress port and class. -/
def Hub.sel (u : Hub) (port cls : Nat) : List QItem := u.queue.filter fun x => x.port == port && x.cls == cls

/-- A queue's charge on the shared pool, on its floor, and in all. -/
def sharedCharge (l : List QItem) : Nat := (l.map QItem.sharedC).sum
def floorCharge (l : List QItem) : Nat := (l.map QItem.floorC).sum
def fullCharge (l : List QItem) : Nat := sharedCharge l + floorCharge l

/-- Rule 2 of R312 for `n` cells of class `c` with `f` free shared cells and queue charge `sq`. -/
def State.sharedOk (s : State) (h c f sq n : Nat) : Bool :=
  decide (n ≤ f) && decide ((sq + n) * 32 ≤ f * 2 ^ s.alpha h c)

/-- Headroom cells of an ingress port: CELLS_PER_LANE for each of its lanes (R310, R311). -/
def State.headroom (s : State) (h port : Nat) : Nat := s.fld .hubBufHdrm [h] 63 53 * s.lanes port

/-- The class is under credit flow control on the ingress port. -/
def State.creditClass (s : State) (port cls : Nat) : Bool :=
  decide (port < 768) && (s.port port).link.creditRx / 2 ^ cls % 2 == 1

/-- The port die gives back the credit of cells that have left (R311, R377). -/
def State.creditBack (s : State) (port cls cells : Nat) : State :=
  if s.creditClass port cls then
    let q := s.port port
    let c := q.crx.get cls {}
    s.setPort port { q with crx := q.crx.set cls { c with
      released := (c.released + cells) % 2 ^ 32
      grewAt := match c.grewAt with | some t => some t | none => some s.local } }
  else s

/-- The credit of `n` cells of a packet goes back where it was received under credit and the port has stayed up since: frames that are not
QFT are outside credit (R311, R373, R377). -/
def State.creditItem (s : State) (q : QItem) (n : Nat) : State :=
  if q.credit = some (s.port q.inPort).link.since then s.creditBack q.inPort q.cls n else s

/-- No packet waits in a class queue of the port in any hub die; one that has begun is on the line (R339). -/
def State.queueEmpty (s : State) (port cls : Nat) : Bool := (List.range 4).all fun h => ((s.hub h).sel port cls).all QItem.started

/-- A class whose queue becomes empty has its deficit set to 0 (R340). -/
def State.deficitEnd (s : State) (port cls : Nat) : State :=
  if s.queueEmpty port cls then
    let q := s.port port
    s.setPort port { q with sched := { q.sched with deficit := q.sched.deficit.erase cls } }
  else s

/-- The charges of a queue's packets in order, floor first: within a queue the shared cells are the last ones charged (R309, R315). -/
def recharge (port cls : Nat) : Nat → List QItem → List QItem
  | _, [] => []
  | fl, q :: rest =>
    if q.port = port ∧ q.cls = cls then
      let n := q.floorC + q.sharedC
      let f := min n fl
      { q with floorC := f, sharedC := n - f, own := if q.group.isSome then min 1 (n - f) else n - f } :: recharge port cls (fl - f) rest
    else q :: recharge port cls fl rest

/-- A queue's charges set anew after cells of it have left: the floor takes up what it can hold. -/
def State.recharged (s : State) (h port cls : Nat) : State :=
  let u := s.hub h
  let l := recharge port cls (s.fld .hubBufClass [h, cls] 63 54) u.queue
  s.setHub h { u with
    queue := l
    shared := u.shared + (u.queue.map QItem.own).sum - (l.map QItem.own).sum
    floorU := u.floorU + (l.map QItem.floorC).sum - (u.queue.map QItem.floorC).sum }

/-- A packet that cuts through releases its cells as they are sent, the last with its tail (R316). -/
def State.drainItem (s : State) (h : Nat) (q : QItem) : State :=
  let sent := min (q.cells - 1) ((s.local - q.startAt) * s.bytesPerNs q.port / 256)
  let k := sent - q.gone
  if !q.started || q.group.isSome || k = 0 then s
  else
    let hd := min k q.hdrmC
    let sh := min (k - hd) q.sharedC
    let fl := min (k - hd - sh) q.floorC
    let x := { q with gone := sent, hdrmC := q.hdrmC - hd, sharedC := q.sharedC - sh, own := q.own - sh, floorC := q.floorC - fl, bufs := q.bufs.drop k }
    let u := s.hub h
    let s := s.setHub h { u with
      queue := u.queue.map fun y => if y.id == q.id then x else y
      shared := u.shared + sh
      floorU := u.floorU - fl
      hdrm := if hd = 0 then u.hdrm else u.hdrm.set q.inPort (u.hdrm.get q.inPort 0 - hd) }
    let s := (q.bufs.take k).foldl (fun (s : State) b => s.bpmRelease h b (queueOwner q.port q.cls) 0) s
    (s.recharged h q.port q.cls).creditItem q k

/-- Every packet of hub die `h` that is cutting through. -/
def State.drain (s : State) (h : Nat) : State := (s.hub h).queue.foldl (fun (s : State) q => s.drainItem h q) s

/-- A packet leaves hub die `h`, by transmission or discard: its charges and buffers return (R311, R315, R325). -/
def State.leave (s : State) (h : Nat) (q : QItem) : State :=
  let u := s.hub h
  let s := s.setHub h { u with
    queue := u.queue.filter fun x => x.id != q.id
    shared := u.shared + q.own
    floorU := u.floorU - q.floorC
    hdrm := if q.hdrmC = 0 then u.hdrm else u.hdrm.set q.inPort (u.hdrm.get q.inPort 0 - q.hdrmC) }
  let owner := queueOwner q.port q.cls
  let s := q.bufs.foldl (fun (s : State) b => s.bpmRelease h b owner 0) s
  let s := match q.group with
    | none => s
    | some tag =>
      match (s.hub h).groups.find? fun (g : CopyGroup) => g.tag == tag with
      | none => s
      | some g =>
        let o := if g.lastId = q.id then owner else engineOwner
        let s := g.bufs.foldl (fun (s : State) b => s.bpmRelease h b o tag) s
        if g.bufs.all fun b => ((s.pool h).bufs.find? b).isNone then
          let u := s.hub h
          s.setHub h { u with shared := u.shared + g.shared, groups := u.groups.filter fun x => x.tag != tag }
        else s
  ((s.recharged h q.port q.cls).creditItem q (q.cells - q.gone)).deficitEnd q.port q.cls

/-- A packet of class `c` that push-out may take: evictable class, not started, with a shared charge (R314, R315). -/
def State.canPush (s : State) (h : Nat) (q : QItem) : Bool :=
  s.evictable h q.cls && !q.started && decide (0 < q.sharedC)

/-- The shared cells that pushing out every packet that may be would return to FREE, those that copies share where no copy would stay
(R314 step 1, R315). -/
def State.pushable (s : State) (h : Nat) : Nat :=
  let u := s.hub h
  let gone (g : CopyGroup) : Bool := (u.queue.filter fun q => q.group == some g.tag).all (s.canPush h)
  ((u.queue.filter (s.canPush h)).map QItem.own).sum + ((u.groups.filter gone).map CopyGroup.shared).sum

/-- The packet push-out takes next: the largest evictable class, in it the queue with the largest charge (lowest port among
equals), in it the most recently queued packet (R314 steps 2 to 4). -/
def State.victim (s : State) (h : Nat) : Option QItem :=
  let u := s.hub h
  let cand := u.queue.filter (s.canPush h)
  let c := cand.foldl (fun m q => max m q.cls) 0
  let cand := cand.filter fun q => q.cls == c
  let charge (q : QItem) : Nat := fullCharge (u.sel q.port q.cls)
  let best := cand.foldl (fun b q => match b with
    | none => some q
    | some x => if charge x < charge q ∨ (charge x = charge q ∧ q.port < x.port) then some q else b) none
  match best with
  | none => none
  | some b => (cand.filter fun q => q.port == b.port).getLast?

/-- Push out packets until rule 2 admits `n` cells (R314 step 5); the fuel bounds the packets taken. -/
def pushOut (h c sq n : Nat) : Nat → State → State
  | 0, s => s
  | k + 1, s =>
    if s.sharedOk h c (s.hub h).shared sq n then s
    else
      match s.victim h with
      | none => s
      | some v =>
        let s := s.mirrorAt (8 + h) ((s.hub h).seen v 2 4)
        pushOut h c sq n k ((s.leave h v).bufCount h v.cls 3)

/-- The charges with which a packet is admitted. -/
structure Charge where
  floorC  : Nat
  sharedC : Nat
  hdrmC   : Nat
  deriving DecidableEq, Repr

/-- R312 rules 1 to 4 for a packet of `n` cells: the charges and the state after any push-out; none is rule 5. -/
def State.admission (s : State) (h : Nat) (q : QItem) : Option (Charge × State) :=
  let u := s.hub h
  let mine := u.sel q.port q.cls
  let fl := min q.cells (s.fld .hubBufClass [h, q.cls] 63 54 - floorCharge mine)
  let rest := q.cells - fl
  let sq := sharedCharge mine
  if rest = 0 then some (⟨q.cells, 0, 0⟩, s)
  else if s.sharedOk h q.cls u.shared sq rest then some (⟨fl, rest, 0⟩, s)
  else if q.credit.isSome ∧ u.hdrm.get q.inPort 0 + q.cells ≤ s.headroom h q.inPort then
    some (⟨0, 0, q.cells⟩, s)
  else if s.evicting h q.cls && !s.evictable h q.cls
      && s.sharedOk h q.cls (u.shared + s.pushable h) sq rest then
    let s' := pushOut h q.cls sq rest u.queue.length s
    if s'.sharedOk h q.cls (s'.hub h).shared sq rest then some (⟨fl, rest, 0⟩, s') else none
  else none

/-- A packet enters its queue with its charges: it takes cells from the pool, copies of one packet sharing all but their
first (R312, R324). -/
def State.enqueue (s : State) (h : Nat) (q : QItem) (c : Charge) : State :=
  let owner := queueOwner q.port q.cls
  let u := s.hub h
  let joined := match q.group with
    | none => false
    | some tag => u.groups.any fun g => g.tag == tag
  let n := if joined then 1 else q.cells
  let r := allocCells h owner n (s.pool h) []
  let own := if q.group.isSome then min 1 c.sharedC else c.sharedC
  let mine := if q.group.isSome then r.1.take 1 else r.1
  let item := { q with floorC := c.floorC, sharedC := c.sharedC, hdrmC := c.hdrmC, own := own, bufs := mine, enqAt := s.local }
  let first := q.group.isSome && !joined
  let u := { u with
    queue := u.queue ++ [item]
    shared := u.shared - (if joined then own else c.sharedC)
    floorU := u.floorU + c.floorC
    hdrm := if c.hdrmC = 0 then u.hdrm else u.hdrm.set q.inPort (u.hdrm.get q.inPort 0 + c.hdrmC)
    groups := if first then u.groups ++ [⟨q.group.getD 0, c.sharedC - own, r.1.drop 1, q.id⟩]
      else u.groups.map fun g => if some g.tag = q.group then { g with lastId := q.id } else g }
  (s.setPool h r.2).setHub h u

/-- The replication engine shares the common cells of a group among its `n` copies; the named last owner is the queue of the
copy queued last (R324). One copy keeps them HELD. -/
def State.shareGroup (s : State) (h tag n first last : Nat) : State :=
  match (s.hub h).groups.find? fun (g : CopyGroup) => g.tag == tag with
  | none => s
  | some g => if n < 2 then s else s.setPool h (g.bufs.foldl (fun (q : BpmPool) b => q.share b first n tag last) (s.pool h))

end Sys2Proof.Machine
end

