-- ==== Sys2Proof/Machine/Lookup.lean ====
section
/-!
DEFINITION. Endpoint lookup, next-hop groups, hash-pinned and adaptive choice, and encapsulation (R279 to R290, R77).
-/

namespace Sys2Proof.Machine

/-- The bank of a number. -/
def Fwd.bankOf (f : Fwd) (b : Nat) : Bank := if b = 0 then f.bank0 else f.bank1

/-- The active bank (R280). -/
def State.activeBank (s : State) : Bank := s.fwd.bankOf s.fwd.active

/-- An endpoint table entry; entries 0 and 0xF_FFFF always read 0 (R279). -/
def Bank.ep (b : Bank) (e : Nat) : Nat := if e = 0 ∨ e = 0xFFFFF then 0 else b.endpoint.get e 0 % 65536

/-- A group member's fields (Table 12.2), from the layout of Table 12.11. -/
structure Member where
  port    : Nat
  weight  : Nat
  aweight : Nat
  nhr     : Nat
  deriving DecidableEq, Repr

def Bank.mem (b : Bank) (g slot : Nat) : Member :=
  let w := b.member.get (64 * g + slot) 0
  ⟨w / 2 ^ 54 % 1024, w / 2 ^ 46 % 256, w / 2 ^ 38 % 256, w / 2 ^ 24 % 16384⟩

/-- A next-hop record (Table 12.3). -/
structure Nhr where
  encap  : Nat
  tagged : Bool
  vid    : Nat
  dmac   : Nat
  ipdst  : Nat
  deriving DecidableEq, Repr

def Bank.record (b : Bank) (i : Nat) : Nhr :=
  let d := b.nhr.get i []
  let d0 := nth d 0
  ⟨d0 / 2 ^ 62 % 4, d0 / 2 ^ 61 % 2 == 1, d0 / 2 ^ 48 % 4096, d0 % 2 ^ 48,
    if d0 / 2 ^ 62 % 4 = 1 then nth d 2 % 2 ^ 32 else nth d 1 * 2 ^ 64 + nth d 2⟩

/-- A live member (R281, R282). -/
def State.liveMember (s : State) (b : Bank) (m : Member) : Bool :=
  let r := b.record m.nhr
  m.weight != 0 && s.isPort m.port && s.fwd.live.get m.port false
    && !(r.encap == 1 && (s.keys.ip4.find? m.port).isNone) && !(r.encap == 2 && (s.keys.ip6.find? m.port).isNone)

/-- The slots of a group in ascending order. -/
def groupSlots : List Nat := List.range 64

/-- The slot that owns a bucket (R285). -/
def Bank.bucketSlot (b : Bank) (g bucket : Nat) : Option Nat :=
  let ws := groupSlots.map fun m => (b.mem g m).weight
  let wt := ws.sum
  if wt = 0 then none
  else groupSlots.find? fun m =>
    let sm := (ws.take m).sum
    decide (256 * sm / wt ≤ bucket) && decide (bucket < 256 * (sm + ws.getD m 0) / wt)

/-- The first live slot at or after `m`, wrapping from 63 to 0 (R286). -/
def State.liveFrom (s : State) (b : Bank) (g m : Nat) : Option Nat :=
  (groupSlots.map fun i => (m + i) % 64).find? fun i => s.liveMember b (b.mem g i)

/-- The bits of a 32-bit number reversed. -/
def rev32 (n : Nat) : Nat := (List.range 32).foldl (fun a i => a * 2 + n / 2 ^ i % 2) 0

/-- CRC-32C with another initial value, given unreflected as the polynomial is (R284; log entry 21). -/
def crc32cFrom (init : Nat) (bs : List Byte) : Nat := Nat.xor (bs.foldl (crcByteR 0x82F63B78) (rev32 init)) 0xFFFFFFFF

/-- H of R284 over the bytes of Table 12.4. -/
def State.flowHash (s : State) (bs : List Byte) : Nat :=
  let seed := s.fld .fwdHashCfg [] 63 32
  crc32cFrom (if seed = 0 then s.keys.svcEp else seed) bs

/-- The hash input of a QFT packet (Table 12.4). -/
def State.qftHashIn (s : State) (p : Packet) : List Byte :=
  natBytes 3 p.src ++ natBytes 3 p.dst
    ++ natBytes 2 (if s.fld .fwdHashCfg [] 29 29 = 1 then 0 else p.ctx) ++ natBytes 1 p.cls

/-- Hash-pinned choice in group `g` (R284 to R286): the slot and whether it moved off one that was not live. -/
def State.pinned (s : State) (b : Bank) (g : Nat) (hashIn : List Byte) : Option (Nat × Bool) :=
  match b.bucketSlot g (s.flowHash hashIn / 2 ^ 24 % 256) with
  | none => none
  | some m => (s.liveFrom b g m).map fun m' => (m', m' != m)

/-- cost(m) of R288 on port die `die` for a class. -/
def State.cost (s : State) (die cls : Nat) (m : Member) : Nat :=
  let bq := s.fld .fwdAdaptCfg [] 63 56
  let bd := s.fld .fwdAdaptCfg [] 55 48
  let q := s.fwd.qEst.get ((die * 768 + m.port) * 8 + cls) 0
  let d := s.fwd.dEst.get ((die * 768 + m.port) * 8 + cls) 0
  let aw := if m.aweight = 0 then m.weight else m.aweight
  ((if bq = 0 then 1 else bq) * q + (if bd = 0 then 1 else bd) * d) * 256 / max aw 1

/-- Adaptive choice on port die `die`: the live slot of smallest cost, the first at or after the rotating pointer among
equals (R288, R289). -/
def State.sprayed (s : State) (b : Bank) (die g cls : Nat) : Option Nat :=
  let turn := s.fwd.turn.get (die * 4096 + g) 0
  let slots := (groupSlots.map fun i => (turn + i) % 64).filter fun i => s.liveMember b (b.mem g i)
  slots.foldl (fun best i => match best with
    | none => some i
    | some j => if s.cost die cls (b.mem g i) < s.cost die cls (b.mem g j) then some i else best) none

/-- A port die that sends a packet toward a port adds its cells to its own copy of Q (R289). -/
def State.sentToward (s : State) (die port cls cells : Nat) : State :=
  if cells = 0 ∨ 8 ≤ die then s
  else
    let k := (die * 768 + port) * 8 + cls
    { s with fwd := { s.fwd with qEst := s.fwd.qEst.set k (s.fwd.qEst.get k 0 + cells) } }

/-- What a lookup gives: the member chosen and the state with its counters and copies moved on, or a counted drop. -/
inductive Looked where
  | found (m : Member) (s : State)
  | drop (s : State)
  deriving DecidableEq, Repr

/-- The lookup of a QFT packet's DST on die `die` (R280 to R289). -/
def State.lookupQft (s : State) (die : Nat) (p : Packet) : Looked :=
  let s := s.fwdCount die 0
  let b := s.activeBank
  let e := b.ep p.dst
  if e / 2 ^ 15 % 2 = 0 then .drop (s.fwdCount die 3)
  else
    let g := e % 4096
    let spray := s.fld .fwdClassMode [] 7 0 / 2 ^ p.cls % 2 == 1 && !([0, 1, 2, 7].contains p.cls)
    if spray && e / 2 ^ 14 % 2 == 0 && decide (die < 8) then
      match s.sprayed b die g p.cls with
      | none => .drop (s.fwdCount die 4)
      | some i =>
        let m := b.mem g i
        let s := s.fwdCount die 12
        .found m { s with fwd := { s.fwd with turn := s.fwd.turn.set (die * 4096 + g) ((i + 1) % 64) } }
    else
      match s.pinned b g (s.qftHashIn p) with
      | none => .drop (s.fwdCount die 4)
      | some (i, moved) =>
        let m := b.mem g i
        .found m (if moved then s.fwdCount die 13 else s)

/-- DSCP of a class (R77: qft.dscp, default 8n). -/
def State.dscpOf (s : State) (cls : Nat) : Nat := s.keys.dscp.get cls (8 * cls)

/-- UDP source port in 49,152 to 65,535 from a hash of SRC, DST, CTX and CLASS (R77). The hash is not given (log entry 22). -/
def udpSrc (p : Packet) : Nat :=
  49152 + Config.udpHash p.src p.dst p.ctx p.cls % 16384

/-- One's complement checksum field of a byte string. -/
def inetSum (bs : List Byte) : Nat := 0xFFFF - onesSum bs

/-- The frame that carries a QFT packet out of member `m`'s port (R77, R282), padded to 64 bytes (R78). R77 gives neither the IPv4
identification nor the IPv6 flow label: both are free (log entry 115). -/
def State.encapsulate (s : State) (b : Bank) (m : Member) (p : Packet) : Frame :=
  let r := b.record m.nhr
  let tags := if r.tagged then [p.cls * 2 ^ 13 + r.vid] else []
  let mac := s.keys.mac.get m.port 0
  let q := p.bytes
  let tc := s.dscpOf p.cls % 64
  let sp := udpSrc p
  let pad (l : List Byte) : List Byte := l ++ List.replicate (46 - 4 * tags.length - l.length) 0
  if r.encap = 1 then
    let src := natBytes 4 (s.keys.ip4.get m.port 0)
    let dst := natBytes 4 r.ipdst
    let udp := natBytes 2 sp ++ natBytes 2 s.keys.udpPort ++ natBytes 2 (8 + q.length) ++ natBytes 2 0
    let h (ck : Nat) : List Byte :=
      natBytes 1 0x45 ++ natBytes 1 (tc * 4) ++ natBytes 2 (28 + q.length) ++ natBytes 2 (Config.ipIdent q) ++ natBytes 2 0x4000
        ++ natBytes 1 64 ++ natBytes 1 17 ++ natBytes 2 ck ++ src ++ dst
    ⟨true, r.dmac, mac, tags, 0x0800, pad (h (inetSum (h 0)) ++ udp ++ q)⟩
  else if r.encap = 2 then
    let src := natBytes 16 (s.keys.ip6.get m.port 0)
    let dst := natBytes 16 r.ipdst
    let udp (ck : Nat) : List Byte :=
      natBytes 2 sp ++ natBytes 2 s.keys.udpPort ++ natBytes 2 (8 + q.length) ++ natBytes 2 ck
    let ck := inetSum (src ++ dst ++ natBytes 4 (8 + q.length) ++ natBytes 4 17 ++ udp 0 ++ q)
    let h := natBytes 4 (6 * 2 ^ 28 + tc * 4 * 2 ^ 20 + Config.flowLabel q % 2 ^ 20) ++ natBytes 2 (8 + q.length) ++ natBytes 1 17 ++ natBytes 1 64
      ++ src ++ dst
    ⟨true, r.dmac, mac, tags, 0x86DD, pad (h ++ udp (if ck = 0 then 0xFFFF else ck) ++ q)⟩
  else ⟨true, r.dmac, mac, tags, s.keys.etherType, pad q⟩

/-- A queue item for a packet bound for `m`'s port. -/
def State.mkItem (s : State) (m : Member) (cls inPort : Nat) (f : Frame) (p : Option Packet) (cells : Nat) (whole : Bool)
    (note : Nat) : QItem :=
  { id := s.nextId, port := m.port, cls := cls, inPort := inPort, frame := f, pkt := p, cells := cells,
    birth := (match p with | some q => q.birth | none => s.birthNow), sojourn := !s.countLocked, enqAt := s.local,
    floorC := 0, sharedC := 0, hdrmC := 0, own := 0, bufs := [], group := none, cut := false, started := false,
    whole := whole, tail := .none, ctxNote := note }

/-- A packet the device originates on die `die`: stamped, looked up, and put before its hub die for admission (R80, R280).
`note` names the context whose COMPLETE waits for this copy, 0 for none. Its EPOCH is the active bank at origination: R80 and R304 stamp
EPOCH at ingress only (DESIGN CHOICE, log entry 114). -/
def State.originate (s : State) (die : Nat) (p : Packet) (note : Nat := 0) : State :=
  let p := Packet.sealed (({ p with w0 := p.w0.setField 47 42 s.keys.ttl } : Packet).stamp (some s.birthNow) s.fwd.active)
  match s.lookupQft die p with
  | .drop s => s
  | .found m s =>
    let f := s.encapsulate s.activeBank m p
    let h := if die < 8 then hubOfDie die else (die - 8) % 4
    let u := s.hub h
    let item := { s.mkItem m p.cls 0x3FF f (some p) (cellsOf f.len) true note with late := if p.typ = tPROBE then some m.nhr else none }
    { s with nextId := s.nextId + 1, hubs := s.hubs.set h { u with arrive := u.arrive ++ [⟨item, false, [], s.local⟩] } }

/-- A NACK from port die of `port`, counted in PRT_QFT_NACKTX (R114). -/
def State.nackAt (s : State) (port : Nat) (p : Packet) (status : Nat) (expect : Nat := 0) : State :=
  (s.qftCount port 12).originate (port / 96) (nackOf p s.keys.svcEp status expect)

/-- A NACK sent by another die in answer to a packet that entered on `port`. -/
def State.nackFrom (s : State) (die port : Nat) (p : Packet) (status : Nat) (expect : Nat := 0) : State :=
  (s.qftCount port 12).originate die (nackOf p s.keys.svcEp status expect)

end Sys2Proof.Machine
end

