-- ==== Sys2Proof/Machine/Shaping.lean ====
section
/-!
DEFINITION. Shapers, policers and time gates (R341 to R350): levels, counts, and when a gate closes next.
-/

namespace Sys2Proof.Machine

/-- The fields of a shaper or policer configuration word (Table 14.3). -/
structure MeterCfg where
  enable   : Bool
  mode     : Nat
  overhead : Int
  rate     : Nat
  burst    : Nat
  deriving DecidableEq, Repr

def meterCfg (w : Nat) : MeterCfg :=
  ⟨w / 2 ^ 63 % 2 == 1, w / 2 ^ 62 % 2, max (toSigned 7 (w / 2 ^ 54 % 128)) (-32), w / 2 ^ 30 % 2 ^ 24, w / 2 ^ 6 % 2 ^ 24⟩

/-- What a frame of `len` bytes counts (R341). -/
def MeterCfg.countOf (c : MeterCfg) (len : Nat) : Nat :=
  if c.mode = 0 then 1 else (max ((len : Int) + c.overhead) 1).toNat

/-- A level grown to local time `t` at the configured rate and stopped at BURST (R342); `share` is 8 for one port die's copy
of a context policer, 1 otherwise (R346). -/
def Meter.grow (m : Meter) (c : MeterCfg) (share t : Nat) : Meter :=
  let cap : Int := (256 * (c.burst / share) : Nat)
  let perNs := if c.mode = 0 then 256 * c.rate else 32000 * c.rate
  let num := perNs * (t - m.at_) + m.part
  let lvl := m.level + (num / (1000000 * share) : Nat)
  if cap ≤ lvl then ⟨max cap m.level, 0, t⟩ else ⟨lvl, num % (1000000 * share), t⟩

/-- The level of the meter configured at register address `a` (copy `k`), now. -/
def State.meterNow (s : State) (a k share : Nat) : Meter :=
  (s.meters.get (a + k) {}).grow (meterCfg (s.regs.get a 0)) share s.local

/-- In debt: enabled with a level below 0 (R342). -/
def State.inDebt (s : State) (a : Nat) : Bool :=
  (meterCfg (s.regs.get a 0)).enable && decide ((s.meterNow a 0 1).level < 0)

/-- Charge a meter for a frame of `len` bytes (R342, R345). -/
def State.charge (s : State) (a k share len : Nat) : State :=
  let c := meterCfg (s.regs.get a 0)
  if c.enable then
    let m := s.meterNow a k share
    { s with meters := s.meters.set (a + k) { m with level := m.level - (256 * c.countOf len : Nat) } }
  else s

/-- A packet conforms to a policer when it is disabled or the count is no greater than B (R345). -/
def State.conforms (s : State) (a k share len : Nat) : Bool :=
  let c := meterCfg (s.regs.get a 0)
  !c.enable || decide ((256 * c.countOf len : Nat) ≤ (s.meterNow a k share).level)

/-- A write of configuration `v` at address `a`: growth to the write at the old rate, then the new word (R342, R343, R346). A
shaper's CLEAR forgives its debt. -/
def State.meterWrite (s : State) (a v : Nat) (copies share : Nat) (isShaper : Bool) : State :=
  let o := meterCfg (s.regs.get a 0)
  let n := meterCfg v
  let cap : Int := (256 * (n.burst / share) : Nat)
  let one (m : Meter) : Meter :=
    let g := m.grow o share s.local
    let g : Meter :=
      if !o.enable || o.mode != n.mode then ⟨cap, 0, s.local⟩
      else if cap < g.level then ⟨cap, 0, s.local⟩ else g
    if isShaper && v / 2 ^ 61 % 2 == 1 && decide (g.level < 0) then { g with level := 0 } else g
  { s with
    regs := s.regs.set a (applyWrite (Reg.fields .schPortShape) (s.regs.get a 0) v)
    meters := if n.enable then (List.range copies).foldl (fun (t : Tbl Meter) k => t.set (a + k) (one (t.get (a + k) {}))) s.meters
      else (List.range copies).foldl (fun (t : Tbl Meter) k => t.set (a + k) ⟨0, 0, s.local⟩) s.meters }

/-! ### Policing -/

/-- The policers that apply to a packet: configuration address, copy, share, and the register whose DROP counts (R344, R346).
`ctx` is none on the forwarding path. -/
def State.policers (s : State) (port cls : Nat) (ctx : Option Nat) : List (Nat × Nat × Nat × Reg × List Nat) :=
  [(Reg.addr .polPort [port], 0, 1, .polPortDrop, [port]), (Reg.addr .polCls [port, cls], 0, 1, .polClsDrop, [port, cls])]
    ++ match ctx with
       | none => []
       | some c =>
         if c = 0 then []
         else ((List.range 1024).filter fun k => s.fld .polCtxSel [k] 63 48 == c).map
           fun k => (Reg.addr .polCtx [k], port / 96, 8, .polCtxSel, [k])

/-- Police a packet of `len` bytes: whether it passes, and the state with the levels or the DROP counts moved (R345). -/
def State.police (s : State) (port cls len : Nat) (ctx : Option Nat) : Bool × State :=
  let ps := s.policers port cls ctx
  let bad := ps.filter fun p => !s.conforms p.1 p.2.1 p.2.2.1 len
  if bad.isEmpty then (true, ps.foldl (fun (s : State) p => s.charge p.1 p.2.1 p.2.2.1 len) s)
  else (false, bad.foldl (fun (s : State) p => s.bump p.2.2.2.1 p.2.2.2.2 (if p.2.2.2.1 = .polCtxSel then 47 else 63) 0) s)

/-! ### Gates -/

/-- NENTRIES and CYCLE_NS of a list's word (Table 14.4). -/
def GateList.n (l : GateList) : Nat := l.pend / 2 ^ 53 % 2 ^ 11
def GateList.cycleField (l : GateList) : Nat := l.pend / 2 ^ 18 % 2 ^ 35

/-- An entry's mask and duration (R358); the reset word opens every class and has no duration. -/
def GateList.entryAt (l : GateList) (i : Nat) : Nat × Nat :=
  let w := l.entries.get i (0xFF * 2 ^ 56)
  (w / 2 ^ 56 % 256, w / 2 ^ 32 % 2 ^ 24)

/-- The entries in use, at most 1,024 (R347). -/
def GateList.rows (l : GateList) : List (Nat × Nat) := (List.range (min l.n 1024)).map l.entryAt

/-- The cycle time; 0 when the list has no entries (R347). -/
def GateList.cycle (l : GateList) : Nat :=
  if l.n = 0 then 0 else if l.cycleField = 0 then (l.rows.map Prod.snd).sum else l.cycleField

/-- One cycle as intervals (entry, mask, length): cut at the cycle's end, the last entry lasting until it (R347). -/
def gateSpan : List (Nat × Nat) → Nat → Nat → List (Nat × Nat × Nat)
  | [], _, _ => []
  | [(m, _)], i, room => if room = 0 then [] else [(i, m, room)]
  | (m, d) :: rest, i, room =>
    if room = 0 then [] else (i, m, min d room) :: gateSpan rest (i + 1) (room - min d room)

def GateList.span (l : GateList) : List (Nat × Nat × Nat) := gateSpan l.rows 0 l.cycle

/-- The interval in force `t` into a cycle, with the time left in it. -/
def spanAt : List (Nat × Nat × Nat) → Nat → Option (Nat × Nat × Nat)
  | [], _ => none
  | (i, m, d) :: rest, t => if t < d then some (i, m, d - t) else spanAt rest (t - d)

/-- How long class `c` stays open over a list of intervals, and whether it closed. -/
def openRun (c : Nat) : List (Nat × Nat × Nat) → Nat → Nat × Bool
  | [], n => (n, false)
  | (_, m, d) :: rest, n => if m / 2 ^ c % 2 = 1 then openRun c rest (n + d) else (n, true)

/-- The time from global count `t` until the running list next closes class `c`; none when it never does (R349). -/
def Gate.closesIn (g : Gate) (c t : Nat) : Option Nat :=
  let cyc := g.run.cycle
  if cyc = 0 then none
  else
    let sp := g.run.span
    if sp.all fun e => e.2.1 / 2 ^ c % 2 == 1 then none
    else
      let pos := (t - g.b0) % cyc
      let before := sp.foldl (fun (acc : List (Nat × Nat × Nat) × Nat) e =>
        if acc.2 + e.2.2 ≤ pos then (acc.1, acc.2 + e.2.2)
        else if acc.2 < pos then (acc.1 ++ [(e.1, e.2.1, acc.2 + e.2.2 - pos)], acc.2 + e.2.2)
        else (acc.1 ++ [e], acc.2 + e.2.2)) ([], 0)
      some (openRun c (before.1 ++ sp ++ sp) 0).1

/-- The longest interval a class is open without a break, counted across cycle wraps; none when never closed (R349). -/
def GateList.longestOpen (l : GateList) (c : Nat) : Option Nat :=
  let sp := l.span
  if sp.all fun e => e.2.1 / 2 ^ c % 2 == 1 then none
  else
    some ((sp ++ sp).foldl (fun (a : Nat × Nat) e =>
      if e.2.1 / 2 ^ c % 2 = 1 then (max a.1 (a.2 + e.2.2), a.2 + e.2.2) else (a.1, 0)) (0, 0)).1

/-- What a port die records at the start of a list: the longest open interval of each class that it ever closes (R349). -/
def GateList.longestTable (l : GateList) : Tbl Nat :=
  (List.range 8).foldl (fun t c => match l.longestOpen c with | some n => t.set c n | none => t) []

end Sys2Proof.Machine
end

