-- ==== Sys2Proof/Machine/Switch.lean ====
section
/-!
DEFINITION. The switch core and the egress scheduler: admission, tails, ageing, link-down flushes, priority flow control,
gates, transmission, sampling, and the commands of the buffer pool manager (chapters 13, 14 and R369 to R371).
-/

namespace Sys2Proof.Machine

/-! ### Priority flow control -/

/-- The default of an entry of the class maps, by its index in their table (Table 12.8). -/
def defaultClass (i : Nat) : Nat :=
  if i < 8 then (if i ≤ 2 then 4 else if i ≤ 5 then 5 else 6) else if i ≤ 23 then 4 else if i ≤ 47 then 5 else 6

/-- The class that an entry gives; one that is 0, as in a bank nothing filled (R299), acts as its default (log entry 11). -/
def Bank.classAt (b : Bank) (i : Nat) : Nat :=
  let c := b.cmap.get i 0
  if c = 0 then defaultClass i else c

/-- The class the active bank's PCP map gives a priority (R297, R369). -/
def Bank.pcpClass (b : Bank) (p : Nat) : Nat := b.classAt p

/-- The class of a DSCP (R297). -/
def Bank.dscpClass (b : Bank) (d : Nat) : Nat := b.classAt (8 + d)

/-- A class is held while any priority that maps to it is paused (R370). -/
def State.pfcHolds (s : State) (port cls : Nat) : Bool :=
  (s.port port).sched.paused.any fun e => decide (s.local < e.2) && s.activeBank.pcpClass e.1 == cls

/-- `q` quanta of 512 bit times at the rate of a port, in nanoseconds (R370). -/
def State.quantaNs (s : State) (port q : Nat) : Nat := ceilDiv (q * 64) (max (s.bytesPerNs port) 1)

/-- A PFC frame for the priorities of `mask` with one pause time. -/
def State.pfcFrame (s : State) (port mask time : Nat) : Frame :=
  ⟨true, 0x0180C2000001, s.keys.mac.get port 0, [], 0x8808,
    natBytes 2 0x0101 ++ natBytes 2 mask ++ (List.range 8).flatMap (fun p => natBytes 2 (if mask / 2 ^ p % 2 = 1 then time else 0))
      ++ List.replicate 26 0⟩

/-- A link-local or MAC control frame waits for the next frame boundary (R371, R373). -/
def State.pushLocal (s : State) (port : Nat) (f : Frame) (note : LocalNote := .plain) : State :=
  let q := s.port port
  s.setPort port { q with localTx := q.localTx ++ [⟨f, note⟩] }

/-- PFC_TX of a port. -/
def State.pfcTx (s : State) (port : Nat) : Nat := s.fld .prtPortCtl (portIdx port) 53 46

/-- The port sends a PFC frame for the priorities that the XOFF under way names, counted in PFC_TX as it goes out. -/
def State.sendPfc (s : State) (port time : Nat) : State :=
  s.pushLocal port (s.pfcFrame port (s.port port).sched.xoffMask time) (.counted 11)

/-- One port die's watch on SHARED_FREE of its hub die: XOFF below XOFF_CELLS, XON at XON_CELLS or more (R371, R388). -/
def State.pfcPort (s : State) (h : Nat) (port : Nat) : State :=
  let die := port / 96
  let xoff := s.fld .prtPfcThresh [die] 63 45
  let on := s.fld .prtPfcThresh [die] 44 26
  let xon := if on = 0 then xoff else on
  let free := (s.hub h).shared
  let q := s.port port
  match q.sched.xoffAt with
  | none =>
    if free < xoff ∧ s.pfcTx port ≠ 0 ∧ s.linkUp port then
      (s.setPort port { q with sched := { q.sched with xoffAt := some s.local, xoffMask := s.pfcTx port } }).sendPfc port 0xFFFF
    else s
  | some _ =>
    if xon ≤ free then (s.setPort port { q with sched := { q.sched with xoffAt := none } }).sendPfc port 0 else s

/-- The port dies that watch hub die `h`. -/
def State.pfcWatch (s : State) (h : Nat) : State :=
  (s.ports.keys.filter fun p => hubOfDie (p / 96) == h).foldl (fun (s : State) p => s.pfcPort h p) s

/-- PFC_XOFF_REPEAT: half the pause time has passed since the last XOFF frame of a paused port (R371). -/
def bodyPfcXoffRepeat (port : Nat) (s : State) : State :=
  let q := s.port port
  match q.sched.xoffAt with
  | none => s
  | some t =>
    if t + s.quantaNs port 0xFFFF / 2 ≤ s.local ∧ s.linkUp port then
      (s.setPort port { q with sched := { q.sched with xoffAt := some s.local } }).sendPfc port 0xFFFF
    else s

def execPfcXoffRepeat (port : Nat) (s : State) : Out := commit s (bodyPfcXoffRepeat port s)

/-- PFC_FRAME_RECEIVE: a frame pauses or releases the honoured priorities it enables (R370). It counts as a good frame of 64
bytes. -/
def bodyPfcFrameReceive (port enable : Nat) (times : List Nat) (s : State) : State :=
  if s.linkUp port then
    let s := ((s.portCount port 0).portCount port 1 64).portCount port 10
    let rx := s.fld .prtPortCtl (portIdx port) 61 54
    (List.range 8).foldl (fun (s : State) p =>
      if enable / 2 ^ p % 2 = 1 ∧ rx / 2 ^ p % 2 = 1 then
        let q := s.port port
        let t := nth times p % 65536
        s.setPort port { q with sched := { q.sched with
          paused := if t = 0 then q.sched.paused.erase p else q.sched.paused.set p (s.local + s.quantaNs port t) } }
      else s) s
  else s

def execPfcFrameReceive (port enable : Nat) (times : List Nat) (s : State) : Out :=
  commit s (bodyPfcFrameReceive port enable times s)

/-- PFC_PAUSE_EXPIRE: a pause time has run out (R370). -/
def bodyPfcPauseExpire (port prio : Nat) (s : State) : State :=
  let q := s.port port
  match q.sched.paused.find? prio with
  | some t => if t ≤ s.local then s.setPort port { q with sched := { q.sched with paused := q.sched.paused.erase prio } } else s
  | none => s

def execPfcPauseExpire (port prio : Nat) (s : State) : Out := commit s (bodyPfcPauseExpire port prio s)

/-! ### Admission -/

/-- A packet leaves hub die `h` by a discard counted at `i`, recorded with reason `why` (R330, R336). -/
def State.discard (s : State) (h : Nat) (q : QItem) (i why : Nat) : State :=
  let s := s.mirrorAt (8 + h) ((s.hub h).seen q 2 why)
  ((s.leave h q).bufCount h q.cls i).pfcWatch h

/-- An arrival that does not enter its queue: counted, recorded, and its credit returned (R311, R312, R321). -/
def State.turnAway (s : State) (h : Nat) (q : QItem) (i why : Nat) : State :=
  let s := s.mirrorAt (8 + h) ((s.hub h).seen q 2 why)
  (s.bufCount h q.cls i).creditItem q q.cells

/-- One packet is judged at its hub die (R312, R321, R313): whether it was admitted, and the state after. -/
def State.admitItem (s : State) (h : Nat) (q : QItem) : Bool × State :=
  if !s.linkUp q.port then (false, s.turnAway h q 7 8)
  else if q.tail != .none && !q.cut then (false, s.turnAway h q 6 7)
  else
    match s.admission h q with
    | none => (false, s.turnAway h q (if q.inPort = 0x3FF then 2 else 1) 3)
    | some (c, s') => (true, ((s'.enqueue h q c).bufCount h q.cls 0).pfcWatch h)

/-- Copies of one packet, under one tag, each admitted under R312 in the order given; those admitted share all their cells but the first of
each, the named last owner being the queue of the copy queued last (R324). -/
def State.admitCopies (s : State) (h tag : Nat) (items : List QItem) : State :=
  let r := items.foldl (fun (a : List QItem × State) q =>
    let x := { q with id := a.2.nextId, group := some tag }
    let d := ({ a.2 with nextId := a.2.nextId + 1 } : State).admitItem h x
    (if d.1 then a.1 ++ [x] else a.1, d.2)) ([], s)
  match r.1.head?, r.1.getLast? with
  | some f, some l => r.2.shareGroup h tag r.1.length (queueOwner f.port f.cls) (queueOwner l.port l.cls)
  | _, _ => r.2

/-- The hub die's input that an arrival comes by: the Truss link of its port die, or the mesh edge (R17, R313). -/
def Arrival.input (a : Arrival) : Nat := if a.item.inPort < 768 then a.item.inPort / 96 else 8

/-- The cycle of a hub die's 1.6 GHz clock at a local time (R323). -/
def hubCycle (t : Nat) : Nat := t * 8 / 5

/-- The next arrival of a hub die: of those whose headers came in its first one's cycle, the first in the rotating order over the nine inputs,
which advances by one input each cycle (R313; log entry 74). -/
def State.nextArrival (s : State) (h : Nat) : Option Arrival :=
  match (s.hub h).arrive with
  | [] => none
  | a :: rest =>
    let turn (x : Arrival) : Nat := (x.input + 9 - (hubCycle a.at_ + Config.hubTurn h) % 9) % 9
    some ((rest.filter fun x => hubCycle x.at_ == hubCycle a.at_).foldl (fun b x => if turn x < turn b then x else b) a)

/-- HUB_ADMIT: the next arrival of a hub die (R312, R313); a flooded frame is replicated (R295). -/
def bodyHubAdmit (h : Nat) (s : State) : State :=
  match s.nextArrival h with
  | none => s
  | some a =>
    let s := (s.setHub h { s.hub h with arrive := (s.hub h).arrive.erase a }).drain h
    match a.copies with
    | [] => (s.admitItem h { a.item with cut := a.cut }).2
    | _ => s.admitCopies h a.item.id (a.item :: a.copies)

def execHubAdmit (h : Nat) (s : State) : Out := commit s (s.unlessSafe (bodyHubAdmit h))

/-! ### Tails -/

/-- Whether the last frame sent by a port leaves with an inverted FCS, and the held copy of it with it (R317, R381). -/
def State.spoilSent (s : State) (port cls : Nat) : State :=
  let i := (s.sent.length - 1) - (s.sent.reverse.findIdx fun e => e.1 == port)
  let bad (f : Frame) : Frame := { f with fcsOk := false }
  let q := s.port port
  let r := q.rtx.get cls {}
  let s := if s.sent.any fun e => e.1 == port then
      { s with sent := (s.sent.take i) ++ ((s.sent.drop i).take 1).map (fun e => (e.1, bad e.2)) ++ s.sent.drop (i + 1) }
    else s
  if q.link.retryAct / 2 ^ cls % 2 = 1 then
    s.setPort port { q with rtx := q.rtx.set cls { r with
      held := match r.held.getLast? with
        | some e => r.held.dropLast ++ [(e.1, bad e.2)]
        | none => [] } }
  else s

/-- The bad tail of a packet: what was found, or a failing ICRC of a QFT packet (R317). A corrected cell is the word that was written. -/
def QItem.tailOf (q : QItem) (t : TailFault) : TailFault :=
  let t : TailFault := match t with | .correctedCell _ => .none | t => t
  match t, q.pkt with
  | .none, some p => if p.icrc = p.bodyCrc then .none else .icrc
  | _, _ => t

/-- The cells that hold a packet, those it shares with the other copies included. -/
def Hub.cellsOf (u : Hub) (q : QItem) : List Nat :=
  q.bufs ++ (match q.group with
    | none => []
    | some tag => (u.groups.find? fun (g : CopyGroup) => g.tag == tag).elim [] CopyGroup.bufs)

/-- An error found in a cell of a packet is reported with the cell's index (Tables 18.3 and 18.5). -/
def State.cellFault (s : State) (h : Nat) (q : QItem) (t : TailFault) : State :=
  let l := (s.hub h).cellsOf q
  match t with
  | .poisonedCell i => s.raise (8 + h) 0x08 0 0x011 1 (nth l (i % max l.length 1))
  | .correctedCell i => s.raise (8 + h) 0x08 0 0x010 0 (nth l (i % max l.length 1))
  | _ => s

/-- The packet of hub die `h` with this number that a port has on its line (R317). -/
def State.onLine (s : State) (h id : Nat) : Option QItem :=
  s.ports.findSome? fun e => match e.2.sched.busy with
    | some q => if q.id = id ∧ e.2.sched.busyHub = h ∧ s.local < e.2.sched.busyTo then some q else none
    | none => none

/-- A frame finished with the inverse of its FCS is recorded and counted (R317, R330). -/
def State.tailMarked (s : State) (u : Hub) (h : Nat) (q : QItem) : State :=
  (s.mirrorAt (q.port / 96) (u.seen q 2 6)).bufCount h q.cls 5

/-- The tail of a queued packet: a stored packet with a bad one is discarded, one that has started leaves with an inverted FCS (R317). -/
def State.tailIn (s : State) (h : Nat) (t : TailFault) (q : QItem) : State :=
  let u := s.hub h
  let t := q.tailOf t
  if q.started then
    let s := (s.leave h q).pfcWatch h
    if t = .none then s else (s.spoilSent q.port q.cls).tailMarked u h q
  else if t = .none ∨ q.cut = true then
    s.setHub h { u with queue := u.queue.map fun x => if x.id == q.id then { x with whole := true, tail := t } else x }
  else s.discard h q 6 7

/-- The number of a packet, or of the copies of a flooded frame. -/
def QItem.named (id : Nat) (q : QItem) : Bool := q.id == id || q.group == some id

/-- PACKET_TAIL_ARRIVE: a forwarded packet's last bytes arrive or are read (R317). -/
def bodyPacketTailArrive (h id : Nat) (t : TailFault) (s : State) : State :=
  let u := s.hub h
  match u.queue.filter (QItem.named id) with
  | q :: qs => (q :: qs).foldl (fun (s : State) x => s.tailIn h t x) (s.cellFault h q t)
  | [] =>
    match s.onLine h id with
    | some q =>
      let s := s.cellFault h q t
      match t with
      | .poisonedCell _ => (s.spoilSent q.port q.cls).tailMarked u h q
      | _ => s
    | none =>
      s.setHub h { u with arrive := u.arrive.map fun a =>
        let end_ (q : QItem) : QItem := { q with whole := true, tail := q.tailOf t }
        if a.item.id == id then { a with item := end_ a.item, copies := a.copies.map end_ } else a }

def execPacketTailArrive (h id : Nat) (t : TailFault) (s : State) : Out := commit s (s.unlessSafe (bodyPacketTailArrive h id t))

/-! ### Link-down flush -/

/-- The frame that a port has on its line ends where the link ended: the bytes not yet sent are lost with its FCS (R321). -/
def State.cutLine (s : State) (port : Nat) : State :=
  let p := s.port port
  if p.sched.busyTo ≤ s.local then s
  else
    let left := (p.sched.busyTo - s.local) * s.bytesPerNs port
    let i := (s.sent.length - 1) - (s.sent.reverse.findIdx fun e => e.1 == port)
    let cut (f : Frame) : Frame := { f with fcsOk := false, body := f.body.take (f.body.length - left) }
    { s with
      ports := s.ports.set port { p with sched := { p.sched with busyTo := s.local, busy := none } }
      sent := (s.sent.take i) ++ ((s.sent.drop i).take 1).map (fun e => if e.1 = port then (e.1, cut e.2) else e) ++ s.sent.drop (i + 1) }

/-- A port's link goes down: every packet queued for it is discarded, and one in transmission ends (R321). -/
def State.flushPort (s : State) (port : Nat) : State :=
  (List.range 4).foldl (fun (s : State) h =>
    ((s.hub h).queue.filter fun q => q.port == port).foldl (fun (s : State) q =>
      if q.started then (s.leave h q).pfcWatch h else s.discard h q 7 8) s) (s.cutLine port)

/-! ### Choosing the next packet -/

/-- A packet that may be taken: stored and whole, or cutting through, and not begun (R316). -/
def QItem.ready (q : QItem) : Bool := (q.whole || q.cut) && !q.started

/-- The hub die and packet a class queue offers next: the hub dies in turn, one packet at a time (R23, R339). -/
def State.head (s : State) (port cls : Nat) : Option (Nat × QItem) :=
  let t := (s.port port).sched.hubTurn.get cls 0
  (List.range 4).findSome? fun i =>
    let h := (t + i) % 4
    match ((s.hub h).sel port cls).head? with
    | some q => if q.ready then some (h, q) else none
    | none => none

/-- The queued packets of a class over the four hub dies. -/
def State.classQueue (s : State) (port cls : Nat) : List QItem :=
  (List.range 4).flatMap fun h => (s.hub h).sel port cls

/-- Transmission time of a frame of `n` bytes on a port (R349). -/
def State.txTime (s : State) (port n : Nat) : Nat := ceilDiv (n + 20) (max (s.bytesPerNs port) 1)

/-- The gate of the class is open and a frame of `n` bytes fits before it closes (R339, R349). -/
def State.gateAllows (s : State) (port cls n : Nat) : Bool :=
  let g := (s.port port).gate
  g.mask / 2 ^ cls % 2 == 1
    && (match g.closesIn cls s.now with | none => true | some t => decide (s.txTime port n ≤ t))

/-- Neither the port shaper nor the class shaper is in debt (R342). -/
def State.shapersFree (s : State) (port cls : Nat) : Bool :=
  !s.inDebt (Reg.addr .schPortShape [port]) && !s.inDebt (Reg.addr .schClsShape [port, cls])

/-- Bytes of the replay buffer in use (R379). -/
def PortSt.replayUsed (q : PortSt) : Nat := (q.rtx.vals.map fun r => (r.held.map fun f => f.2.len).sum).sum

/-- Credit and replay space let a QFT frame of `n` bytes of a class start (R378, R379). -/
def State.linkRoom (s : State) (port cls n : Nat) : Bool :=
  let q := s.port port
  let credit :=
    if q.link.creditTx / 2 ^ cls % 2 = 1 then
      let c := q.ctx.get cls {}
      match c.limit with
      | none => false
      | some l =>
        let d := (l + 2 ^ 32 - c.used % 2 ^ 32) % 2 ^ 32
        decide (cellsOf n ≤ d) && decide (d < 2 ^ 31)
    else true
  let room := q.link.retryAct / 2 ^ cls % 2 == 0 || decide (q.replayUsed + n ≤ s.lanes port * 32768)
  credit && room

/-- The link lets a QFT frame of `n` bytes of a class start: credit, replay space, and negotiation (R372, R378, R379). -/
def State.linkAllows (s : State) (port cls n : Nat) : Bool :=
  let l := (s.port port).link
  (l.negotiated || l.retryOwn / 2 ^ cls % 2 == 0) && s.linkRoom port cls n

/-- A class is eligible (R339). -/
def State.eligible (s : State) (port cls : Nat) : Bool :=
  match s.head port cls with
  | none => false
  | some (_, q) =>
    s.gateAllows port cls q.len && s.shapersFree port cls && !s.pfcHolds port cls
      && (q.pkt.isNone || s.linkAllows port cls q.frame.len)

/-- WEIGHT(c) × 512 bytes (R340, Table 14.1). -/
def State.quantum (s : State) (port cls : Nat) : Nat :=
  let w := s.fld .schWeight [port] (63 - 8 * (cls - 2)) (56 - 8 * (cls - 2))
  512 * (if w = 0 then (if cls = 2 then 32 else if cls = 3 then 64 else if cls = 7 then 4 else 16) else w)

/-- Deficit round robin over classes 2 to 7 (R340): the class whose head is sent and the scheduler after the visit; the fuel
bounds the visits. -/
def State.drr (s : State) (port : Nat) : Nat → Sched → Option Nat × Sched
  | 0, d => (none, d)
  | k + 1, d =>
    let c := d.visit
    let next := if c = 7 then 2 else c + 1
    if s.eligible port c then
      let n := match s.head port c with | some (_, q) => q.len | none => 0
      let have_ := d.deficit.get c 0 + (if d.granted then 0 else s.quantum port c)
      if n ≤ have_ then (some c, { d with granted := true, deficit := d.deficit.set c have_ })
      else s.drr port k { d with visit := next, granted := false, deficit := d.deficit.set c have_ }
    else
      s.drr port k { d with visit := next, granted := false
                            deficit := if s.queueEmpty port c then d.deficit.erase c else d.deficit }

/-- The class served next and the scheduler after the choice (R339). -/
def State.choose (s : State) (port : Nat) : Option Nat × Sched :=
  let d := (s.port port).sched
  if s.eligible port 0 then (some 0, d)
  else if s.eligible port 1 then (some 1, d)
  else if [2, 3, 4, 5, 6, 7].any (s.eligible port) then s.drr port 200 d
  else (none, d)

/-- The age in units of 1,024 ns (R319, R320). -/
def State.ageOf (s : State) (q : QItem) : Nat :=
  if q.sojourn || !s.countLocked then s.local / 1024 - q.enqAt / 1024
  else
    let a := (s.now / 1024 % 2 ^ 32 + 2 ^ 32 - q.birth % 2 ^ 32) % 2 ^ 32
    if 2 ^ 31 ≤ a then 0 else a

/-- The packet is too old to leave (R318, R319). -/
def State.tooOld (s : State) (h : Nat) (q : QItem) : Bool :=
  decide (ceilDiv (s.ageUs h q.cls * 1000) 1024 < s.ageOf q)

/-- Head packets that can never fit are discarded and counted in OVERSIZE (R349). -/
def State.dropOversize (s : State) (port : Nat) : Nat → State
  | 0 => s
  | k + 1 =>
    let g := (s.port port).gate
    let bad := (List.range 8).findSome? fun c =>
      match s.head port c with
      | some (h, q) => match g.longest.find? c with
        | some n => if n < s.txTime port q.len then some (h, q) else none
        | none => none
      | none => none
    match bad with
    | some (h, q) => (((s.leave h q).bump .gateCnt [port] 63 32).pfcWatch h).dropOversize port k
    | none => s

/-- Waiting for credit or replay space is added to CREDIT_WAIT_NS as it passes (R378, R379). -/
def State.creditWait (s : State) (port cls : Nat) : State :=
  let held := match s.head port cls with
    | some (_, q) => q.pkt.isSome && !s.linkRoom port cls q.frame.len
    | none => false
  let q := s.port port
  let s := match q.sched.waitAt.find? cls with
    | some t => s.portCount port 19 (s.local - t)
    | none => s
  s.setPort port { q with sched := { q.sched with
    waitAt := if held then q.sched.waitAt.set cls s.local else q.sched.waitAt.erase cls } }

/-- The frame goes out: counters, the line, and the log of what was sent. -/
def State.putOnLine (s : State) (port : Nat) (f : Frame) : State :=
  let s := (s.portCount port 2).portCount port 3 f.len
  let q := s.port port
  { s with
    ports := s.ports.set port { q with sched := { q.sched with busyTo := s.local + s.txTime port f.len, busy := none } }
    sent := s.sent ++ [(port, f)] }

/-- A PROBE reply with the global count at which it leaves in T_TX (R110). -/
def State.timed (s : State) (q : QItem) : QItem :=
  match q.late, q.pkt with
  | some r, some p =>
    let p := Packet.sealed { p with payload := p.payload.take 24 ++ natBytes 8 s.now }
    { q with pkt := some p, frame := s.encapsulate s.activeBank ⟨q.port, 1, 0, r⟩ p }
  | _, _ => q

/-- The packet with its FCS inverted where its tail has come and is bad (R317). -/
def QItem.marked (q : QItem) : QItem := if q.whole && q.tail != .none then { q with frame := { q.frame with fcsOk := false } } else q

/-- A head packet starts (R339 to R342, R378, R379): it is recorded, charged, held for replay and leaves, a cut-through packet
keeping its last cell until its tail; one whose bad tail has come is finished with the inverse of its FCS (R317). -/
def State.start (s : State) (port h : Nat) (q : QItem) : State :=
  let q := (s.timed q).marked
  let n := q.frame.len
  let u := s.hub h
  let s := s.mirrorAt (8 + h) (u.seen q 1 2)
  let s := (s.charge (Reg.addr .schPortShape [port]) 0 1 q.len).charge (Reg.addr .schClsShape [port, q.cls]) 0 1 q.len
  let s := s.putOnLine port q.frame
  let p := s.port port
  let soj := s.local - q.enqAt
  let old := p.sched.delay.get q.cls 0
  let credit := q.pkt.isSome && p.link.creditTx / 2 ^ q.cls % 2 == 1
  let retry := q.pkt.isSome && p.link.retryAct / 2 ^ q.cls % 2 == 1
  let c := p.ctx.get q.cls {}
  let r := p.rtx.get q.cls {}
  let s := s.setPort port { p with
    sched := { p.sched with
      busy := some q, busyHub := h
      hubTurn := p.sched.hubTurn.set q.cls ((h + 1) % 4)
      delay := p.sched.delay.set q.cls (if old ≤ soj then old + (soj - old) / 8 else old - (old - soj) / 8) }
    ctx := if credit then p.ctx.set q.cls { c with used := (c.used + cellsOf n) % 2 ^ 32 } else p.ctx
    rtx := if retry then p.rtx.set q.cls { r with nextSeq := (r.nextSeq + 1) % 2 ^ 32, held := r.held ++ [(r.nextSeq, q.frame)] }
      else p.rtx }
  if q.whole then
    let s := (s.leave h q).pfcWatch h
    if q.frame.fcsOk then s else s.tailMarked u h q
  else s.setHub h { u with queue := u.queue.map fun x => if x.id == q.id then { x with started := true, startAt := s.local } else x }

/-- One opportunity: packets too old are discarded and the next is taken; the fuel bounds the discards (R318, R339). -/
def State.serve (s : State) (port : Nat) : Nat → State
  | 0 => s
  | k + 1 =>
    let r := s.choose port
    let s := s.setPort port { s.port port with sched := r.2 }
    match r.1 with
    | none => s
    | some c =>
      match s.head port c with
      | none => s
      | some (h, q) =>
        if s.tooOld h q then (s.discard h q 4 5).serve port k
        else
          let s := s.start port h q
          if c < 2 then s
          else
            let p := s.port port
            let d := p.sched.deficit.get c 0 - q.len
            s.setPort port { p with sched := { p.sched with
              deficit := if s.queueEmpty port c then p.sched.deficit.erase c else p.sched.deficit.set c d } }

/-- The port is free to start a frame: up, the line idle, and no cut-through packet still arriving. -/
def State.portFree (s : State) (port : Nat) : Bool :=
  s.linkUp port && decide ((s.port port).sched.busyTo ≤ s.local)
    && !((List.range 4).any fun h => (s.hub h).queue.any fun q => q.port == port && q.started)

/-- What the port notes as one of its own frames goes out. -/
def State.noted (s : State) (port : Nat) : LocalNote → State
  | .plain => s
  | .counted i => s.portCount port i
  | .replay cls lseq =>
    let q := s.port port
    s.setPort port { q with rtx := q.rtx.set cls { q.rtx.get cls {} with replayed := some (lseq, s.local) } }

/-- TRANSMIT_SELECT: link-local frames first, then the frames of a replay, each counted, then the choice of R339 (R373, R381). -/
def bodyTransmitSelect (port : Nat) (s : State) : State :=
  if s.portFree port then
    match (s.port port).localTx, (s.port port).replays with
    | x :: rest, _ => ((s.setPort port { s.port port with localTx := rest }).noted port x.note).putOnLine port x.frame
    | [], (c, f :: fs) :: rest =>
      ((s.setPort port { s.port port with replays := if fs.isEmpty then rest else (c, fs) :: rest }).putOnLine port f).portCount port 15
    | [], _ =>
      let n := (List.range 4).foldl (fun n h => n + (s.hub h).queue.length) 0
      let s := s.dropOversize port n
      let s := (List.range 8).foldl (fun (s : State) c => s.creditWait port c) s
      s.serve port (n + 1)
  else s

def execTransmitSelect (port : Nat) (s : State) : Out := commit s (s.unlessSafe (bodyTransmitSelect port))

/-! ### Sampling -/

/-- PERIOD_US as it acts (Table 14.5). -/
def State.samplePeriod (s : State) : Nat :=
  let v := s.fld .sampleCfg [] 63 53
  if v = 0 then 64 else min v 1024

/-- The bucket of a value: 0 below 2^lo, bucket k from 2^(lo+k-1), 15 at the top (R355). -/
def bucketOf (lo n : Nat) : Nat := if n < 2 ^ lo then 0 else min (Nat.log2 (n / 2 ^ lo) + 1) 15

/-- One queue's sample (R355, Table 14.6). -/
def State.sampleQueue (s : State) (port cls : Nat) : State :=
  let l := s.classQueue port cls
  let depth := fullCharge l + (l.map QItem.hdrmC).sum
  let turn := (s.port port).sched.hubTurn.get cls 0
  let head := (List.range 4).findSome? fun i => ((s.hub ((turn + i) % 4)).sel port cls).find? fun q => !q.started
  let delay := match head with | some q => s.local - q.enqAt | none => 0
  let d := depth / 32
  let t := min (delay / 64) 0xFFFE
  let is := [8 * port + cls]
  let up (r : State) (hi lo v : Nat) : State :=
    let m := r.fld .smpMax is hi lo
    r.setFld .smpMax is hi lo (if m = 0xFFFF then v else max m v)
  let bk (r : State) (g : Reg) (b : Nat) : State :=
    if b % 2 = 0 then r.bump g (is ++ [b / 2]) 63 32 else r.bump g (is ++ [b / 2]) 31 0
  let s := ((s.setFld .smpLast is 63 48 d).setFld .smpLast is 47 32 t).bump .smpLast is 31 0
  let s := up (up s 63 48 d) 47 32 t
  bk (bk s .smpDhist (bucketOf 0 depth)) .smpThist (bucketOf 7 delay)

/-- QUEUE_SAMPLE: every port samples each class once at a multiple of the period (R355). -/
def bodyQueueSample (s : State) : State :=
  if s.now % (s.samplePeriod * 1000) = 0 ∧ s.fwd.sampledAt ≠ some s.now then
    ((List.range 768).filter s.isPort).foldl (fun (s : State) p =>
      (List.range 8).foldl (fun (s : State) c => s.sampleQueue p c) s) { s with fwd := { s.fwd with sampledAt := some s.now } }
  else s

def execQueueSample (s : State) : Out := commit s (bodyQueueSample s)

/-- SAMPLER_CLEAR (Table 14.6, SCH_SMP_CLR). -/
def bodySamplerClear (port cls : Nat) (s : State) : State :=
  if s.isPort port ∧ cls < 8 then
    let i := 8 * port + cls
    let s := (s.setFld .smpMax [i] 63 48 0xFFFF).setFld .smpMax [i] 47 32 0xFFFF
    (List.range 8).foldl (fun (s : State) k => (s.setReg .smpDhist [i, k] 0).setReg .smpThist [i, k] 0) s
  else s

def execSamplerClear (port cls : Nat) (s : State) : Out := commit s (s.ifMain (bodySamplerClear port cls))

/-! ### Gate commands -/

/-- A gate's state with the named outcome in LAST_STATUS. -/
def State.setGate (s : State) (port : Nat) (g : Gate) : State := s.setPort port { s.port port with gate := g }

/-- GATE_ARM: the checks of R348 in order, then the arm of R350. -/
def bodyGateArm (port : Nat) (s : State) : State :=
  if s.isPort port then
    let g := (s.port port).gate
    let at_ := s.reg .gateActAt [port]
    if g.armed then
      if at_ ≤ s.now then s.setGate port { g with status := stRANGE }
      else s.setGate port { g with actAt := at_, status := stOK }
    else if g.wait.rows.any fun e => e.2 == 0 then s.setGate port { g with status := stBADDESC }
    else if 2 ^ 34 < g.wait.cycleField then s.setGate port { g with status := stBADDESC }
    else if at_ ≤ s.now then s.setGate port { g with status := stRANGE }
    else s.setGate port { g with armed := true, actAt := at_, status := stOK }
  else s

def execGateArm (port : Nat) (s : State) : Out := commit s (s.ifMain (bodyGateArm port))

/-- GATE_DISARM: no effect when none is armed (Table 14.4). -/
def bodyGateDisarm (port : Nat) (s : State) : State :=
  let g := (s.port port).gate
  if s.isPort port ∧ g.armed then s.setGate port { g with armed := false } else s

def execGateDisarm (port : Nat) (s : State) : Out := commit s (s.ifMain (bodyGateDisarm port))

/-- The count at which an armed list starts: the end of the running list's cycle in progress at ACT_AT, or ACT_AT itself when
the running list has no cycle (R350). -/
def Gate.startsAt (g : Gate) : Nat :=
  let c := g.run.cycle
  if c = 0 then g.actAt else g.b0 + ((g.actAt - g.b0) / c + 1) * c

/-- GATE_LIST_START: the lists change places (R350). -/
def bodyGateListStart (port : Nat) (s : State) : State :=
  let g := (s.port port).gate
  if s.isPort port ∧ g.armed ∧ g.startsAt ≤ s.now then
    let m := match g.wait.span with | e :: _ => e.2.1 | [] => 0xFF
    (s.setGate port { g with
      run := g.wait, wait := g.run, b0 := g.startsAt, armed := false, entry := 0, mask := m, longest := g.wait.longestTable }).bumpMod .gateCnt [port] 31 0
  else s

def execGateListStart (port : Nat) (s : State) : Out := commit s (bodyGateListStart port s)

/-- GATE_ENTRY_CHANGE: the mask of the entry in force now (R347). -/
def bodyGateEntryChange (port : Nat) (s : State) : State :=
  let g := (s.port port).gate
  if s.isPort port ∧ g.run.cycle ≠ 0 ∧ g.b0 ≤ s.now then
    match spanAt g.run.span ((s.now - g.b0) % g.run.cycle) with
    | some (i, m, _) => s.setGate port { g with entry := i, mask := m }
    | none => s
  else s

def execGateEntryChange (port : Nat) (s : State) : Out := commit s (bodyGateEntryChange port s)

/-! ### Shaper and policer commands -/

/-- SHAPER_CLEAR: B becomes max(B, 0) after growth to now (R343). -/
def bodyShaperClear (port : Nat) (cls : Option Nat) (s : State) : State :=
  let a := match cls with
    | none => Reg.addr .schPortShape [port]
    | some c => Reg.addr .schClsShape [port, c]
  if s.isPort port ∧ (meterCfg (s.regs.get a 0)).enable then
    let m := s.meterNow a 0 1
    { s with meters := s.meters.set a { m with level := max m.level 0 } }
  else s

def execShaperClear (port : Nat) (cls : Option Nat) (s : State) : Out := commit s (s.ifMain (bodyShaperClear port cls))

/-- The copies and the share of the meter at an address, and whether it is a shaper; none where no meter lies there. -/
def State.meterAt (s : State) (a : Nat) : Option (Nat × Nat × Bool) :=
  match locate a with
  | some (.schPortShape, [p]) => if s.isPort p then some (1, 1, true) else none
  | some (.schClsShape, [p, _]) => if s.isPort p then some (1, 1, true) else none
  | some (.polPort, [p]) => if s.isPort p then some (1, 1, false) else none
  | some (.polCls, [p, _]) => if s.isPort p then some (1, 1, false) else none
  | some (.polCtx, [_]) => some (8, 8, false)
  | _ => none

/-- SHAPER_CONFIG_WRITE: growth at the old rate, then the new word (R343, R345, R346). -/
def bodyShaperConfigWrite (a : Nat) (v : Word) (s : State) : State :=
  match s.meterAt a with
  | some (copies, share, isShaper) => s.meterWrite a v.toNat copies share isShaper
  | none => s

def execShaperConfigWrite (a : Nat) (v : Word) (s : State) : Out := commit s (s.ifMain (bodyShaperConfigWrite a v))

/-- SHAPER_DEBT_END: a level that has grown back to 0 or above is taken up, which makes the port or class eligible (R342). -/
def bodyShaperDebtEnd (port : Nat) (cls : Option Nat) (s : State) : State :=
  let a := match cls with
    | none => Reg.addr .schPortShape [port]
    | some c => Reg.addr .schClsShape [port, c]
  if s.isPort port ∧ (meterCfg (s.regs.get a 0)).enable ∧ (s.meters.get a {}).level < 0 ∧ s.inDebt a = false then
    { s with meters := s.meters.set a (s.meterNow a 0 1) }
  else s

def execShaperDebtEnd (port : Nat) (cls : Option Nat) (s : State) : Out := commit s (bodyShaperDebtEnd port cls s)

/-! ### Buffer pool manager commands -/

/-- BPM_ALLOC: a free buffer becomes HELD(owner), or EMPTY is answered and counted; two requesters for the last free buffer are
arbitrated (R324, R327). -/
def bodyBpmAlloc (p owner : Nat) (rival : Option Nat) (s : State) : State :=
  let q := s.pool p
  let one (s : State) (o : Nat) : State :=
    match (s.pool p).alloc p o with
    | some (_, q') => s.setPool p q'
    | none => s.bump .bpmStat [p] 63 32
  match rival with
  | none => one s owner
  | some r =>
    if q.freeCount = 1 ∧ (q.nextFree p).isSome then
      let pr (o : Nat) : Nat := (o + 65536 - q.prio) % 65536
      let win := if pr owner ≤ pr r then owner else r
      let s := one s win
      let s := s.setPool p { s.pool p with prio := (win + 1) % 65536 }
      (s.bump .bpmStat [p] 63 32).bump .bpmStat [p] 31 0
    else one (one s owner) r

def execBpmAlloc (p owner : Nat) (rival : Option Nat) (s : State) : Out := commit s (s.unlessSafe (bodyBpmAlloc p owner rival))

/-- BPM_SHARE (R324). -/
def execBpmShare (p buf owner n tag last : Nat) (s : State) : Out :=
  commit s (s.setPool p ((s.pool p).share buf owner n tag last))

/-- BPM_RELEASE (R325, R326). -/
def execBpmRelease (p buf owner tag : Nat) (s : State) : Out := commit s (s.bpmRelease p buf owner tag)

/-- BPM_ERR_FIRST_CLEAR: writing 1 to VALID clears the register and arms it (Table 13.10). -/
def execBpmErrFirstClear (s : State) : Out := commit s (s.ifMain fun s => s.setReg .bpmErrFirst [] 0)

end Sys2Proof.Machine
end

