-- ==== Sys2Proof/Machine/Context.lean ====
section
/-!
DEFINITION. Contexts: the fields of their descriptors (Table 5.1), chunks and slots (R125 to R127), who contributes and who
receives (Table 6.2), tiles and exit hub dies (R19, R26), the accumulation of a contribution and the forming of a result (R65
to R69), and what leaves the mesh for the members.
-/

namespace Sys2Proof.Machine

/-! ### Descriptor words -/

/-- Bits [hi:lo] of word `i` of a descriptor. -/
def dfield (d : List Byte) (i hi lo : Nat) : Nat := beNat ((d.drop (8 * i)).take 8) / 2 ^ lo % 2 ^ (hi + 1 - lo)

/-- Members, D0[25:11]. -/
def dMcount (d : List Byte) : Nat := dfield d 0 25 11

/-- COUNT, D1[63:23]. -/
def dCount (d : List Byte) : Nat := dfield d 1 63 23

/-- OP as it acts: 0 for KIND 3 (R218). -/
def opOf (kind : Nat) (d : List Byte) : Nat := if kind = 3 then 0 else dfield d 0 63 56

/-- FUNC as it acts: 0 where the KIND or OP ignores it (Table 5.1, R218). -/
def funcOf (kind : Nat) (d : List Byte) : Nat := if kind = 3 ∨ 4 ≤ opOf kind d then 0 else dfield d 0 55 52

/-- FMT_IN as it acts: 0x0A for a barrier (R122). -/
def fmtInOf (kind : Nat) (d : List Byte) : Nat := if opOf kind d = 6 then 0x0A else dfield d 0 51 46

/-- The effective FMT_OUT: 0 means FMT_IN (Table 5.1). -/
def fmtOutOf (kind : Nat) (d : List Byte) : Nat :=
  if opOf kind d = 6 then 0x0A else if dfield d 0 45 40 = 0 then dfield d 0 51 46 else dfield d 0 45 40

/-- WMODE and the signed ANCHOR (R56, R61); ignored for a barrier. -/
def wmodeOf (d : List Byte) : Nat := dfield d 2 33 32
def anchorOf (d : List Byte) : Int := toSigned 10 (dfield d 2 31 22)

/-- NORETAIN as it acts: a barrier ignores the expert field (R122), a gather context retains nothing (R218). -/
def noRetain (kind : Nat) (d : List Byte) : Bool :=
  kind == 3 || (opOf kind d != 6 && dfield d 2 21 21 == 1)

/-- The context's timeout in microseconds; 0 means the job default (Table 5.1). -/
def timeoutOf (jobDefault : Nat) (d : List Byte) : Nat := if dfield d 2 63 38 = 0 then jobDefault else dfield d 2 63 38

/-- The lane-hash key (R397). -/
def hkeyOf (d : List Byte) : Nat :=
  let k := dfield d 5 63 0 * 2 ^ 64 + dfield d 6 63 0
  if k = 0 then defaultHashKey else k

/-- SUM or AVG, whose accumulators are the long adder's. -/
def isSum (kind : Nat) (d : List Byte) : Bool := opOf kind d ≤ 3 && funcOf kind d ≤ 1 && kind != 3

/-! ### Chunks and slots -/

/-- Unit size in elements for the least common multiple of R125. -/
def Fmt.unitOf (f : Fmt) : Nat := if f.block.isSome then f.unitElems else 1

/-- Whole units in 4,096 bytes, in elements (Table 2.1). -/
def Fmt.inPacket (f : Fmt) : Nat := 4096 / f.unitBytes * f.unitElems

/-- C of R125 for two formats; `full` is a SUM or AVG with WMODE 0. -/
def chunkElems (fin fout : Fmt) (full : Bool) : Nat :=
  let u := Nat.lcm fin.unitOf fout.unitOf
  let m := min fin.inPacket fout.inPacket
  let m := if full then min m 4096 else m
  m / u * u

/-- C of a descriptor; a barrier has 1. -/
def chunkOf (kind : Nat) (d : List Byte) : Nat :=
  if opOf kind d = 6 then 1
  else
    match Fmt.ofCode (fmtInOf kind d), Fmt.ofCode (fmtOutOf kind d) with
    | some a, some b => chunkElems a b (isSum kind d && wmodeOf d == 0)
    | _, _ => 1

/-- K of R144: chunks of one run. -/
def runChunks (kind : Nat) (d : List Byte) : Nat :=
  if opOf kind d = 6 then 1 else ceilDiv (dCount d) (max (chunkOf kind d) 1)

/-- N of R144. -/
def allChunks (kind : Nat) (d : List Byte) : Nat :=
  if opOf kind d = 4 then dMcount d * runChunks kind d else runChunks kind d

/-- Bytes of `n` elements, whole units (R35). -/
def Fmt.bytesFor (f : Fmt) (n : Nat) : Nat := ceilDiv n f.unitElems * f.unitBytes

/-- Bytes of optimizer state per element in a slot, b of R171. -/
def momentBytes (kind : Nat) (d : List Byte) : Nat :=
  if kind = 2 then
    let mb := if dfield d 12 59 56 = 0 then 4 else 2
    if dfield d 12 63 60 = 0 then 4 + 2 * mb else 4 + mb
  else 0

/-- Bytes of a slot's elements (Table 5.3). -/
def slotBody (kind : Nat) (d : List Byte) (c : Nat) : Nat :=
  let op := opOf kind d
  if op = 6 then 0
  else if 4 ≤ op then (match Fmt.ofCode (fmtOutOf kind d) with | some f => f.bytesFor c | none => 0)
  else if 2 ≤ funcOf kind d then 16 * c
  else (if wmodeOf d = 0 then 48 else 24) * c

/-- KiB of a slot (R126, R171). -/
def slotKibOf (kind : Nat) (d : List Byte) (c : Nat) : Nat :=
  ceilDiv (64 + slotBody kind d c + momentBytes kind d * c + 8 * ceilDiv (dMcount d) 64) 1024

namespace CtxFix

variable (x : CtxFix)

def op : Nat := opOf x.kind x.desc
def func : Nat := funcOf x.kind x.desc
def fmtIn : Nat := fmtInOf x.kind x.desc
def fmtOut : Nat := fmtOutOf x.kind x.desc
def mcount : Nat := x.members.length
def root : Nat := dfield x.desc 0 39 26
def rdir : Nat := dfield x.desc 2 37 35
def strict : Bool := dfield x.desc 2 34 34 == 1
def retains : Bool := !noRetain x.kind x.desc
def key : Nat := hkeyOf x.desc
def window : Window :=
  match Fmt.ofCode x.fmtIn with
  | some f => (windowOf (wmodeOf x.desc) (anchorOf x.desc) f).getD .full
  | none => .full

/-- Slots the context holds: W, or N when every chunk is open. -/
def slotsOpen : Nat := if x.w = 0 then x.n else x.w

/-- The rank of the convener: the lowest rank whose entry is its endpoint number (R92). -/
def convRank : Nat := x.members.findIdx (fun e => e == x.convener)

/-- Elements of chunk `c` (R125, R146). -/
def elems (c : Nat) : Nat :=
  if x.op = 6 then 1
  else
    let i := if x.op = 4 then c % max x.k 1 else c
    if i + 1 = x.k then dCount x.desc - i * x.c else x.c

/-- The length of a contribution to chunk `c` (R146). -/
def inLen (c : Nat) : Nat :=
  match Fmt.ofCode x.fmtIn with
  | some f => f.bytesFor (x.elems c)
  | none => 0

/-- RANK is an expected contributor of chunk `c` (Table 6.2). -/
def expects (c rank : Nat) : Bool :=
  if x.op = 4 then rank == c / max x.k 1 else if x.op = 5 then rank == x.root else decide (rank < x.mcount)

/-- The number of expected contributors of a chunk. -/
def contributors : Nat := if x.op = 4 ∨ x.op = 5 then 1 else x.mcount

/-- The rank that owns chunk `c` of a REDUCESCATTER (R145). -/
def owner (c : Nat) : Nat := c * x.mcount / max x.n 1

/-- The one rank that receives chunk `c`'s RESULT, none for every rank (Table 6.2). -/
def receiver (c : Nat) : Option Nat := if x.op = 2 then some (x.owner c) else if x.op = 3 then some x.root else none

/-- RESEND of chunk `c` is served for a rank (Table 6.2). -/
def served (c rank : Nat) : Bool :=
  match x.receiver c with
  | some r => r == rank
  | none => true

/-- The tile of chunk `c` (R127, Table 12.7), 220 y + x. -/
def tileOf (c : Nat) : Nat := nth x.tiles (c % max x.slotsOpen 1 % max x.tiles.length 1)

/-- The home tile (R149). -/
def home : Nat := nth x.tiles 0

end CtxFix

/-- The hub die through which a tile's results leave (R26, Table 1.2). -/
def exitHub (tile : Nat) : Nat :=
  (if tile / 220 ≤ 47 then 0 else 2) + (if tile % 220 ≤ 109 then 0 else 1)

/-- The fabric die of a tile (R19). -/
def fabricDie (tile : Nat) : Nat := 4 * (tile / 220 / 48) + tile % 220 / 55

/-! ### The mesh and its partitions -/

/-- A tile's number, 220 y + x. -/
def tileNo (x y : Nat) : Nat := 220 * y + x

/-- The die and the place of a tile in it (R252), the index of its registers. -/
def tileIdx (t : Nat) : List Nat := [fabricDie t, t / 220 % 48 * 55 + t % 220 % 55]

/-- The image slot of a number. -/
def State.islot (s : State) (n : Nat) : ImgSlot := s.fab.slots.get n {}

/-- The slot of the image whose partition a service's contexts work in: the collective and optimizer services share one (R268, R461). -/
def svcPart (kind : Nat) : Nat := if kind = 3 then 3 else 0

/-- The partition of a context is quiesced: its tiles begin no work for it (R276). -/
def State.paused (s : State) (c : Ctx) : Bool := (s.islot (svcPart c.fix.kind)).quiet || (c.fix.kind == 2 && (s.islot 1).quiet)

/-- A mesh drop, counted in a field of FAB_MESH_DROP and reported (R256, Table 18.3). -/
def State.meshDrop (s : State) (t m0 hi lo : Nat) : State :=
  let d := fabricDie t
  (s.bump .fabMeshDrop [d] hi lo).raise (12 + d) 0x11 ((tileIdx t).getD 1 0) 0x035 1 m0

/-! ### Contexts by number -/

/-- The context of a number; none when FREE. -/
def State.ctx? (s : State) (n : Nat) : Option Ctx := s.svc.ctxs.find? n

def State.setCtx (s : State) (n : Nat) (c : Ctx) : State := { s with svc := { s.svc with ctxs := s.svc.ctxs.set n c } }

/-- A context changed. -/
def State.onCtx (s : State) (n : Nat) (f : Ctx → Ctx) : State :=
  match s.ctx? n with
  | some c => s.setCtx n (f c)
  | none => s

/-- The frontier F (R150). -/
def Ctx.frontier (c : Ctx) : Nat := if c.fix.w = 0 then c.fix.n else min c.fix.n (c.run.low + c.fix.w)

/-- Chunk `k` has finalised in this generation. -/
def Ctx.finalised (c : Ctx) (k : Nat) : Bool := decide (k < c.run.low) || c.run.fin.contains k

/-- The generation has not ended: ARMED or ACTIVE (R149). -/
def Ctx.runs (c : Ctx) : Bool := c.state == .armed || c.state == .active

/-- The context is ARMED and the global count lies below START_AT. -/
def State.beforeStart (s : State) (c : Ctx) : Bool := c.state == .armed && decide (s.now < c.run.startAt)

/-- In flight, SETTING_UP to DRAINING (R118). -/
def Ctx.inFlight (c : Ctx) : Bool := c.state != .quarantine

/-! ### A contribution's arithmetic -/

/-- A slot's arithmetic state after a contribution's payload, with its saturated and flushed events (R58, R59, R62, R68,
R69). -/
def CtxFix.addTo (x : CtxFix) (k : Nat) (sl : Slot) (payload : List Byte) : Slot :=
  match Fmt.ofCode x.fmtIn with
  | none => sl
  | some f =>
    if x.op = 6 then sl
    else if 4 ≤ x.op then { sl with raw := payload }
    else
      let xs := (decodePayload f payload).take (x.elems k)
      if x.func ≤ 1 then
        let old := if sl.accs.isEmpty then List.replicate xs.length Accum.zero else sl.accs
        let r := List.zipWith (fun a v => Accum.add x.window a v) old xs
        { sl with accs := r.map Added.acc, sat := sl.sat + (r.map Added.sat).sum, flush := sl.flush + (r.map Added.flush).sum }
      else
        { sl with exts := if sl.exts.isEmpty then xs else List.zipWith (XVal.pick (x.func == 3)) sl.exts xs }

/-- The payload of a poisoned chunk's RESULT (R88). -/
def poisonPayload : List Byte := natBytes 8 (stPOISON * 2 ^ 56)

/-- A carried chunk in its output format (R69). DESIGN CHOICE (log entry 120): where the formats are equal, its bits are carried as they are, a
signalling NaN's too, as R69 says of a chunk carried bit for bit, though R37 has no service output deliver one. -/
def CtxFix.carry (x : CtxFix) (k : Nat) (raw : List Byte) : Encoded :=
  match Fmt.ofCode x.fmtIn, Fmt.ofCode x.fmtOut with
  | some f, some g =>
    let e := x.elems k
    if f = g then
      if f.block.isSome ∧ e % f.unitElems ≠ 0 then
        let n := e / f.unitElems * f.unitBytes
        let r := encodePayload f x.rdir x.strict ((decodePayload f (raw.drop n)).take (e % f.unitElems))
        ⟨raw.take n ++ r.bytes, r.sat, r.flush⟩
      else ⟨raw, 0, 0⟩
    else encodePayload g x.rdir x.strict ((decodePayload f raw).take e)
  | _, _ => ⟨raw, 0, 0⟩

/-- The RESULT payload of a full chunk, rounded once, with its counts (R66 to R69, R122). -/
def CtxFix.result (x : CtxFix) (k : Nat) (sl : Slot) : Encoded :=
  if x.op = 6 then ⟨natBytes 8 x.mcount, 0, 0⟩
  else if 4 ≤ x.op then x.carry k sl.raw
  else
    match Fmt.ofCode x.fmtOut with
    | none => ⟨[], 0, 0⟩
    | some g =>
      encodePayload g x.rdir x.strict
        (if x.func ≤ 1 then sl.accs.map fun a => a.value x.window (if x.func = 1 then x.mcount else 1) else sl.exts)

/-- A 64-bit count that saturates. -/
def sat64 (n : Nat) : Nat := min n (2 ^ 64 - 1)

/-- Same-cycle ties that packets of a running context met at mesh router outputs or at a slot add to its TCHOICE (R73, R259, R402). -/
def State.tieCount (s : State) (n ties : Nat) : State :=
  s.onCtx n fun c => if c.runs then { c with run := { c.run with tchoice := sat64 (c.run.tchoice + ties) } } else c

/-- The generation has ended and its COMPLETE, if it sends one, has been sent (R155, Table 24.4). -/
def Ctx.completed (c : Ctx) : Bool := c.state == .complete && !c.run.completeDue

/-- STATE of SVC_CTX_STATE: ACTIVE until a due COMPLETE is sent (Tables 5.5, 5.7 and 24.4). -/
def Ctx.stateCode (c : Ctx) : Nat := if c.state = .complete ∧ c.run.completeDue = true then CtxSt.active.code else c.state.code

/-- Bits set in a bitmap over the ranks (R149). -/
def bitCount (ranks bitmap : Nat) : Nat := ((List.range ranks).filter fun r => bitmap / 2 ^ r % 2 == 1).length

/-! ### Leaving the mesh -/

/-- A packet leaves the mesh at a hub die for the members; it travelled on virtual channel 1 (R26, Table 11.2). -/
def State.emit (s : State) (h : Nat) (m : MeshOut) : State :=
  let u := s.hub h
  s.setHub h { u with meshOut := u.meshOut ++ [m] }

/-- The ranks a packet leaving the mesh is for. -/
def MeshOut.ranks (m : MeshOut) (mcount : Nat) : List Nat :=
  match m.only with
  | some r => [r]
  | none => (List.range mcount).filter fun r => some r != m.except

/-- The note that ties a queued RESULT copy to its generation; 0 for every other packet. -/
def noteOf (ctx gen : Nat) : Nat := ctx * 256 + gen

/-- Class of a packet the device sends to members (Table 4.3): ABORT travels in class 0, the others in class 1. -/
def memberClass (typ : Nat) : Nat := if typ = tABORT then 0 else 1

/-- One copy for a rank (R153, R155, R158, R151), numbered `seq` (R86). -/
def MeshOut.copy (m : MeshOut) (self dst rank seq : Nat) : Packet :=
  ({ typ := m.typ, cls := memberClass m.typ, dst := dst, src := self, ctx := m.ctx, gen := m.gen, fmt := m.fmt,
     last := m.typ == tCOMPLETE || m.typ == tABORT, seq := seq, rank := rank, offset := m.offset } : Hdr).packet m.payload

/-- The next SEQ of the flow to an endpoint in a generation (R86), and the state with it taken. -/
def State.nextSeq (s : State) (m : MeshOut) (dst : Nat) : Nat × State :=
  match s.ctx? m.ctx with
  | none => (0, s)
  | some c =>
    if c.gen = m.gen then
      let q := c.run.seqs.get dst 0
      (q, s.setCtx m.ctx { c with run := { c.run with seqs := c.run.seqs.set dst ((q + 1) % 2 ^ 32) } })
    else
      let q := c.oldSeqs.get dst 0
      (q, s.setCtx m.ctx { c with oldSeqs := c.oldSeqs.set dst ((q + 1) % 2 ^ 32) })

/-- The copies of a packet for its recipients, each looked up on the hub die's own tables (R26, R80, R280). -/
def State.copies (s : State) (h : Nat) (m : MeshOut) : List QItem × State :=
  match s.ctx? m.ctx with
  | none => ([], s)
  | some c =>
    (m.ranks c.fix.mcount).foldl (fun (a : List QItem × State) r =>
      let dst := nth c.fix.members r
      let q := a.2.nextSeq m dst
      let s := q.2
      let p := m.copy s.keys.svcEp dst r q.1
      let p := Packet.sealed (({ p with w0 := p.w0.setField 47 42 s.keys.ttl } : Packet).stamp (some s.birthNow) s.fwd.active)
      match s.lookupQft (8 + h) p with
      | .drop s => (a.1, s)
      | .found mb s =>
        let f := s.encapsulate s.activeBank mb p
        let note := if m.typ = tRESULT then noteOf m.ctx m.gen else 0
        (a.1 ++ [s.mkItem mb p.cls 0x3FF f (some p) (cellsOf f.len) true note], s)) ([], s)

/-- HUB_REPLICATE: the next packet that left the mesh at a hub die is replicated to its recipients, and each copy is queued as
one packet's copies are (R26, R312, R324). `ties` counts the same-cycle ties it met in the mesh with packets of its context (R259). -/
def bodyHubReplicate (h ties : Nat) (s : State) : State :=
  match (s.hub h).meshOut with
  | [] => s
  | m :: rest =>
    let s := ((s.setHub h { s.hub h with meshOut := rest }).tieCount m.ctx ties).drain h
    let r := s.copies h m
    match r.1 with
    | [] => r.2
    | [q] => (({ r.2 with nextId := r.2.nextId + 1 } : State).admitItem h q).2
    | qs => ({ r.2 with nextId := r.2.nextId + 1 } : State).admitCopies h r.2.nextId qs

def execHubReplicate (h ties : Nat) (s : State) : Out := commit s (s.unlessSafe (bodyHubReplicate h ties))

/-- A RESULT copy of the generation is still on its way out (R155). -/
def State.resultsOut (s : State) (ctx gen : Nat) : Bool :=
  let note := noteOf ctx gen
  ((List.range 4).any fun h =>
    let u := s.hub h
    u.meshOut.any (fun m => m.typ == tRESULT && m.ctx == ctx && m.gen == gen) || u.queue.any (fun q => q.ctxNote == note)
      || u.arrive.any (fun a => a.item.ctxNote == note))
  || s.ports.any fun e => e.2.sched.busy.map QItem.ctxNote == some note && decide (s.local < e.2.sched.busyTo)

/-- Any packet of a context is still on the service path: in the mesh, at a hub die, in an update unit, or in a RESEND. -/
def State.onPath (s : State) (ctx : Nat) : Bool :=
  s.svc.flight.any (fun f => f.ctx == ctx) || s.svc.resends.any (fun r => r.ctx == ctx)
    || s.mp.greqs.any (fun g => g.ctx == ctx)
    || ((List.range 4).any fun h => (s.hub h).meshOut.any fun m => m.ctx == ctx)
    || (match s.ctx? ctx with | some c => !c.units.isEmpty || !c.run.reports.isEmpty || c.run.completeDue | none => false)

end Sys2Proof.Machine
end

