-- ==== Sys2Proof/Machine/Pool.lean ====
section
/-!
DEFINITION. The pool's shared operations: regions and their pages (R190 to R192), poisoned lines (R214), the race tracker
(R212), and a memory stack's arbiter (R352, R354).
-/

namespace Sys2Proof.Machine

/-! ### Regions and addresses -/

/-- A 2 MiB page. -/
def pageBytes : Nat := 2097152

/-- Pages of a stack (R193). -/
def stackPages : Nat := 36864

/-- The hub die that homes a stack (R15). -/
def hubOfStack (stack : Nat) : Nat := stack / 4

def State.region? (s : State) (r : Nat) : Option Region := s.mp.regions.find? r

def State.setRegion (s : State) (r : Nat) (x : Region) : State := { s with mp := { s.mp with regions := s.mp.regions.set r x } }

/-- A region in state LIVE, the only state with a steering entry (R189, R191). -/
def State.liveRegion (s : State) (r : Nat) : Option Region :=
  match s.region? r with
  | some x => if x.state = .live then some x else none
  | none => none

/-- Pages of a region (R192). -/
def pagesFor (size : Nat) : Nat := ceilDiv size pageBytes

/-- The stack of page `k` of region number `r` (R192). -/
def Region.stackOf (x : Region) (r k : Nat) : Nat :=
  let n := max x.stackSet.length 1
  nth x.stackSet ((k + r % n) % n)

/-- The address in HBM of byte `off` of region number `r`. -/
def Region.phys (x : Region) (r off : Nat) : Nat :=
  let k := off / pageBytes
  (x.stackOf r k * stackPages + nth x.pages k) * pageBytes + off % pageBytes

/-- A span of a region cut at page boundaries: offsets and lengths; the fuel bounds the pieces. -/
def pageCuts : Nat → Nat → Nat → List (Nat × Nat)
  | 0, _, _ => []
  | k + 1, off, len =>
    if len = 0 then []
    else
      let n := min len (pageBytes - off % pageBytes)
      (off, n) :: pageCuts k (off + n) (len - n)

/-- The pieces of a span. -/
def spanCuts (off len : Nat) : List (Nat × Nat) := pageCuts (len / pageBytes + 2) off len

/-- Bytes of a region as they stand. -/
def State.readRgn (s : State) (r : Nat) (x : Region) (off len : Nat) : List Byte :=
  (spanCuts off len).flatMap fun c => s.hbm.read (x.phys r c.1) c.2

/-- The writes that put bytes into a region, by HBM address. -/
def Region.puts (x : Region) (r off : Nat) (bs : List Byte) : List (Nat × List Byte) :=
  (spanCuts off bs.length).map fun c => (x.phys r c.1, (bs.drop (c.1 - off)).take c.2)

/-- Bytes written into a region. -/
def State.writeRgn (s : State) (r : Nat) (x : Region) (off : Nat) (bs : List Byte) : State :=
  (x.puts r off bs).foldl (fun (s : State) w => s.memOp (.put w.1 w.2)) s

/-! ### Poison -/

/-- 64-byte lines that [off, off + n) touches, at least 1 (R354). -/
def linesOf (off n : Nat) : Nat := if n = 0 then 1 else (off + n - 1) / 64 - off / 64 + 1

/-- A line of HBM is poisoned (R214). -/
def State.linePoisoned (s : State) (line : Nat) : Bool :=
  s.mp.poison.any fun p => decide (p.1 ≤ line) && decide (line < p.2)

/-- Some line of [a, a + n) is poisoned. -/
def State.poisonedAt (s : State) (a n : Nat) : Bool :=
  n != 0 && s.mp.poison.any fun p => decide (p.1 * 64 < a + n) && decide (a < p.2 * 64)

/-- Lines `lo` to `hi - 1` poisoned. -/
def State.poisonLines (s : State) (lo hi : Nat) : State :=
  if lo < hi then { s with mp := { s.mp with poison := (lo, hi) :: s.mp.poison } } else s

/-- Lines `lo` to `hi - 1` clear of poison. -/
def State.cleanLines (s : State) (lo hi : Nat) : State :=
  { s with mp := { s.mp with poison := s.mp.poison.flatMap fun p =>
      [(p.1, min p.2 lo), (max p.1 hi, p.2)].filter fun q => decide (q.1 < q.2) } }

/-- Poison that touches a span of a region. -/
def State.rgnPoisoned (s : State) (r : Nat) (x : Region) (off len : Nat) : Bool :=
  (spanCuts off len).any fun c => s.poisonedAt (x.phys r c.1) c.2

/-- A write of [a, a + n) meets a poisoned line it covers only in part (R214). -/
def State.poisonInPart (s : State) (a n : Nat) : Bool :=
  n != 0 && ((a % 64 != 0 && s.linePoisoned (a / 64)) || ((a + n) % 64 != 0 && s.linePoisoned ((a + n) / 64)))

/-- What a stack reports of a read of lines: `lines` counts them from the line of HBM address `a`, whose fault ADDRESS is `addr`. A corrected
error is a NOTE, an uncorrectable one poisons its line (R214, R441). Which line met the error, and on which pseudo-channel of
the stack, no operand says: free values (log entry 40). -/
def State.linesReport (s : State) (stack a addr : Nat) (lines : List Nat) (m : MemResult) : State :=
  if lines.isEmpty then s
  else
    match m with
    | .clean => s
    | r =>
      let i := nth lines (s.freeVal % lines.length)
      let s := s.tickFree
      let inst := 32 * (stack % 4) + s.freeVal % 32
      let s := s.tickFree
      let unc := r == .uncorrectable
      let s := if unc then s.poisonLines (a / 64 + i) (a / 64 + i + 1) else s
      s.raise (8 + hubOfStack stack) 0x0A inst (if unc then 0x021 else 0x020) (if unc then 1 else 0) (addr / 64 * 64 + 64 * i)

/-- The report of a read of `n` bytes at HBM address `a`. -/
def State.memReport (s : State) (stack a n addr : Nat) (m : MemResult) : State :=
  s.linesReport stack a addr (if n = 0 then [] else List.range (linesOf a n)) m

/-- The lines that a write of `n` bytes at `a` covers only in part, counted from the first: those it reads (R214). -/
def partLines (a n : Nat) : List Nat :=
  (List.range (linesOf a n)).filter fun i => decide ((a / 64 + i) * 64 < a) || decide (a + n < (a / 64 + i + 1) * 64)

/-- The fault ADDRESS of byte `off` of a region: its pool address (Table 18.3). -/
def Region.faultAddr (x : Region) (off : Nat) : Nat := 2 ^ 63 + x.base + off

/-! ### The race tracker (R212, R213, R229) -/

/-- RACEWIN as it acts (Table 8.9). -/
def State.raceWin (s : State) : Nat :=
  let v := s.reg .poolRacewin [] % 2 ^ 17
  if v = 0 then 2048 else min (max v 256) 65536

/-- Two tracked accesses race: different sources, overlapping bytes of one line, at least one a write, within RACEWIN. -/
def Track.races (a b : Track) (win : Nat) : Bool :=
  a.region == b.region && a.line == b.line && a.src != b.src && decide (a.lo < b.hi) && decide (b.lo < a.hi) && (a.write || b.write)
    && decide (b.at_ ≤ a.at_ + win)

/-- A line access passes the hub die's tracker, which keeps the last 32,768: the earlier accesses that it races, or that the tracker dropped
within RACEWIN and that touched its line, and the state after. -/
def State.track (s : State) (hub : Nat) (t : Track) : List Track × State :=
  let k := s.mp.trackers.get hub {}
  let win := s.raceWin
  let inside (o : Track) : Bool := decide (s.local ≤ o.at_ + win)
  let met := k.seen.filter (fun o => o.races t win) ++ k.lost.filter fun o => inside o && o.region == t.region && o.line == t.line
  let all := t :: k.seen
  let k' : Tracker := ⟨all.take 32768, (k.lost ++ all.drop 32768).filter inside⟩
  (met, { s with mp := { s.mp with trackers := s.mp.trackers.set hub k' } })

/-- An ordinary count of a region's register. -/
def State.rgnCount (s : State) (r : Nat) (reg : Reg) : State := s.count64 reg [r]

/-! ### Stacks -/

def State.stack (s : State) (k : Nat) : StackSt := s.mp.hbm.get k {}

def State.setStack (s : State) (k : Nat) (x : StackSt) : State := { s with mp := { s.mp with hbm := s.mp.hbm.set k x } }

/-- The stack runs: its power is on and it does not retrain. -/
def StackSt.up (x : StackSt) : Bool := !x.off && !x.retrain

/-- The stack's sensor reading in 1/8 °C; none while it gives none. -/
def State.stackTemp (s : State) (k : Nat) : Option Int :=
  let v := s.fld .pwrStackTemp [k] 63 52
  if v = 0x800 then none else some (toSigned 12 v)

/-- The stack falls due: 100 ms, or a move of 5 °C, since its last recalibration. -/
def State.fallsDue (s : State) (k : Nat) : Bool :=
  let x := s.stack k
  decide (x.recalAt + 100000000 ≤ s.local)
    || (match s.stackTemp k with | some t => decide (40 ≤ (t - x.recalTemp).natAbs) | none => false)

/-- A recalibration made now; the stack takes no foreground access for 2 µs. -/
def State.recal (s : State) (k : Nat) : State :=
  let x := s.stack k
  s.setStack k { x with recalAt := s.local, recalTemp := (s.stackTemp k).getD x.recalTemp, dueAt := none, busyTo := s.local + 2000 }

/-- A stack leaves self-refresh, and a recalibration kept meanwhile is made (R414, R426). -/
def State.wakeStack (s : State) (k : Nat) : State :=
  let x := s.stack k
  let s := s.setStack k { x with asleep := false }
  if x.asleep && (x.dueAt.isSome || s.fallsDue k) then (s.recal k).bump .pwrMem [k] 60 45 else s

/-- A foreground access wakes a stack and restarts its idle time; a recalibration that fell due in self-refresh is performed as the stack
leaves it (R414, Table 17.6). -/
def State.useStack (s : State) (k : Nat) : State := (s.setStack k { s.stack k with lastUse := s.local }).wakeStack k

/-- The stack takes a foreground access now: it runs and no recalibration is under way (R425, R426). -/
def State.stackOpen (s : State) (k : Nat) : Bool := (s.stack k).up && decide ((s.stack k).busyTo ≤ s.local)

/-- WEIGHT of a job as it acts: 0 means the default 16 (Table 20.4). -/
def State.weight (s : State) (job : Nat) : Nat :=
  let w := s.fld .schJob [job] 63 56
  if w = 0 then 16 else w

/-- The finish tag of an item of a cost entering an arbiter, and the arbiter after it (R352). -/
def Wfq.enter (a : Wfq) (weight job cost : Nat) : Nat × Wfq :=
  let f := max a.v (a.f.get job 0) + ceilDiv (cost * 4096) (max weight 1)
  (f, { a with f := a.f.set job f })

/-- The subtraction of R496 on V and every Fj. -/
def Wfq.rebased (a : Wfq) : Wfq := ⟨a.v - 2 ^ 61, a.f.map fun e => (e.1, e.2 - 2 ^ 61)⟩

/-- An item enters the arbiter of a stack. -/
def State.enterStack (s : State) (k job cost : Nat) : Nat × State :=
  let x := s.stack k
  let r := x.arb.enter (s.weight job) job cost
  (r.1, s.setStack k { x with arb := r.2 })

/-- Request entries of a hub die in use (R210). -/
def State.entriesUsed (s : State) (hub : Nat) : Nat :=
  (s.mp.reqs.filter fun q => q.sent && hubOfStack q.stack == hub).length

/-! ### Optimizer spans -/

/-- align of R165. -/
def align4k (n : Nat) : Nat := ceilDiv n 4096 * 4096

/-- The parameter span of an optimizer context: POFF and the offsets and sizes of Table 7.1. -/
structure Span where
  region : Nat
  poff   : Nat
  mb     : Nat
  mOff   : Nat
  vOff   : Nat
  vSize  : Nat
  sOff   : Nat
  size   : Nat
  deriving DecidableEq, Repr

end Sys2Proof.Machine
end

