-- ==== Sys2Proof/Machine/Receive.lean ====
section
/-!
DEFINITION. Receiving a frame: the MAC's counts and sizes, link-level retry and credit at the receiver, recognising QFT, and
steps 1 to 8 of Table 4.9.
-/

namespace Sys2Proof.Machine

/-! ### Recognising QFT (R75, R76) -/

/-- What a frame is. -/
inductive Recog where
  | qft (bs : List Byte)
  | badUdp
  | other
  deriving DecidableEq, Repr

/-- Byte `i` of a list as a number. -/
def byteAt (bs : List Byte) (i : Nat) : Nat := (bs.getD i 0).toNat

/-- `k` bytes at `i` as a number. -/
def numAt (bs : List Byte) (i k : Nat) : Nat := beNat ((bs.drop i).take k)

/-- The UDP header and payload of an IPv6 packet, past any extension headers that can be read past: the bytes from the UDP header, and
whether an extension header stood before it. Behind a later fragment's header, or an encrypted payload (50), no UDP port can be read. -/
def udp6 : Nat → Nat → List Byte → Bool → Option (List Byte × Bool)
  | 0, _, _, _ => none
  | k + 1, nh, bs, ext =>
    if nh = 17 then some (bs, ext)
    else if [0, 43, 60, 135, 139, 140, 253, 254].contains nh then udp6 k (byteAt bs 0) (bs.drop (8 + 8 * byteAt bs 1)) true
    else if nh = 51 then udp6 k (byteAt bs 0) (bs.drop (8 + 4 * byteAt bs 1)) true
    else if nh = 44 ∧ numAt bs 2 2 / 8 = 0 then udp6 k (byteAt bs 0) (bs.drop 8) true
    else none

/-- A datagram at its UDP header, judged by the port, the third test of R76 and its checksum. -/
def State.datagram (s : State) (udp pseudo : List Byte) (broken : Bool) : Recog :=
  if numAt udp 2 2 = s.keys.udpPort ∧ 8 ≤ udp.length then
    let n := numAt udp 4 2
    let u := udp.take n
    if broken then .badUdp
    else if numAt udp 6 2 ≠ 0 ∧ onesSum (pseudo ++ natBytes 2 n ++ u) ≠ 0xFFFF then .badUdp
    else .qft (u.drop 8)
  else .other

/-- Whether the frame is QFT (R75, R76). R75 recognises the EtherType behind at most one tag; R76 names no tags, and the model recognises a
datagram behind at most one too (DESIGN CHOICE, log entry 116). -/
def State.recognise (s : State) (f : Frame) : Recog :=
  if 1 < f.tags.length then .other
  else if f.etype = s.keys.etherType then .qft f.body
  else if f.etype = 0x0800 ∧ byteAt f.body 0 / 16 = 4 then
    let b := f.body.take (numAt f.body 2 2)
    let ihl := byteAt b 0 % 16 * 4
    if byteAt b 9 = 17 ∧ numAt b 6 2 % 8192 = 0 ∧ (s.keys.ip4.vals.contains (numAt b 16 4)) then
      s.datagram (b.drop ihl) ((b.drop 12).take 8 ++ natBytes 2 17) (numAt b 6 2 / 8192 % 2 == 1)
    else .other
  else if f.etype = 0x86DD ∧ byteAt f.body 0 / 16 = 6 ∧ s.keys.ip6.vals.contains (numAt f.body 24 16) then
    let b := f.body.take (40 + numAt f.body 4 2)
    match udp6 8 (byteAt b 6) (b.drop 40) false with
    | some (u, ext) => s.datagram u ((b.drop 8).take 32 ++ natBytes 2 17) ext
    | none => .other
  else .other

/-- A frame is a PTP message: EtherType 0x88F7, or UDP to ports 319 and 320 of the port's own address (R384). -/
def State.isPtp (s : State) (port : Nat) (f : Frame) : Bool :=
  f.etype == 0x88F7
    || (f.etype == 0x0800 && byteAt f.body 9 == 17 && some (numAt f.body 16 4) == s.keys.ip4.find? port
        && [319, 320].contains (numAt (f.body.drop (byteAt f.body 0 % 16 * 4)) 2 2))
    || (f.etype == 0x86DD && byteAt f.body 6 == 17 && some (numAt f.body 24 16) == s.keys.ip6.find? port
        && [319, 320].contains (numAt (f.body.drop 40) 2 2))

/-- The MAC consumes PTP messages on a port with PTP_EN = 1 (R384). -/
def State.takesPtp (s : State) (port : Nat) (f : Frame) : Bool :=
  s.isPtp port f && s.fld .prtPortCfg (portIdx port) 30 30 == 1

/-- A frame the MAC consumes before classification: PTP on a port with PTP_EN, or a PFC frame (R369, R384). -/
def State.macTakes (s : State) (port : Nat) (f : Frame) : Bool :=
  s.takesPtp port f || (f.etype == 0x8808 && numAt f.body 0 2 == 0x0101)

/-- The QFT header of a frame long enough to hold one. -/
def State.header? (s : State) (f : Frame) : Option Packet :=
  match s.recognise f with
  | .qft bs => if 44 ≤ bs.length then some (Packet.parse bs) else none
  | _ => none

/-! ### Link-level retry and credit at the receiver -/

/-- A link-local packet, stamped as originated, sealed and padded, ready for the next frame boundary (R373 to R375, R78, R80). The packets of
flow (0, 0, 0) are numbered by port, and EPOCH is the active bank (R80, R86; DESIGN CHOICE, log entry 114). -/
def State.linkFrame (s : State) (port typ cls : Nat) (ws : List Nat) : Frame :=
  let h : Hdr := { typ := typ, cls := cls, dst := 0, src := 0, seq := (s.port port).seq }
  let p := Packet.sealed ((h.packet (ws.flatMap (natBytes 8))).stamp (some s.birthNow) s.fwd.active)
  let b := p.bytes
  ⟨true, 0x0180C2000001, s.keys.mac.get port 0, [], s.keys.etherType, b ++ List.replicate (46 - b.length) 0⟩

/-- A link-local packet waits for the next frame boundary, and the port's flow has one number more taken (R86, R373). -/
def State.pushLink (s : State) (port typ cls : Nat) (ws : List Nat) (note : LocalNote := .plain) : State :=
  let s := s.pushLocal port (s.linkFrame port typ cls ws) note
  s.setPort port { s.port port with seq := ((s.port port).seq + 1) % 2 ^ 32 }

/-- A LINK_RETRY of an OP for a class (Table 15.4). -/
def State.sendRetry (s : State) (port op cls lseq : Nat) (note : LocalNote := .plain) : State :=
  s.pushLink port tLINK_RETRY cls [op * 2 ^ 56 + lseq % 2 ^ 32, 0] note

/-- The class's next expected sequence is NAKed, counted as the NAK goes out, and the class waits (R380, R386). -/
def State.nakClass (s : State) (port cls : Nat) : State :=
  let q := s.port port
  let r := q.rrx.get cls {}
  let s := s.setPort port { q with rrx := q.rrx.set cls { r with waiting := some s.local } }
  s.sendRetry port 3 cls r.expected (.counted 13)

/-- A receive error: every retry-active class not already waiting sends a NAK and waits (R380). -/
def State.receiveErr (s : State) (port : Nat) : State :=
  ((List.range 8).filter fun c => (s.port port).link.retryAct / 2 ^ c % 2 == 1).foldl (fun (s : State) c =>
    if ((s.port port).rrx.get c {}).waiting.isSome then s else s.nakClass port c) s

/-- An uncorrectable codeword on a lane of the port; the 64th within 1 ms is a LANE_CW_BURST (Table 18.5). -/
def State.noteCodeword (s : State) (port lane : Nat) : State :=
  let q := s.port port
  let l := lane % max (s.lanes port) 1
  let log := (q.cwLog.filter fun e => decide (s.local < e.2 + 1000000)) ++ [(l, s.local)]
  if 64 ≤ (log.filter fun e => e.1 == l).length then
    (s.setPort port { q with cwLog := log.filter fun e => e.1 != l }).raise (port / 96) 0x01 (port % 96 + l) 0x001 1 0
  else s.setPort port { q with cwLog := log }

/-- The port's FEC decodes codewords: it has locked (Table 15.3). -/
def State.fecLocked (s : State) (port : Nat) : Bool := [LinkState.hold, .up, .fault].contains (s.port port).link.state

/-- RECEIVE_ERROR: a codeword, PCS block, FCS or runt error, a receive error on a port that is up (R380, Table 15.8). A corrected codeword is
counted and is no receive error; codewords count from the FEC's lock on (R386). -/
def bodyReceiveError (port : Nat) (k : RxErr) (s : State) : State :=
  match k with
  | .codeword lane =>
    if s.fecLocked port then
      let s := (s.portCount port 8).noteCodeword port lane
      if s.linkUp port then s.receiveErr port else s
    else s
  | .corrected n => if s.fecLocked port then (s.portCount port 7).portCount port 9 n else s
  | .fcs => if s.linkUp port then (s.portCount port 4).receiveErr port else s
  | .runt => if s.linkUp port then (s.portCount port 5).receiveErr port else s
  | .pcs => if s.linkUp port then s.receiveErr port else s

def execReceiveError (port : Nat) (k : RxErr) (s : State) : Out := commit s (bodyReceiveError port k s)

/-- A QFT frame of a retry-active class is discarded while the class waits, otherwise numbered and owed an ACK (R379, R380). -/
def State.retryAccept (s : State) (port cls : Nat) : Bool × State :=
  let q := s.port port
  if q.link.retryAct / 2 ^ cls % 2 = 1 then
    let r := q.rrx.get cls {}
    match r.waiting with
    | some _ => (false, s.portCount port 16)
    | none => (true, s.setPort port { q with rrx := q.rrx.set cls { r with
        expected := (r.expected + 1) % 2 ^ 32, unacked := r.unacked + 1
        ackDueAt := match r.ackDueAt with | some t => some t | none => some (s.local + 500) } })
  else (true, s)

/-- A frame that a check of the MAC stops is discarded by a class that waits too, and counted (R380). -/
def State.retryDiscard (s : State) (port : Nat) (cls : Option Nat) : State :=
  match cls with
  | some c => if (s.port port).link.retryAct / 2 ^ c % 2 = 1 ∧ ((s.port port).rrx.get c {}).waiting.isSome then s.portCount port 16 else s
  | none => s

/-- A QFT frame of a credit class is counted against the LIMIT last sent (R376, R378). -/
def State.creditTake (s : State) (port cls cells : Nat) : State :=
  if s.creditClass port cls then
    let q := s.port port
    let c := q.crx.get cls {}
    let got := (c.received + cells) % 2 ^ 32
    let s := s.setPort port { q with crx := q.crx.set cls { c with received := got } }
    if c.window < (got + 2 ^ 32 - c.sentRel.getD 0 % 2 ^ 32) % 2 ^ 32 then s.portCount port 18 else s
  else s

/-! ### Steps 1 to 8 -/

/-- Where a received frame stands after step 8 (R22, R114). -/
inductive Rx where
  | ignored
  | dropped (s : State)
  | linkLocal (p : Packet) (s : State)
  | forward (p : Packet) (s : State)
  | service (p : Packet) (s : State)
  | plain (s : State)
  deriving DecidableEq, Repr

/-- The state after a frame the port takes no further: its credit returns (R377). -/
def State.rxDrop (s : State) (port cls cells : Nat) : State := s.creditBack port cls cells

/-- What the ingress port die shows its mirror point (R329, R330). -/
def seenIngress (port : Nat) (f : Frame) (p : Option Packet) (cls : Nat) : Seen :=
  ⟨0, 1, port, 0x3FF, cls, (match p with | some q => q.ctx | none => 0), p.isSome, f.len, 0, 0, frameBytes f⟩

/-- The class of a QFT frame that retry and credit cover, as its header gives it (R373). -/
def State.linkClass (s : State) (f : Frame) : Option Nat :=
  match s.recognise f with
  | .qft bs =>
    let p := Packet.parse bs
    if p.typ == tLINK_CREDIT || p.typ == tLINK_RETRY then none else some p.cls
  | _ => none

/-- Steps 3 to 7 of Table 4.9 pass, and the packet takes the forwarding path. -/
def State.forwards (s : State) (bs : List Byte) : Bool :=
  let p := Packet.parse bs
  decide (44 ≤ bs.length) && p.ver == 1 && p.headCrc == p.hcrc && decide (p.len ≤ 4096) && decide (44 + p.len ≤ bs.length)
    && typeAssigned p.typ && !(p.typ == tLINK_CREDIT || p.typ == tLINK_RETRY) && p.dst != s.keys.svcEp && p.ttl != 0

/-- A frame with a bad FCS (step 1 of Table 4.9): a receive error that is counted. One that is forwarded goes to its hub die before its end is
known, and is discarded or finished there by its bad tail (R317); any other is dropped. -/
def State.receiveBad (s : State) (port : Nat) (f : Frame) : Rx :=
  let waits := (s.linkClass f).any fun c => (s.port port).link.retryAct / 2 ^ c % 2 == 1
  let s := ((s.portCount port 4).retryDiscard port (s.linkClass f)).receiveErr port
  if f.len < 64 ∨ s.maxFrame port < f.len ∨ waits = true then .dropped s
  else
    match s.recognise f with
    | .other => .plain s
    | .badUdp => .dropped s
    | .qft bs =>
      let p := Packet.parse bs
      if s.forwards bs then
        .forward (p.stamp (if s.isFabric port then none else some s.birthNow) s.fwd.active) (s.creditTake port p.cls (cellsOf f.len))
      else .dropped s

/-- A frame at a port: R365, then Table 4.9 steps 1 to 8. A port that is not up receives nothing, and in the safe state every
frame is dropped uncounted (R449). Both ends count a good frame of a retry or credit class, oversize or not (R378, R379). -/
def State.receive (s : State) (port : Nat) (f : Frame) : Rx :=
  if !s.linkUp port || s.flt.safe then .ignored
  else if !f.fcsOk then s.receiveBad port f
  else
    let s := (s.portCount port 0).portCount port 1 f.len
    if f.len < 64 then .dropped (((s.portCount port 5).retryDiscard port (s.linkClass f)).receiveErr port)
    else if s.maxFrame port < f.len then
      let s := s.portCount port 6
      match s.linkClass f with
      | none => .dropped s
      | some c =>
        let a := s.retryAccept port c
        .dropped (if a.1 then (a.2.creditTake port c (cellsOf f.len)).rxDrop port c (cellsOf f.len) else a.2)
    else
      match s.recognise f with
      | .other => .plain s
      | .badUdp => .dropped (s.qftCount port 3)
      | .qft bs =>
        let p := Packet.parse bs
        let c := p.cls
        let n := cellsOf f.len
        let local_ := p.typ == tLINK_CREDIT || p.typ == tLINK_RETRY
        let a := if local_ then (true, s) else s.retryAccept port c
        if !a.1 then .dropped a.2
        else
          let s := if local_ then a.2 else a.2.creditTake port c n
          let drop (i : Nat) : Rx := .dropped (if local_ then s.qftCount port i else (s.qftCount port i).rxDrop port c n)
          if bs.length < 44 ∨ p.ver ≠ 1 then drop 1
          else if p.headCrc ≠ p.hcrc then drop 2
          else if 4096 < p.len ∨ bs.length < 44 + p.len then drop 3
          else if !typeAssigned p.typ then drop 4
          else if local_ then .linkLocal p s
          else if p.ttl = 0 ∧ p.dst ≠ s.keys.svcEp then drop 5
          else
            let s := s.mirrorAt (port / 96) (seenIngress port f (some p) c)
            let s := if s.isFabric port ∧ p.epoch ≠ s.fwd.active then s.fwdCount (port / 96) 11 else s
            let p := p.stamp (if s.isFabric port then none else some s.birthNow) s.fwd.active
            if p.dst = s.keys.svcEp then
              if s.isReady || p.typ == tPROBE || p.typ == tMGMT then .service p s
              else .dropped ((s.bump .ctlStart [] 31 0).rxDrop port c n)
            else .forward p s

/-- A frame is of the kind a service row receives: its header names the type and the service endpoint. -/
def State.isFor (s : State) (f : Frame) (typ : Nat) : Bool :=
  match s.header? f with
  | some p => p.typ == typ && p.dst == s.keys.svcEp
  | none => false

/-! ### Ordinary traffic (R294 to R298) and the forwarding path (R280, R282) -/

/-- Whether a forwarded packet cuts through (R316). -/
def State.cutsThrough (s : State) (inPort out cls hub : Nat) : Bool :=
  decide (s.bytesPerNs out ≤ s.bytesPerNs inPort) && s.portFree out && (s.port out).localTx.isEmpty
    && (s.port out).replays.isEmpty
    && !((List.range 4).any fun h => (s.hub h).queue.any fun q => q.port == out)
    && (s.port out).gate.mask / 2 ^ cls % 2 == 1 && s.shapersFree out cls
    && s.fld .hubBufCtl [hub] 63 63 == 0

/-- The received frame `f` sent over the Truss to the hub die of its ingress port die, as it leaves by each port (R23, R280), the packets of a
flood together; a hub die under reset takes none (R457). A bad FCS is a bad tail (R317). -/
def State.toHub (s : State) (port cls : Nat) (f : Frame) (outs : List (Nat × Frame)) (p : Option Packet) : State :=
  let h := hubOfDie (port / 96)
  let cells := cellsOf f.len
  let credit := if p.isSome && s.creditClass port cls then some (s.port port).link.since else none
  let item (e : Nat × Frame) : QItem :=
    { s.mkItem ⟨e.1, 1, 0, 0⟩ cls port e.2 p cells (!f.fcsOk) 0 with tail := if f.fcsOk then .none else .fcs, rcvd := some f, credit }
  if s.domBusy (1492 + h) && !outs.isEmpty then
    let s := s.bump .fltDom [1492 + h] 31 0
    if credit.isSome then s.creditBack port cls cells else s
  else
  match outs with
  | [] => s
  | [e] =>
    let u := s.hub h
    { s with nextId := s.nextId + 1, hubs := s.hubs.set h { u with
        arrive := u.arrive ++ [⟨item e, s.cutsThrough port e.1 cls h, [], s.local⟩] } }
  | e :: rest =>
    let u := s.hub h
    { s with nextId := s.nextId + 1, hubs := s.hubs.set h { u with arrive := u.arrive ++ [⟨item e, false, rest.map item, s.local⟩] } }

/-- The forwarding path of a QFT packet: lookup, policing, encapsulation and the size check (R80, R280, R282, R298, R344). -/
def State.forwardQft (s : State) (port : Nat) (f : Frame) (p : Packet) : State :=
  let die := port / 96
  let n := cellsOf f.len
  let s := if f.fcsOk then s.qftCount port 0 else s
  match s.lookupQft die p with
  | .drop s => s.rxDrop port p.cls n
  | .found m s =>
    let r := s.police port p.cls f.len none
    if !r.1 then r.2.rxDrop port p.cls n
    else
      let s := r.2
      let q := p.decTtl
      let out := s.encapsulate s.activeBank m q
      if s.maxFrame m.port < out.len then (s.fwdCount die 10).rxDrop port p.cls n
      else (s.sentToward die m.port p.cls n).toHub port p.cls f [(m.port, out)] (some q)

/-- The frame is one that a service row or a link row receives: its header names a link-local type, or the service endpoint and
a type it accepts. -/
def State.ownRow (s : State) (f : Frame) : Bool :=
  match s.header? f with
  | some p => p.typ == tLINK_CREDIT || p.typ == tLINK_RETRY || (p.dst == s.keys.svcEp && typeService p.typ)
  | none => false

/-- QFT_FORWARD: a QFT frame on a port that no service or link row receives: the forwarding path, or the drop that steps 1 to 10
give. -/
def bodyQftForward (port : Nat) (f : Frame) (s : State) : State :=
  if s.recognise f = .other ∨ s.ownRow f = true then s
  else
    match s.receive port f with
    | .dropped t => t
    | .forward p t => t.forwardQft port f p
    | .service p t =>
      (t.qftCount port (if p.icrc ≠ p.bodyCrc then 6 else 4)).rxDrop port p.cls (cellsOf f.len)
    | _ => s

def execQftForward (port : Nat) (f : Frame) (s : State) : Out := commit s (bodyQftForward port f s)

/-! ### Routed IP (R296) -/

/-- The longest prefix of a list of (prefix, length, group) that holds an address of `w` bits. -/
def longestMatch (w addr : Nat) (l : List (Nat × Nat × Nat)) : Option Nat :=
  (l.foldl (fun (best : Option (Nat × Nat)) e =>
    if addr / 2 ^ (w - e.2.1) = e.1 / 2 ^ (w - e.2.1) then
      match best with
      | some b => if b.1 < e.2.1 then some e.2 else best
      | none => some e.2
    else best) none).map Prod.snd

/-- Hash inputs of an IPv4 packet (Table 12.4). -/
def State.ip4HashIn (s : State) (b : List Byte) : List Byte :=
  let ihl := byteAt b 0 % 16 * 4
  let proto := byteAt b 9
  let frag := numAt b 6 2 % 8192 != 0 || numAt b 6 2 / 8192 % 2 == 1
  let ports := if s.fld .fwdHashCfg [] 30 30 = 1 ∨ frag ∨ !(proto == 6 || proto == 17) then List.replicate 4 0
    else ((b.drop ihl) ++ List.replicate 4 0).take 4
  (b.drop 12).take 8 ++ natBytes 1 proto ++ ports

/-- Hash inputs of an IPv6 packet (Table 12.4). -/
def State.ip6HashIn (s : State) (b : List Byte) : List Byte :=
  let nh := byteAt b 6
  let ports := if s.fld .fwdHashCfg [] 30 30 = 1 ∨ !(nh == 6 || nh == 17) then List.replicate 4 0
    else ((b.drop 40) ++ List.replicate 4 0).take 4
  (b.drop 8).take 32 ++ natBytes 1 nh ++ ports
    ++ natBytes 3 (if s.fld .fwdHashCfg [] 31 31 = 1 then numAt b 0 4 % 2 ^ 20 else 0)

/-- An IPv4 packet with its TTL decremented and its checksum updated (R296). -/
def decTtl4 (b : List Byte) : List Byte :=
  let ihl := byteAt b 0 % 16 * 4
  let z := b.take 8 ++ natBytes 1 (byteAt b 8 - 1) ++ (b.drop 9).take 1 ++ natBytes 2 0 ++ b.drop 12
  z.take 10 ++ natBytes 2 (inetSum (z.take ihl)) ++ z.drop 12

/-- An IPv6 packet with its hop limit decremented. -/
def decHop6 (b : List Byte) : List Byte := b.take 7 ++ natBytes 1 (byteAt b 7 - 1) ++ b.drop 8

/-- The frame of a routed packet out of a member's port: the record's address and tag (R282). -/
def State.routedFrame (s : State) (m : Member) (cls : Nat) (f : Frame) (body : List Byte) : Frame :=
  let r := s.activeBank.record m.nhr
  ⟨true, r.dmac, s.keys.mac.get m.port 0, if r.tagged then [cls * 2 ^ 13 + r.vid] else [], f.etype, body⟩

/-- A routed packet past its lookup: R296 checks, class, policing, size, and the way to the hub die. -/
def State.routeTo (s : State) (port : Nat) (f : Frame) (g : Nat) (hashIn : List Byte) (v4 : Bool) : State :=
  let die := port / 96
  let b := f.body
  let ihl := byteAt b 0 % 16
  let bad := v4 && (byteAt b 0 / 16 != 4 || decide (ihl < 5) || onesSum (b.take (ihl * 4)) != 0xFFFF)
  let ttl := if v4 then byteAt b 8 else byteAt b 7
  match s.pinned s.activeBank g hashIn with
  | none => s.fwdCount die 4
  | some (i, moved) =>
    let s := if moved then s.fwdCount die 13 else s
    if bad then s.fwdCount die 6
    else if ttl ≤ 1 then s.fwdCount die 5
    else
      let dscp := if v4 then byteAt b 1 / 4 else numAt b 0 2 / 64 % 64
      let cls := s.activeBank.dscpClass dscp
      let m := s.activeBank.mem g i
      let r := s.police port cls f.len none
      if !r.1 then r.2
      else
        let s := r.2
        let out := s.routedFrame m cls f (if v4 then decTtl4 b else decHop6 b)
        if s.maxFrame m.port < out.len then s.fwdCount die 10
        else ((s.fwdCount die 1).sentToward die m.port cls (cellsOf f.len)).toHub port cls f [(m.port, out)] none

/-- A frame addressed to the port's own MAC that is not QFT (R294 rule 2). -/
def State.routeIp (s : State) (port : Nat) (f : Frame) : State :=
  let die := port / 96
  let b := f.body
  if f.tags.length ≤ 1 ∧ f.etype = 0x0800 then
    let a := numAt b 16 4
    if s.keys.ip4.vals.contains a then s.fwdCount die 7
    else
      match longestMatch 32 a s.activeBank.v4 with
      | none => s.fwdCount die 3
      | some g => s.routeTo port f g (s.ip4HashIn b) true
  else if f.tags.length ≤ 1 ∧ f.etype = 0x86DD then
    let a := numAt b 24 16
    if s.keys.ip6.vals.contains a then s.fwdCount die 7
    else
      match longestMatch 128 a s.activeBank.v6 with
      | none => s.fwdCount die 3
      | some g => s.routeTo port f g (s.ip6HashIn b) false
  else s.fwdCount die 7

/-- The frame is addressed to the port's own MAC (R294). -/
def State.toSelf (s : State) (port : Nat) (f : Frame) : Bool := f.dmac == s.keys.mac.get port 0

/-- The class an ordinary frame shows the mirror (R297). -/
def State.plainClass (s : State) (port : Nat) (f : Frame) : Nat :=
  if s.toSelf port f then
    s.activeBank.dscpClass (if f.etype = 0x0800 then byteAt f.body 1 / 4 else numAt f.body 0 2 / 64 % 64)
  else s.activeBank.pcpClass (match f.tags.head? with | some t => t / 2 ^ 13 % 8 | none => 0)

/-- IP_ROUTE (R294 rule 2, R296). -/
def bodyIpRoute (port : Nat) (f : Frame) (s : State) : State :=
  if s.toSelf port f && !s.macTakes port f then
    match s.receive port f with
    | .plain t => (t.mirrorAt (port / 96) (seenIngress port f none (t.plainClass port f))).routeIp port f
    | .dropped t => if s.recognise f = .other then t else s
    | _ => s
  else s

def execIpRoute (port : Nat) (f : Frame) (s : State) : Out := commit s (bodyIpRoute port f s)

/-! ### Bridging (R295) -/

/-- A port is in a VLAN's member set (`untag` false) or untag set (R307, Table 12.11). -/
def Bank.inVlan (b : Bank) (vid port : Nat) (untag : Bool) : Bool :=
  let ws := b.vlan.get (8 * vid + (if untag then 4 else 0) + port / 256) []
  nth ws (port % 256 / 64) / 2 ^ (port % 64) % 2 == 1

/-- Hash inputs of a bridged frame (Table 12.4). -/
def bridgeHashIn (f : Frame) (vid : Nat) : List Byte := natBytes 6 f.dmac ++ natBytes 6 f.smac ++ natBytes 2 vid ++ natBytes 2 f.etype

/-- The frame as a port sends it: untagged or tagged by the VLAN's untag set, inner tags unchanged. -/
def State.bridgedFrame (s : State) (f : Frame) (vid out : Nat) : Frame :=
  let outer := match f.tags.head? with | some t => t / 4096 * 4096 | none => 0
  { f with fcsOk := true, tags := (if s.activeBank.inVlan vid out true then [] else [outer % 65536 + vid]) ++ f.tags.drop 1 }

/-- Bridged frames to a list of ports: policed once, sized per port, counted once (R295, R298, R344); `member` says that the port is a
group's member, whose estimate rises (R289). -/
def State.bridgeTo (s : State) (port : Nat) (f : Frame) (vid cls : Nat) (outs : List Nat) (member : Bool := false) : State :=
  let die := port / 96
  let r := s.police port cls f.len none
  if !r.1 then r.2
  else
    let fs := outs.map fun p => (p, r.2.bridgedFrame f vid p)
    let s := (fs.filter fun e => decide (r.2.maxFrame e.1 < e.2.len)).foldl (fun (s : State) _ => s.fwdCount die 10) r.2
    let ok := fs.filter fun e => decide (e.2.len ≤ s.maxFrame e.1)
    if ok.isEmpty then s
    else
      let s := s.fwdCount die 2
      let s := if member then ok.foldl (fun (s : State) e => s.sentToward die e.1 cls (cellsOf f.len)) s else s
      s.toHub port cls f ok none

/-- A frame not addressed to the port (R295). -/
def State.bridge (s : State) (port : Nat) (f : Frame) : State :=
  let die := port / 96
  let b := s.activeBank
  let tv := match f.tags.head? with | some t => t % 4096 | none => 0
  let vid := if tv = 0 then s.keys.pvid.get port 1 else tv
  let cls := s.plainClass port f
  if !b.inVlan vid port false then s.fwdCount die 8
  else if f.dmac / 2 ^ 40 % 2 = 1 then
    s.bridgeTo port f vid cls ((List.range 768).filter fun p => b.inVlan vid p false && p != port)
  else
    match b.bridge.find? fun e => e.1 == vid && e.2.1 == f.dmac with
    | none => s.fwdCount die 9
    | some e =>
      if e.2.2 / 2 ^ 63 = 0 then s.bridgeTo port f vid cls [e.2.2 % 4096]
      else
        match s.pinned b (e.2.2 % 4096) (bridgeHashIn f vid) with
        | none => s.fwdCount die 4
        | some (i, moved) =>
          (if moved then s.fwdCount die 13 else s).bridgeTo port f vid cls [(b.mem (e.2.2 % 4096) i).port] true

/-- ETHERNET_BRIDGE (R294 rule 3, R295). -/
def bodyEthernetBridge (port : Nat) (f : Frame) (s : State) : State :=
  if s.toSelf port f || s.macTakes port f then s
  else
    match s.receive port f with
    | .plain t => (t.mirrorAt (port / 96) (seenIngress port f none (t.plainClass port f))).bridge port f
    | .dropped t => if s.recognise f = .other then t else s
    | _ => s

def execEthernetBridge (port : Nat) (f : Frame) (s : State) : Out := commit s (bodyEthernetBridge port f s)

end Sys2Proof.Machine
end

