-- ==== Sys2Proof/Machine/Service.lean ====
section
/-!
DEFINITION. Service and control packets at the ingress port die: steps 9 to 17 of Table 4.9, policing, ordered pool streams
(R107, R206), and the parameter spans of optimizer contexts (R165, R168).
-/

namespace Sys2Proof.Machine

/-! ### Parameter spans -/

/-- The span a KIND 2 descriptor binds (Table 7.1). -/
def spanOf (d : List Byte) : Span :=
  let n := dCount d
  let mb := if dfield d 12 59 56 = 0 then 4 else 2
  let mOff := 4096 + align4k (4 * n)
  let vOff := mOff + align4k (mb * n)
  let vSize := if dfield d 12 63 60 = 0 then mb * n else 0
  let sOff := vOff + align4k vSize
  ⟨dfield d 13 63 48, dfield d 14 63 0, mb, mOff, vOff, vSize, sOff, align4k (sOff + 8 * allChunks 2 d)⟩

/-- The STEP of a bound context is open: accepted and the generation not ended, or DRAINING (R168). -/
def Ctx.stepOpen (c : Ctx) : Bool := c.bound && c.opt.step.isSome && (c.runs || c.state == .draining)

/-- [off, off + n) of region `r` touches a span whose STEP is open (R168). -/
def State.touchesOpenSpan (s : State) (r off n : Nat) : Bool :=
  n != 0 && s.svc.ctxs.any fun e =>
    e.2.stepOpen &&
      let sp := spanOf e.2.fix.desc
      sp.region == r && decide (off < sp.poff + sp.size) && decide (sp.poff < off + n)

/-! ### Ordered streams -/

/-- The open stream of a pair in a port die (R206). -/
def State.stream? (s : State) (die src region : Nat) : Option Stream :=
  s.mp.streams.find? fun t => t.die == die && t.src == src && t.region == region

/-- The stream changed; its last access is now. -/
def State.setStream (s : State) (t : Stream) : State :=
  { s with mp := { s.mp with streams := s.mp.streams.map fun u =>
      if u.die == t.die && u.src == t.src && u.region == t.region then { t with at_ := s.local } else u } }

/-- What R107 says of an access's SEQ on an open stream. -/
inductive SeqVerdict where
  | noStream | expected | ahead | behind
  deriving DecidableEq, Repr

/-- The verdict on a SEQ against the expected one, modulo 2^32 with a window of 2^31 (R87, R107). -/
def seqVerdict (expected seq : Nat) : SeqVerdict :=
  let d := (seq + 2 ^ 32 - expected % 2 ^ 32) % 2 ^ 32
  if d = 0 then .expected else if d < 2 ^ 31 then .ahead else .behind

/-- The verdict for a pool packet that entered on a port. -/
def State.verdict (s : State) (port : Nat) (p : Packet) : SeqVerdict :=
  match s.stream? (port / 96) p.src p.ctx with
  | some t => seqVerdict t.expected p.seq
  | none => .noStream

/-- An access that consumes its SEQ (R107 rule 2, R206). -/
def State.consume (s : State) (port : Nat) (p : Packet) : State :=
  match s.stream? (port / 96) p.src p.ctx with
  | some t => s.setStream { t with expected := (p.seq + 1) % 2 ^ 32, refused := t.refused.filter fun q => q != p.seq }
  | none => s

/-- An access that a check refuses after it consumed its SEQ: it is never performed, so its duplicates get no ACK (R206, R208). -/
def State.spend (s : State) (port : Nat) (p : Packet) : State :=
  match s.stream? (port / 96) p.src p.ctx with
  | some t => s.setStream { t with refused := t.refused ++ [p.seq] }
  | none => s

/-! ### Steps 9 to 17 -/

/-- Where a service or control packet stands after step 17 and policing. -/
inductive Rx2 where
  | done (s : State)
  | pass (p : Packet) (s : State)
  deriving DecidableEq, Repr

/-- The types a member or the convener sends (Table 4.3), which step 17 checks; GATHER_REQ is exempt (R222). -/
def memberType (t : Nat) : Bool := [tCONTRIB, tABORT, tRESEND, tREARM, tTEARDOWN, tSTEP].contains t

/-- The context types with a steering entry (Table 4.9 steps 13 to 15). -/
def ctxType (t : Nat) : Bool := memberType t || [tACK, tNACK, tGATHER_REQ].contains t

/-- PERM of a region allows a pool packet (R201). -/
def permOk (perm : Nat) (p : Packet) : Bool :=
  let r := perm / 4 % 2 == 1
  let w := perm / 2 % 2 == 1
  let a := perm % 2 == 1
  if p.typ = tPOOL_RD ∧ (p.word 0).field 63 51 ≠ 0 then r
  else if p.typ = tPOOL_WR ∧ p.len ≠ 0 then w
  else if p.typ = tPOOL_ATOM then a
  else r || w || a

/-- Step 12 (Table 4.9). -/
def fmtOk (p : Packet) : Bool :=
  if p.typ = tCONTRIB then (match Fmt.ofCode p.fmt with | some f => f.reductionInput | none => false)
  else if typePool p.typ then p.fmt == 0
  else if p.typ = tGATHER_REQ then (Fmt.ofCode p.fmt).isSome || p.fmt == 0
  else true

/-- The class policers and context policers, then the count of a packet that passed steps 1 to 17 (R116, R344). -/
def State.policed (s : State) (port len : Nat) (p : Packet) (ctx : Option Nat) : Rx2 :=
  let r := s.police port p.cls len ctx
  let s := (r.2.qftCount port 0).rxDrop port p.cls (cellsOf len)
  if r.1 then .pass p s else .done s

/-- The SEQ a NACK of a pool packet carries: the one expected on the pair's open stream, 0 elsewhere (R101). -/
def State.expectOf (s : State) (port : Nat) (p : Packet) : Nat :=
  match s.stream? (port / 96) p.src p.ctx with
  | some t => t.expected
  | none => 0

/-- A NACK of a pool packet. -/
def State.nackPool (s : State) (port : Nat) (p : Packet) (status : Nat) : State := s.nackAt port p status (s.expectOf port p)

/-- A duplicate on an ordered stream is dropped and counted; a POOL_WR with ACKREQ is answered once the original has been
performed, and not at all where the original was refused (R107 rule 4, R208). -/
def State.duplicate (s : State) (port : Nat) (p : Packet) : State :=
  let s := s.bump .rgnErr [p.ctx] 15 0
  let never := match s.stream? (port / 96) p.src p.ctx with | some t => t.refused.contains p.seq | none => false
  let s := match s.stream? (port / 96) p.src p.ctx with | some t => s.setStream t | none => s
  if never then s
  else if p.typ = tPOOL_WR ∧ p.ackReq = true then
    let mine (q : PReq) : Bool := q.stream && q.port / 96 == port / 96 && q.region == p.ctx && q.pkt.src == p.src && q.pkt.seq == p.seq
    if s.mp.reqs.any mine then
      { s with mp := { s.mp with reqs := s.mp.reqs.map fun q => if mine q then { q with dups := q.dups ++ [(port, p)] } else q } }
    else s.originate (port / 96) (ackOf p s.keys.svcEp stOK)
  else s

/-- Steps 12 to 17 for a pool packet, with the stream rules of R107 before steps 12, 14 and 16 on an open pair (R206). DESIGN CHOICE (log
entry 19): a packet that those rules answer or drop has not passed steps 1 to 17, so it is neither counted in PRT_QFT_RX (R116) nor
policed. -/
def State.poolSteps (s : State) (port len : Nat) (p : Packet) : Rx2 :=
  let done (t : State) : Rx2 := .done (t.rxDrop port p.cls (cellsOf len))
  match s.liveRegion p.ctx with
  | none =>
    if !fmtOk p then done (s.nackPool port p stUNSUPPORTED_FMT)
    else done ((s.qftCount port 8).nackPool port p stRANGE)
  | some x =>
    let v := s.verdict port p
    let c (t : State) : State := if v = .expected then (t.consume port p).spend port p else t
    if v = .ahead then
      match s.stream? (port / 96) p.src p.ctx with
      | some t => done ((s.setStream t).nackAt port p stRETRY t.expected)
      | none => done s
    else if v = .behind then done (s.duplicate port p)
    else if !fmtOk p then done ((c s).nackPool port p stUNSUPPORTED_FMT)
    else if s.portJob port ≠ x.job then done (((c s).qftCount port 9).nackPool port p stNOT_MY_JOB)
    else if p.key ≠ x.key ∨ !permOk x.perm p then done (((c s).qftCount port 11).nackPool port p stKEY_FAIL)
    else s.policed port len p (some p.ctx)

/-- Steps 13 to 17 for a context packet. -/
def State.ctxSteps (s : State) (port len : Nat) (p : Packet) : Rx2 :=
  let done (t : State) : Rx2 := .done (t.rxDrop port p.cls (cellsOf len))
  match s.ctx? p.ctx with
  | none => done (s.qftCount port 8)
  | some c =>
    if c.steer = .absent then done (s.qftCount port 8)
    else if s.portJob port ≠ c.fix.job then done ((s.qftCount port 9).nackAt port p stNOT_MY_JOB)
    else if p.gen ≠ c.gen then
      done (if p.typ = tREARM ∨ p.typ = tTEARDOWN then (s.qftCount port 10).nackAt port p stSTALE_GEN else s.qftCount port 10)
    else if memberType p.typ && !(decide (p.rank < c.fix.mcount) && nth c.fix.members p.rank == p.src) then
      done (s.nackAt port p stNOTMEMBER)
    else s.policed port len p (if p.typ = tREARM ∨ p.typ = tTEARDOWN then none else some p.ctx)

/-- A service or control packet from its frame to policing (R114, R344). A frame that is not of the type changes nothing. -/
def State.serviceRx (s : State) (port : Nat) (f : Frame) (typ : Nat) : Rx2 :=
  if !s.isFor f typ then .done s
  else
    match s.receive port f with
    | .dropped t => .done t
    | .service p t =>
      let len := f.len
      let drop (t : State) : Rx2 := .done (t.rxDrop port p.cls (cellsOf len))
      if p.icrc ≠ p.bodyCrc then drop (t.qftCount port 6)
      else if !classOk p.typ p.cls then drop (t.qftCount port 7)
      else if !lenOk p then drop (t.qftCount port 3)
      else if typePool p.typ then t.poolSteps port len p
      else if !fmtOk p then drop (t.nackAt port p stUNSUPPORTED_FMT)
      else if ctxType p.typ then t.ctxSteps port len p
      else t.policed port len p none
    | _ => .done s

/-! ### Counters of a context -/

/-- Add 1 to a field of a context's register, by its KIND's layout. -/
def State.ctxCount (s : State) (r : Reg) (ctx hi lo : Nat) (n : Nat := 1) : State := s.bump r [ctx] hi lo n

/-- The data-phase, gather and optimizer counters of a context set to 0 (R164, R188, R231). -/
def State.ctxZero (s : State) (ctx : Nat) : State :=
  [Reg.ctxRx, .ctxDup, .ctxDrop, .ctxLate, .optStep, .optCnt, .optStepRx].foldl (fun (s : State) r => s.setReg r [ctx] 0) s

/-- A HELD entry's drop of a CONTRIB, STEP or ABORT (R276). -/
def State.heldDrop (s : State) : State := s.bump .subDrop [] 63 0

/-- An ACK or a NACK addressed to the service endpoint is taken in without effect (R102). -/
def bodyAckNack (port : Nat) (f : Frame) (s : State) : State :=
  match s.header? f with
  | some p =>
    if p.typ = tACK ∨ p.typ = tNACK then
      match s.serviceRx port f p.typ with
      | .done t => t
      | .pass _ t => t
    else s
  | none => s

/-- ACK_NACK_RECEIVE (R102). -/
def execAckNackReceive (port : Nat) (f : Frame) (s : State) : Out := commit s (bodyAckNack port f s)

end Sys2Proof.Machine
end

