-- ==== Sys2Proof/Machine/Admit.lean ====
section
/-!
DEFINITION. Admission of contexts (chapter 5): assembly of SETUP parts (R89, R90), the checks of Table 5.4, placement (R127,
R128, R130), power tokens and the deferral queue (R132, R353, R417 to R420), and the one-step reservation (R30).
-/

namespace Sys2Proof.Machine

/-! ### Answers of Temond -/

/-- The hub die whose control complex runs Temond, as a die number (Table 1.3). -/
def State.complexDie (s : State) : Nat := if s.fld .ctlComplex [] 0 0 = 1 then 11 else 8

/-- A SETUP_ACK to the sender of `p` (R91). -/
def setupAckOf (p : Packet) (self status ctx gen setupId window retry : Nat) : Packet :=
  (({ answerHdr p tSETUP_ACK self with cls := 0, ctx := ctx, gen := gen } : Hdr)).packet
    (natBytes 8 (status * 2 ^ 56 + setupId % 65536 * 2 ^ 40 + gen % 256 * 2 ^ 32)
      ++ natBytes 8 (window % 2 ^ 32 * 2 ^ 32 + retry % 2 ^ 32))

/-- A SETUP_ACK that answers a SETUP, counted by status (R140). -/
def State.ackSetup (s : State) (p : Packet) (setupId status ctx gen window retry : Nat) : State :=
  (s.count64 .setupResult [status]).originate s.complexDie (setupAckOf p s.keys.svcEp status ctx gen setupId window retry)

/-- A refusal: CTX = 0 and GEN = 0 (chapter 5), the region number for a KIND 4 SETUP (R91). -/
def State.refuseSetup (s : State) (m : SetupMsg) (status : Nat) (retry : Nat := 0) : State :=
  s.ackSetup m.pkt m.setupId status (if m.kind = 4 then dfield m.desc 0 55 40 else 0) 0 0 retry

/-! ### Reset domains -/

/-- The image slot of a KIND's service image, and its service domain (Tables 11.6 and 19.2). -/
def kindSlot (kind : Nat) : Nat := if kind = 4 then 2 else if kind = 3 then 3 else kind - 1
def kindDomain (kind : Nat) : Nat := 1488 + kindSlot kind

/-- The service of a slot is paused for the swap of its image (R493). -/
def State.swapping (s : State) (slot : Nat) : Bool :=
  match s.nvm.live with
  | some l => l.checked && l.slots.contains slot
  | none => false

/-- Temond holds what needs a domain under reset or a service paused for a swap, and everything while a live activation hands over
(R462, R493). -/
def State.holdsFor (s : State) (kind : Nat) (hubs : List Nat) : Bool :=
  s.svc.holding || s.domBusy (kindDomain kind) || s.domBusy (1408 + kindSlot kind) || s.swapping (kindSlot kind)
    || (kind == 2 && (s.domBusy 1488 || s.domBusy 1408)) || hubs.any fun h => s.domBusy (1492 + h)

def State.hold (s : State) (m : HeldMsg) : State := { s with svc := { s.svc with held := s.svc.held ++ [m] } }

/-! ### The checks on a descriptor -/

/-- Step 1 of Table 5.4 beyond the agreement of the parts: the entries (R89, R90). -/
def partsOk (m : SetupMsg) : Bool :=
  let mlist := dfield m.desc 1 22 11
  let mstore := dfield m.desc 1 10 10
  !(m.entries.any fun e => e == 0 || e == 0xFFFFF)
    && (if mlist ≠ 0 ∧ mstore = 0 then m.entries.isEmpty && m.parts == 1 else m.entries.length == dMcount m.desc)

/-- WMODE and ANCHOR allowed (R56, R61). -/
def windowOk (d : List Byte) : Bool := wmodeOf d != 3 && (wmodeOf d != 2 || (decide (-256 ≤ anchorOf d) && decide (anchorOf d ≤ 255)))

/-- Step 3 of Table 5.4 for KIND 1 (Table 5.1, R122). -/
def collectiveOk (d : List Byte) : Bool :=
  let op := dfield d 0 63 56
  let n := dMcount d
  decide (1 ≤ op) && decide (op ≤ 6) && (decide (4 ≤ op) || decide (dfield d 0 55 52 ≤ 3)) && decide (1 ≤ n) && decide (n ≤ 16384)
    && (!(op == 3 || op == 5) || decide (dfield d 0 39 26 < n))
    && (if op = 6 then dCount d == 0 else decide (1 ≤ dCount d) && decide ((if op = 4 then n else 1) * dCount d ≤ 2 ^ 40))
    && !(dfield d 1 10 10 == 1 && dfield d 1 22 11 == 0) && decide (dfield d 2 63 38 ≤ 60000000)
    && (op == 6 || (decide (dfield d 2 37 35 ≤ 4) && decide (dfield d 2 15 14 ≤ 1) && (!isSum 1 d || windowOk d)))

/-- Step 3 for KIND 2 (R169, R170). -/
def optimizerOk (d : List Byte) : Bool :=
  collectiveOk d && (dfield d 0 63 56 == 1 || dfield d 0 63 56 == 2) && decide (dfield d 0 55 52 ≤ 1)
    && decide (dfield d 12 63 60 ≤ 2) && decide (dfield d 12 59 56 ≤ 1) && dfield d 13 63 48 != 0 && dfield d 14 11 0 == 0

/-- ROWBYTES and the effective STRIDE (R219). -/
def rowBytes (d : List Byte) : Nat := dfield d 12 31 19
def strideOf (d : List Byte) : Nat := if dfield d 13 63 32 = 0 then rowBytes d else dfield d 13 63 32

/-- Step 3 for KIND 3 (R218, R219). -/
def gatherOk (m : SetupMsg) : Bool :=
  let d := m.desc
  dMcount d == 1 && dfield d 1 22 11 == 0 && dfield d 1 10 10 == 0 && m.entries == [m.pkt.src] && decide (dfield d 2 37 35 ≤ 4)
    && windowOk d && dfield d 12 63 48 != 0 && decide (1 ≤ rowBytes d) && decide (rowBytes d ≤ 4096)
    && (match Fmt.ofCode (dfield d 0 51 46) with | some f => rowBytes d % f.unitBytes == 0 | none => true)
    && decide (rowBytes d ≤ strideOf d)

def fieldsOk (m : SetupMsg) : Bool :=
  if m.kind = 1 then collectiveOk m.desc else if m.kind = 2 then optimizerOk m.desc else gatherOk m

/-- Output formats of an optimizer context (R170). -/
def Fmt.weightOutput : Fmt → Bool
  | .fp64 => true | .fp32 => true | .fp16 => true | .e8m7 => true | .e4m3 => true | .e5m2 => true
  | f => f.block.isSome

/-- Step 4 of Table 5.4 (R170, R218). -/
def formatsOk (kind : Nat) (d : List Byte) : Bool :=
  if opOf kind d = 6 then true
  else
    match Fmt.ofCode (fmtInOf kind d) with
    | none => false
    | some f =>
      if kind = 3 then f == .opaque8 || f.reductionInput
      else
        f.reductionInput && (match Fmt.ofCode (fmtOutOf kind d) with
          | some g => g.output && (kind == 1 || g.weightOutput)
          | none => false)

/-! ### Step 5: lists, jobs and regions -/

/-- The stored list is referenced by a context that is not FREE (R123). -/
def State.listInUse (s : State) (l : Nat) : Bool := s.svc.ctxs.any fun e => e.2.fix.mlist == l && l != 0

/-- The member list of a SETUP, or the status of the check that fails (R123, R124). -/
def State.membersOf (s : State) (m : SetupMsg) (job : Nat) : Except Nat (List Nat) :=
  let mlist := dfield m.desc 1 22 11
  let list : Except Nat (List Nat) :=
    if m.kind = 3 ∨ mlist = 0 then .ok m.entries
    else
      match s.svc.mlists.find? mlist with
      | none => if dfield m.desc 1 10 10 = 1 then .ok m.entries else .error stBADDESC
      | some l =>
        if l.job ≠ job then .error stNOT_MY_JOB
        else if dfield m.desc 1 10 10 = 1 then (if s.listInUse mlist then .error stBADDESC else .ok m.entries)
        else if l.entries.length ≠ dMcount m.desc then .error stBADDESC
        else .ok l.entries
  match list with
  | .ok es => if es.contains m.pkt.src then .ok es else .error stNOTMEMBER
  | .error e => .error e

/-- LAYOUT of R166 for a KIND 2 descriptor. -/
def layoutOf (d : List Byte) : Nat :=
  dCount d * 2 ^ 23 + chunkOf 2 d * 2 ^ 10 + dfield d 12 63 60 * 2 ^ 6 + dfield d 12 59 56 * 2 ^ 2

/-- Word `i` of a span's header as it stands. -/
def State.headerWord (s : State) (r : Nat) (x : Region) (sp : Span) (i : Nat) : Nat := beNat (s.readRgn r x (sp.poff + 8 * i) 8)

/-- The region checks of R172 and R220: 0 where all pass, else the status. -/
def State.regionCheck (s : State) (kind job : Nat) (d : List Byte) : Nat :=
  if kind = 1 then stOK
  else
    let r := if kind = 2 then dfield d 13 63 48 else dfield d 12 63 48
    let key := if kind = 2 then dfield d 13 47 32 else dfield d 12 47 32
    match s.liveRegion r with
    | none => stBADDESC
    | some x =>
      if x.job ≠ job then stNOT_MY_JOB
      else if x.key ≠ key then stKEY_FAIL
      else if kind = 3 then stOK
      else
        let sp := spanOf d
        if x.size < sp.poff + sp.size then stRANGE
        else if s.svc.ctxs.any (fun e => e.2.bound && dfield e.2.fix.desc 13 63 48 == r) then stBADDESC
        else if s.rgnPoisoned r x sp.poff 48 then stPOISON
        else
          let lay := s.headerWord r x sp 5
          let done := s.headerWord r x sp 0
          let opn := s.headerWord r x sp 1
          if lay ≠ 0 ∧ lay ≠ layoutOf d then stRANGE
          else if !(opn == 0 || opn == done || opn == done + 1) || decide (2 ^ 48 ≤ done) then stRANGE
          else stOK

/-! ### Step 6: capacity -/

/-- The tiles of the collective service partition that are not retired, by ascending y and then x (R128). -/
def State.areaTiles (s : State) : List Nat :=
  let r := s.cfg.rect
  ((List.range r.2.2.2).flatMap fun j => (List.range r.2.2.1).map fun i => 220 * (r.2.1 + j) + r.1 + i).filter
    fun t => !s.fab.retired.contains t

/-- Slots a context holds on entry `i` of its placement (R127). -/
def CtxFix.slotsOn (x : CtxFix) (i : Nat) : Nat :=
  let t := max x.tiles.length 1
  x.slotsOpen / t + (if i < x.slotsOpen % t then 1 else 0)

/-- The context holds its slots: SETTING_UP to DRAINING (R136). -/
def Ctx.holdsSlots (c : Ctx) : Bool := c.state != .quarantine

/-- KiB reserved on each tile, as (tile, KiB). -/
def State.areaUsed (s : State) : List (Nat × Nat) :=
  (s.svc.ctxs.vals.filter Ctx.holdsSlots).flatMap fun c =>
    (List.range c.fix.tiles.length).map fun i => (nth c.fix.tiles i, c.fix.slotsOn i * c.fix.slotKib)

/-- KiB of a collective tile's SRAM beside what the collective and the optimizer image declare (R268). -/
def State.areaRoom (s : State) : Nat :=
  256 - (s.fab.slots.get 0 {}).image.sramKib - (s.fab.slots.get 1 {}).image.sramKib

/-- The share of each tile of the area, as (tile, KiB): the first ones have 1 KiB more, and a tile holds no more than its room, which
lowers the area where retired tiles leave too few (R128, R278). -/
def State.areaShares (s : State) : List (Nat × Nat) :=
  let ts := s.areaTiles
  let n := max ts.length 1
  let room := s.areaRoom
  ts.zipIdx.map fun e => (e.1, min room (s.cfg.accKib / n + (if e.2 < s.cfg.accKib % n then 1 else 0)))

/-- The accumulator area in KiB: the configured one, less what retired tiles cost it (R128, R278). -/
def State.areaKib (s : State) : Nat := if s.fab.retired.isEmpty then s.cfg.accKib else (s.areaShares.map Prod.snd).sum

/-- Unreserved KiB of each tile of the area (R128). -/
def State.areaFree (s : State) : List (Nat × Nat) :=
  let used := s.areaUsed
  s.areaShares.map fun e => (e.1, e.2 - ((used.filter fun u => u.1 == e.1).map Prod.snd).sum)

/-- The candidates of R127 step 1 with their whole slots, most first; the order of `areaFree` breaks ties. -/
def candidates (free : List (Nat × Nat)) (kib : Nat) : List (Nat × Nat) :=
  let cs := (free.map fun e => (e.1, e.2 / max kib 1)).filter fun e => e.2 != 0
  let top := cs.foldl (fun m e => max m e.2) 0
  (List.range top).flatMap fun i => cs.filter fun e => e.2 == top - i

/-- For T = 1, 2, ...: the most slots for which the first T candidates fit (R127 step 2). With c the whole slots of the last of
them, that is c for each, and one more on each earlier one that holds more than c. -/
def maxWindows (cands : List (Nat × Nat)) : List Nat :=
  (cands.foldl (fun (a : List Nat × Nat × Nat × Nat) e =>
    let t := a.2.1 + 1
    let above := if a.2.1 ≠ 0 ∧ e.2 = a.2.2.1 then a.2.2.2 else a.2.1
    ((e.2 * t + above) :: a.1, t, e.2, above)) ([], 0, 0, 0)).1.reverse

/-- A placement: W (0 where every chunk is open) and the tile list. -/
structure Placed where
  w     : Nat
  tiles : List Nat
  deriving DecidableEq, Repr

/-- PLACEMENT_CHOICE: the window of R130 and the tiles of R127; none where the window is too small. -/
def State.place (s : State) (kind : Nat) (d : List Byte) : Option Placed :=
  let barrier := opOf kind d == 6
  let need := allChunks kind d
  let kib := slotKibOf kind d (chunkOf kind d)
  let wmax := if barrier then 0 else dfield d 3 63 32
  let wmin := if barrier then 0 else dfield d 3 31 0
  let cands := candidates s.areaFree kib
  let mws := maxWindows cands
  let share := s.areaKib * s.cfg.winPct / 100 / max kib 1
  let fits := mws.foldl max 0
  let may := min (min (cands.map Prod.snd).sum share) (if wmax = 0 then fits else min wmax fits)
  let slots := min need may
  if may < need ∧ may < max 4 wmin then none
  else
    let ok := ((List.range mws.length).map (· + 1)).filter fun t => decide (t ≤ slots) && decide (slots ≤ nth mws (t - 1))
    let t := if !barrier && dfield d 2 15 14 == 1 then ok.head? else ok.getLast?
    match t with
    | none => none
    | some t => some ⟨if need ≤ may then 0 else may, (cands.take t).map Prod.fst⟩

/-- Contexts in flight (R118). -/
def State.inFlight (s : State) : Nat := (s.svc.ctxs.filter fun e => e.2.inFlight).length

/-- The FREE number that has been FREE longest (R118). -/
def State.nextCtx (s : State) : Option Nat := if s.svc.nextNew ≤ 65535 then some s.svc.nextNew else s.svc.freed.head?

/-- Member-list entries used in a hub die: one copy of each stored list, and each carried list (R124). DESIGN CHOICE (log entry 121): a stored
list that no context uses takes no entries. -/
def State.listUsed (s : State) (h : Nat) : Nat :=
  let cs := (s.svc.ctxs.vals.filter fun c => c.holdsSlots && c.fix.tiles.any fun t => exitHub t == h).map Ctx.fix
  let stored := (cs.map CtxFix.mlist).eraseDups.filter fun l => l != 0
  ((cs.filter fun x => x.mlist == 0).map CtxFix.mcount).sum
    + (stored.map fun l => match cs.find? fun x => x.mlist == l with | some x => x.mcount | none => 0).sum

/-- The hub dies have room for the list (R124). -/
def State.listFits (s : State) (mlist n : Nat) (hubs : List Nat) : Bool :=
  hubs.all fun h =>
    (mlist != 0 && s.svc.ctxs.vals.any fun c => c.holdsSlots && c.fix.mlist == mlist && c.fix.tiles.any fun t => exitHub t == h)
      || decide (s.listUsed h + n ≤ 2097152)

/-- The exit hub die of each chunk of a placement, in chunk order (R128). -/
def chunkHubs (chunks slots : Nat) (tiles : List Nat) : List Nat :=
  (List.range chunks).map fun c => exitHub (nth tiles (c % max slots 1 % max tiles.length 1))

/-- Step 6: the placement, or none for NOSPACE (R118, R124, R130, R131, R220). -/
def State.capacity (s : State) (m : SetupMsg) (members : List Nat) : Option Placed :=
  if 8192 ≤ s.inFlight ∨ s.nextCtx = none then none
  else if m.kind = 3 then some ⟨0, []⟩
  else
    match s.place m.kind m.desc with
    | none => none
    | some pl =>
      let n := allChunks m.kind m.desc
      let hubs := chunkHubs n (if pl.w = 0 then n else pl.w) pl.tiles
      let retainOk := noRetain m.kind m.desc
        || (List.range 4).all fun h => decide ((hubs.filter (· == h)).length ≤ (s.pool (4 + h)).freeCount)
      if retainOk && s.listFits (dfield m.desc 1 22 11) members.length (pl.tiles.map exitHub).eraseDups then some pl else none

/-! ### Step 7: tokens -/

/-- Tokens held (R31, R419). -/
def State.tokensHeld (s : State) : Nat :=
  (s.svc.ctxs.map fun e => e.2.fix.tokens).sum + (s.fab.slots.map fun e => e.2.tokens).sum

/-- Tokens available (R419). -/
def State.tokensFree (s : State) : Nat := s.fld .pwrTokens [] 63 48 - s.tokensHeld

/-- A cost is not admitted: it exceeds the tokens available, or HELD is not below SUPPLY (R419). -/
def State.tokensShort (s : State) (cost : Nat) : Bool := s.tokensFree == 0 || decide (s.tokensFree < cost)

/-- The power class of a setup (R418, Table 17.4). -/
def classFor (kind : Nat) (d : List Byte) : Nat :=
  if dfield d 2 19 16 ≠ 0 then dfield d 2 19 16
  else if kind = 2 then 11
  else if kind = 3 then 3
  else if opOf kind d = 6 then 1
  else if 4 ≤ opOf kind d ∨ 2 ≤ funcOf kind d then 3
  else if wmodeOf d = 0 then 7 else 5

/-- PWR_CLASS_k as the last evaluation of SUPPLY found it, its reset value before the first (R421, R430). -/
def State.classWord (s : State) (k : Nat) : Nat := s.pow.costs.get k (regReset .pwrClass [k])

/-- The cost of power class `k` over `t` tiles (R417). -/
def State.costOf (s : State) (k t : Nat) : Nat :=
  let w := s.classWord k
  let base := w / 2 ^ 32 % 2 ^ 16
  if t = 0 then base else ceilDiv (t * (w / 2 ^ 48)) 1000 + base

/-- The local time at which a context in QUARANTINE leaves it. -/
def State.quarEnds (s : State) (c : Ctx) : Nat := c.since + 2 * s.largestAgeSince c.since * 1000

/-- RETRY_US: the time until enough tokens are due back from contexts in QUARANTINE; 0 where they suffice already and where none are due
(R420). -/
def State.retryUs (s : State) (cost : Nat) : Nat :=
  let q := (s.svc.ctxs.vals.filter fun c => c.state == .quarantine).map fun c => (s.quarEnds c, c.fix.tokens)
  let need := s.tokensHeld + max cost 1
  let good := (q.map Prod.fst).filter fun t =>
    decide (need ≤ s.fld .pwrTokens [] 63 48 + ((q.filter fun e => decide (e.1 ≤ t)).map Prod.snd).sum)
  match good with
  | [] => 0
  | t :: ts => if s.tokensShort cost then min (ceilDiv (ts.foldl min t - s.local) 1000) (2 ^ 32 - 1) else 0

/-- The service image of a KIND is resident and runs, so its setups can be served (R420). -/
def State.serviceUp (s : State) (kind : Nat) : Bool :=
  let up (n : Nat) : Bool := (s.fab.slots.get n {}).state == .running
  up (kindSlot kind) && (kind != 2 || up 0)

/-! ### Step 8: the reservation (R30) -/

/-- One retention block for each chunk, in chunk order, taken from the hub die the chunk exits through (R128, R131). -/
def State.takeBlocks (s : State) (ctx : Nat) (hubs : List Nat) : List (Nat × Nat) × State :=
  hubs.foldl (fun (a : List (Nat × Nat) × State) h =>
    match (a.2.pool (4 + h)).alloc (4 + h) ctx with
    | some (b, q) => (a.1 ++ [(4 + h, b)], a.2.setPool (4 + h) q)
    | none => a) ([], s)

/-- The interval of R120 since generation `gen` of number `n` was left has not passed. -/
def State.genHeld (s : State) (n gen : Nat) : Bool :=
  match s.svc.leftAt.find? (n * 256 + gen) with
  | none => false
  | some (g, l) => decide (s.now < g + 2 * s.largestAgeSince l * 1000)

/-- The context leaves its generation (R120). -/
def State.leaveGen (s : State) (n gen : Nat) : State :=
  { s with svc := { s.svc with leftAt := s.svc.leftAt.set (n * 256 + gen) (s.now, s.local) } }

/-- Everything a setup needs is reserved, and the context is SETTING_UP (R30, R118, R119, R120). -/
def State.reserve (s : State) (m : SetupMsg) (job : Nat) (members : List Nat) (pl : Placed) (cost : Nat) : State :=
  match s.nextCtx with
  | none => s
  | some n =>
    let d := m.desc
    let chunks := if m.kind = 3 then 0 else allChunks m.kind d
    let gen := (s.svc.lastGen.get n 255 + 1) % 256
    let hubs := if m.kind = 3 ∨ noRetain m.kind d = true then [] else chunkHubs chunks (if pl.w = 0 then chunks else pl.w) pl.tiles
    let b := s.takeBlocks n hubs
    let s := b.2
    let mlist := if m.kind = 3 then 0 else dfield d 1 22 11
    let fix : CtxFix :=
      { kind := m.kind, job := job, desc := d, convener := m.pkt.src, setupId := m.setupId,
        setupPkt := { m.pkt with payload := [] }, gen0 := gen, port := m.port, members := members, mlist := mlist,
        c := if m.kind = 3 then 0 else chunkOf m.kind d, n := chunks, k := if m.kind = 3 then 0 else runChunks m.kind d,
        w := pl.w, slotKib := if m.kind = 3 then 0 else slotKibOf m.kind d (chunkOf m.kind d), tiles := pl.tiles,
        tokens := cost, blocks := b.1 }
    let held := if s.genHeld n gen then s.svc.leftAt.find? (n * 256 + gen) else none
    let c : Ctx := { fix := fix, gen := gen, since := s.local, holdFrom := held, bound := m.kind == 2,
                     run := { startAt := dfield d 4 63 0 } }
    let v := s.svc
    let s := { s with svc := { v with
      ctxs := v.ctxs.set n c
      nextNew := if v.nextNew ≤ 65535 then v.nextNew + 1 else v.nextNew
      freed := if v.nextNew ≤ 65535 then v.freed else v.freed.drop 1
      lastGen := v.lastGen.set n gen
      mlists := if mlist ≠ 0 ∧ dfield d 1 10 10 = 1 then v.mlists.set mlist ⟨job, members⟩ else v.mlists } }
    let s := s.ctxZero n
    if m.kind = 2 then
      let r := dfield d 13 63 48
      match s.region? r with
      | none => s
      | some x =>
        let sp := spanOf d
        let hdr := (s.headerWord r x sp 0, s.headerWord r x sp 1)
        let s := if s.headerWord r x sp 5 = 0 then s.writeRgn r x (sp.poff + 40) (natBytes 8 (layoutOf d)) else s
        s.onCtx n fun c => { c with optHdr := hdr }
    else s

/-- How an attempt at steps 5 to 8 ends. -/
inductive Attempt where
  | admitted (s : State)
  | refused (status : Nat)
  | short (cost : Nat)

/-- Steps 6 to 8 of Table 5.4. -/
def State.attempt (s : State) (m : SetupMsg) (job : Nat) (members : List Nat) : Attempt :=
  match s.capacity m members with
  | none => .refused stNOSPACE
  | some pl =>
    let cost := s.costOf (classFor m.kind m.desc) pl.tiles.length
    if s.tokensShort cost then .short cost
    else .admitted (s.reserve m job members pl cost)

/-! ### The deferral queue -/

/-- A setup short of tokens: POWER_DEFER, or the deferral queue (R132, R353). -/
def State.defer (s : State) (m : SetupMsg) (job cost : Nat) (members : List Nat) : State :=
  if dfield m.desc 2 20 20 = 0 ∨ 256 ≤ s.svc.deferq.length then s.refuseSetup m stPOWER_DEFER (s.retryUs cost)
  else
    let r := s.svc.defArb.enter (s.weight job) job cost
    let q : Deferred := ⟨s.nextId, m, job, r.1, members⟩
    { s with nextId := s.nextId + 1, svc := { s.svc with deferq := s.svc.deferq ++ [q], defArb := r.2 } }

/-- The queued setup with the smallest finish tag; ties by lower job and then earlier entry (R352, R353). -/
def firstDeferred (qs : List Deferred) : Option Deferred :=
  qs.foldl (fun (b : Option Deferred) q => match b with
    | none => some q
    | some a =>
      if q.tagF < a.tagF ∨ (q.tagF = a.tagF ∧ (q.job < a.job ∨ (q.job = a.job ∧ q.id < a.id))) then some q else some a) none

def State.dropDeferred (s : State) (q : Deferred) : State :=
  { s with svc := { s.svc with deferq := s.svc.deferq.filter fun x => x.id != q.id } }

/-- R496 at the deferral queue's arbiter. -/
def State.rebaseDeferral (s : State) : State :=
  if s.svc.defArb.v < 2 ^ 62 then s
  else
    let cut (q : Deferred) : Deferred := { q with tagF := q.tagF - 2 ^ 61 }
    let s := { s with svc := { s.svc with defArb := s.svc.defArb.rebased, deferq := s.svc.deferq.map cut } }
    s.bumpMod .admRebase [] 63 32

/-- Temond attempts the queue in order, steps 6 to 8 again, stopping at the first setup whose tokens are short (R132, R353, R420); a
setup whose region can no longer be bound meets NOSPACE (log entry 41). The fuel is the queue's length. -/
def State.attemptQueue : Nat → State → State
  | 0, s => s
  | k + 1, s =>
    match firstDeferred s.svc.deferq with
    | none => s
    | some q =>
      if !s.serviceUp q.msg.kind then s else
      match if s.regionCheck q.msg.kind q.job q.msg.desc = stOK then s.attempt q.msg q.job q.members else .refused stNOSPACE with
      | .short _ => s
      | .refused st => State.attemptQueue k ((s.dropDeferred q).refuseSetup q.msg st)
      | .admitted t =>
        let t := t.dropDeferred q
        State.attemptQueue k ({ t with svc := { t.svc with defArb := { t.svc.defArb with v := q.tagF } } } : State).rebaseDeferral

/-- The deferral queue is attempted (R420). -/
def State.tryDeferred (s : State) : State := State.attemptQueue s.svc.deferq.length s

/-! ### An assembled SETUP -/

/-- A region operation that a SETUP carries: a repeat is answered again or waits, a new one waits for Temond, and is answered POWER_DEFER
while the pool image is not loaded (R194, R196, R420). -/
def State.regionSetup (s : State) (m : SetupMsg) : State :=
  let same (a : RegAnswer) : Bool := a.src == m.pkt.src && a.setupId == m.setupId
  let fresh := s.mp.answers.filter fun a => a.status.isNone || !s.twiceAgePassed a.at_
  match List.find? same fresh with
  | some a =>
    match a.status with
    | some st => s.ackSetup m.pkt m.setupId st a.region 0 0 0
    | none =>
      let add (b : RegAnswer) : RegAnswer :=
        if same b && b.status.isNone then { b with repeats := b.repeats ++ [(m.port, m.pkt)] } else b
      { s with mp := { s.mp with answers := s.mp.answers.map add } }
  | none =>
    if m.parts ≠ 1 ∨ m.entries ≠ [] then s.refuseSetup m stBADDESC
    else if !s.serviceUp 4 then s.refuseSetup m stPOWER_DEFER 0
    else
      { s with mp := { s.mp with
        ops := s.mp.ops ++ [⟨dfield m.desc 0 63 0, dfield m.desc 1 63 0, s.portJob m.port, some (m.port, m.pkt)⟩]
        answers := fresh ++ [⟨m.pkt.src, m.setupId, s.local, none, dfield m.desc 0 55 40, []⟩] } }

/-- The context a SETUP repeats: any state but FREE, and not lost to a reset (R90, R458). -/
def State.repeated (s : State) (m : SetupMsg) : Option (Nat × Ctx) :=
  List.find? (fun (e : Nat × Ctx) => e.2.fix.convener == m.pkt.src && e.2.fix.setupId == m.setupId && !e.2.lost) s.svc.ctxs

/-- Steps 1 to 8 of Table 5.4 on an assembled KIND 1 to 3 SETUP. -/
def State.judgeSetup (s : State) (m : SetupMsg) : State :=
  let job := s.portJob m.port
  if !partsOk m then s.refuseSetup m stBADDESC
  else if s.svc.quar.contains (sha256 m.desc) then s.refuseSetup m stQUARANTINED
  else if !fieldsOk m then s.refuseSetup m stBADDESC
  else if !formatsOk m.kind m.desc then s.refuseSetup m stUNSUPPORTED_FMT
  else
    match s.membersOf m job with
    | .error e => s.refuseSetup m e
    | .ok members =>
      let r := s.regionCheck m.kind job m.desc
      if r ≠ stOK then s.refuseSetup m r
      else
        match s.attempt m job members with
        | .refused st => s.refuseSetup m st
        | .short cost => if s.serviceUp m.kind then s.defer m job cost members else s.refuseSetup m stPOWER_DEFER (s.retryUs cost)
        | .admitted t => if s.serviceUp m.kind then t else s.refuseSetup m stPOWER_DEFER 0

/-- A complete SETUP: a repeat of a context is answered as before, one that waits for an answer adds nothing, and the others are
judged or held (R90, R132, R462). -/
def State.takeSetup (s : State) (m : SetupMsg) : State :=
  if m.kind = 4 then
    if s.holdsFor 4 [0, 1, 2, 3] then s.hold (.setup m) else s.regionSetup m
  else
    match s.repeated m with
    | some (n, c) =>
      if c.state = .settingUp then s else s.ackSetup m.pkt m.setupId stOK n c.fix.gen0 c.fix.w 0
    | none =>
      if s.svc.deferq.any (fun q => q.msg.pkt.src == m.pkt.src && q.msg.setupId == m.setupId) then s
      else if s.holdsFor m.kind [0, 1, 2, 3] then s.hold (.setup m)
      else s.judgeSetup m

/-! ### Assembly -/

/-- The member entries of a byte string (R89). -/
def entriesOf (bs : List Byte) : List Nat := (pieces 4 bs).map fun e => beNat e % 2 ^ 20

/-- The assembly of (SRC, SETUP_ID), if one waits. -/
def State.asm? (s : State) (src id : Nat) : Option Asm := s.svc.asms.find? fun a => a.src == src && a.setupId == id

def State.dropAsm (s : State) (src id : Nat) : State :=
  { s with svc := { s.svc with asms := s.svc.asms.filter fun a => !(a.src == src && a.setupId == id) } }

/-- The header the answer to an assembly echoes: part 0's, or `p`'s with a free SEQ where part 0 has not arrived (R86; log
entry 42). -/
def State.asmHdr (s : State) (a : Option Asm) (p : Packet) (part : Nat) : Packet × State :=
  match a.bind Asm.first with
  | some q => (q.2, s)
  | none => if part = 0 then (p, s) else ({ p with w2 := p.w2.setField 63 32 s.freeVal }, s.tickFree)

/-- A refusal of parts that do not assemble; the parts are discarded (R90). -/
def State.badAsm (s : State) (a : Option Asm) (port : Nat) (p : Packet) (part status : Nat) : State :=
  let h := s.asmHdr a p part
  let id := (p.word 0).field 55 40
  let desc := match a.bind (fun x => x.got.find? 0) with
    | some b => b.take 256
    | none => if part = 0 then (p.payload.drop 8).take 256 else []
  (h.2.dropAsm p.src id).refuseSetup ⟨port, h.1, (p.word 0).field 63 56, id, 0, desc, [], s.local⟩ status

/-- The message of a full set of parts, whose last arrives at `now`. -/
def asmMsg (a : Asm) (now : Nat) : SetupMsg :=
  let body := (List.range a.parts).flatMap fun i => a.got.get i []
  let f := a.first.getD (a.port, ⟨0, 0, 0, 0, 0, [], 0⟩)
  ⟨f.1, f.2, a.kind, a.setupId, a.parts, body.take 256, entriesOf (body.drop 256), now⟩

/-- A SETUP part at the control complex (R90). -/
def State.setupPart (s : State) (port : Nat) (p : Packet) : State :=
  let s0 := p.word 0
  let kind := s0.field 63 56
  let id := s0.field 55 40
  let part := s0.field 39 35
  let parts := s0.field 34 30
  let old := s.asm? p.src id
  if kind = 0 ∨ 4 < kind ∨ parts = 0 ∨ 17 < parts ∨ parts ≤ part then s.badAsm old port p part stBADDESC
  else
    match old with
    | some a =>
      if a.kind ≠ kind ∨ a.parts ≠ parts then s.badAsm old port p part stBADDESC
      else if (a.got.find? part).isSome then s
      else
        let a := { a with got := a.got.set part (p.payload.drop 8), first := if part = 0 then some (port, p) else a.first }
        if a.got.length = parts then (s.dropAsm p.src id).takeSetup (asmMsg a s.local)
        else { s with svc := { s.svc with asms := s.svc.asms.map fun b => if b.src == p.src && b.setupId == id then a else b } }
    | none =>
      let a : Asm := ⟨p.src, id, s.local, kind, parts, [(part, p.payload.drop 8)], if part = 0 then some (port, p) else none, port⟩
      if parts = 1 then s.takeSetup (asmMsg a s.local)
      else if 64 ≤ s.svc.asms.length then s.badAsm none port p part stNOSPACE
      else { s with svc := { s.svc with asms := s.svc.asms ++ [a] } }

/-- SETUP (R90, R129). -/
def bodySetup (port : Nat) (f : Frame) (s : State) : State :=
  match s.serviceRx port f tSETUP with
  | .done t => t
  | .pass p t => t.setupPart port p

def execSetup (port : Nat) (f : Frame) (s : State) : Out := commitMem s (bodySetup port f)

/-- SETUP_ASSEMBLY_TIMEOUT: 10 ms after the first part the SETUP is answered TIMEOUT (R90). -/
def bodySetupAssemblyTimeout (src id : Nat) (s : State) : State :=
  match s.asm? src id with
  | some a =>
    if a.at_ + 10000000 ≤ s.local then
      let blank : Packet := ({ typ := tSETUP, cls := 0, dst := s.keys.svcEp, src := src } : Hdr).packet
        (natBytes 8 (a.kind * 2 ^ 56 + id * 2 ^ 40))
      s.badAsm (some a) a.port blank 1 stTIMEOUT
    else s
  | none => s

def execSetupAssemblyTimeout (src id : Nat) (s : State) : Out := commit s (s.unlessSafe (bodySetupAssemblyTimeout src id))

/-- DEFERRED_SETUP_EXPIRE: the context timeout has elapsed since the setup arrived (R132). A gather context has no timeout; the
job's default stands for it (log entry 43). -/
def bodyDeferredSetupExpire (id : Nat) (s : State) : State :=
  match s.svc.deferq.find? fun q => q.id == id with
  | some q =>
    let d := q.msg.desc
    let wait := if q.msg.kind = 3 then s.cfg.jobTimeout else timeoutOf s.cfg.jobTimeout d
    if q.msg.at_ + wait * 1000 ≤ s.local then
      let w := match s.place q.msg.kind d with | some pl => pl.tiles.length | none => 0
      let cost := s.costOf (classFor q.msg.kind d) (if q.msg.kind = 3 then 0 else w)
      (s.dropDeferred q).refuseSetup q.msg stPOWER_DEFER (s.retryUs cost)
    else s
  | none => s

def execDeferredSetupExpire (id : Nat) (s : State) : Out := commit s (s.unlessSafe (bodyDeferredSetupExpire id))

end Sys2Proof.Machine
end

