-- ==== Sys2Proof/Machine/Lifecycle.lean ====
section
/-!
DEFINITION. The context state machine (Table 5.5): tables written, REARM (R135, R525), TEARDOWN and DRAINING (R136), QUARANTINE,
and the start of a gather context.
-/

namespace Sys2Proof.Machine

/-! ### Held entries -/

/-- A region spreads over a stack of hub die `h`. -/
def State.regionOnHub (s : State) (r h : Nat) : Bool :=
  match s.region? r with
  | some x => x.stackSet.any fun k => hubOfStack k == h
  | none => false

/-- A context uses reset domain `d` (R464): a tile partition by its slots, and of a hub die's engines the stream engines of an
optimizer context's region, the pool and gather engines of a gather context's region, and the replication engines its results
leave through. The spec does not say which of a hub die's engines serves a context: each engine of the kind does (log entry
44). -/
def State.usesDomain (s : State) (c : Ctx) (d : Nat) : Bool :=
  if 1408 ≤ d ∧ d ≤ 1411 then
    if c.fix.kind = 3 then d == 1411 else (d == 1408 || (d == 1409 && c.fix.kind == 2)) && !c.fix.tiles.isEmpty
  else if 768 ≤ d ∧ d < 1408 then
    let h := (d - 768) / 160
    let e := (d - 768) % 160
    if e < 128 then c.fix.kind == 2 && s.regionOnHub (dfield c.fix.desc 13 63 48) h
    else if e < 144 then c.fix.kind == 3 && s.regionOnHub (dfield c.fix.desc 12 63 48) h
    else c.fix.kind != 3 && c.fix.tiles.any fun t => exitHub t == h
  else false

/-- The partitions under the quiesce of a substitution (R276). -/
def State.quietSlots (s : State) : List Nat := match s.fab.subst with | some u => u.slots | none => []

/-- The steering entries of a context are held (R276, R464): its partition is quiesced, or a search holds what would enter its
domain. -/
def State.entriesHeld (s : State) (n : Nat) (c : Ctx) : Bool :=
  (s.quietSlots.any fun k => s.usesDomain c (1408 + k))
    || (s.reco.search.toList ++ s.reco.later).any fun q => !q.cleared.contains n && s.usesDomain c q.domain

/-- STATE of the entries as they are written open. -/
def State.openEntry (s : State) (n : Nat) (c : Ctx) : Steer := if s.entriesHeld n c then .held else .open_

/-! ### SETTING_UP to ARMED -/

/-- SETUP_TABLES_WRITTEN: placement, hub-die tables and steering entries are in place, SETUP_ACK is sent, and the context is ARMED
(R27, R120). -/
def bodySetupTablesWritten (n : Nat) (s : State) : State :=
  match s.ctx? n with
  | some c =>
    if c.state = .settingUp ∧ c.holdFrom = none then
      let s := s.setCtx n { c with state := .armed, steer := s.openEntry n c, since := s.local }
      s.ackSetup c.fix.setupPkt c.fix.setupId stOK n c.gen c.fix.w 0
    else s
  | none => s

def execSetupTablesWritten (n : Nat) (s : State) : Out := commit s (s.unlessSafe (bodySetupTablesWritten n))

/-! ### REARM -/

/-- A REARM takes effect (R135): the next generation, its counts and slots fresh, its start, and SETUP_ACK to its sender. -/
def State.rearmNow (s : State) (n : Nat) (c : Ctx) (p : Packet) : State :=
  let gen := (c.gen + 1) % 256
  let s := s.leaveGen n c.gen
  let c' : Ctx :=
    { c with gen := gen, state := .armed, endStatus := 0, steer := s.openEntry n c, holdFrom := none, rearm := [], since := s.local,
             run := { startAt := (p.word 0).toNat }, opt := {}, kept := [], oldSeqs := c.run.seqs, suspect := false
             units := c.units.map fun e => (e.1, { e.2 with live := false }) }
  let s := (s.setCtx n c').ctxZero n
  let s := { s with svc := { s.svc with lastGen := s.svc.lastGen.set n gen } }
  s.originate s.complexDie (setupAckOf p s.keys.svcEp stOK n gen 0 c.fix.w 0)

/-- A NACK that Temond sends (R114). -/
def State.nackTemond (s : State) (port : Nat) (p : Packet) (status : Nat) : State := s.nackFrom s.complexDie port p status

/-- Hub dies a context's tiles exit through. -/
def CtxFix.hubs (x : CtxFix) : List Nat := (x.tiles.map exitHub).eraseDups

/-- A REARM as Temond judges it (R525): at step 4 it waits while R120 or R462 does not allow it. -/
def State.judgeRearm (s : State) (port : Nat) (p : Packet) : State :=
  match s.ctx? p.ctx with
  | none => s
  | some c =>
    if p.gen ≠ c.gen then s.nackTemond port p stSTALE_GEN
    else if p.rank ≠ c.fix.convRank then s.nackTemond port p stNOTMEMBER
    else if s.svc.quar.contains (sha256 c.fix.desc) then s.nackTemond port p stQUARANTINED
    else if c.state ≠ .armed ∧ c.completed = false then s.nackTemond port p stRETRY
    else if s.holdsFor c.fix.kind c.fix.hubs then s.hold (.ctl port p)
    else if !c.rearm.isEmpty then s.setCtx p.ctx { c with rearm := c.rearm ++ [(port, p)] }
    else if s.genHeld p.ctx ((c.gen + 1) % 256) then
      s.setCtx p.ctx { c with rearm := [(port, p)], holdFrom := s.svc.leftAt.find? (p.ctx * 256 + (c.gen + 1) % 256) }
    else s.rearmNow p.ctx c p

/-- REARM (R525). -/
def bodyRearm (port : Nat) (f : Frame) (s : State) : State :=
  match s.serviceRx port f tREARM with
  | .done t => t
  | .pass p t => if t.svc.holding then t.hold (.ctl port p) else t.judgeRearm port p

def execRearm (port : Nat) (f : Frame) (s : State) : Out := commit s (bodyRearm port f s)

/-- GEN_REUSE_HOLD_END: twice the largest age limit has passed since the generation value was left. A held REARM takes effect,
also where its context has become ACTIVE meanwhile (DESIGN CHOICE, log entry 112), once R462 allows it and a due COMPLETE is sent (R155,
R525); one that came after it meets the new generation; a held first generation goes on to its tables (R120). -/
def bodyGenReuseHoldEnd (n : Nat) (s : State) : State :=
  match s.ctx? n with
  | none => s
  | some c =>
    match c.holdFrom with
    | none => s
    | some (g, l) =>
      if s.now < g + 2 * s.largestAgeSince l * 1000 ∨ c.run.completeDue = true
          ∨ (c.state ≠ .settingUp ∧ s.holdsFor c.fix.kind c.fix.hubs = true) then s
      else if c.state = .settingUp then s.setCtx n { c with holdFrom := none }
      else
        match c.rearm with
        | [] => s.setCtx n { c with holdFrom := none }
        | (_, p) :: rest =>
          let t := s.rearmNow n c p
          rest.foldl (fun (s : State) r => s.nackTemond r.1 r.2 stSTALE_GEN) t

def execGenReuseHoldEnd (n : Nat) (s : State) : Out := commit s (s.unlessSafe (bodyGenReuseHoldEnd n))

/-! ### TEARDOWN -/

/-- A TEARDOWN as Temond takes it: the steering entries go first, and the context drains (R27, R133, R136). A REARM that R120 holds is
dropped with the generation it would have ended (DESIGN CHOICE, log entry 112). -/
def State.judgeTeardown (s : State) (port : Nat) (p : Packet) : State :=
  match s.ctx? p.ctx with
  | none => s
  | some c =>
    if p.gen ≠ c.gen then s.nackTemond port p stSTALE_GEN
    else if c.state = .armed ∨ c.state = .active ∨ c.state = .complete then
      s.setCtx p.ctx { c with state := .draining, steer := .absent, tear := some (port, p), since := s.local, rearm := [],
                              holdFrom := none, suspect := false,
                              units := c.units.map fun e => (e.1, { e.2 with live := false }) }
    else s

/-- TEARDOWN (R136). -/
def bodyTeardown (port : Nat) (f : Frame) (s : State) : State :=
  match s.serviceRx port f tTEARDOWN with
  | .done t => t
  | .pass p t => if t.svc.holding then t.hold (.ctl port p) else t.judgeTeardown port p

def execTeardown (port : Nat) (f : Frame) (s : State) : Out := commit s (bodyTeardown port f s)

/-- Slots, retention blocks and list copies of a context go, and it enters QUARANTINE (R136, R458). -/
def State.toQuarantine (s : State) (n : Nat) (c : Ctx) : State :=
  let s := c.fix.blocks.foldl (fun (s : State) b => s.bpmRelease b.1 b.2 n 0) s
  let s := s.leaveGen n c.gen
  s.setCtx n { c with fix := { c.fix with blocks := [] }, state := .quarantine, steer := .absent, since := s.local, bound := false,
                      kept := [], run := { startAt := c.run.startAt }, opt := {}, rearm := [], holdFrom := none }

/-- CONTEXT_DRAIN_END: no packet of the context remains on the service path; Temond zeroes and releases what it held, and ACKs
the TEARDOWN (R136). -/
def bodyContextDrainEnd (n : Nat) (s : State) : State :=
  match s.ctx? n with
  | some c =>
    if c.state = .draining ∧ c.lost = false ∧ s.onPath n = false then
      let t := s.toQuarantine n c
      match c.tear with
      | some (_, p) => t.originate t.complexDie (ackOf p t.keys.svcEp stOK)
      | none => t
    else s
  | none => s

def execContextDrainEnd (n : Nat) (s : State) : Out := commit s (s.unlessSafe (bodyContextDrainEnd n))

/-- CONTEXT_QUARANTINE_END: twice the largest age limit after entry the tokens return and the number is FREE; the deferral queue
is attempted (R133, R420). -/
def bodyContextQuarantineEnd (n : Nat) (s : State) : State :=
  match s.ctx? n with
  | some c =>
    if c.state = .quarantine ∧ s.twiceAgePassed c.since = true then
      ({ s with svc := { s.svc with ctxs := s.svc.ctxs.erase n, freed := s.svc.freed ++ [n] } } : State).tryDeferred
    else s
  | none => s

def execContextQuarantineEnd (n : Nat) (s : State) : Out := commitMem s fun t => t.unlessSafe (bodyContextQuarantineEnd n)

/-- GATHER_CONTEXT_START: the global count reaches START_AT of an ARMED gather context (Table 5.5). -/
def bodyGatherContextStart (n : Nat) (s : State) : State :=
  match s.ctx? n with
  | some c =>
    if c.fix.kind = 3 ∧ c.state = .armed ∧ c.run.startAt ≤ s.now then
      s.setCtx n { c with state := .active, run := { c.run with start := some s.now } }
    else s
  | none => s

def execGatherContextStart (n : Nat) (s : State) : Out := commit s (s.unlessSafe (bodyGatherContextStart n))

/-- What Temond held is judged in the order it came, once nothing holds it (R462, R493). -/
def State.flushHeld (s : State) : State :=
  let ms := s.svc.held
  ms.foldl (fun (s : State) m => match m with
    | .setup m => s.takeSetup m
    | .ctl port p => if p.typ = tREARM then s.judgeRearm port p else s.judgeTeardown port p)
    { s with svc := { s.svc with held := [] } }

end Sys2Proof.Machine
end

