-- ==== Sys2Proof/Machine/Cube.lean ====
section
/-!
DEFINITION. The MAC cube's arithmetic (R238 to R243): exact products, slices of four, and the accumulator update.
-/

namespace Sys2Proof.Machine

/-- The rate of a format in quarters of a k of four: 8 stands for r = 4, 4 for 2, 2 for 1 and 1 for 0.5 (Table 10.2). -/
def Fmt.cubeRate2 : Fmt → Nat
  | .bs4 => 8 | .bs4x16 => 8 | .bs6 => 4 | .bs6x16 => 4
  | .bs8 => 2 | .bs8x16 => 2 | .bsi8 => 2 | .e4m3 => 2 | .e5m2 => 2 | .int8 => 2
  | _ => 1

/-- The depth k of one CUBE.MM (R238). -/
def cubeK (a b : Fmt) : Nat :=
  let r := min a.cubeRate2 b.cubeRate2
  if r = 1 then 4 else 2 * r

/-- The cycles of one CUBE.MM (R238). -/
def cubeCycles (a b : Fmt) : Nat := if min a.cubeRate2 b.cubeRate2 = 1 then 2 else 1

/-- The largest `floor (log2 |P|)` over the non-zero finite products (R239 step 4); none when all are zero. -/
def sliceTop (ps : List XVal) : Option Int :=
  ps.foldl (fun t p => match p with
    | .fin _ n d => if n = 0 then t else
        match t with
        | none => some (ilog2 n d)
        | some e => some (max e (ilog2 n d))
    | _ => t) none

/-- A product truncated toward minus infinity to a multiple of `2 ^ (e - 28)`, in units of it. -/
def truncProduct (e : Int) (p : XVal) : Int :=
  match p with
  | .fin neg n d =>
    let s := scaleRat n d (e - 28)
    if neg then -((ceilDiv s.1 s.2 : Nat) : Int) else ((s.1 / s.2 : Nat) : Int)
  | _ => 0

/-- The slice sum of R239. The zero of step 3 is `.fin false 0 1`. -/
def sliceSum (ps : List XVal) : XVal :=
  if ps.any XVal.isNan then .nan
  else if ps.any (· == .inf false) && ps.any (· == .inf true) then .nan
  else if ps.any (· == .inf false) then .inf false
  else if ps.any (· == .inf true) then .inf true
  else
    match sliceTop ps with
    | none => .fin false 0 1
    | some e =>
      let t := (ps.map (truncProduct e)).sum
      XVal.ofScaled (decide (t < 0)) t.natAbs (e - 28)

/-- A binary32 accumulator after one slice, with its counts (R240). -/
def accSlice32 (strict : Bool) (c : Nat) (s : XVal) : Conv :=
  match fFP32.decode c, s with
  | .nan, _ => ⟨0x7FC00000, 0, 0⟩
  | _, .nan => ⟨0x7FC00000, 0, 0⟩
  | .inf x, .inf y => if x = y then ⟨fFP32.mk' x 0x7F800000, 0, 0⟩ else ⟨0x7FC00000, 0, 0⟩
  | .inf x, _ => ⟨fFP32.mk' x 0x7F800000, 0, 0⟩
  | _, .inf y => ⟨fFP32.mk' y 0x7F800000, 0, 0⟩
  | .fin cn x xd, .fin sn y yd =>
    if y = 0 then ⟨c, 0, 0⟩ else fFP32.encode 0 strict (XVal.addFin false cn x xd sn y yd)

/-- An INT32 accumulator after one slice, saturating (R241). -/
def accSliceInt (c : Nat) (s : XVal) : Conv :=
  match s with
  | .fin neg n d =>
    let v : Int := toSigned 32 c + (if neg then -((n / d : Nat) : Int) else ((n / d : Nat) : Int))
    if (2 : Int) ^ 31 - 1 < v then ⟨0x7FFFFFFF, 1, 0⟩
    else if v < -(2 : Int) ^ 31 then ⟨0x80000000, 1, 0⟩
    else ⟨ofSigned 32 v, 0, 0⟩
  | _ => ⟨c, 0, 0⟩

/-- The products of row `i` of A and column `j` of B, in ascending k. -/
def cubeProducts (a b : List XVal) (k i j : Nat) : List XVal :=
  (List.range k).map fun t => XVal.prod (a.getD (i * k + t) .nan) (b.getD (j * k + t) .nan)

/-- One accumulator after every slice of a CUBE.MM in ascending q (R239). -/
def cubePosition (int strict : Bool) (c : Nat) (ps : List XVal) : Conv :=
  (splitEvery 4 ps.length ps).foldl (fun r sl =>
    let u := if int then accSliceInt r.pat (sliceSum sl) else accSlice32 strict r.pat (sliceSum sl)
    ⟨u.pat, r.sat + u.sat, r.flush + u.flush⟩) ⟨c, 0, 0⟩

/-- A whole accumulator set of 16 values, row-major, after one CUBE.MM (R238 to R241). -/
def cubeMM (int strict : Bool) (k : Nat) (a b : List XVal) (cs : List Nat) : List Conv :=
  (List.range 16).map fun n => cubePosition int strict (cs.getD n 0) (cubeProducts a b k (n / 4) (n % 4))

end Sys2Proof.Machine
end

