-- ==== Sys2Proof/Machine/Finalise.lean ====
section
/-!
DEFINITION. How a chunk finalises and is released (R149, R176, R177), how a generation ends with a COMPLETE (R155, R178, R400) or
an ABORT (R158 to R163), and GRANT (R151).
-/

namespace Sys2Proof.Machine

/-! ### Tile SRAM errors -/

/-- INSTANCE of a tile in its die, which also indexes its registers (Table 18.3, R252). -/
def tileInst (tile : Nat) : Nat := tile / 220 % 48 * 55 + tile % 220 % 55

/-- An error a tile's SRAM meets under a service image: counted by R235 and reported. No operand gives the SRAM address: a free
value (log entry 40). -/
def State.tileEcc (s : State) (tile : Nat) (unc : Bool) : State :=
  let d := fabricDie tile
  let s := if unc then s.count64 .tileSunc [d, tileInst tile] else s.count64 .tileSecc [d, tileInst tile]
  let a := s.freeVal % 2 ^ 18
  s.tickFree.raise (12 + d) 0x10 (tileInst tile) (if unc then 0x031 else 0x030) (if unc then 1 else 0) a

/-! ### Counts -/

/-- What a release adds to the generation. -/
def Run.take (r : Run) (k : Nat) (e : ChunkEnd) : Run :=
  { r with
    sat := sat64 (r.sat + e.sat)
    flush := sat64 (r.flush + e.flush)
    inHash := Nat.xor r.inHash e.inHash
    outHash := Nat.xor r.outHash e.outHash
    paramHash := Nat.xor r.paramHash e.paramHash
    tchoice := if e.mixed then sat64 (r.tchoice + 1) else r.tchoice
    poisoned := if e.bad then r.poisoned ++ [k] else r.poisoned
    done := r.done + 1
    fin := if r.fin.contains k then r.fin else r.fin ++ [k]
    slots := r.slots.erase k
    reports := r.reports ++ [k] }

/-- The sums of two chunks' squares. -/
def Squares.plus (a b : Squares) : Squares := ⟨a.units + b.units, a.nan || b.nan, a.inf || b.inf⟩

/-! ### Release -/

/-- The stack of a context's chunk's retention block. -/
def Ctx.blockStack (c : Ctx) (k : Nat) : Option Nat :=
  (c.fix.blocks[k]?).map fun b => 4 * (b.1 - 4) + Config.blockStack b.1 b.2 % 4

/-- Steps 3 to 5 of R149: the RESULT is retained, a foreground access to its block's stack (Table 17.6), and leaves for its recipients, the slot is zeroed and released, and the release is
on its way to the home tile. -/
def State.releaseChunk (s : State) (n k : Nat) (out : Kept) (e : ChunkEnd) : State :=
  match s.ctx? n with
  | none => s
  | some c =>
    let c' : Ctx :=
      { c with run := c.run.take k e
               opt := { c.opt with squares := if e.bad then c.opt.squares else c.opt.squares.plus e.squares }
               kept := if c.fix.retains then c.kept.set k out else c.kept }
    let s := match c.blockStack k with | some st => (s.setCtx n c').useStack st | none => s.setCtx n c'
    let s := if e.replayed then s.bump .optCnt [n] 63 32 else s
    let s := s.bump .optCnt [n] 31 0 e.nonfinite
    s.emit (exitHub (c.fix.tileOf k)) ⟨n, c.gen, tRESULT, out.fmt, 0, k * c.fix.c, some k, out.payload, c.fix.receiver k, none⟩

/-- What a KIND 1 chunk leaves (R149, R154, R399). -/
def CtxFix.plainEnd (x : CtxFix) (k : Nat) (sl : Slot) : Kept × ChunkEnd :=
  let enc : Encoded := if sl.bad then ⟨poisonPayload, 0, 0⟩ else x.result k sl
  (⟨if sl.bad then 0 else x.fmtOut, enc.bytes⟩,
   { sat := sl.sat + enc.sat, flush := sl.flush + enc.flush, inHash := sl.hash, outHash := laneTerm x.key 2 0 k enc.bytes,
     mixed := sl.mixed, bad := sl.bad })

/-- Big-endian numbers of `k` bytes. -/
def numbersOf (k : Nat) (bs : List Byte) : List Nat := (pieces k bs).map beNat

/-- The gradients of a chunk (R176 step 1). -/
def CtxFix.gradients (x : CtxFix) (sl : Slot) : List Conv :=
  sl.accs.map fun a => fFP32.encode x.rdir x.strict (a.value x.window (if x.func = 1 then x.mcount else 1))

/-- What the update of a chunk leaves: weights, moments as stored, and the counts of their conversions. -/
structure Stored where
  w     : List Nat
  m     : List Conv
  v     : List Conv
  deriving DecidableEq, Repr

/-- A moment as stored (R179). -/
def storeMoment (short : Bool) (p : Nat) : Conv :=
  if short then fE8M7.encode 0 false (fFP32.decode p) else ⟨f32Store p, 0, 0⟩

/-- The update sequence of the context's rule over a chunk (R179, R181, R182). -/
def CtxFix.update (x : CtxFix) (a : StepArgs) (st : Staged) (gs : List Nat) : Stored :=
  let d := x.desc
  let rule := dfield d 12 63 60
  let short := dfield d 12 59 56 == 1
  let k := constsOf a (rule != 0 || dfield d 12 54 54 == 1)
  let mb := if short then 2 else 4
  let wide (p : Nat) : Nat := if short then p * 65536 else p
  let ws := numbersOf 4 st.w
  let ms := numbersOf mb st.m
  let vs := numbersOf mb st.v
  let us := (List.range gs.length).map fun i =>
    if rule = 0 then adaptive a k (dfield d 12 55 55 == 1) (nth ws i) (wide (nth ms i)) (wide (nth vs i)) (nth gs i)
    else momentum a k (rule == 2) (dfield d 12 53 53 == 1) (nth ws i) (wide (nth ms i)) (nth gs i)
  ⟨us.map fun u => f32Store u.w, us.map fun u => storeMoment short u.m,
   if rule = 0 then us.map fun u => storeMoment short u.v else []⟩

/-- The writes of a chunk's update unit, W, M and V and then S[c] (R176 step 4). -/
def State.unitWrites (s : State) (x : CtxFix) (k t : Nat) (u : Stored) : List (Nat × List Byte) :=
  let sp := spanOf x.desc
  match s.region? sp.region with
  | none => []
  | some r =>
    let at_ (off : Nat) (bs : List Byte) : List (Nat × List Byte) := r.puts sp.region (sp.poff + off) bs
    let e0 := k * x.c
    at_ (4096 + 4 * e0) (u.w.flatMap (natBytes 4))
      ++ at_ (sp.mOff + sp.mb * e0) (u.m.flatMap fun c => natBytes sp.mb c.pat)
      ++ at_ (sp.vOff + sp.mb * e0) (u.v.flatMap fun c => natBytes sp.mb c.pat)
      ++ at_ (sp.sOff + 8 * k) (natBytes 8 t)

/-- What a full, staged chunk of an optimizer context leaves (R176, R177, R184): its RESULT, its end, and the update it issues. -/
def CtxFix.optEnd (x : CtxFix) (k : Nat) (sl : Slot) (st : Staged) (a : StepArgs) : Kept × ChunkEnd × Option Stored :=
  let gs := if sl.bad then [] else x.gradients sl
  let base : ChunkEnd :=
    { sat := sl.sat + (gs.map Conv.sat).sum, flush := sl.flush + (gs.map Conv.flush).sum, inHash := sl.hash, mixed := sl.mixed,
      paramHash := if st.bad then 0 else laneTerm x.key 3 0 k (st.w ++ st.m ++ st.v),
      squares := gs.foldl (fun (q : Squares) g => q.add g.pat) {} }
  let send (ws : List Nat) (e : ChunkEnd) (u : Option Stored) : Kept × ChunkEnd × Option Stored :=
    let enc := match Fmt.ofCode x.fmtOut with
      | some f => encodePayload f x.rdir x.strict (ws.map fFP32.decode)
      | none => ⟨[], 0, 0⟩
    (⟨x.fmtOut, enc.bytes⟩,
     { e with sat := e.sat + enc.sat, flush := e.flush + enc.flush, outHash := laneTerm x.key 2 0 k enc.bytes }, u)
  if !sl.bad && !st.bad && st.s == a.t then send (numbersOf 4 st.w) { base with replayed := true } none
  else if !sl.bad && !st.bad && st.s + 1 == a.t then
    let u := x.update a st (gs.map Conv.pat)
    send u.w
      { base with sat := base.sat + (u.m.map Conv.sat).sum + (u.v.map Conv.sat).sum,
                  flush := base.flush + (u.m.map Conv.flush).sum + (u.v.map Conv.flush).sum,
                  nonfinite := (u.w.filter fun w => f32IsNan w || f32IsInf w).length } (some u)
  else
    (⟨0, poisonPayload⟩, { base with bad := true, outHash := laneTerm x.key 2 0 k poisonPayload }, none)

/-- The bitmap of a chunk is full (R149). -/
def CtxFix.full (x : CtxFix) (sl : Slot) : Bool := bitCount x.mcount sl.bitmap == x.contributors

/-- CHUNK_FINALISE and OPTIMIZER_CHUNK_UPDATE: a full chunk finalises; of an optimizer context once its STEP is accepted and its
state staged, and where it is updated its unit is issued (R149, R176). -/
def State.tryFinish (s : State) (n k : Nat) : State :=
  match s.ctx? n with
  | none => s
  | some c =>
    match c.run.slots.find? k with
    | none => s
    | some sl =>
      if c.state ≠ .active ∨ c.finalised k = true ∨ c.fix.full sl = false then s
      else if c.fix.kind = 1 then
        let e := c.fix.plainEnd k sl
        s.releaseChunk n k e.1 e.2
      else
        match c.opt.step, sl.staged with
        | some pl, some st =>
          let a := stepArgs pl
          let e := c.fix.optEnd k sl st a
          match e.2.2 with
          | none => s.releaseChunk n k e.1 e.2.1
          | some u =>
            let unit_ : Unit_ := ⟨c.gen, s.unitWrites c.fix k a.t u, e.1, e.2.1, true⟩
            s.setCtx n { c with units := c.units.set k unit_, run := { c.run with fin := c.run.fin ++ [k] } }
        | _, _ => s

/-! ### Ends of a generation -/

/-- A packet of a context's own to every member, or to every other, through the home tile's exit hub die (R26). -/
def State.toMembers (s : State) (n : Nat) (c : Ctx) (typ : Nat) (payload : List Byte) (except : Option Nat) : State :=
  s.emit (exitHub c.fix.home) ⟨n, c.gen, typ, 0, 0, 0, none, payload, none, except⟩

/-- The ABORT payload (R98): the missing ranks as summary and group words. -/
def abortPayload (status rank : Nat) (missing : List Nat) : List Byte :=
  let groups := sortNat (missing.map (· / 64)).eraseDups
  let word (g : Nat) : Nat := (((missing.filter fun r => r / 64 == g).eraseDups).map fun r => 2 ^ (r % 64)).sum
  let summary (i : Nat) : Nat := ((groups.filter fun g => g / 64 == i).map fun g => 2 ^ (g % 64)).sum
  natBytes 8 (status * 2 ^ 56 + rank % 2 ^ 14 * 2 ^ 42 + groups.length)
    ++ (List.range 4).flatMap (fun i => natBytes 8 (summary i)) ++ groups.flatMap fun g => natBytes 8 (word g)

/-- The units of a context no longer carry a release: they are still written (R185). -/
def deadUnits (us : Tbl Unit_) : Tbl Unit_ := us.map fun e => (e.1, { e.2 with live := false })

/-- A generation ends with ABORT of a status to the members (R158, R159, R161, R465), and an open STEP with it (R168). The abort of a gather
context's only member sends no ABORT (R133). -/
def State.endAbort (s : State) (n status rank : Nat) (missing : List Nat) (except : Option Nat) : State :=
  match s.ctx? n with
  | none => s
  | some c =>
    let s := s.setCtx n { c with state := .complete, endStatus := status, since := s.local, units := deadUnits c.units,
                                 opt := { c.opt with step := none },
                                 run := { c.run with timerAt := none, closing := false, grantDue := none } }
    if c.fix.kind = 3 ∧ status = stMEMBER_ABORT then s else s.toMembers n c tABORT (abortPayload status rank missing) except

/-- An uncorrectable error in an open chunk's accumulators poisons the chunk, contributions or not (R72, R154). -/
def State.poisonChunk (s : State) (n k : Nat) : State :=
  s.onCtx n fun c =>
    if c.runs && decide (k < c.frontier) && !c.finalised k && c.fix.kind != 3 then
      { c with run := { c.run with slots := c.run.slots.set k { c.run.slots.get k {} with bad := true } } }
    else c

/-- An uncorrectable word of an open chunk's slot: a header ends the generation with ABORT POISON, an accumulator poisons its chunk (R72,
R161). -/
def State.slotWordLost (s : State) (w : SlotWord) : State :=
  match s.ctx? w.ctx with
  | none => s
  | some c =>
    if !c.runs || decide (c.frontier ≤ w.chunk) || c.finalised w.chunk || c.fix.kind == 3 then s
    else if w.header then s.endAbort w.ctx stPOISON 0 [] none
    else s.poisonChunk w.ctx w.chunk

/-- A generation is aborted with RETRY (R163): released chunks stay, unreleased slots are zeroed, the timeout stops, and the
context is ARMED again with its entries open. A gather context stays as it is (DESIGN CHOICE, log entry 112). -/
def State.abortRetry (s : State) (n : Nat) : State :=
  match s.ctx? n with
  | none => s
  | some c =>
    if c.state ≠ .active ∨ c.fix.kind = 3 then s
    else
      let waiting := (c.units.filter fun e => e.2.live).map Prod.fst
      let c' : Ctx :=
        { c with state := .armed, steer := s.openEntry n c, units := deadUnits c.units,
                 run := { c.run with slots := [], timerAt := none, closing := false, grantDue := none,
                                     fin := c.run.fin.filter fun k => !waiting.contains k } }
      let s := s.setCtx n c'
      let s := s.toMembers n c tABORT (abortPayload stRETRY 0 []) none
      if c.fix.w = 0 then s
      else
        let s := s.toMembers n c tGRANT (natBytes 8 (c.frontier * 2 ^ 24)) none
        s.onCtx n fun c => { c with run := { c.run with grantSent := c.frontier, grantAt := s.local } }

/-! ### The provenance record -/

/-- The physical column of a tile within its die (R253). -/
def State.physCol (s : State) (tile : Nat) : Nat :=
  let l := tile % 220 % 55
  let d := fabricDie tile
  if s.fld .fabSpare [d] 63 63 = 1 ∧ s.fld .fabSpare [d] 62 57 ≤ l then l + 1 else l

/-- PLACEMENT (R400). -/
def State.placementHash (s : State) (x : CtxFix) : List Byte :=
  (sha256 (x.tiles.flatMap fun t =>
    natBytes 1 (t % 220) ++ natBytes 1 (t / 220) ++ natBytes 1 (12 + fabricDie t) ++ natBytes 1 (s.physCol t))).take 8

/-- IMAGE_HASH (R400). -/
def State.imageHash (s : State) (kind : Nat) : List Byte :=
  let logical (n : Nat) : List Byte := (s.fab.slots.get n {}).image.logical
  sha256 (if kind = 2 then logical 0 ++ logical 1 else logical (kindSlot kind))

/-- The COMPLETE payload of a generation whose last chunk has been released (R99, R400). -/
def State.completePayload (s : State) (c : Ctx) : List Byte :=
  let r := c.run
  let bad := sortNat r.poisoned
  let listed := bad.take 480
  let status := if bad.isEmpty then stOK else stPOISON
  let prov := s.imageHash c.fix.kind ++ sha256 c.fix.desc ++ natBytes 16 r.inHash ++ natBytes 16 r.outHash
    ++ natBytes 16 r.paramHash ++ natBytes 8 (r.start.getD 0) ++ natBytes 8 r.finish ++ s.placementHash c.fix
  natBytes 8 (status * 2 ^ 56 + (if 480 < bad.length then 2 ^ 48 else 0) + listed.length)
    ++ natBytes 8 r.sat ++ natBytes 8 r.flush ++ natBytes 8 r.tchoice ++ natBytes 8 r.bchoice
    ++ natBytes 8 (if c.fix.kind = 2 then c.opt.squares.binary64 else 0) ++ natBytes 8 bad.length
    ++ prov ++ sha256 prov ++ listed.flatMap (natBytes 8)

/-- STEP_COMPLETION_WRITE: where no chunk is poisoned, no line of S is, and every S[c] equals t, DONE_STEP and then OPEN_STEP = 0 are written
(R178; a poisoned chunk keeps the header as it is, log entry 46). -/
def State.stepDone (s : State) (n : Nat) (c : Ctx) : State :=
  match c.opt.step with
  | none => s
  | some pl =>
    let t := beNat (pl.take 8)
    let sp := spanOf c.fix.desc
    match s.region? sp.region with
    | none => s
    | some x =>
      let ss := numbersOf 8 (s.readRgn sp.region x (sp.poff + sp.sOff) (8 * c.fix.n))
      let lost := s.rgnPoisoned sp.region x (sp.poff + sp.sOff) (8 * c.fix.n)
      if c.run.poisoned.isEmpty && !lost && ss.all (· == t) then
        let s := s.writeRgn sp.region x sp.poff (natBytes 8 t)
        let s := s.writeRgn sp.region x (sp.poff + 8) (natBytes 8 0)
        s.onCtx n fun c => { c with optHdr := (t, 0) }
      else s

/-! ### Release at the home tile -/

/-- L after a release: the lowest chunk not in the list, counting on from `low`; the fuel is the list's length. -/
def lowest : Nat → Nat → List Nat → Nat
  | 0, low, _ => low
  | f + 1, low, rel => if rel.contains low then lowest f (low + 1) rel else low

/-- FRONTIER as last sent, min(N, W) before any GRANT (R150, R151). -/
def Ctx.sentFrontier (c : Ctx) : Nat := max c.run.grantSent (min c.fix.n c.fix.w)

/-- The home tile sends a GRANT with F (R151). -/
def State.grantNow (s : State) (n : Nat) : State :=
  match s.ctx? n with
  | none => s
  | some c =>
    let f := c.frontier
    let s := s.setCtx n { c with run := { c.run with grantSent := f, grantAt := s.local, grantDue := none } }
    s.toMembers n c tGRANT (natBytes 8 (f * 2 ^ 24)) none

/-- The frontier's advance sends a GRANT at once, or starts the 2 µs after which one is sent (R151). -/
def State.grantAfter (s : State) (n : Nat) : State :=
  match s.ctx? n with
  | none => s
  | some c =>
    let f := c.frontier
    if c.fix.w = 0 ∨ f ≤ c.sentFrontier then s
    else if ceilDiv c.fix.w 4 ≤ f - c.sentFrontier ∨ f = c.fix.n then s.grantNow n
    else if c.run.grantDue.isNone then s.setCtx n { c with run := { c.run with grantDue := some (s.local + 2000) } }
    else s

/-- The last chunk has been released, which ends the generation and its STEP: FINISH, the step's completion, the record, and COMPLETE once
every RESULT has left (R149, R155, R168, R178). -/
def State.endComplete (s : State) (n : Nat) : State :=
  match s.ctx? n with
  | none => s
  | some c =>
    let s := if c.fix.kind = 2 then s.stepDone n c else s
    s.onCtx n fun c =>
      let c : Ctx := { c with run := { c.run with finish := s.now, timerAt := none, closing := false, grantDue := none } }
      { c with state := .complete, since := s.local, endStatus := if c.run.poisoned.isEmpty then stOK else stPOISON
               opt := { c.opt with step := none }
               run := { c.run with record := some (s.completePayload c), completeDue := true } }

end Sys2Proof.Machine
end

