-- ==== Sys2Proof/Machine/PoolRows.lean ====
section
/-!
DEFINITION. Pool accesses (chapter 8): the port die's checks of Table 8.4, the release of ordered accesses, and the access as
the home hub die performs it.
-/

namespace Sys2Proof.Machine

/-- Bytes of an atomic operation's operand; none for a reserved AOP (Table 4.8). -/
def atomBytes (aop : Nat) : Option Nat :=
  if [1, 3, 6, 8].contains aop then some 4 else if [2, 4, 5, 7, 9].contains aop then some 8 else none

/-- RDLEN of a POOL_RD (R103). -/
def rdlen (p : Packet) : Nat := (p.word 0).field 63 51

/-- The length of an access (R200). -/
def accessLen (p : Packet) : Nat :=
  if p.typ = tPOOL_RD then rdlen p
  else if p.typ = tPOOL_WR then p.len
  else if p.typ = tPOOL_ATOM then (atomBytes ((p.word 0).field 63 56)).getD 0
  else 0

/-- The access waits, as a fence does, for every earlier access of its source (R103, R106). -/
def fenceLike (p : Packet) : Bool := p.typ == tPOOL_FENCE || (p.typ == tPOOL_RD && rdlen p == 0)

/-- ORD of a pool packet (R105). -/
def ordOf (p : Packet) : Nat := p.rank / 4096

/-- An access is ordered (R206). -/
def State.isOrdered (s : State) (port : Nat) (x : Region) (p : Packet) : Bool :=
  ordOf p == 2 || (ordOf p == 0 && x.orddef == 1) || (s.stream? (port / 96) p.src p.ctx).isSome

/-- The offset whose page homes an access (R200). -/
def homeOff (x : Region) (p : Packet) : Nat :=
  if accessLen p = 0 ∧ p.offset = x.size ∧ p.offset % pageBytes = 0 then 0 else p.offset

/-- Step 3 of Table 8.4. -/
def rangeOk (x : Region) (p : Packet) : Bool :=
  let n := accessLen p
  !(p.typ == tPOOL_RD && decide (4096 < rdlen p)) && decide (p.offset + n ≤ x.size)
    && (n == 0 || p.offset / pageBytes == (p.offset + n - 1) / pageBytes)
    && !(p.typ == tPOOL_ATOM && n != 0 && p.offset % n != 0)

/-- The request takes an entry of its home hub die and enters its stack's arbiter (R210, R354). -/
def State.sendReq (s : State) (q : PReq) (job : Nat) : State :=
  let r := s.enterStack q.stack job (linesOf q.pkt.offset (accessLen q.pkt))
  let q' : PReq := { q with sent := true, tagF := r.1 }
  { r.2 with mp := { r.2.mp with reqs := r.2.mp.reqs.map fun x => if x.id == q.id then q' else x } }

/-- An access that consumed no SEQ is refused at step 4, 5 or 6: the expected SEQ stays at it, and every later access of the
stream that the device holds is refused with NACK RETRY carrying that SEQ (R206). A fence refused so opens no stream (R107
rule 1). -/
def State.rollback (s : State) (q : PReq) : State :=
  if !q.stream then s
  else
    let die := q.port / 96
    let mine (x : PReq) : Bool := x.stream && x.port / 96 == die && x.region == q.region && x.pkt.src == q.pkt.src
    let later := s.mp.reqs.filter fun x => mine x && decide (q.id < x.id)
    let opened := q.pkt.typ == tPOOL_FENCE && q.behind.contains q.id
    let s := match s.stream? die q.pkt.src q.region with
      | some t =>
        if opened then { s with mp := { s.mp with streams := s.mp.streams.filter fun u => u != t } }
        else s.setStream { t with expected := q.pkt.seq }
      | none => s
    let s := { s with mp := { s.mp with reqs := s.mp.reqs.filter fun x => !(mine x && decide (q.id < x.id)) } }
    later.foldl (fun (s : State) x =>
      (s.bump .rgnErr [q.region] 47 32).nackFrom die x.port x.pkt stRETRY (if opened then 0 else q.pkt.seq)) s

/-- Accesses held in the device go in a reset and are never performed: a relaxed fence that waits for one of them goes too, and the stream of
an ordered one goes back to the first SEQ that it lost, as after a refusal of step 4 to 6, so that nothing behind it is performed or
acknowledged (R199, R206, R208, R215). DESIGN CHOICE (log entry 118). -/
def State.loseReqs (s : State) (lost : PReq → Bool) : State :=
  let gone := s.mp.reqs.filter lost
  let fence (q : PReq) : Bool := !q.stream && q.behind.any fun b => gone.any fun g => g.id == b
  let same (a b : PReq) : Bool := b.stream && a.port / 96 == b.port / 96 && a.region == b.region && a.pkt.src == b.pkt.src
  let firsts := gone.filter fun q => q.stream && !(gone.any fun g => same q g && decide (g.id < q.id))
  firsts.foldl State.rollback
    { s with mp := { s.mp with reqs := s.mp.reqs.filter fun q => !lost q && !fence q } }

/-- A request leaves the device with a NACK counted in a field of POOL_RGN_ERR. -/
def State.refuseReq (s : State) (q : PReq) (status hi lo : Nat) : State :=
  let s := { s with mp := { s.mp with reqs := s.mp.reqs.filter fun x => x.id != q.id } }
  (s.bump .rgnErr [q.region] hi lo).nackFrom (q.port / 96) q.port q.pkt status (s.expectOf q.port q.pkt)

/-- A poisoned line that an access reads, updates or writes in part (step 7 of Table 8.4). -/
def State.meetsPoison (s : State) (p : Packet) (a n : Nat) : Bool :=
  n != 0 && (if p.typ = tPOOL_WR then s.poisonInPart a n else s.poisonedAt a n)

/-- Steps 5 to 7 of Table 8.4, at the home hub die: the status of the first that refuses the access. -/
def State.homeRefuses (s : State) (q : PReq) (x : Region) : Option Nat :=
  let n := accessLen q.pkt
  if (s.stack q.stack).retrain then some stRETRY
  else if s.touchesOpenSpan q.region q.pkt.offset n && q.pkt.typ != tPOOL_FENCE then some stRETRY
  else if s.meetsPoison q.pkt (x.phys q.region q.pkt.offset) n then some stPOISON
  else none

/-- The refusal of steps 5 to 7: step 7 consumes the SEQ of an ordered access, the others do not (R206). -/
def State.refuseHome (s : State) (q : PReq) (status : Nat) : State :=
  if status = stPOISON then ((if q.stream then s.spend q.port q.pkt else s)).refuseReq q stPOISON 63 48
  else (s.rollback q).refuseReq q status 47 32

/-- Steps 4 to 7 as an access is released to its home: an entry, or NACK RETRY counted in POOL_STAT (R210); then the checks of the home hub
die, and only what passes them enters the stack's arbiter (R354). -/
def State.releaseReq (s : State) (q : PReq) : State :=
  match s.region? q.region with
  | none => s
  | some x =>
    if 16384 ≤ s.entriesUsed (hubOfStack q.stack) then
      let s := (s.count64 .poolStat []).rollback q
      s.refuseReq q stRETRY 47 32
    else
      match s.homeRefuses q x with
      | some st => s.refuseHome q st
      | none => s.sendReq q x.job

/-- The next accesses of an ordered stream go to their home once their predecessor is performed, or at once behind a predecessor
bound for the same hub die (R206); the fuel bounds the accesses looked at. -/
def releaseStream (die src region : Nat) : Nat → State → State
  | 0, s => s
  | k + 1, s =>
    let mine := s.mp.reqs.filter fun x => x.stream && x.port / 96 == die && x.region == region && x.pkt.src == src
    match mine.find? fun x => !x.sent with
    | none => s
    | some q =>
      let ahead := mine.filter fun x => decide (x.id < q.id)
      if ahead.all fun x => hubOfStack x.stack == hubOfStack q.stack then releaseStream die src region k (s.releaseReq q)
      else s

/-- A pool packet past step 17 (Table 8.4 steps 1 to 4, R107, R206). -/
def State.poolArrive (s : State) (port : Nat) (p : Packet) (head : List Byte) : State :=
  match s.liveRegion p.ctx with
  | none => s
  | some x =>
    let die := port / 96
    let ordered := s.isOrdered port x p
    let has := (s.stream? die p.src p.ctx).isSome
    let mineOpen := s.mp.streams.filter fun t => t.die == die
    if ordered && !has && p.typ != tPOOL_FENCE then s.nackAt port p stRETRY 0
    else if ordered && !has && decide (2048 ≤ mineOpen.length) then s.nackAt port p stNOSPACE 0
    else
      let s := if has then s.consume port p else s
      if ordOf p = 3 ∨ (p.typ = tPOOL_ATOM ∧ (atomBytes ((p.word 0).field 63 56)).isNone) then
        ((s.spend port p).bump .rgnErr [p.ctx] 31 16).nackPool port p stBADDESC
      else if !rangeOk x p then ((s.spend port p).bump .rgnErr [p.ctx] 31 16).nackPool port p stRANGE
      else
        let id := s.nextId
        let stack := x.stackOf p.ctx (homeOff x p / pageBytes)
        let earlier := (s.mp.reqs.filter fun q => q.region == p.ctx && q.pkt.src == p.src && q.port / 96 == die).map PReq.id
        let opens := ordered && !has
        let q : PReq :=
          { id := id, port := port, pkt := p, region := p.ctx, stack := stack, stream := ordered, sent := false, served := false, tagF := 0,
            behind := (if fenceLike p then earlier else []) ++ (if opens then [id] else []), dups := [], head := head }
        let s := { s with nextId := id + 1, mp := { s.mp with
          reqs := s.mp.reqs ++ [q]
          streams := if opens then s.mp.streams ++ [{ die := die, src := p.src, region := p.ctx, expected := (p.seq + 1) % 2 ^ 32, at_ := s.local }] else s.mp.streams } }
        if ordered then releaseStream die p.src p.ctx s.mp.reqs.length s else s.releaseReq q

/-- A pool packet at its ingress port die (R200). -/
def poolRow (typ port : Nat) (f : Frame) (s : State) : State :=
  match s.serviceRx port f typ with
  | .done t => t
  | .pass p t => t.poolArrive port p ((frameBytes f).take 128)

/-- POOL_RD (R103, R200). -/
def bodyPoolRd (port : Nat) (f : Frame) (s : State) : State := poolRow tPOOL_RD port f s
def execPoolRd (port : Nat) (f : Frame) (s : State) : Out := commit s (bodyPoolRd port f s)

/-- POOL_WR (R104, R200). -/
def bodyPoolWr (port : Nat) (f : Frame) (s : State) : State := poolRow tPOOL_WR port f s
def execPoolWr (port : Nat) (f : Frame) (s : State) : Out := commit s (bodyPoolWr port f s)

/-- POOL_ATOM (R104, R200). -/
def bodyPoolAtom (port : Nat) (f : Frame) (s : State) : State := poolRow tPOOL_ATOM port f s
def execPoolAtom (port : Nat) (f : Frame) (s : State) : Out := commit s (bodyPoolAtom port f s)

/-- POOL_FENCE (R106, R107, R200). -/
def bodyPoolFence (port : Nat) (f : Frame) (s : State) : State := poolRow tPOOL_FENCE port f s
def execPoolFence (port : Nat) (f : Frame) (s : State) : Out := commit s (bodyPoolFence port f s)

/-- The new value of an atomic operation (R203). -/
def atomNew (aop old operand compare : Nat) : Nat :=
  let w := if [1, 3, 6, 8].contains aop then 32 else 64
  let a := operand % 2 ^ w
  let lt (x y : Nat) : Bool := decide (toSigned w x < toSigned w y)
  if aop = 1 ∨ aop = 2 then (old + a) % 2 ^ w
  else if aop = 3 ∨ aop = 4 then a
  else if aop = 5 then (if old = compare then a else old)
  else if aop = 6 ∨ aop = 7 then (if lt a old then a else old)
  else (if lt old a then a else old)

/-- A POOL_RSP to a request (R202, R203). -/
def State.poolRsp (s : State) (q : PReq) (payload : List Byte) : State :=
  s.originate (q.port / 96) ((answerHdr q.pkt tPOOL_RSP s.keys.svcEp).packet payload)

/-- The answers an access gets when it is performed, with its duplicates' (R107 rule 4, R208). -/
def State.answerReq (s : State) (q : PReq) (old : List Byte) : State :=
  let p := q.pkt
  let ack (s : State) (d : Nat × Packet) : State := s.originate (d.1 / 96) (ackOf d.2 s.keys.svcEp stOK)
  let s :=
    if p.typ = tPOOL_RD ∧ rdlen p ≠ 0 then s.poolRsp q old
    else if p.typ = tPOOL_ATOM then s.poolRsp q (List.replicate (8 - old.length) 0 ++ old)
    else if p.typ = tPOOL_WR then (if p.ackReq then ack s (q.port, p) else s)
    else ack s (q.port, p)
  q.dups.foldl ack s

/-- The region a gather context reads (R219). -/
def gatherRegion (c : Ctx) : Nat := dfield c.fix.desc 12 63 48

/-- Add 1 to a gather counter of the context, while the request's generation is the current one (R231). -/
def State.gthCount (s : State) (ctx gen : Nat) (r : Reg) (hi lo : Nat) (n : Nat := 1) : State :=
  match s.ctx? ctx with
  | some c => if c.gen = gen then s.ctxCount r ctx hi lo n else s
  | none => s

/-- The offset and length of the line that an access performs next; nothing for a length of 0 (R204). -/
def PReq.part (q : PReq) : Nat × Nat :=
  let n := accessLen q.pkt
  let lo := if q.next = 0 then q.pkt.offset else (q.pkt.offset / 64 + q.next) * 64
  (lo, min (q.pkt.offset + n) ((lo / 64 + 1) * 64) - lo)

/-- The bytes that an access leaves in its next line, `old` before it; none where it only reads (R202, R203). -/
def PReq.writes? (q : PReq) (old : List Byte) : Option (List Byte) :=
  let c := q.part
  if q.pkt.typ = tPOOL_WR then some ((q.pkt.payload.drop (c.1 - q.pkt.offset)).take c.2)
  else if q.pkt.typ = tPOOL_ATOM then
    some (natBytes c.2 (atomNew ((q.pkt.word 0).field 63 56) (beNat old) (q.pkt.word 1).toNat (q.pkt.word 2).toNat))
  else none

/-- The gather line reads that a write raced count in their contexts, one for each (R229). -/
def State.countGathers (s : State) (met : List Track) : State :=
  (met.filter fun o => o.gctx != 0).foldl (fun (s : State) o => s.gthCount o.gctx o.ggen .ctxLate 63 32) s

/-- The next line of an access is performed, as one atomic access to the line (R204): its bytes, and the tracker's counts (R212, R213, R229). -/
def State.performLine (s : State) (q : PReq) (x : Region) (tie : Bool) : PReq × State :=
  let c := q.part
  let old := s.readRgn q.region x c.1 c.2
  let a := x.phys q.region c.1
  let s := match q.writes? old with
    | some bs => (s.writeRgn q.region x c.1 bs).cleanLines ((a + 63) / 64) ((a + c.2) / 64)
    | none => s
  let r := s.track (hubOfStack q.stack) ⟨q.region, c.1 / 64, c.1 % 64, c.1 % 64 + c.2, q.pkt.src, (q.writes? old).isSome, s.local, 0, 0⟩
  let hit := !r.1.isEmpty
  let s := r.2.countGathers r.1
  let s := if hit && !q.raced then s.rgnCount q.region .rgnBchoice else if tie && !hit then s.rgnCount q.region .rgnTchoice else s
  ({ q with next := q.next + 1, got := q.got ++ old, raced := q.raced || hit }, s)

/-- An access has been performed: its count, its mirror record (R330), its answer, and the stream's next access (R202, R206). -/
def State.finishReq (s : State) (q : PReq) (x : Region) : State :=
  let s := s.rgnCount q.region .rgnAcc
  let s := s.mirrorAt (8 + hubOfStack q.stack) ⟨3, 9, q.port, 0, q.pkt.cls, q.pkt.ctx, true, 0, 0, (x.base + q.pkt.offset) / 64, q.head⟩
  let s := { s with mp := { s.mp with reqs := s.mp.reqs.filter fun y => y.id != q.id } }
  let s := s.answerReq q q.got
  if q.stream then releaseStream (q.port / 96) q.pkt.src q.region s.mp.reqs.length s else s

/-- An access is performed, one line for each event (R202 to R204). -/
def State.performReq (s : State) (q : PReq) (x : Region) (tie : Bool) : State :=
  if accessLen q.pkt = 0 then s.finishReq q x
  else
    let r := s.performLine q x tie
    if r.1.next < linesOf q.pkt.offset (accessLen q.pkt) then
      { r.2 with mp := { r.2.mp with reqs := r.2.mp.reqs.map fun y => if y.id == q.id then r.1 else y } }
    else r.2.finishReq r.1 x

/-- Two accesses of a region touch one line. -/
def shareLine (p q : Packet) : Bool :=
  let n := accessLen p
  let m := accessLen q
  n != 0 && m != 0 && decide (p.offset / 64 ≤ (q.offset + m - 1) / 64) && decide (q.offset / 64 ≤ (p.offset + n - 1) / 64)

/-- `r` comes before `q` from the same source: on the same stream, or at a line of both that it reached first, by its place in the
arbiter of its stack (R205, R206). -/
def PReq.before (r q : PReq) : Bool :=
  r.id != q.id && r.region == q.region && r.pkt.src == q.pkt.src
    && ((r.stream && q.stream && r.port / 96 == q.port / 96 && decide (r.id < q.id))
      || (r.sent && q.sent && decide (r.tagF < q.tagF) && shareLine r.pkt q.pkt))

/-- A gather line of the same source that came to a line of the access before it, and is still to be read (R205, R228). -/
def State.gatherAhead (s : State) (q : PReq) : Bool :=
  let n := accessLen q.pkt
  n != 0 && s.mp.greqs.any fun g =>
    g.pkt.src == q.pkt.src && (match s.ctx? g.ctx with | some c => gatherRegion c == q.region | none => false)
      && g.lines.any fun l => l.data.isNone && l.bad.isNone && decide (l.tagF < q.tagF)
        && decide (q.pkt.offset / 64 ≤ l.off / 64) && decide (l.off / 64 ≤ (q.pkt.offset + n - 1) / 64)

/-- An access waits: a fence for every earlier access of its source (R106), and any access for those before it on its stream and its
lines (R205, R206). -/
def State.reqWaits (s : State) (q : PReq) : Bool :=
  (q.behind.any fun b => b != q.id && s.mp.reqs.any fun r => r.id == b) || s.mp.reqs.any (fun r => r.before q) || s.gatherAhead q

/-- What an access reads of its stack before its next line: for a POOL_WR, with its first line, every line that it covers in part (R214). -/
def State.readFirst (s : State) (q : PReq) (x : Region) (m : MemResult) : State :=
  let n := accessLen q.pkt
  let c := q.part
  if q.pkt.typ = tPOOL_WR then
    if q.next = 0 ∧ n ≠ 0 then
      s.linesReport q.stack (x.phys q.region q.pkt.offset) (x.faultAddr q.pkt.offset) (partLines (x.phys q.region q.pkt.offset) n) m
    else s
  else s.memReport q.stack (x.phys q.region c.1) c.2 (x.faultAddr c.1) m

/-- POOL_ACCESS_PERFORM: a request its stack has chosen, and that no earlier access of its source holds up, performs its next line at its
home hub die, and is answered with the last. Steps 5 to 7 of Table 8.4 hold it to the state that its first line meets, and a read to the
poison of every line (R106, R200, R202, R204 to R206, R214; log entry 106). -/
def bodyPoolAccessPerform (id : Nat) (m : MemResult) (tie : Bool) (s : State) : State :=
  match s.mp.reqs.find? fun q => q.id == id with
  | none => s
  | some q =>
    match s.region? q.region with
    | none => s
    | some x =>
      let next (t : State) : State := if q.stream then releaseStream (q.port / 96) q.pkt.src q.region t.mp.reqs.length t else t
      if !q.served || s.reqWaits q then s
      else
        match (if q.next = 0 then s.homeRefuses q x else none) with
        | some st => next (s.refuseHome q st)
        | none =>
          let s := s.readFirst q x m
          let a := x.phys q.region q.part.1
          let bad := if q.next = 0 then s.meetsPoison q.pkt (x.phys q.region q.pkt.offset) (accessLen q.pkt)
            else q.pkt.typ != tPOOL_WR && s.poisonedAt a q.part.2
          if bad then next (s.refuseHome q stPOISON) else s.performReq q x tie

def execPoolAccessPerform (id : Nat) (m : MemResult) (tie : Bool) (s : State) : Out :=
  commitMem s fun t => t.unlessSafe (bodyPoolAccessPerform id m tie)

/-- ORDERED_STREAM_EXPIRE: twice the largest age limit has passed without an access of the pair (R206). -/
def bodyOrderedStreamExpire (die src region : Nat) (s : State) : State :=
  match s.stream? die src region with
  | some t =>
    if s.twiceAgePassed t.at_ ∧ s.mp.reqs.all (fun q => !(q.stream && q.port / 96 == die && q.pkt.src == src && q.region == region))
    then { s with mp := { s.mp with streams := s.mp.streams.filter fun u => u != t } }
    else s
  | none => s

def execOrderedStreamExpire (die src region : Nat) (s : State) : Out := commit s (s.unlessSafe (bodyOrderedStreamExpire die src region))

/-! ### The stack's arbiter -/

/-- What waits for a stack: pool requests sent to it and gather lines, as (tag, job, entry order, is a line, number). -/
structure Waiting where
  tagF : Nat
  job  : Nat
  id   : Nat
  line : Option Nat
  deriving DecidableEq, Repr

/-- One item goes before another: smaller tag, lower job, earlier entry (R352). -/
def Waiting.before (a b : Waiting) : Bool :=
  decide (a.tagF < b.tagF) || (a.tagF == b.tagF && (decide (a.job < b.job) || (a.job == b.job && decide (a.id < b.id))))

/-- The items waiting for a stack. -/
def State.waitingOn (s : State) (k : Nat) : List Waiting :=
  let pool := (s.mp.reqs.filter fun q => q.sent && !q.served && q.stack == k).map fun q =>
    (⟨q.tagF, (match s.region? q.region with | some x => x.job | none => 0), q.id, none⟩ : Waiting)
  let lines := s.mp.greqs.flatMap fun g =>
    match s.ctx? g.ctx with
    | none => []
    | some c =>
      match s.region? (gatherRegion c) with
      | none => []
      | some x =>
        ((List.range g.lines.length).filter fun i =>
            match g.lines[i]? with
            | some l => l.data.isNone && !l.served && l.bad.isNone && x.stackOf (gatherRegion c) (l.off / pageBytes) == k
            | none => false).map fun i =>
          (⟨(match g.lines[i]? with | some l => l.tagF | none => 0), x.job, g.id, some i⟩ : Waiting)
  pool ++ lines

/-- R496 at a stack's arbiter: V, every Fj and every waiting tag lose 2^61 when V reaches 2^62. -/
def State.rebaseStack (s : State) (k : Nat) : State :=
  let x := s.stack k
  if x.arb.v < 2 ^ 62 then s
  else
    let cut (n : Nat) : Nat := n - 2 ^ 61
    let rgn (g : GReq) : Nat := match s.ctx? g.ctx with | some c => gatherRegion c | none => 0
    let on (g : GReq) (l : GLine) : Bool :=
      match s.region? (rgn g) with | some y => y.stackOf (rgn g) (l.off / pageBytes) == k | none => false
    let s := s.setStack k { x with arb := x.arb.rebased }
    let cutReq (q : PReq) : PReq := if q.stack == k then { q with tagF := cut q.tagF } else q
    let cutLine (g : GReq) (l : GLine) : GLine := if on g l then { l with tagF := cut l.tagF } else l
    let s := { s with mp := { s.mp with
      reqs := s.mp.reqs.map cutReq, greqs := s.mp.greqs.map fun (g : GReq) => { g with lines := g.lines.map (cutLine g) } } }
    s.bumpMod .admRebase [] 63 32

/-- STACK_SERVE: the stack's controller takes the foreground item with the smallest finish tag, unless a recalibration that
pre-empted still runs; lower ranks wait for foreground work (R352, R354, R425, R426). -/
def bodyStackServe (k : Nat) (s : State) : State :=
  let x := s.stack k
  if !s.stackOpen k then s
  else
    match (s.waitingOn k).foldl (fun (b : Option Waiting) w => match b with
        | none => some w
        | some v => if w.before v then some w else some v) none with
    | none => s
    | some w =>
      let s := (s.setStack k { x with arb := { x.arb with v := w.tagF } }).useStack k
      let s := match w.line with
        | none =>
          let mark (q : PReq) : PReq := if q.id == w.id then { q with served := true } else q
          { s with mp := { s.mp with reqs := s.mp.reqs.map mark } }
        | some i =>
          let mark (g : GReq) : GReq :=
            if g.id == w.id then { g with lines := modNth (fun (l : GLine) => { l with served := true }) g.lines i } else g
          { s with mp := { s.mp with greqs := s.mp.greqs.map mark } }
      s.rebaseStack k

def execStackServe (k : Nat) (s : State) : Out := commit s (s.unlessSafe (bodyStackServe k))

end Sys2Proof.Machine
end

