-- ==== Sys2Proof/Machine/Regions.lean ====
section
/-!
DEFINITION. Region operations (R189 to R199, R217): the checks of Table 8.3, pages and pool addresses, DRAINING and QUARANTINE,
and the zeroing of released pages.
-/

namespace Sys2Proof.Machine

/-! ### The words of an operation (Table 8.2) -/

namespace RegOp

variable (o : RegOp)

def rop : Nat := o.d0 / 2 ^ 56
def region : Nat := o.d0 / 2 ^ 40 % 2 ^ 16
def key : Nat := o.d0 / 2 ^ 24 % 2 ^ 16
def newKey : Nat := o.d0 / 2 ^ 8 % 2 ^ 16
def perm : Nat := if o.d0 / 2 ^ 5 % 8 = 0 then 7 else o.d0 / 2 ^ 5 % 8
def orddef : Nat := o.d0 / 2 ^ 4 % 2
def size : Nat := o.d1 / 2 ^ 32 * 4096

/-- The stacks selected, ascending; 0 selects all sixteen. -/
def stackSet : List Nat :=
  let m := o.d1 / 2 ^ 16 % 2 ^ 16
  (List.range 16).filter fun k => m == 0 || m / 2 ^ k % 2 == 1

/-- Step 1 of Table 8.3, but for a GROW's comparison with the current SIZE. -/
def fieldsOk : Bool :=
  decide (1 ≤ o.rop) && decide (o.rop ≤ 4) && decide (o.region ≤ 4096) && (o.rop == 1 || o.region != 0)
    && (o.rop == 2 || o.rop == 3 || o.size != 0)

end RegOp

/-! ### Pages and pool addresses -/

/-- The pool address ranges of the regions that are not FREE, as first and last + 1, but for region `r`'s (R190). -/
def State.poolRanges (s : State) (r : Nat) : List (Nat × Nat) :=
  (s.mp.regions.filter fun e => e.1 != r).map fun e => (e.2.base, e.2.base + pagesFor e.2.size * pageBytes)

/-- [b, b + len) lies in free pool address space, which ends at 2^41 (R190). -/
def rangeFree (taken : List (Nat × Nat)) (len b : Nat) : Bool :=
  decide (b + len ≤ 2 ^ 41) && taken.all fun t => decide (b + len ≤ t.1) || decide (t.2 ≤ b)

/-- The lowest place for a range: 0 or the end of another range (R190). -/
def lowestBase (taken : List (Nat × Nat)) (len : Nat) : Option Nat :=
  (sortNat (0 :: taken.map Prod.snd)).find? (rangeFree taken len)

/-- Pages `k` to `k + n - 1` of region `r` that fall on stack `t` (R192). -/
def pagesOn (stackSet : List Nat) (r k n t : Nat) : Nat :=
  let m := max stackSet.length 1
  ((List.range n).filter fun i => nth stackSet ((k + i + r % m) % m) == t).length

/-- The stacks hold enough free pages (Table 8.3 step 6). -/
def State.pagesOk (s : State) (stackSet : List Nat) (r k n : Nat) : Bool :=
  stackSet.all fun t => decide (pagesOn stackSet r k n t ≤ (s.pool (16 + t)).freeCount)

/-- Pages `k` to `k + n - 1` of region `r` taken from the buffer pool manager (R192, R324). -/
def State.takePages (s : State) (stackSet : List Nat) (r k n : Nat) : List Nat × State :=
  let m := max stackSet.length 1
  (List.range n).foldl (fun (a : List Nat × State) i =>
    let p := 16 + nth stackSet ((k + i + r % m) % m)
    match (a.2.pool p).alloc p r with
    | some (b, q) => (a.1 ++ [b], a.2.setPool p q)
    | none => a) ([], s)

/-- The FREE region number that has been FREE longest: the lowest never used, then the first freed (R195). -/
def State.nextRegion (s : State) : Option Nat :=
  let g := firstGap (sortNat (s.mp.regions.keys ++ s.mp.freed)) 1
  if g ≤ 4096 then some g else s.mp.freed.head?

/-! ### The operations -/

/-- CREATE steps 2 and 6 and its effect: the region's number and the state with it LIVE, or the status that refuses it (R190 to
R192, R216). -/
def State.createRegion (s : State) (o : RegOp) : Except Nat (Nat × State) :=
  match if o.region = 0 then s.nextRegion else if (s.region? o.region).isSome then none else some o.region with
  | none => .error stNOSPACE
  | some r =>
    let n := pagesFor o.size
    match lowestBase (s.poolRanges r) (n * pageBytes) with
    | none => .error stNOSPACE
    | some b =>
      if s.pagesOk o.stackSet r 0 n then
        let t := s.takePages o.stackSet r 0 n
        let x : Region := { job := o.job, key := o.key, perm := o.perm, orddef := o.orddef, size := o.size, stackSet := o.stackSet,
                            base := b, pages := t.1, since := s.local }
        let s := t.2.setRegion r x
        let s := { s with mp := { s.mp with freed := s.mp.freed.filter fun f => f != r } }
        .ok (r, [Reg.rgnBchoice, .rgnTchoice, .rgnAcc, .rgnErr].foldl (fun (s : State) g => s.setReg g [r] 0) s)
      else .error stNOSPACE

/-- A context that is not FREE references the region (Table 8.3 step 5). -/
def State.regionUsed (s : State) (r : Nat) : Bool :=
  s.svc.ctxs.any fun e =>
    (e.2.fix.kind == 2 && dfield e.2.fix.desc 13 63 48 == r) || (e.2.fix.kind == 3 && dfield e.2.fix.desc 12 63 48 == r)

/-- Steps 2 to 5 of Table 8.3 for DELETE, REKEY and GROW; management skips steps 3 and 4 (R194). -/
def State.regionChecks (s : State) (o : RegOp) : Except Nat Region :=
  match s.liveRegion o.region with
  | none => .error stRANGE
  | some x =>
    if o.rop = 4 ∧ o.size ≤ x.size then .error stBADDESC
    else if o.from_.isSome ∧ o.job ≠ x.job then .error stNOT_MY_JOB
    else if o.from_.isSome ∧ o.key ≠ x.key then .error stKEY_FAIL
    else if o.rop ≠ 3 ∧ o.region = s.mp.mirrorRgn then .error stBADDESC
    else if o.rop ≠ 3 ∧ s.regionUsed o.region then .error stRETRY
    else .ok x

/-- GROW step 6 and its effect: pages appended, BASE kept where the addresses are free, else the lowest place; the region's own
range counts as free (R190, R198; log entry 47). -/
def State.growRegion (s : State) (o : RegOp) (x : Region) : Except Nat State :=
  let r := o.region
  let k := x.pages.length
  let n := pagesFor o.size - k
  let len := pagesFor o.size * pageBytes
  let taken := s.poolRanges r
  match if rangeFree taken len x.base then some x.base else lowestBase taken len with
  | none => .error stNOSPACE
  | some b =>
    if s.pagesOk x.stackSet r k n then
      let t := s.takePages x.stackSet r k n
      .ok (t.2.setRegion r { x with base := b, size := o.size, pages := x.pages ++ t.1 })
    else .error stNOSPACE

/-- The answer to an operation: a SETUP_ACK to its sender and to the repeats that waited, or the command registers (R196, R217). -/
def State.answerRegion (s : State) (from_ : Option (Nat × Packet)) (region status : Nat) : State :=
  match from_ with
  | none =>
    { s with mp := { s.mp with cmdBusy := false, cmdStatus := status, cmdRegion := region, cmdSeq := (s.mp.cmdSeq + 1) % 2 ^ 32 } }
  | some (_, p) =>
    let id := (p.word 0).field 55 40
    let mine (a : RegAnswer) : Bool := a.src == p.src && a.setupId == id && a.status.isNone
    let waiting := (s.mp.answers.filter mine).flatMap fun a => a.repeats.map Prod.snd
    let settle (a : RegAnswer) : RegAnswer :=
      if mine a then { a with status := some status, region := region, at_ := s.local, repeats := [] } else a
    let s := { s with mp := { s.mp with answers := s.mp.answers.map settle } }
    (p :: waiting).foldl (fun (s : State) q => s.ackSetup q id status region 0 0 0) s

/-- Temond takes the operations one at a time in order; a DELETE runs until its region enters QUARANTINE (R196, R197). -/
def State.nextOp (s : State) : Option RegOp :=
  if s.svc.holding || s.mp.regions.any fun e => e.2.state == .draining then none else s.mp.ops.head?

/-- The operation at the head of the queue is taken and answered. -/
def State.endOp (s : State) (o : RegOp) (region status : Nat) : State :=
  ({ s with mp := { s.mp with ops := s.mp.ops.drop 1 } } : State).answerRegion o.from_ region status

/-- REGION_CREATE (R189 to R197); an operation with a ROP outside Table 8.2 is refused here. -/
def bodyRegionCreate (s : State) : State :=
  match s.nextOp with
  | none => s
  | some o =>
    if 2 ≤ o.rop ∧ o.rop ≤ 4 then s
    else if !o.fieldsOk then s.endOp o o.region stBADDESC
    else
      match s.createRegion o with
      | .error e => s.endOp o o.region e
      | .ok (r, t) => t.endOp o r stOK

def execRegionCreate (s : State) : Out := commit s (s.unlessSafe (bodyRegionCreate))

/-- An operation other than CREATE: refused at the first check that fails, else `act` on its region. -/
def State.regionRow (s : State) (rop : Nat) (act : RegOp → Region → State → State) : State :=
  match s.nextOp with
  | none => s
  | some o =>
    if o.rop ≠ rop then s
    else if !o.fieldsOk then s.endOp o o.region stBADDESC
    else
      match s.regionChecks o with
      | .error e => s.endOp o o.region e
      | .ok x => act o x s

/-- REGION_DELETE: the steering entries go and the region drains; the answer waits for QUARANTINE (R191, R196). -/
def bodyRegionDelete (s : State) : State :=
  s.regionRow 2 fun o x s =>
    let s := { s with mp := { s.mp with ops := s.mp.ops.drop 1 } }
    s.setRegion o.region { x with state := .draining, since := s.local, answer := some o.from_ }

def execRegionDelete (s : State) : Out := commit s (s.unlessSafe (bodyRegionDelete))

/-- REGION_REKEY: only the key that pool packets must carry changes (R198). -/
def bodyRegionRekey (s : State) : State :=
  s.regionRow 3 fun o x s => (s.setRegion o.region { x with key := o.newKey }).endOp o o.region stOK

def execRegionRekey (s : State) : Out := commit s (s.unlessSafe (bodyRegionRekey))

/-- REGION_GROW (R190, R198). -/
def bodyRegionGrow (s : State) : State :=
  s.regionRow 4 fun o x s =>
    match s.growRegion o x with
    | .error e => s.endOp o o.region e
    | .ok t => t.endOp o o.region stOK

def execRegionGrow (s : State) : Out := commit s (s.unlessSafe (bodyRegionGrow))

/-- A region's pages go to the zeroing lists of their stacks; their buffers stay out of the free pools (R193). -/
def State.dropPages (s : State) (r : Nat) (x : Region) : State :=
  (List.range x.pages.length).foldl (fun (s : State) k =>
    let t := x.stackOf r k
    s.setStack t { s.stack t with zeroing := (s.stack t).zeroing ++ [nth x.pages k] }) s

/-- REGION_DRAIN_END: no access to the region remains past its steering lookup; streams close, pages are released, and the DELETE
is answered (R191, R196, R199). -/
def bodyRegionDrainEnd (r : Nat) (s : State) : State :=
  match s.region? r with
  | none => s
  | some x =>
    if x.state = .draining ∧ s.mp.reqs.all (fun q => q.region != r) then
      let s := s.dropPages r x
      let s := { s with mp := { s.mp with streams := s.mp.streams.filter fun t => t.region != r } }
      let s := s.setRegion r { x with state := .quarantine, since := s.local, pages := [], answer := none }
      match x.answer with
      | some f => s.answerRegion f r stOK
      | none => s
    else s

def execRegionDrainEnd (r : Nat) (s : State) : Out := commit s (s.unlessSafe (bodyRegionDrainEnd r))

/-- REGION_QUARANTINE_END: twice the largest age limit after entry the number is FREE (R191). -/
def bodyRegionQuarantineEnd (r : Nat) (s : State) : State :=
  match s.region? r with
  | none => s
  | some x =>
    if x.state = .quarantine ∧ s.twiceAgePassed x.since then
      { s with mp := { s.mp with regions := s.mp.regions.erase r, freed := s.mp.freed ++ [r] } }
    else s

def execRegionQuarantineEnd (r : Nat) (s : State) : Out := commit s (s.unlessSafe (bodyRegionQuarantineEnd r))

/-- The owner that holds buffer `i` of pool `p`. -/
def State.ownerOf (s : State) (p i : Nat) : Nat :=
  match (s.pool p).bufs.find? i with
  | some (.held o) => o
  | _ => 0

/-- PAGE_ZERO_DONE: a released page has been zeroed and returns to its stack's free pool (R193). -/
def bodyPageZeroDone (stack page : Nat) (s : State) : State :=
  let x := s.stack stack
  if x.zeroing.contains page && s.stackOpen stack then
    let s := (s.setStack stack { x with zeroing := x.zeroing.erase page }).useStack stack
    let a := (stack * stackPages + page) * pageBytes
    let s := (s.memOp (.clear a pageBytes)).cleanLines (a / 64) ((a + pageBytes) / 64)
    s.bpmRelease (16 + stack) page (s.ownerOf (16 + stack) page) 0
  else s

def execPageZeroDone (stack page : Nat) (s : State) : Out := commitMem s fun t => t.unlessSafe (bodyPageZeroDone stack page)

end Sys2Proof.Machine
end

