-- ==== Sys2Proof/Machine/Gather.lean ====
section
/-!
DEFINITION. The gather service (chapter 9): the checks of Table 9.2, line reads, the plain response and the reduction.
-/

namespace Sys2Proof.Machine

/-! ### Requests -/

/-- FUNC, W2[31:29] (R108). -/
def gfunc (p : Packet) : Nat := p.rank / 2048

/-- Row indices of a request (R108). -/
def gindices (p : Packet) : List Nat := (pieces 4 p.payload).map beNat

/-- Offset of row `k`'s first byte (chapter 9). -/
def rowOff (d : List Byte) (p : Packet) (i : Nat) : Nat := p.offset + i * strideOf d

/-- A GATHER_RSP packet (R109, R222). -/
def State.gatherRsp (s : State) (die : Nat) (p : Packet) (off : Nat) (last : Bool) (bytes : List Byte) : State :=
  s.originate die (({ answerHdr p tGATHER_RSP s.keys.svcEp with cls := 2, fmt := p.fmt, last := last, offset := off } : Hdr).packet bytes)

/-- Payload bytes of every packet but the last: whole output units in 4,096 bytes (R109). -/
def gatherPiece (fmt : Nat) : Nat :=
  match Fmt.ofCode fmt with
  | some f => 4096 / f.unitBytes * f.unitBytes
  | none => 4096

/-- The response bytes from `off` on, in packets; the last has LAST set (R109). The fuel is the number of packets. -/
def State.sendGather (die : Nat) (p : Packet) (piece : Nat) : Nat → Nat → List Byte → State → State
  | 0, _, _, s => s
  | k + 1, off, bs, s =>
    let last := decide (bs.length ≤ piece)
    let s := s.gatherRsp die p off last (bs.take piece)
    if last then s else State.sendGather die p piece k (off + piece) (bs.drop piece) s

/-- The line reads of one row (R223): each 64-byte line the row touches. -/
def rowLines (row off len : Nat) : List GLine :=
  (List.range (linesOf off len)).map fun i =>
    let l := off / 64 * 64 + 64 * i
    let lo := if i = 0 then off % 64 else 0
    let hi := if l + 64 ≤ off + len then 64 else off + len - l
    { row := row, off := l, lo := lo, len := hi - lo, data := none, tagF := 0, served := false }

/-- Checks 8 and 9 of Table 9.2 on a line: the status of the first that fails. -/
def State.lineRefuses (s : State) (r : Nat) (x : Region) (l : GLine) : Option Nat :=
  if (s.stack (x.stackOf r (l.off / pageBytes))).retrain then some stRETRY
  else if s.touchesOpenSpan r (l.off + l.lo) l.len then some stRETRY
  else if s.linePoisoned (x.phys r l.off / 64) then some stPOISON
  else none

/-- The line reads that pass checks 8 and 9 enter the arbiters of their stacks, one line each; the others end the request when their turn
comes (R222, R354). -/
def State.enterLines (s : State) (r : Nat) (x : Region) (ls : List GLine) : List GLine × State :=
  ls.foldl (fun (a : List GLine × State) l =>
    match s.lineRefuses r x l with
    | some st => (a.1 ++ [({ l with bad := some st } : GLine)], a.2)
    | none =>
      let e := a.2.enterStack (x.stackOf r (l.off / pageBytes)) x.job 1
      (a.1 ++ [({ l with tagF := e.1 } : GLine)], e.2)) ([], s)

/-- Check 5 of Table 9.2: the status of its failure. -/
def gatherFmtBad (tiles : Nat) (d : List Byte) (p : Packet) : Option Nat :=
  let fin := dfield d 0 51 46
  if gfunc p = 0 then (if p.fmt = fin ∨ p.fmt = 0 then none else some stUNSUPPORTED_FMT)
  else if fin = 0 ∨ p.fmt = 0 then some stUNSUPPORTED_FMT
  else
    match Fmt.ofCode p.fmt with
    | none => some stUNSUPPORTED_FMT
    | some f => if !f.output then some stUNSUPPORTED_FMT else if tiles = 0 then some stNOSPACE else none

/-- Every row lies below SIZE (Table 9.2 check 6). -/
def rowsInside (d : List Byte) (p : Packet) (size : Nat) : Bool :=
  (gindices p).all fun i => decide (rowOff d p i + rowBytes d ≤ size)

/-- The hub die that assembles a plain response of a port die (R224), as a die number. -/
def gatherHub (port : Nat) : Nat := 8 + port / 96 % 4

/-- Checks 4 to 7 of Table 9.2, and the request's entry and line reads. -/
def State.gatherTake (s : State) (port : Nat) (p : Packet) (c : Ctx) : State :=
  let d := c.fix.desc
  let refuse (status : Nat) : State := (s.gthCount p.ctx p.gen .ctxDrop 63 48).nackAt port p status
  if 4 < gfunc p then refuse stBADDESC
  else
    match gatherFmtBad s.cfg.gatherTiles d p with
    | some st => refuse st
    | none =>
      if p.len = 0 then (s.gatherRsp (gatherHub port) p 0 true []).gthCount p.ctx p.gen .ctxRx 63 0
      else
        match s.liveRegion (gatherRegion c) with
        | none => refuse stRANGE
        | some x =>
          if !rowsInside d p x.size then refuse stRANGE
          else if 256 ≤ (s.mp.greqs.filter fun g => g.port / 96 == port / 96).length then
            (s.gthCount p.ctx p.gen .ctxDrop 47 32).nackAt port p stRETRY
          else
            let idx := gindices p
            let lines := (List.range idx.length).flatMap fun k => rowLines k (rowOff d p (nth idx k)) (rowBytes d)
            let e := s.enterLines (gatherRegion c) x lines
            let s := e.2
            let g : GReq := ⟨s.nextId, port, p.ctx, p, e.1, 0, [], s.mp.gtile⟩
            { s with nextId := s.nextId + 1, mp := { s.mp with greqs := s.mp.greqs ++ [g], gtile := s.mp.gtile + 1 } }

/-- GATHER_REQ (R108, R222, R223). Reduced requests meet a held partition with NACK RETRY (R276). -/
def bodyGatherReq (port : Nat) (f : Frame) (s : State) : State :=
  match s.serviceRx port f tGATHER_REQ with
  | .done t => t
  | .pass p t =>
    match t.ctx? p.ctx with
    | none => t
    | some c =>
      if c.fix.kind ≠ 3 then (t.ctxCount .ctxDrop p.ctx 15 0).nackAt port p stBADDESC
      else if c.steer = .held ∧ gfunc p ≠ 0 then (t.ctxCount .ctxDrop p.ctx 47 32).nackAt port p stRETRY
      else if t.beforeStart c ∨ !c.runs then t.ctxCount .ctxDrop p.ctx 15 0
      else t.gatherTake port p c

def execGatherReq (port : Nat) (f : Frame) (s : State) : Out := commit s (bodyGatherReq port f s)

/-! ### Line reads -/

def State.greq? (s : State) (id : Nat) : Option GReq := s.mp.greqs.find? fun g => g.id == id

def State.dropGreq (s : State) (id : Nat) : State := { s with mp := { s.mp with greqs := s.mp.greqs.filter fun g => g.id != id } }

def State.setGreq (s : State) (g : GReq) : State :=
  { s with mp := { s.mp with greqs := s.mp.greqs.map fun x => if x.id == g.id then g else x } }

/-- A request ends with the NACK of check 8 or 9, sent after the packets already sent (R222). -/
def State.gatherFail (s : State) (g : GReq) (status hi lo : Nat) : State :=
  ((s.dropGreq g.id).gthCount g.ctx g.pkt.gen .ctxDrop hi lo).nackFrom (gatherHub g.port) g.port g.pkt status

/-- The refusal of a line by checks 8 and 9, counted in its field of SVC_GTH_ERR. -/
def State.lineFail (s : State) (g : GReq) (status : Nat) : State :=
  if status = stPOISON then s.gatherFail g stPOISON 31 16 else s.gatherFail g status 47 32

/-- A pool access of the requester came to the line before its read, and is still to be performed there (R205, R228). -/
def State.writeAhead (s : State) (g : GReq) (r : Nat) (l : GLine) : Bool :=
  s.mp.reqs.any fun q =>
    let n := accessLen q.pkt
    q.sent && q.region == r && q.pkt.src == g.pkt.src && n != 0 && decide (q.tagF < l.tagF)
      && decide (q.pkt.offset / 64 + q.next ≤ l.off / 64) && decide (l.off / 64 ≤ (q.pkt.offset + n - 1) / 64)

/-- GATHER_LINE_READ: a line the stack has chosen, and that no earlier access of its source to it holds up, is read at its home, or refused by
checks 8 and 9 (R168, R205, R214, R215, R222, R228, R229). `ties` counts the same-cycle ties it met at hub dies. -/
def bodyGatherLineRead (id line : Nat) (m : MemResult) (ties : Nat) (s : State) : State :=
  match s.greq? id with
  | none => s
  | some g =>
    match s.ctx? g.ctx, g.lines[line]? with
    | some c, some l =>
      let r := gatherRegion c
      match s.region? r with
      | none => s
      | some x =>
        let k := x.stackOf r (l.off / pageBytes)
        match l.bad with
        | some st => s.lineFail g st
        | none =>
          if l.data.isSome || !l.served || s.writeAhead g r l then s
          else
            match s.lineRefuses r x l with
            | some st => s.lineFail g st
            | none =>
              let a := x.phys r l.off
              let s := s.memReport k a 64 (x.faultAddr l.off) m
              if s.linePoisoned (a / 64) then s.lineFail g stPOISON
              else
                let t := s.track (hubOfStack k) ⟨r, l.off / 64, l.lo, l.lo + l.len, g.pkt.src, false, s.local, g.ctx, g.pkt.gen⟩
                let s := t.2.gthCount g.ctx g.pkt.gen .ctxLate 31 0 ties
                let s := if t.1.isEmpty then s else ((s.rgnCount r .rgnBchoice).gthCount g.ctx g.pkt.gen .ctxLate 63 32).countGathers t.1
                let bytes := s.readRgn r x (l.off + l.lo) l.len
                s.setGreq { g with lines := modNth (fun (y : GLine) => { y with data := some bytes }) g.lines line }
    | _, _ => s

def execGatherLineRead (id line : Nat) (m : MemResult) (ties : Nat) (s : State) : Out :=
  commit s (s.unlessSafe (bodyGatherLineRead id line m ties))

/-! ### Responses -/

/-- Row `k`'s bytes, once every line of it is read. -/
def GReq.rowBytes? (g : GReq) (k : Nat) : Option (List Byte) :=
  let ls := g.lines.filter fun l => l.row == k
  if ls.all fun l => l.data.isSome then some (ls.flatMap fun l => l.data.getD []) else none

/-- The bytes of the leading rows that are wholly read (R222), up to `n` rows. -/
def GReq.ready (g : GReq) : Nat → Nat → List Byte
  | 0, _ => []
  | n + 1, k =>
    match g.rowBytes? k with
    | some b => b ++ g.ready n (k + 1)
    | none => []

/-- GATHER_PLAIN_RESPONSE: the packets of the response that lie wholly in the leading rows read so far are sent in order; the last one
frees the entry and counts SERVED (R222, R224, R225, R231). -/
def bodyGatherPlainResponse (id : Nat) (s : State) : State :=
  match s.greq? id with
  | none => s
  | some g =>
    match s.ctx? g.ctx with
    | none => s
    | some c =>
      if gfunc g.pkt ≠ 0 then s
      else
        let rows := (gindices g.pkt).length
        let bs := g.ready rows 0
        let piece := gatherPiece g.pkt.fmt
        if bs.length = rows * rowBytes c.fix.desc then
          let rest := bs.drop g.sent
          let s := State.sendGather (gatherHub g.port) g.pkt piece (rest.length / piece + 1) g.sent rest s
          (s.dropGreq id).gthCount g.ctx g.pkt.gen .ctxRx 63 0
        else
          let n := (bs.length - g.sent) / piece
          let s := (List.range n).foldl (fun (s : State) i =>
            s.gatherRsp (gatherHub g.port) g.pkt (g.sent + i * piece) false ((bs.drop (g.sent + i * piece)).take piece)) s
          s.setGreq { g with sent := g.sent + n * piece }

def execGatherPlainResponse (id : Nat) (s : State) : Out := commit s (s.unlessSafe (bodyGatherPlainResponse id))

/-! ### Reduction -/

/-- The FUNC of the request over rows of elements, in ascending row order, rounded once (R226). -/
def gatherReduce (d : List Byte) (func fmtOut : Nat) (rows : List (List Byte)) : Encoded :=
  match Fmt.ofCode (dfield d 0 51 46), Fmt.ofCode fmtOut with
  | some f, some g =>
    let xs := rows.map (decodePayload f)
    let n := match xs with | [] => 0 | r :: _ => r.length
    let dir := dfield d 2 37 35
    let strict := dfield d 2 34 34 == 1
    if func ≤ 2 then
      let w := (windowOf (wmodeOf d) (anchorOf d) f).getD .full
      let r := xs.foldl (fun (a : List Accum × Nat × Nat) row =>
        let z := List.zipWith (fun acc v => Accum.add w acc v) a.1 row
        (z.map Added.acc, a.2.1 + (z.map Added.sat).sum, a.2.2 + (z.map Added.flush).sum)) (List.replicate n Accum.zero, 0, 0)
      let e := encodePayload g dir strict (r.1.map fun a => a.value w (if func = 2 then rows.length else 1))
      ⟨e.bytes, e.sat + r.2.1, e.flush + r.2.2⟩
    else
      match xs with
      | [] => ⟨[], 0, 0⟩
      | r :: rs => encodePayload g dir strict (rs.foldl (fun a b => List.zipWith (XVal.pick (func == 4)) a b) r)
  | _, _ => ⟨[], 0, 0⟩

/-- Segments of 128 elements in the output row (R224). -/
def gatherSegs (d : List Byte) : Nat :=
  match Fmt.ofCode (dfield d 0 51 46) with
  | some f => ceilDiv (rowBytes d / f.unitBytes * f.unitElems) 128
  | none => 0

/-- Tiles of the gather partition that are not retired, by ascending y and then x. -/
def State.gatherTilesList (s : State) : List Nat :=
  let r := s.cfg.gatherRect
  ((List.range r.2.2.2).flatMap fun j => (List.range r.2.2.1).map fun i => 220 * (r.2.1 + j) + r.1 + i).filter
    fun t => !s.fab.retired.contains t

/-- GATHER_SEGMENT_REDUCE: a tile reduces its segment once every row is read; the tile with the last segment waits for the others and
sends the row through its exit hub die (R224, R226, R229). -/
def bodyGatherSegmentReduce (id seg ties : Nat) (s : State) : State :=
  match s.greq? id with
  | none => s
  | some g =>
    match s.ctx? g.ctx with
    | none => s
    | some c =>
      let d := c.fix.desc
      let n := gatherSegs d
      let rows := (gindices g.pkt).length
      let bs := g.ready rows 0
      if s.paused c || gfunc g.pkt == 0 || decide (n ≤ seg) || g.segs.contains seg || bs.length != rows * rowBytes d then s
      else if seg + 1 < n then
        (s.gthCount g.ctx g.pkt.gen .ctxLate 31 0 ties).setGreq { g with segs := g.segs ++ [seg] }
      else if g.segs.length + 1 < n then s
      else
        let s := s.gthCount g.ctx g.pkt.gen .ctxLate 31 0 ties
        let e := gatherReduce d (gfunc g.pkt) g.pkt.fmt (pieces (rowBytes d) bs)
        let ts := s.gatherTilesList
        let tile := nth ts ((g.tile + seg) % max ts.length 1)
        let piece := gatherPiece g.pkt.fmt
        let s := State.sendGather (8 + exitHub tile) g.pkt piece (e.bytes.length / piece + 1) 0 e.bytes s
        let s := (s.dropGreq id).gthCount g.ctx g.pkt.gen .ctxRx 63 0
        (s.gthCount g.ctx g.pkt.gen .ctxDup 63 32 e.sat).gthCount g.ctx g.pkt.gen .ctxDup 31 0 e.flush

def execGatherSegmentReduce (id seg ties : Nat) (s : State) : Out := commit s (s.unlessSafe (bodyGatherSegmentReduce id seg ties))

end Sys2Proof.Machine
end

