-- ==== Sys2Proof/Machine/MirrorRows.lean ====
section
/-!
DEFINITION. Mirror sessions (R332 to R334): the ring in the mirror region, enabling and disabling, and the write of a staging block.
-/

namespace Sys2Proof.Machine

/-- The mirror region while it is LIVE (R332). -/
def State.mirrorRegion (s : State) : Option Region := if s.mp.mirrorRgn = 0 then none else s.liveRegion s.mp.mirrorRgn

/-- Bytes [first, last) of the whole pages that an enabled session's ring takes. -/
def MirSess.pages (m : MirSess) : Nat × Nat := (m.base, ceilDiv (m.base + 144 * m.capacity) pageBytes * pageBytes)

/-- The conditions of R334 on the ring of session `i`. -/
def State.ringOk (s : State) (i : Nat) : Bool :=
  let b := s.fld .mirSel [i] 47 32 * pageBytes
  let n := s.fld .mirSel [i] 31 20 * pageBytes
  (match s.mirrorRegion with | some x => decide (b + n ≤ x.size) | none => false) && n != 0
    && s.mirror.all fun e => e.1 == i || !e.2.enabled || decide (b + n ≤ e.2.pages.1) || decide (e.2.pages.2 ≤ b)

/-- The place in the mirror region of record `k` of a session's ring (R333). -/
def MirSess.place (m : MirSess) (k : Nat) : Nat := m.base + 144 * (k % max m.capacity 1)

/-- The staged records with their places in the ring as it is: those of an earlier enable are still written there (R334). -/
def MirSess.placed (m : MirSess) : List StageBlock :=
  (m.staged.foldl (fun (a : Nat × List StageBlock) b =>
    let rs := b.recs.zipIdx.map fun r => { r.1 with place := some (r.1.place.getD (m.place (a.1 + r.2))) }
    (a.1 + rs.length, a.2 ++ [{ b with recs := rs }])) (m.written, [])).2

/-- ENABLE written 1: where R334 holds the session runs with its counts at 0, else ENABLE reads 0. -/
def State.mirrorOn (s : State) (i : Nat) : State :=
  if s.ringOk i then
    s.setSess i { enabled := true, capacity := s.fld .mirSel [i] 31 20 * pageBytes / 144, base := s.fld .mirSel [i] 47 32 * pageBytes,
                  staged := (s.sess i).placed }
  else s.setSess i { s.sess i with enabled := false }

/-- MIRROR_ENABLE (R334). -/
def bodyMirrorEnable (i : Nat) (s : State) : State := if i < 64 then s.mirrorOn i else s

def execMirrorEnable (i : Nat) (s : State) : Out := commit s (s.ifMain (bodyMirrorEnable i))

/-- MIRROR_DISABLE: the session stops at once; staged records are still written (R334). -/
def bodyMirrorDisable (i : Nat) (s : State) : State := if i < 64 then s.setSess i { s.sess i with enabled := false } else s

def execMirrorDisable (i : Nat) (s : State) : Out := commit s (s.ifMain (bodyMirrorDisable i))

/-- The next record of session `i` in the ring, or one of an earlier enable, written at its place (R333). -/
def State.writeRecord (s : State) (i : Nat) (rec_ : StageRec) : State :=
  let m := s.sess i
  match s.mirrorRegion with
  | none => s
  | some x =>
    let off := rec_.place.getD (m.place m.written)
    let r := s.mp.mirrorRgn
    let s := (spanCuts off 144).foldl (fun (s : State) c => s.useStack (x.stackOf r (c.1 / pageBytes))) s
    let s := (spanCuts off 144).foldl (fun (s : State) c =>
      let a := x.phys r c.1
      s.cleanLines ((a + 63) / 64) ((a + c.2) / 64)) (s.writeRgn r x off rec_.bytes)
    if rec_.place.isSome then s
    else s.setSess i { m with written := satAdd 64 m.written 1, overwritten := if m.capacity ≤ m.written then satAdd 32 m.overwritten 1 else m.overwritten }

/-- The staging pool of a recording die, 8 to 11 (R331). -/
def stagePool (die : Nat) : Nat := 8 + (if die < 8 then die % 4 else (die - 8) % 4)

/-- A staging block that is due: full, or 10 µs old (R331). -/
def State.blockDue (s : State) (b : StageBlock) : Bool := b.recs.length == 32 || decide (b.at_ + 10000 ≤ s.local)

/-- The stacks that the records of a staging block of session `i` go to. -/
def State.blockStacks (s : State) (i : Nat) (b : StageBlock) : List Nat :=
  let m := s.sess i
  match s.mirrorRegion with
  | none => []
  | some x =>
    (b.recs.zipIdx.flatMap fun r =>
      (spanCuts (r.1.place.getD (m.place (m.written + r.2))) 144).map fun c => x.stackOf s.mp.mirrorRgn (c.1 / pageBytes)).eraseDups

/-- MIRROR_BLOCK_WRITE: a full staging block, or one 10 µs old, is written to the ring, and its buffer returns (R331, R333). It waits for a
stack that takes no foreground access (R425). -/
def bodyMirrorBlockWrite (i die : Nat) (s : State) : State :=
  match (s.sess i).staged.find? fun b => b.die == die && s.blockDue b with
  | none => s
  | some b =>
    if !(s.blockStacks i b).all s.stackOpen then s
    else
      let s := s.setSess i { s.sess i with staged := (s.sess i).staged.erase b }
      let s := b.recs.foldl (fun (s : State) r => s.writeRecord i r) s
      s.bpmRelease (stagePool die) b.buf (0x8000 + i) 0

def execMirrorBlockWrite (i die : Nat) (s : State) : Out := commitMem s fun t => t.unlessSafe (bodyMirrorBlockWrite i die)

end Sys2Proof.Machine
end

