-- ==== Sys2Proof/Machine/Stacks.lean ====
section
/-!
DEFINITION. Background work of the memory stacks (R414, R425 to R427): self-refresh, recalibration and scrubbing; and the stream
engines of the hub dies (R29).
-/

namespace Sys2Proof.Machine

/-! ### Stream engines (R29) -/

/-- A stream engine's buffer (R29). -/
def streamBuffer : Nat := 65536

/-- The engine of a hub die. -/
def State.engine (s : State) (hub e : Nat) : StreamEng := s.fab.engines.get (128 * hub + e) {}

def State.setEngine (s : State) (hub e : Nat) (x : StreamEng) : State :=
  { s with fab := { s.fab with engines := s.fab.engines.set (128 * hub + e) x } }

/-- Bytes in an engine's buffer, bytes asked for and not yet returned, and bytes its descriptor list still names. -/
def StreamEng.level (x : StreamEng) : Nat := x.buf.length
def StreamEng.asked (x : StreamEng) : Nat := (x.out.map fun r => r.2.2).sum
def StreamEng.left (x : StreamEng) : Nat := (x.list.map fun r => r.2.2).sum

/-- An engine issues reads, each within one line, from its descriptor list while its buffer has room for what it has asked for; the fuel
bounds the reads. -/
def StreamEng.issue : Nat → StreamEng → StreamEng
  | 0, x => x
  | f + 1, x =>
    match x.list with
    | [] => x
    | (r, off, n) :: rest =>
      let k := min n (64 - off % 64)
      if n = 0 then StreamEng.issue f { x with list := rest }
      else if streamBuffer < x.level + x.asked + k then x
      else StreamEng.issue f { x with out := x.out ++ [(r, off, k)], list := if k = n then rest else (r, off + k, n - k) :: rest }

/-- The engine's partition runs, so that the engine issues: a quiesce pauses it (R270, R276). -/
def State.engineRuns (s : State) (x : StreamEng) : Bool :=
  match x.slot with
  | some n => (s.fab.slots.get n {}).state == .running && !(s.fab.slots.get n {}).quiet
  | none => false

/-- An engine goes on issuing reads. -/
def State.streamIssue (s : State) (hub e : Nat) : State :=
  let x := s.engine hub e
  if s.engineRuns x then s.setEngine hub e (x.issue (2 * streamBuffer / 64 + x.list.length)) else s

/-- The stack that a read of an engine goes to; none where its region is gone. -/
def State.readStack (s : State) (r : Nat × Nat × Nat) : Option Nat := (s.region? r.1).map fun x => x.stackOf r.1 (r.2.1 / pageBytes)

/-- STREAM_READ_COMPLETE: the oldest read of an engine returns from its stack into the engine's buffer, and the engine issues further reads
while there is room; a read waits for a stack that takes no foreground access (R29, R214, R425). A line of a read that a reset discarded is
dropped and counted (R463). -/
def bodyStreamReadComplete (hub e : Nat) (m : MemResult) (s : State) : State :=
  let x := s.engine hub e
  if 4 ≤ hub ∨ 128 ≤ e then s
  else
    match x.out with
    | [] => s.bump .fltDom [768 + 160 * hub + e] 31 0
    | (r, off, n) :: rest =>
      match s.region? r with
      | none => (s.setEngine hub e { x with out := rest }).streamIssue hub e
      | some y =>
        let k := y.stackOf r (off / pageBytes)
        if !s.stackOpen k then s
        else
          let s := (s.useStack k).memReport k (y.phys r off) n (y.faultAddr off) m
          (s.setEngine hub e { x with out := rest, buf := x.buf ++ s.readRgn r y off n }).streamIssue hub e

def execStreamReadComplete (hub e : Nat) (m : MemResult) (s : State) : Out := commit s (s.unlessSafe (bodyStreamReadComplete hub e m))

/-! ### Foreground work (Table 17.6) -/

/-- Foreground work of rank 2 waits for a stack: pool accesses and gather lines, stream reads, pages being zeroed, and mirror blocks that are
due. -/
def State.foreground (s : State) (k : Nat) : Bool :=
  !(s.waitingOn k).isEmpty || !(s.stack k).zeroing.isEmpty
    || (s.fab.engines.any fun e => e.2.out.any fun r => s.readStack r == some k)
    || s.mirror.any fun e => e.2.staged.any fun b => s.blockDue b && (s.blockStacks e.1 b).contains k

/-! ### Self-refresh (R414) -/

/-- STACK_SELF_REFRESH_ENTER: 1 ms without a foreground access. -/
def bodyStackSelfRefreshEnter (k : Nat) (s : State) : State :=
  let x := s.stack k
  if x.up && !x.asleep && decide (x.lastUse + 1000000 ≤ s.local) && !s.foreground k then
    s.setStack k { x with asleep := true }
  else s

def execStackSelfRefreshEnter (k : Nat) (s : State) : Out := commit s (s.unlessSafe (bodyStackSelfRefreshEnter k))

/-! ### Recalibration (R426) -/

/-- RECAL_DUE: the stack falls due, and a due recalibration runs in a gap: nothing waits for the stack and nothing has used it for
2 µs (log entry 49). A stack in self-refresh keeps it for when it leaves (R414). -/
def bodyRecalDue (k : Nat) (s : State) : State :=
  let x := s.stack k
  if x.up && (x.dueAt.isSome || s.fallsDue k) then
    let s := if x.dueAt.isSome then s else s.setStack k { x with dueAt := some s.local }
    if !x.asleep && !s.foreground k && decide (x.lastUse + 2000 ≤ s.local) then (s.recal k).bump .pwrMem [k] 60 45 else s
  else s

def execRecalDue (k : Nat) (s : State) : Out := commit s (s.unlessSafe (bodyRecalDue k))

/-- RECAL_FORCED: no gap within 10 ms; the recalibration pre-empts. -/
def bodyRecalForced (k : Nat) (s : State) : State :=
  let x := s.stack k
  match x.dueAt with
  | some t => if x.up && !x.asleep && decide (t + 10000000 ≤ s.local) then (s.recal k).bump .pwrMem [k] 44 29 else s
  | none => s

def execRecalForced (k : Nat) (s : State) : Out := commit s (s.unlessSafe (bodyRecalForced k))

/-! ### Scrubbing (R427) -/

/-- Lines of a stack (R193). -/
def stackLines : Nat := stackPages * (pageBytes / 64)

/-- The pass period in nanoseconds (PASS_H, Table 17.7). -/
def State.passNs (s : State) : Nat :=
  let h := s.fld .pwrScrubCfg [] 63 59
  (if h = 0 ∨ 24 < h then 24 else h) * 3600 * 1000000000

/-- Lines the even pace has reached in the current pass. -/
def State.scrubDue (s : State) (k : Nat) : Nat := min stackLines ((s.local - (s.stack k).passFrom) * stackLines / s.passNs)

/-- The region and offset of a stack's page, if a region holds it. -/
def State.pageHolder (s : State) (k page : Nat) : Option (Region × Nat) :=
  s.mp.regions.findSome? fun e =>
    ((List.range e.2.pages.length).find? fun i => nth e.2.pages i == page && e.2.stackOf e.1 i == k).map fun i => (e.2, i * pageBytes)

/-- The fault ADDRESS of a stack's line: its pool address, or its stack address where no region holds it (Table 18.3). -/
def State.lineAddr (s : State) (k line : Nat) : Nat :=
  let a := line * 64
  match s.pageHolder k (a / pageBytes) with
  | some (x, off) => x.faultAddr (off + a % pageBytes)
  | none => a

/-- The next line of a pass is read, corrected or poisoned (R214). -/
def State.scrubLine (s : State) (k : Nat) (m : MemResult) : State :=
  let x := s.stack k
  let a := k * stackPages * pageBytes + x.scrubPos * 64
  let s := s.memReport k a 64 (s.lineAddr k x.scrubPos) m
  if x.scrubPos + 1 = stackLines then
    (s.setStack k { x with scrubPos := 0, passFrom := x.passFrom + s.passNs }).bump .pwrScrub [k] 63 32
  else s.setStack k { x with scrubPos := x.scrubPos + 1 }

/-- HBM_SCRUB_BURST: the scrubber reads the lines that its even pace is behind by, one result each. It waits for foreground work unless
it is behind, when it claims bandwidth and CATCHUP is 1 until it has caught up; it waits for a recalibration that is due or under way
(Table 17.6); a stack in self-refresh it wakes, once a second. -/
def bodyHbmScrubBurst (k : Nat) (rs : List MemResult) (s : State) : State :=
  let x := s.stack k
  let behind := s.scrubDue k - x.scrubPos
  let busy := s.foreground k
  if !x.up || behind == 0 || (x.asleep && decide (s.local < x.scrubAt + 1000000000)) then s
  else
    let s := s.wakeStack k
    if (s.stack k).dueAt.isSome || decide (s.local < (s.stack k).busyTo) then s
    else
    let s := s.setStack k { s.stack k with scrubAt := s.local }
    let s := (rs.take behind).foldl (fun (s : State) m => s.scrubLine k m) s
    s.setStack k { s.stack k with catchup := (x.catchup || busy) && decide (rs.length < behind) }

def execHbmScrubBurst (k : Nat) (rs : List MemResult) (s : State) : Out := commit s (s.unlessSafe (bodyHbmScrubBurst k rs))

end Sys2Proof.Machine
end

