-- ==== Sys2Proof/Machine/Operands.lean ====
section
/-!
DEFINITION. The operands of tile micro-operations (chapter 10): tiles and partitions, general and vector registers, tile SRAM with its
poisoned words (R233, R235), and the operands of the cube (R238).
-/

namespace Sys2Proof

/-- The tile of a micro-operation. -/
def Issue.tile (i : Issue) : Nat := 220 * i.y + i.x

end Sys2Proof

namespace Sys2Proof.Machine

/-! ### Tiles and partitions -/

def State.tile (s : State) (t : Nat) : Tile := s.fab.tiles.get t {}

def State.setTile (s : State) (t : Nat) (x : Tile) : State := { s with fab := { s.fab with tiles := s.fab.tiles.set t x } }

def State.setIslot (s : State) (n : Nat) (x : ImgSlot) : State := { s with fab := { s.fab with slots := s.fab.slots.set n x } }

/-- A tile lies in a slot's rectangle. -/
def ImgSlot.covers (p : ImgSlot) (t : Nat) : Bool :=
  decide (p.x0 ≤ t % 220) && decide (t % 220 < p.x0 + p.w) && decide (p.y0 ≤ t / 220) && decide (t / 220 < p.y0 + p.h)

/-- The partition of a tile: the resident image that has the tile (R268). -/
def State.partOf (s : State) (t : Nat) : Option (Nat × ImgSlot) :=
  List.find? (fun (e : Nat × ImgSlot) => e.2.state != .empty && e.2.covers t) s.fab.slots

/-- A fault message about a tile (Table 18.3). -/
def State.tileFault (s : State) (t kind addr : Nat) : State :=
  s.raise (12 + fabricDie t) 0x10 ((tileIdx t).getD 1 0) kind (kindSeverity kind) addr

/-! ### Registers -/

/-- A general register (R247); there are 64. -/
def Tile.greg (x : Tile) (r : Nat) : Word := x.gregs.get (r % 64) 0

def Tile.setGreg (x : Tile) (r : Nat) (v : Word) : Tile := { x with gregs := x.gregs.set (r % 64) v }

/-- A vector register's 32 bytes (Table 10.1); there are 32. -/
def Tile.vreg (x : Tile) (r : Nat) : List Byte := x.vregs.get (r % 32) (List.replicate 32 0)

/-- `n` bytes from vector register `r` on, through the registers after it. -/
def Tile.vbytes (x : Tile) (r n : Nat) : List Byte := ((List.range (ceilDiv n 32)).flatMap fun i => x.vreg (r + i)).take n

/-- Bytes put at the start of vector register `r` and through the registers after it; the rest of the last keeps its contents (log
entry 2). -/
def Tile.setVbytes (x : Tile) (r : Nat) (bs : List Byte) : Tile :=
  (List.range (ceilDiv bs.length 32)).foldl (fun (x : Tile) i =>
    let p := (bs.drop (32 * i)).take 32
    { x with vregs := x.vregs.set ((r + i) % 32) (p ++ (x.vreg (r + i)).drop p.length) }) x

/-- The first `n` elements of `w` bytes in a vector register, each most significant byte first (log entry 2). -/
def Tile.elems (x : Tile) (r w n : Nat) : List Nat := ((pieces w (x.vbytes r (w * n))).take n).map beNat

/-- The rounding direction of an RM field: 7 takes TRM (R244). -/
def Tile.dir (x : Tile) (rm : Nat) : Nat := if rm = 7 then x.trm else rm

/-! ### SRAM -/

/-- Bytes of tile SRAM (R233). -/
def sramBytes : Nat := 0x40000

/-- A poisoned word lies in [a, a + n). -/
def Tile.poisonIn (x : Tile) (a n : Nat) : Bool := n != 0 && x.poison.any fun w => decide (8 * w < a + n) && decide (a < 8 * w + 8)

/-- The tile halts at the bundle that issues; a user image's HALT 2 and 5 are reported (R236, R249, Table 18.5). -/
def State.haltTile (s : State) (t code addr : Nat) (user : Bool) : State :=
  let s := s.setTile t { s.tile t with halt := code, waiting := false }
  if user ∧ (code = 2 ∨ code = 5) then s.tileFault t 0x034 (addr % sramBytes) else s

/-- An error that lies outside the bytes [a, a + n), or none: what a read of them leaves of it. -/
def eccBeyond (e : SramEcc) (a n : Nat) : SramEcc :=
  match e with
  | .clean => .clean
  | .corrected b | .uncorrectable b => if a ≤ b ∧ b < a + n then .clean else e

/-- What tile SRAM finds in the bytes [a, a + n): a corrected word is counted, an uncorrectable one counted and poisoned (R235). -/
def State.sramFinds (s : State) (t a n : Nat) (e : SramEcc) : State :=
  match e with
  | .clean => s
  | .corrected b => if a ≤ b ∧ b < a + n then (s.count64 .tileSecc (tileIdx t)).tileFault t 0x030 b else s
  | .uncorrectable b =>
    if a ≤ b ∧ b < a + n then
      let x := s.tile t
      ((s.setTile t { x with poison := if x.poison.contains (b / 8) then x.poison else (b / 8) :: x.poison }).count64 .tileSunc
        (tileIdx t)).tileFault t 0x031 b
    else s

/-- A unit of a tile reads [a, a + n) of SRAM and goes on with the bytes; a program that leaves SRAM halts with HALT 5. A poisoned word halts
a user image with HALT 2, and poisons the chunk that a service image works on (R72, R235, R236, R249). -/
def State.sramRead (s : State) (i : Issue) (user : Bool) (a n : Nat) (e : SramEcc) (k : List Byte → State → State) : State :=
  let t := i.tile
  if sramBytes < a + n then s.haltTile t 5 a user
  else
    let s := s.sramFinds t a n e
    if (s.tile t).poisonIn a n then
      if user then s.haltTile t 2 a user else k ((s.tile t).sram.read a n) (s.poisonChunk i.ctx i.chunk)
    else k ((s.tile t).sram.read a n) s

/-- A unit reads several pieces of SRAM, each an address and a length, before it goes on. -/
def State.sramReads (s : State) (i : Issue) (user : Bool) (e : SramEcc) (k : State → State) : List (Nat × Nat) → State
  | [] => k s
  | p :: ps => s.sramRead i user p.1 p.2 e fun _ s => s.sramReads i user (eccBeyond e p.1 p.2) k ps

/-- The bytes a store changes: a word written in part stays as it was where it is poisoned (R235). -/
def Tile.storeBytes (x : Tile) (a : Nat) (bs : List Byte) : Tile :=
  let n := bs.length
  let first := a / 8
  let last := (a + n - 1) / 8
  if n = 0 then x
  else
    (List.range (last + 1 - first)).foldl (fun (x : Tile) i =>
      let w := first + i
      let lo := max a (8 * w)
      let hi := min (a + n) (8 * w + 8)
      let whole := hi - lo == 8
      if !whole && x.poison.contains w then x
      else { x with sram := Memory.write x.sram lo ((bs.drop (lo - a)).take (hi - lo)),
                    poison := if whole then x.poison.filter fun p => p != w else x.poison }) x

/-- The words that [a, a + n) covers in part, which a store of it reads first (R235). -/
def partWords (a n : Nat) : List Nat :=
  if n = 0 then []
  else
    (List.range ((a + n - 1) / 8 + 1 - a / 8)).filterMap fun i =>
      let w := a / 8 + i
      if a ≤ 8 * w ∧ 8 * w + 8 ≤ a + n then none else some w

/-- What the read before a store of part of a word finds (R235). -/
def State.partFinds (s : State) (t a n : Nat) (e : SramEcc) : State :=
  (partWords a n).foldl (fun (s : State) w => s.sramFinds t (8 * w) 8 e) s

/-- A unit writes bytes to tile SRAM, words of which it covers a part being read first; a program that leaves SRAM halts with HALT 5, and a
user image that finds such a word poisoned with HALT 2 (R235, R236). -/
def State.sramWrite (s : State) (t : Nat) (user : Bool) (a : Nat) (bs : List Byte) (e : SramEcc) : State :=
  if sramBytes < a + bs.length then s.haltTile t 5 a user
  else
    let s := s.partFinds t a bs.length e
    match user, (partWords a bs.length).find? fun w => (s.tile t).poison.contains w with
    | true, some w => s.haltTile t 2 (8 * w) user
    | _, _ => s.setTile t ((s.tile t).storeBytes a bs)

/-- Every word of [a, a + n) is poisoned. -/
def Tile.poisonWords (x : Tile) (a n : Nat) : Tile :=
  let ws := (List.range ((a + n + 7) / 8 - a / 8)).map fun j => a / 8 + j
  { x with poison := ws.filter (fun w => !x.poison.contains w) ++ x.poison }

/-! ### Cube operands -/

/-- The whole units that hold elements [d, d + k) of a row of format `f`: their offset in the row and their bytes. -/
def cubeSpan (f : Fmt) (d k : Nat) : Nat × Nat :=
  let u := f.unitElems
  let lo := d / u
  let hi := ceilDiv (d + k) u
  (lo * f.unitBytes, (hi - lo) * f.unitBytes)

/-- What a CUBE.MM reads of a row for elements [d, d + k): in a block format the scale byte of each block and the bytes of its elements
(R44), else the elements. Each is an offset in the row and a length. -/
def cubePieces (f : Fmt) (d k : Nat) : List (Nat × Nat) :=
  match f.block with
  | none => [cubeSpan f d k]
  | some b =>
    (List.range ((d + k - 1) / b.perBlock + 1 - d / b.perBlock)).flatMap fun j =>
      let blk := d / b.perBlock + j
      let u := blk / 8 * f.unitBytes
      let lo := (max d (blk * b.perBlock) - blk * b.perBlock) * b.elemBits / 8
      let hi := ceilDiv ((min (d + k) ((blk + 1) * b.perBlock) - blk * b.perBlock) * b.elemBits) 8
      [(u + blk % 8, 1), (u + 8 + blk % 8 * b.elemBytes + lo, hi - lo)]

/-- Elements [d, d + k) of a row from the bytes of `cubeSpan`. -/
def cubeRow (f : Fmt) (d k : Nat) (bs : List Byte) : List XVal := ((decodePayload f bs).drop (d % f.unitElems)).take k

/-- The rows of an operand: what each is read from, from its address and pitch on (R238; log entry 50). -/
def rowPieces (f : Fmt) (addr pitch d k : Nat) : List (Nat × Nat) :=
  (List.range 4).flatMap fun r => (cubePieces f d k).map fun p => (addr + r * pitch + p.1, p.2)

/-- The elements of the four rows of an operand in SRAM. -/
def Tile.cubeRows (x : Tile) (f : Fmt) (addr pitch d k : Nat) : List XVal :=
  let span := cubeSpan f d k
  (List.range 4).flatMap fun r => cubeRow f d k (x.sram.read (addr + r * pitch + span.1) span.2)

end Sys2Proof.Machine
end

