-- ==== Sys2Proof/Machine/Router.lean ====
section
/-!
DEFINITION. The routers of the mesh (chapter 11): the input buffers of each virtual channel with the credits of the links into them (R258),
and the headers that a router accepts (R255, R256, R261).
-/

namespace Sys2Proof.Machine

/-! ### Input buffers and credits (R258) -/

/-- Flits of a packet with a body of `n` bytes (chapter 11). -/
def flits (n : Nat) : Nat := ceilDiv (24 + n) 64

/-- The input buffer of virtual channel `vc` at input `d` of the router of tile `t`: 0 north, 1 east, 2 south, 3 west, 4 the tile (Table
10.1). -/
def meshAt (t d vc : Nat) : Nat := (5 * t + d) * 3 + vc

/-- The router of an input buffer, and its virtual channel. -/
def meshTile (b : Nat) : Nat := b / 15
def meshVc (b : Nat) : Nat := b % 3

def State.meshBuf (s : State) (b : Nat) : MeshBuf := s.fab.mesh.get b {}

def State.setMeshBuf (s : State) (b : Nat) (x : MeshBuf) : State := { s with fab := { s.fab with mesh := s.fab.mesh.set b x } }

/-- Flits that the sender's credit count does not hold: those in the buffer, and those that left it and are not yet returned. -/
def MeshBuf.used (x : MeshBuf) : Nat := (x.pkts.map fun p => flits p.data.length).sum + x.owed

/-- The credit count of the sender on the link into a buffer, which starts at 65. -/
def State.meshCredit (s : State) (b : Nat) : Nat := 65 - (s.meshBuf b).used

/-- A packet starts on the link into a buffer. -/
def State.meshPush (s : State) (b : Nat) (p : MeshPkt) : State :=
  s.setMeshBuf b { s.meshBuf b with pkts := (s.meshBuf b).pkts ++ [p] }

/-- The first packet leaves a buffer; its credits go back flit by flit. -/
def State.meshPop (s : State) (b : Nat) : State :=
  match (s.meshBuf b).pkts with
  | [] => s
  | p :: rest => s.setMeshBuf b { pkts := rest, owed := (s.meshBuf b).owed + flits p.data.length }

/-! ### The header (Table 11.1) -/

/-- Field [hi:lo] of M0. -/
def mfield (p : MeshPkt) (hi lo : Nat) : Nat := p.m0.field hi lo

/-- A coordinate of a unicast packet lies in the grid or names an edge. -/
def unicastOk (p : MeshPkt) : Bool :=
  let dx := mfield p 59 52
  let dy := mfield p 51 45
  let col := decide (dx < 220)
  let row := decide (dy < 96)
  (col && row) || (col && (dy == 0x7E || dy == 0x7F)) || ((dx == 0xFE || dx == 0xFF) && row)

/-- The source's place along a multicast's line, and whether it lies on the line: −1 stands before tile 0. A north or south
edge source carries 0xFD as its column, so its column is the line's (R255, R261). -/
def lineSource (p : MeshPkt) : Option Int :=
  let sx := p.m1.field 63 56
  let sy := p.m1.field 55 49
  let edge := p.m1.field 48 42 == 127
  if mfield p 63 62 = 1 then
    if sy ≠ mfield p 51 45 then none
    else if edge then (if sx = 0xFE then some (-1) else if sx = 0xFF then some 220 else none)
    else some (sx : Int)
  else if edge then
    (if sy = 0x7E then some (-1) else if sy = 0x7F then some 96 else none)
  else if sx = mfield p 59 52 then some (sy : Int) else none

/-- A unicast packet to an edge, whose QUEUE is ignored (Table 11.1). -/
def toEdge (p : MeshPkt) : Bool :=
  mfield p 63 62 == 0 && ([0xFE, 0xFF].contains (mfield p 59 52) || [0x7E, 0x7F].contains (mfield p 51 45))

/-- A header a router accepts (R256, R261). -/
def headerOk (p : MeshPkt) : Bool :=
  let mode := mfield p 63 62
  decide (mode ≠ 3) && decide (mfield p 61 60 ≠ 3) && decide (mfield p 28 16 ≤ 4136) && (decide (mfield p 7 0 ≤ 15) || toEdge p)
    && (if mode = 0 then unicastOk p
        else
          decide (mfield p 61 60 = 2) &&
          let a : Int := (mfield p 44 37 : Nat)
          let b : Int := (mfield p 36 29 : Nat)
          let lim : Int := if mode = 1 then 220 else 96
          (if mode = 1 then decide (mfield p 51 45 < 96) else decide (mfield p 59 52 < 220)) && decide (a < lim) && decide (b < lim)
            && (match lineSource p with
                | some q => (decide (q ≤ a) && decide (a ≤ b)) || (decide (b ≤ a) && decide (a ≤ q))
                | none => false))

end Sys2Proof.Machine
end

