-- ==== Sys2Proof/Machine/Flags.lean ====
section
/-!
DEFINITION. The flag and count rules of the tile: the five sticky IEEE flags (R244), and where saturated and flushed events are counted
(R54, R240, R245, R246).
-/

namespace Sys2Proof.Machine

/-- The sticky flags of a tile (Table 10.8). -/
def State.tileFl (s : State) (t : Nat) : Nat := s.fld .tileFlags (tileIdx t) 4 0

/-- Flags raised: they stay until written 1 or lowered (R244). -/
def State.raiseFl (s : State) (t flags : Nat) : State := s.setFld .tileFlags (tileIdx t) 4 0 (Nat.lor (s.tileFl t) flags)

/-- Flags lowered by the program (IEEE 754-2019 5.7.4). -/
def State.lowerFl (s : State) (t flags : Nat) : State :=
  s.setFld .tileFlags (tileIdx t) 4 0 (Nat.land (s.tileFl t) (31 - flags % 32))

/-- Saturated and flushed events: a user image's go to FAB_TILE_SAT and FAB_TILE_FLUSH, a service image's into the context's counts. -/
def State.events (s : State) (t : Nat) (user : Bool) (ctx sat flush : Nat) : State :=
  if user then (s.count64 .tileSat (tileIdx t) sat).count64 .tileFlush (tileIdx t) flush
  else
    match s.ctx? ctx with
    | none => s
    | some c =>
      if c.fix.kind = 3 then (s.bump .ctxDup [ctx] 63 32 sat).bump .ctxDup [ctx] 31 0 flush
      else s.setCtx ctx { c with run := { c.run with sat := sat64 (c.run.sat + sat), flush := sat64 (c.run.flush + flush) } }

end Sys2Proof.Machine
end

