-- ==== Sys2Proof/Machine/Vector.lean ====
section
/-!
DEFINITION. The vector unit (R244, R245): each operation on the elements of its source registers, with the flags it raises and the
events it counts. Where R244 leaves a pattern open the value is one of Config's (log entry 2).
-/

namespace Sys2Proof.Machine

/-- What a vector operation gives: the bytes for the destination, the flags raised, and the two counts. -/
structure VRes where
  bytes : List Byte
  flags : Nat
  sat   : Nat
  flush : Nat
  deriving DecidableEq, Repr

/-- The layout of a vector format. -/
def vLayout : VFmt → FloatFmt
  | .b16 => fFP16 | .b32 => fFP32 | .b64 => fFP64

/-- Bytes of an element. -/
def vSize : VFmt → Nat
  | .b16 => 2 | .b32 => 4 | .b64 => 8

/-! ### Binary16 on the binary32 lanes (R244) -/

def widen16 (a : Nat) : Nat := (convertIeee fFP16 fFP32 0 a).pat

/-- A binary32 result rounded once more to binary16. -/
def narrow16 (dir : Nat) (r : Fl) : Fl :=
  if fFP32.isNan r.pat then ⟨fFP16.canon, r.flags⟩
  else
    let c := convertIeee fFP32 fFP16 dir r.pat
    ⟨c.pat, Nat.lor r.flags c.flags⟩

/-- A one- or two-operand operation in a format: binary16 runs in binary32 and rounds once more. -/
def arith (v : VFmt) (dir : Nat) (ops : List Nat) (f : FloatFmt → List Nat → Fl) : Fl :=
  match v with
  | .b16 => (fFP16.nanResult ops).getD (narrow16 dir (f fFP32 (ops.map widen16)))
  | .b32 => f fFP32 ops
  | .b64 => f fFP64 ops

/-- The pattern of a truth value in `w` bits. -/
def truth (w : Nat) (b : Bool) : Nat := Config.boolPattern b % 2 ^ w

/-! ### Integer lanes -/

/-- A shift by the lane's width or more has no stated result. -/
def shiftOr (op w a n : Nat) (r : Nat) : Nat := if n < w then r else Config.shiftBeyond op a n % 2 ^ w

/-- An integer operation on 64-bit lanes (R244, Table 10.4). -/
def intElem (op : VOp) (a b : Nat) : Nat :=
  let m := 2 ^ 64
  let n := b % m
  match op with
  | .intAdd => (a + b) % m
  | .intSub => (a + m - b % m) % m
  | .intAnd => Nat.land a b
  | .intOr => Nat.lor a b
  | .intXor => Nat.xor a b
  | .intShl => shiftOr 0 64 a n (a * 2 ^ (n % 64) % m)
  | .intShr => shiftOr 1 64 a n (a / 2 ^ (n % 64))
  | .intSar => shiftOr 2 64 a n (ofSigned 64 (toSigned 64 a / 2 ^ (n % 64)))
  | .intLt sg => truth 64 (if sg then decide (toSigned 64 a < toSigned 64 b) else decide (a < b))
  | .intEq => truth 64 (a == b)
  | .intMin sg => if (if sg then decide (toSigned 64 b < toSigned 64 a) else decide (b < a)) then b else a
  | .intMax sg => if (if sg then decide (toSigned 64 a < toSigned 64 b) else decide (a < b)) then b else a
  | .intMul32 sg =>
    if sg then ofSigned 64 (toSigned 32 (a % 2 ^ 32) * toSigned 32 (b % 2 ^ 32)) else a % 2 ^ 32 * (b % 2 ^ 32) % m
  | _ => a

/-- The operation works on 64-bit integer lanes. -/
def isIntOp : VOp → Bool
  | .intAdd | .intSub | .intAnd | .intOr | .intXor | .intShl | .intShr | .intSar | .intLt _ | .intEq | .intMin _ | .intMax _
  | .intMul32 _ => true
  | _ => false

/-! ### Floating-point lanes -/

/-- An operation whose result has its operands' format (IEEE 754-2019 clause 5, R244). -/
def floatElem (op : VOp) (v : VFmt) (dir a b c : Nat) : Fl :=
  let f := vLayout v
  let w := f.width
  let flag (p : Bool) : Fl := ⟨truth w p, 0⟩
  let one (g : FloatFmt → Nat → Fl) : Fl := arith v dir [a] fun f l => g f (nth l 0)
  let two (g : FloatFmt → Nat → Nat → Fl) : Fl := arith v dir [a, b] fun f l => g f (nth l 0) (nth l 1)
  match op with
  | .add => two fun f x y => f.add dir x y
  | .sub => two fun f x y => f.sub dir x y
  | .mul => two fun f x y => f.mul dir x y
  | .div => two fun f x y => f.div dir x y
  | .sqrt => one fun f x => f.sqrt dir x
  | .scaleB n => one fun f x => f.scaleB dir x n
  | .rem => f.rem a b
  | .fma => f.fma dir a b c
  | .minimum => f.minMax false false a b
  | .maximum => f.minMax true false a b
  | .minimumNumber => f.minMax false true a b
  | .maximumNumber => f.minMax true true a b
  | .copySign => ⟨f.mk' (f.signOf b) (f.magOf a), 0⟩
  | .compare rels sig => ⟨truth w (f.compare rels sig a b).1, (f.compare rels sig a b).2⟩
  | .totalOrder => flag (f.totalOrder a b)
  | .totalOrderMag => flag (decide (f.magOf a ≤ f.magOf b))
  | .roundIntegral exact => f.toIntegral dir exact a
  | .nextUp => f.next false a
  | .nextDown => f.next true a
  | .logB => f.logB a
  | .copy => ⟨a % 2 ^ w, 0⟩
  | .negate => ⟨f.mk' (!f.signOf a) (f.magOf a), 0⟩
  | .abs => ⟨f.magOf a, 0⟩
  | .classOf => ⟨Config.classPattern (f.classOf a) % 2 ^ w, 0⟩
  | .isSignMinus => flag (f.signOf a)
  | .isNormal => flag (!f.isNan a && f.magOf a != f.infMag && decide (2 ^ f.frac ≤ f.magOf a))
  | .isFinite => flag (decide (f.magOf a < f.infMag))
  | .isZero => flag (f.magOf a == 0)
  | .isSubnormal => flag (f.magOf a != 0 && decide (f.magOf a < 2 ^ f.frac))
  | .isInfinite => flag (f.magOf a == f.infMag)
  | .isNaN => flag (f.isNan a)
  | .isSignaling => flag (f.isSig a)
  | .isCanonical => flag true
  | .radix => f.round 0 false 2 1
  | .conforms year => flag (year == 2019 || Config.conformsTo year)
  | _ => ⟨a % 2 ^ w, 0⟩

/-! ### Conversions -/

/-- The IEEE layout of a format of Table 2.1, if it is one. -/
def Fmt.ieee? : Fmt → Option FloatFmt
  | .fp64 => some fFP64 | .fp32 => some fFP32 | .fp16 => some fFP16 | _ => none

/-- One element converted between formats of Table 2.1 (R50 to R54, R245). -/
def convertElem (src dst : Fmt) (dir : Nat) (strict : Bool) (a : Nat) : Fl × Nat × Nat :=
  match src.ieee?, dst.ieee? with
  | some f, some g => (convertIeee f g dir a, 0, 0)
  | _, _ =>
    let c := dst.encodeElem dir strict (src.decodeElem a)
    (⟨c.pat, 0⟩, c.sat, c.flush)

/-- Elements put together as bytes of `w` each, with their flags. -/
def gather (w : Nat) (rs : List Fl) : VRes :=
  ⟨rs.flatMap fun r => natBytes w r.pat, (rs.map Fl.flags).foldl Nat.lor 0, 0, 0⟩

/-- Elements that a conversion between widths of `p` and `q` bytes handles. -/
def lanesOf (p q : Nat) : Nat := 32 / max (max p q) 1

/-- The elements of a block from source registers, encoded: the scale byte, then the element bits (R45, R46). -/
def blockEnc (x : Tile) (f : Fmt) (g : Fmt) (b : BlockFmt) (strict : Bool) (ra : Nat) : VRes :=
  let o := encodeBlock g b strict ((x.elems ra f.unitBytes b.perBlock).map f.decodeElem)
  ⟨BitVec.ofNat 8 o.scale :: natBytes b.elemBytes o.bits, 0, o.sat, o.flush⟩

/-- A block in source registers, decoded into elements of a format. -/
def blockDec (x : Tile) (f g : Fmt) (b : BlockFmt) (dir : Nat) (strict : Bool) (ra : Nat) : VRes :=
  let bs := x.vbytes ra (1 + b.elemBytes)
  let vs := (List.range b.perBlock).map (blockElem f b ((bs.getD 0 0).toNat) (beNat (bs.drop 1)))
  let cs := vs.map (g.encodeElem dir strict)
  ⟨cs.flatMap fun c => natBytes g.unitBytes c.pat, 0, (cs.map Conv.sat).sum, (cs.map Conv.flush).sum⟩

/-- An operation on operands of their own formats, rounded once into format `d`; into binary16 it is computed in binary32 and rounded once
more (R244). -/
def mixedElem (o : FOp) (d : VFmt) (dir : Nat) (a b c : VFmt × Nat) : Fl :=
  let go (g : FloatFmt) : Fl :=
    let l (p : VFmt × Nat) : FloatFmt × Nat := (vLayout p.1, p.2)
    let two (k : XVal → XVal → Fl) : Fl := g.mixed dir [l a, l b] fun xs => k (xs.getD 0 .nan) (xs.getD 1 .nan)
    match o with
    | .add => two fun x y => g.deliver dir (XVal.sum dir x y)
    | .sub => two fun x y => g.deliver dir (XVal.sum dir x y.negate)
    | .mul => two fun x y => g.deliver dir (XVal.prod x y)
    | .div => two (g.quotient dir)
    | .sqrt => g.mixed dir [l a] fun _ => g.root (l a).1 dir (l a).2
    | .fma => g.mixed dir [l a, l b, l c] fun xs =>
        g.deliver dir (XVal.sum dir (XVal.prod (xs.getD 0 .nan) (xs.getD 1 .nan)) (xs.getD 2 .nan))
  match d with
  | .b16 => narrow16 dir (go fFP32)
  | _ => go (vLayout d)

/-- The character sequence of the first element: R244 asks for the conversion and gives no form (log entry 2). -/
def charBytes (x : Tile) (v : VFmt) (dir ra : Nat) : List Byte :=
  (List.range 32).map fun i => BitVec.ofNat 8 (Config.toCharacters (vSize v) dir (nth (x.elems ra (vSize v) 1) 0) i)

/-- The vector operation on a tile's registers; none for a form an image is refused for at load (R244, R271). -/
def vecEval (x : Tile) (op : VOp) (v : VFmt) (rm : Nat) (strict : Bool) (ra rb rc : Nat) : Option VRes :=
  let dir := x.dir rm
  if 4 < dir then none
  else
    match op with
    | .toFormat d =>
      let n := lanesOf (vSize v) (vSize d)
      some (gather (vSize d) ((x.elems ra (vSize v) n).map (convertIeee (vLayout v) (vLayout d) dir)))
    | .toInt bits sg exact =>
      let n := lanesOf (vSize v) (bits / 8)
      some (gather (bits / 8) ((x.elems ra (vSize v) n).map ((vLayout v).toIntPat dir bits sg exact)))
    | .ofInt bits sg =>
      let n := lanesOf (vSize v) (bits / 8)
      some (gather (vSize v) ((x.elems ra (bits / 8) n).map ((vLayout v).ofIntPat dir bits sg)))
    | .formatOf o d vb vc =>
      let n := 32 / max (vSize d) (max (vSize v) (max (vSize vb) (vSize vc)))
      let as := x.elems ra (vSize v) n
      let bs := x.elems rb (vSize vb) n
      let cs := x.elems rc (vSize vc) n
      some (gather (vSize d) ((List.range n).map fun i => mixedElem o d dir (v, nth as i) (vb, nth bs i) (vc, nth cs i)))
    | .toCharacter => some ⟨charBytes x v dir ra, 0, 0, 0⟩
    | .fromCharacter =>
      let r := Config.fromCharacters (vSize v) dir (x.vreg ra)
      some ⟨natBytes (vSize v) (r.1 % 2 ^ (8 * vSize v)), r.2 % 32, 0, 0⟩
    | .convert a b =>
      match Fmt.ofCode a, Fmt.ofCode b with
      | some f, some g =>
        if f.block.isSome || g.block.isSome || !f.number || !g.output then none
        else
          let rs := (x.elems ra f.unitBytes (lanesOf f.unitBytes g.unitBytes)).map (convertElem f g dir strict)
          let r := gather g.unitBytes (rs.map Prod.fst)
          some ⟨r.bytes, r.flags, (rs.map fun e => e.2.1).sum, (rs.map fun e => e.2.2).sum⟩
      | _, _ => none
    | .blockEncode a b =>
      match Fmt.ofCode a, Fmt.ofCode b with
      | some f, some g =>
        match f.block, g.block with
        | none, some k => if f.number then some (blockEnc x f g k strict ra) else none
        | _, _ => none
      | _, _ => none
    | .blockDecode a b =>
      match Fmt.ofCode a, Fmt.ofCode b with
      | some f, some g =>
        match f.block, g.block with
        | some k, none => if g.output then some (blockDec x f g k dir strict ra) else none
        | _, _ => none
      | _, _ => none
    | op =>
      if isIntOp op then
        some (gather 8 (List.zipWith (fun a b => ⟨intElem op a b, 0⟩) (x.elems ra 8 4) (x.elems rb 8 4)))
      else
        let w := vSize v
        let n := 32 / w
        let as := x.elems ra w n
        let bs := x.elems rb w n
        let cs := x.elems rc w n
        some (gather w ((List.range n).map fun i => floatElem op v dir (nth as i) (nth bs i) (nth cs i)))

end Sys2Proof.Machine
end

