-- ==== Sys2Proof/Machine/Tiles.lean ====
section
/-!
DEFINITION. The micro-operations of a tile's sequencer (chapter 10): the cube, the vector unit, the long adder, SRAM, mesh sends and
receives, scalar operations, waits and halts; and the SRAM scrubber.
-/

namespace Sys2Proof.Machine

/-! ### Issue -/

/-- Bundles loaded in a tile's store: the image's and those of the images that extend it (R266, R268). -/
def State.storeUsed (s : State) (p : ImgSlot) : Nat :=
  p.image.uops + ((s.fab.slots.filter fun e => e.2.state != .empty && e.2.image.extends_ != 0 && e.2.image.extends_ == p.image.imageId).map
    fun e => e.2.image.uops).sum

/-- The sequencer of a tile issues: its partition runs and is not quiesced, but for a bundle under way, which ends at its boundary, and is
not under reset, and the tile is neither halted nor retired (R236, R249, R270, R276, R278). -/
def State.tileRuns (s : State) (t n : Nat) (p : ImgSlot) : Bool :=
  ((p.state == .running && !p.quiet) || !(s.tile t).slots.isEmpty) && (s.tile t).halt == 0 && !s.fab.retired.contains t && !s.flt.safe
    && !s.domBusy (1408 + n)

/-- The slots of a bundle (R247). -/
def slotS : Nat := 0
def slotC : Nat := 1
def slotV : Nat := 2
def slotM : Nat := 3

/-- The tile's next micro-operation may come from slot `k` of bundle `b`: another slot of the bundle under way, the bundle that is delayed,
or a bundle at or past the program counter, those before it holding no micro-operation (R247, R248; log entry 51). -/
def Tile.expects (x : Tile) (b k : Nat) : Bool :=
  if x.slots.isEmpty then (if x.held then b == x.pc else decide (x.pc ≤ b)) else b == x.pc && !x.slots.contains k

/-- The credits of the link from a tile into its router, by virtual channel (R258). -/
def State.tileCredit (s : State) (t vc : Nat) : Nat := s.meshCredit (meshAt t 4 vc)

/-- The condition of a WAIT holds (R248). -/
def State.waitMet (s : State) (t : Nat) : WaitOn → Bool
  | .receiveQueue q => !((s.tile t).inbox.get q []).isEmpty
  | .credit vc => decide (0 < s.tileCredit t vc)
  | .counter r v => decide (v.toNat ≤ ((s.tile t).greg r).toNat)
  | .globalCount v => decide (v.toNat ≤ s.now)

/-- A bundle's WAIT is met, or its SEND has the credits it takes; one with a malformed header takes none (R248, R256, R258). -/
def State.holdMet (s : State) (t : Nat) : Hold → Bool
  | .wait on_ => s.waitMet t on_
  | .send vc len => decide (4136 < len) || decide (3 ≤ vc) || decide (flits len ≤ s.tileCredit t vc)

def holdWaits : Hold → Bool
  | .wait _ => true
  | .send _ _ => false

/-- What the bundle waits for as slot `k` would issue, `own` being the slot's own condition: all of its slots' conditions at its first
micro-operation (R247, R248). -/
def Tile.holdsOf (x : Tile) (i : Issue) (own : List Hold) : List Hold := own ++ if x.slots.isEmpty then i.holds else []

/-- The tile with its bundle delayed; STATE shows a WAIT (Table 10.8). -/
def State.delayed (s : State) (i : Issue) (hs : List Hold) : State :=
  s.setTile i.tile { s.tile i.tile with
    pc := i.bundle % 4096, held := true, waiting := hs.any fun h => holdWaits h && !s.holdMet i.tile h }

/-- The tile as slot `k` of its bundle issues. -/
def State.issued (s : State) (i : Issue) (k : Nat) : State :=
  s.setTile i.tile { s.tile i.tile with
    pc := i.bundle % 4096, waiting := false, held := false, slots := (s.tile i.tile).slots ++ [k] }

/-- The bundle's read from the store, once for all of its slots: the state, and whether the tile halts for it (R249). -/
def State.fetched (s : State) (i : Issue) : State × Bool :=
  let t := i.tile
  let x := s.tile t
  if x.held || !x.slots.isEmpty then (s, false)
  else
    match i.fetch with
    | .clean => (s, false)
    | .corrected => ((s.count64 .tileSecc (tileIdx t)).tileFault t 0x030 (i.bundle % 4096), false)
    | .uncorrectable => ((s.count64 .tileSunc (tileIdx t)).tileFault t 0x032 (i.bundle % 4096), true)

/-- The program counter moves to bundle `b`; one past the last bundle loaded halts the tile (R249). -/
def State.toBundle (s : State) (t : Nat) (p : ImgSlot) (b : Nat) : State :=
  let s := s.setTile t { s.tile t with pc := b % 4096, slots := [], next := none }
  if s.storeUsed p ≤ b then s.haltTile t 1 0 false else s

/-- After a micro-operation: the bundle's last one moves on to the next bundle or where a branch goes; a tile that halted stays (R247,
R249). -/
def State.bundleDone (s : State) (p : ImgSlot) (i : Issue) : State :=
  let x := s.tile i.tile
  if x.halt ≠ 0 ∨ i.last = false then s else s.toBundle i.tile p (x.next.getD (x.pc + 1))

/-- A micro-operation of slot `k` issues: its bundle is read from the store, a store error or a bundle past the last one halts the tile, a
condition unmet delays the whole bundle, and otherwise `act` runs, given the partition and whether its image is a user's (R247 to R249;
log entry 51). -/
def State.issueAt (s : State) (i : Issue) (k : Nat) (own : List Hold) (act : Nat → ImgSlot → Bool → State → State) : State :=
  let t := i.tile
  if 220 ≤ i.x then s
  else
    match s.partOf t with
    | none => s
    | some (n, p) =>
      if !s.tileRuns t n p || !(s.tile t).expects i.bundle k then s
      else
        let f := s.fetched i
        let s := f.1
        let hs := (s.tile t).holdsOf i own
        let at_ (code : Nat) : State := (s.setTile t { s.tile t with pc := i.bundle % 4096 }).haltTile t code 0 false
        if f.2 then at_ 3
        else if s.storeUsed p ≤ i.bundle then at_ 1
        else if !hs.all (s.holdMet t) then s.delayed i hs
        else (act n p p.image.user (s.issued i k)).bundleDone p i

/-! ### The cube -/

/-- CUBE_MM (R238 to R242): both formats are cube inputs, and ACC = 1 only with INT8; the image of any other form is refused at load
(R241). The words that the operands lie in are read in turn. A failed residue check poisons the accumulator set (chapter 18). -/
def bodyCubeMm (i : Issue) (aAddr aPitch aFmt bAddr bPitch bFmt depth set_ : Nat) (int strict residueOk : Bool) (ecc : SramEcc)
    (s : State) : State :=
  match Fmt.ofCode aFmt, Fmt.ofCode bFmt with
  | some fa, some fb =>
    if !fa.cubeInput || !fb.cubeInput || (int && !(fa == .int8 && fb == .int8)) || decide (4 ≤ set_) then s
    else
      s.issueAt i slotC [] fun _ _ user s =>
        let t := i.tile
        let k := cubeK fa fb
        s.sramReads i user ecc (fun s =>
          let x := s.tile t
          let cs := cubeMM int strict k (x.cubeRows fa aAddr aPitch depth k) (x.cubeRows fb bAddr bPitch depth k)
            (x.cube.get set_ (List.replicate 16 0))
          let s := s.setTile t { x with
            cube := x.cube.set set_ (cs.map Conv.pat)
            cubeBad := if residueOk || x.cubeBad.contains set_ then x.cubeBad else set_ :: x.cubeBad }
          let s := if residueOk then s else s.tileFault t 0x033 (i.bundle % 4096)
          (s.events t user i.ctx (cs.map Conv.sat).sum (cs.map Conv.flush).sum).count64 .tileCubecyc (tileIdx t) (cubeCycles fa fb))
          (rowPieces fa aAddr aPitch depth k ++ rowPieces fb bAddr bPitch depth k)
  | _, _ => s

def execCubeMm (i : Issue) (aAddr aPitch aFmt bAddr bPitch bFmt depth set_ : Nat) (int strict residueOk : Bool) (ecc : SramEcc)
    (s : State) : Out :=
  commit s (bodyCubeMm i aAddr aPitch aFmt bAddr bPitch bFmt depth set_ int strict residueOk ecc s)

/-- CUBE_LDC: 64 bytes of SRAM into an accumulator set (R243). -/
def bodyCubeLdc (i : Issue) (set_ addr : Nat) (ecc : SramEcc) (s : State) : State :=
  if 4 ≤ set_ then s
  else
    s.issueAt i slotC [] fun _ _ user s =>
      s.sramRead i user addr 64 ecc fun bs s =>
        let x := s.tile i.tile
        s.setTile i.tile { x with cube := x.cube.set set_ ((pieces 4 bs).map beNat), cubeBad := x.cubeBad.filter fun c => c != set_ }

def execCubeLdc (i : Issue) (set_ addr : Nat) (ecc : SramEcc) (s : State) : Out := commit s (bodyCubeLdc i set_ addr ecc s)

/-- CUBE_STC: an accumulator set into 64 bytes of SRAM, poisoned words where the set is poisoned (R243, chapter 18). -/
def bodyCubeStc (i : Issue) (set_ addr : Nat) (ecc : SramEcc) (s : State) : State :=
  if 4 ≤ set_ then s
  else
    s.issueAt i slotC [] fun _ _ user s =>
      let x := s.tile i.tile
      let s := s.sramWrite i.tile user addr ((x.cube.get set_ (List.replicate 16 0)).flatMap (natBytes 4)) ecc
      let y := s.tile i.tile
      if x.cubeBad.contains set_ ∧ y.halt = 0 then s.setTile i.tile (y.poisonWords addr 64) else s

def execCubeStc (i : Issue) (set_ addr : Nat) (ecc : SramEcc) (s : State) : Out := commit s (bodyCubeStc i set_ addr ecc s)

/-! ### The vector unit and the long adder -/

/-- VECTOR_OPERATION (R244, R245). -/
def bodyVectorOperation (i : Issue) (op : VOp) (fmt : VFmt) (rd ra rb rc rm : Nat) (strict : Bool) (s : State) : State :=
  s.issueAt i slotV [] fun _ _ user s =>
    let t := i.tile
    let x := s.tile t
    match vecEval x op fmt rm strict ra rb rc with
    | none => s
    | some r => ((s.setTile t (x.setVbytes rd r.bytes)).raiseFl t r.flags).events t user i.ctx r.sat r.flush

def execVectorOperation (i : Issue) (op : VOp) (fmt : VFmt) (rd ra rb rc rm : Nat) (strict : Bool) (s : State) : Out :=
  commit s (bodyVectorOperation i op fmt rd ra rb rc rm strict s)

/-- The elements an LA.ADD takes from a vector register: 4 in the full window, 8 in the anchored one (R55). -/
def laElems (x : Tile) (f : Fmt) (w : Window) (vr : Nat) : List XVal :=
  let n := match w with | .full => 4 | .anchored _ => 8
  match f.block with
  | some b =>
    let bs := x.vbytes vr (1 + b.elemBytes)
    ((List.range b.perBlock).map (blockElem f b ((bs.getD 0 0).toNat) (beNat (bs.drop 1)))).take n
  | none => (x.elems vr f.unitBytes n).map f.decodeElem

/-- LA_ADD: elements of a reduction input are converted and added into accumulators in SRAM; a poisoned accumulator takes none (R58, R59,
R62, R72, R246, Table 2.1). -/
def bodyLaAdd (i : Issue) (addr wmode : Nat) (anchor : Int) (fmt vr : Nat) (ecc : SramEcc) (s : State) : State :=
  match Fmt.ofCode fmt with
  | none => s
  | some f =>
    match windowOf wmode anchor f, f.reductionInput with
    | some w, true =>
      s.issueAt i slotM [] fun _ _ user s =>
        let t := i.tile
        let es := laElems (s.tile t) f w vr
        let z := w.width / 8
        s.sramRead i user addr (z * es.length) ecc fun bs s =>
          let r := List.zipWith (fun b v => Accum.add w (Accum.ofPattern w (beNat b)) v) (pieces z bs) es
          let s := if (s.tile t).poisonIn addr (z * es.length) then s
            else s.sramWrite t user addr (r.flatMap fun a => natBytes z (a.acc.pattern w)) .clean
          s.events t user i.ctx (r.map Added.sat).sum (r.map Added.flush).sum
    | _, _ => s

def execLaAdd (i : Issue) (addr wmode : Nat) (anchor : Int) (fmt vr : Nat) (ecc : SramEcc) (s : State) : Out :=
  commit s (bodyLaAdd i addr wmode anchor fmt vr ecc s)

/-- LA_FIN: `n` accumulators are rounded once into an output format and written to SRAM; `divisor` is the AVG divisor (R66, R67, R246,
Table 2.1). `src` is the input format that the accumulators were made from, which fixes the anchor of window mode 1 (R56; log entry 108).
What is rounded from a poisoned accumulator is written poisoned (R72; log entry 109). -/
def bodyLaFin (i : Issue) (addr wmode : Nat) (anchor : Int) (src n divisor fmt dst rm : Nat) (strict : Bool) (ecc : SramEcc) (s : State) :
    State :=
  match Fmt.ofCode src, Fmt.ofCode fmt with
  | some f, some g =>
    match windowOf wmode anchor f, g.output && (s.tile i.tile).dir rm ≤ 4 with
    | some w, true =>
      s.issueAt i slotM [] fun _ _ user s =>
        let t := i.tile
        let z := w.width / 8
        s.sramRead i user addr (z * n) ecc fun bs s =>
          let bad := (s.tile t).poisonIn addr (z * n)
          let e := encodePayload g ((s.tile t).dir rm) strict ((pieces z bs).map fun b => (Accum.ofPattern w (beNat b)).value w divisor)
          let s := s.sramWrite t user dst e.bytes (eccBeyond ecc addr (z * n))
          let s := if bad ∧ (s.tile t).halt = 0 then s.setTile t ((s.tile t).poisonWords dst e.bytes.length) else s
          s.events t user i.ctx e.sat e.flush
    | _, _ => s
  | _, _ => s

def execLaFin (i : Issue) (addr wmode : Nat) (anchor : Int) (src n divisor fmt dst rm : Nat) (strict : Bool) (ecc : SramEcc)
    (s : State) : Out := commit s (bodyLaFin i addr wmode anchor src n divisor fmt dst rm strict ecc s)

/-! ### SRAM -/

/-- The sizes of LOAD and STORE (Table 10.5). -/
def accessSize (n : Nat) : Bool := n == 4 || n == 8 || n == 32

/-- LOAD: SRAM into the start of a vector register (R235, R236, R249). -/
def bodyLoad (i : Issue) (vr addr size : Nat) (ecc : SramEcc) (s : State) : State :=
  if !accessSize size then s
  else
    s.issueAt i slotM [] fun _ _ user s =>
      s.sramRead i user addr size ecc fun bs s => s.setTile i.tile ((s.tile i.tile).setVbytes vr bs)

def execLoad (i : Issue) (vr addr size : Nat) (ecc : SramEcc) (s : State) : Out := commit s (bodyLoad i vr addr size ecc s)

/-- STORE: the start of a vector register into SRAM. A store of part of a word reads the word first (R235, R236). -/
def bodyStore (i : Issue) (vr addr size : Nat) (ecc : SramEcc) (s : State) : State :=
  if !accessSize size then s
  else
    s.issueAt i slotM [] fun _ _ user s => s.sramWrite i.tile user addr ((s.tile i.tile).vbytes vr size) ecc

def execStore (i : Issue) (vr addr size : Nat) (ecc : SramEcc) (s : State) : Out := commit s (bodyStore i vr addr size ecc s)

/-- One 64-bit word as the scrubber reads it: corrected or poisoned, and where it is a slot's, what the service makes of it (R72, R161,
R235). -/
def State.scrubWord (s : State) (t a : Nat) (w : MemResult × Option SlotWord) : State :=
  match w.1, w.2 with
  | .clean, _ => s
  | .corrected, _ => s.sramFinds t a 8 (.corrected a)
  | .uncorrectable, none => s.sramFinds t a 8 (.uncorrectable a)
  | .uncorrectable, some q => (s.sramFinds t a 8 (.uncorrectable a)).slotWordLost q

/-- TILE_SCRUB_ACCESS: the scrubber reads the next 32-byte word of a bank and corrects or poisons its four 64-bit words, each given with the
slot it belongs to, if it is one's (R161, R235, R237). -/
def bodyTileScrubAccess (x y bank : Nat) (ws : List (MemResult × Option SlotWord)) (s : State) : State :=
  let t := tileNo x y
  if 220 ≤ x ∨ 96 ≤ y ∨ 8 ≤ bank ∨ s.fab.retired.contains t = true then s
  else
    let k := (s.tile t).scrubs.get bank 0
    let s := s.setTile t { s.tile t with scrubs := (s.tile t).scrubs.set bank ((k + 1) % 1024) }
    (List.range 4).foldl (fun (s : State) j => s.scrubWord t ((8 * k + bank) * 32 + 8 * j) (ws.getD j (.clean, none))) s

def execTileScrubAccess (x y bank : Nat) (ws : List (MemResult × Option SlotWord)) (s : State) : Out :=
  commit s (s.unlessSafe (bodyTileScrubAccess x y bank ws))

/-! ### The mesh slot -/

/-- M0 of a packet to `dst`, on absolute coordinates from the partition's origin; a multicast travels on virtual channel 2 (Table 11.1,
R261, R267). -/
def sendM0 (p : ImgSlot) (dst : SendTo) (vc len queue : Nat) : Nat :=
  let tail (vc : Nat) : Nat := vc % 4 * 2 ^ 60 + len % 2 ^ 13 * 2 ^ 16 + p.pgen % 256 * 2 ^ 8 + queue % 256
  let xy (dx dy : Nat) : Nat := dx % 256 * 2 ^ 52 + dy % 128 * 2 ^ 45
  match dst with
  | .tile dx dy => tail vc + xy (p.x0 + dx) (p.y0 + dy)
  | .edge side place =>
    if side = 0 then tail vc + xy (p.x0 + place) 0x7E else if side = 1 then tail vc + xy 0xFF (p.y0 + place)
    else if side = 2 then tail vc + xy (p.x0 + place) 0x7F else tail vc + xy 0xFE (p.y0 + place)
  | .row dy a b => 2 ^ 62 + tail 2 + xy 0 (p.y0 + dy) + (p.x0 + a) % 256 * 2 ^ 37 + (p.x0 + b) % 256 * 2 ^ 29
  | .column dx a b => 2 ^ 63 + tail 2 + xy (p.x0 + dx) 0 + (p.y0 + a) % 256 * 2 ^ 37 + (p.y0 + b) % 256 * 2 ^ 29

/-- The destination lies in the sender's partition, or is an edge (R256). -/
def sendInside (p : ImgSlot) : SendTo → Bool
  | .tile dx dy => decide (dx < p.w) && decide (dy < p.h)
  | .edge _ _ => true
  | .row dy a b => decide (dy < p.h) && decide (a < p.w) && decide (b < p.w)
  | .column dx a b => decide (dx < p.w) && decide (a < p.h) && decide (b < p.h)

/-- The virtual channel a SEND travels on (R257, R261). -/
def sendChannel : SendTo → Nat → Nat
  | .tile _ _, vc => vc
  | .edge _ _, vc => vc
  | .row _ _ _, _ => 2
  | .column _ _ _, _ => 2

/-- M1 of a packet from a tile of partition `n` (Table 11.1). -/
def sendM1 (x y n tag : Nat) : Nat := x * 2 ^ 56 + y * 2 ^ 49 + n % 128 * 2 ^ 42 + tag % 2 ^ 32

/-- SEND: one packet from SRAM into the tile's router, once the channel's credits cover its flits; a malformed header is dropped there, at the
first router (R248, R255 to R258, R261, R267). -/
def bodySend (i : Issue) (dst : SendTo) (addr len vc queue tag : Nat) (user : Word) (ecc : SramEcc) (s : State) : State :=
  let vc := sendChannel dst vc
  s.issueAt i slotM [.send vc len] fun n p isUser s =>
    let t := i.tile
    let m0 := sendM0 p dst vc len queue
    if !sendInside p dst then s.meshDrop t m0 63 48
    else
      s.sramRead i isUser addr len ecc fun bs s =>
        let pkt : MeshPkt := ⟨BitVec.ofNat 64 m0, BitVec.ofNat 64 (sendM1 i.x i.y n tag), user, bs⟩
        if !headerOk pkt then s.meshDrop t m0 31 16 else s.meshPush (meshAt t 4 vc) pkt

def execSend (i : Issue) (dst : SendTo) (addr len vc queue tag : Nat) (user : Word) (ecc : SramEcc) (s : State) : Out :=
  commit s (bodySend i dst addr len vc queue tag user ecc s)

/-- RECV: the header of the next received packet into three general registers from `rd` on, and its place in the ring returns (log entry
52). With nothing received the spec states no result: free values. -/
def bodyRecv (i : Issue) (queue rd : Nat) (s : State) : State :=
  s.issueAt i slotM [] fun _ _ _ s =>
    let x := s.tile i.tile
    match x.inbox.get queue [] with
    | p :: rest =>
      s.setTile i.tile ({ (((x.setGreg rd p.m0).setGreg (rd + 1) p.m1).setGreg (rd + 2) p.m2) with inbox := x.inbox.set queue rest } : Tile)
    | [] =>
      let w (k : Nat) : Word := BitVec.ofNat 64 (Config.freeValue (s.free + k))
      { s.setTile i.tile (((x.setGreg rd (w 0)).setGreg (rd + 1) (w 1)).setGreg (rd + 2) (w 2)) with free := s.free + 3 }

def execRecv (i : Issue) (queue rd : Nat) (s : State) : Out := commit s (bodyRecv i queue rd s)

/-! ### The scalar slot -/

/-- WAIT: the bundle is delayed until its condition is met, and then goes on (R248). -/
def bodyWait (i : Issue) (on_ : WaitOn) (s : State) : State := s.issueAt i slotS [.wait on_] fun _ _ _ s => s

def execWait (i : Issue) (on_ : WaitOn) (s : State) : Out := commit s (bodyWait i on_ s)

/-- SETRM: TRM takes a direction of Table 2.12 (R244). -/
def bodySetrm (i : Issue) (rm : Nat) (s : State) : State :=
  s.issueAt i slotS [] fun _ _ _ s => if rm ≤ 4 then s.setTile i.tile { s.tile i.tile with trm := rm } else s

def execSetrm (i : Issue) (rm : Nat) (s : State) : Out := commit s (bodySetrm i rm s)

/-- HALT: the tile stops with HALT = 1 (Table 10.5). -/
def bodyHalt (i : Issue) (s : State) : State := s.issueAt i slotS [] fun _ _ _ s => s.haltTile i.tile 1 0 false

def execHalt (i : Issue) (s : State) : Out := commit s (bodyHalt i s)

/-- The value a scalar operation writes; none for one that writes no register. -/
def scalarValue (op : SOp) (flags a b : Nat) : Option Nat :=
  let m := 2 ^ 64
  match op with
  | .add => some ((a + b) % m)
  | .sub => some ((a + m - b) % m)
  | .and => some (Nat.land a b)
  | .or => some (Nat.lor a b)
  | .xor => some (Nat.xor a b)
  | .shl => some (shiftOr 0 64 a b (a * 2 ^ (b % 64) % m))
  | .shr => some (shiftOr 1 64 a b (a / 2 ^ (b % 64)))
  | .sar => some (shiftOr 2 64 a b (ofSigned 64 (toSigned 64 a / 2 ^ (b % 64))))
  | .eq => some (truth 64 (a == b))
  | .ne => some (truth 64 (a != b))
  | .lt => some (truth 64 (decide (toSigned 64 a < toSigned 64 b)))
  | .ltu => some (truth 64 (decide (a < b)))
  | .imm v => some v.toNat
  | .readFlags => some flags
  | _ => none

/-- SCALAR_OPERATION (R247, Table 10.5). A branch or loop end taken names the bundle that issues after its own. -/
def bodyScalarOperation (i : Issue) (op : SOp) (rd ra rb : Nat) (s : State) : State :=
  s.issueAt i slotS [] fun _ _ _ s =>
    let t := i.tile
    let x := s.tile t
    let a := (x.greg ra).toNat
    match scalarValue op (s.tileFl t) a (x.greg rb).toNat with
    | some v => s.setTile t (x.setGreg rd (BitVec.ofNat 64 v))
    | none =>
      match op with
      | .branch nz target => if (a != 0) == nz then s.setTile t { x with next := some (target % 4096) } else s
      | .loopStart level => s.setTile t { x with loops := x.loops.set (level % 4) a }
      | .loopEnd level target =>
        let c := x.loops.get (level % 4) 0
        if 1 < c then s.setTile t { x with loops := x.loops.set (level % 4) (c - 1), next := some (target % 4096) }
        else s.setTile t { x with loops := x.loops.set (level % 4) 0 }
      | .lowerFlags => s.lowerFl t a
      | .raiseFlags => s.raiseFl t (a % 32)
      | _ => s

def execScalarOperation (i : Issue) (op : SOp) (rd ra rb : Nat) (s : State) : Out := commit s (bodyScalarOperation i op rd ra rb s)

end Sys2Proof.Machine
end

