-- ==== Sys2Proof/Machine/Mesh.lean ====
section
/-!
DEFINITION. The way of mesh packets through the routers (R256 to R258, R261), their delivery into receive queues (R260), and the packets that
stream engines put into the mesh (R29).
-/

namespace Sys2Proof.Machine

/-! ### Delivery -/

/-- Bytes of a packet in a receive queue: its header and body (R255). -/
def pktBytes (p : MeshPkt) : List Byte := wordsBytes [p.m0, p.m1, p.m2] ++ p.data

/-- Bytes written around a ring of `size` bytes at `base`, from place `at_`; a word that they cover in part is read first (R235). -/
def State.ringWrite (s : State) (t base size at_ : Nat) (bs : List Byte) (e : SramEcc) : State :=
  let first := bs.take (size - at_)
  let rest := bs.drop first.length
  let s := (s.partFinds t (base + at_) first.length e).partFinds t base rest.length e
  s.setTile t (((s.tile t).storeBytes (base + at_) first).storeBytes base rest)

/-- The router writes a whole packet into its receive queue; none while the queue has no room, and the packet waits (R260). -/
def State.queueIn (s : State) (t : Nat) (p : MeshPkt) (e : SramEcc) : Option State :=
  let x := s.tile t
  let q := mfield p 7 0
  match x.queues.find? q with
  | none => none
  | some pl =>
    let bs := pktBytes p
    let used := ((x.inbox.get q []).map fun e => (pktBytes e).length).sum
    if pl.size < used + bs.length then none
    else
      let at_ := x.wpos.get q 0 % max pl.size 1
      let s := s.ringWrite t pl.base pl.size at_ bs e
      let y := s.tile t
      some (s.setTile t { y with
        inbox := y.inbox.set q (y.inbox.get q [] ++ [p]), wpos := y.wpos.set q ((at_ + bs.length) % max pl.size 1) })

/-- A packet at a tile it is for: the partition and generation rules of R256, then its queue; none while it waits. Only a unicast counts
FOREIGN (R261). A retired tile lies in no partition (R278). -/
def State.meshLocal (s : State) (t : Nat) (p : MeshPkt) (unicast : Bool) (e : SramEcc) : Option State :=
  let spart := p.m1.field 48 42
  let foreign : Option State := some (if unicast then s.meshDrop t p.m0.toNat 63 48 else s)
  match (if s.fab.retired.contains t then none else s.partOf t) with
  | none => foreign
  | some (n, q) =>
    if spart ≠ n ∧ spart ≠ 127 then foreign
    else if mfield p 15 8 ≠ q.pgen % 256 then some (s.meshDrop t p.m0.toNat 47 32)
    else s.queueIn t p e

/-! ### Routing -/

/-- The output a unicast packet takes at (x, y): along X to its column, then along Y to its row, then to the tile or out of the edge it names
(R256; log entry 110). Outputs are numbered as inputs are. -/
def unicastWay (p : MeshPkt) (x y : Nat) : Nat :=
  let dx := mfield p 59 52
  let dy := mfield p 51 45
  let tx := if dx = 0xFE then 0 else if dx = 0xFF then 219 else dx
  let ty := if dy = 0x7E then 0 else if dy = 0x7F then 95 else dy
  if x < tx then 1 else if tx < x then 3
  else if y < ty then 2 else if ty < y then 0
  else if dx = 0xFE then 3 else if dx = 0xFF then 1
  else if dy = 0x7E then 0 else if dy = 0x7F then 2
  else 4

/-- A multicast's place along its line at (x, y). -/
def linePlace (p : MeshPkt) (x y : Nat) : Nat := if mfield p 63 62 = 1 then x else y

/-- The output a multicast takes along its line, toward END (R261). -/
def lineWay (p : MeshPkt) (c : Nat) : Nat :=
  let e := mfield p 36 29
  if mfield p 63 62 = 1 then (if c < e then 1 else 3) else if c < e then 2 else 0

/-- A place of the line lies on a multicast's segment. -/
def onSegment (p : MeshPkt) (c : Nat) : Bool :=
  let a := mfield p 44 37
  let b := mfield p 36 29
  (decide (a ≤ c) && decide (c ≤ b)) || (decide (b ≤ c) && decide (c ≤ a))

/-- The input buffer at the other end of a router's output; none beyond an edge of the grid. -/
def beyond (t way vc : Nat) : Option Nat :=
  let x := t % 220
  let y := t / 220
  match way with
  | 0 => if y = 0 then none else some (meshAt (t - 220) 2 vc)
  | 1 => if x = 219 then none else some (meshAt (t + 1) 3 vc)
  | 2 => if y = 95 then none else some (meshAt (t + 220) 0 vc)
  | _ => if x = 0 then none else some (meshAt (t - 1) 1 vc)

/-- The first packet of buffer `b` starts on an output: into the next router's buffer, where its credits cover every flit and the router
works, or out of the mesh (R256, R258, R278). The state after it and the buffer it is in; none while it cannot start. -/
def State.meshForward (s : State) (b way : Nat) (p : MeshPkt) : Option (State × Option Nat) :=
  match beyond (meshTile b) way (meshVc b) with
  | none => some (s.meshPop b, none)
  | some n =>
    if s.fab.routers.contains (meshTile n) ∨ s.meshCredit n < flits p.data.length then none
    else some ((s.meshPop b).meshPush n p, some n)

/-- One router's work on the first packet of an input buffer: a unicast is delivered or goes on; a multicast delivers its copy on its segment
and goes on only if both can be (R256, R258, R261). -/
def State.meshHop (s : State) (b : Nat) (e : SramEcc) : Option (State × Option Nat) :=
  let t := meshTile b
  let x := t % 220
  let y := t / 220
  match (s.meshBuf b).pkts with
  | [] => none
  | p :: _ =>
    if s.fab.routers.contains t then none
    else if mfield p 63 62 = 0 then
      let way := unicastWay p x y
      if way = 4 then (s.meshLocal t p true e).map fun s => (s.meshPop b, none) else s.meshForward b way p
    else
      let c := linePlace p x y
      if !onSegment p c then s.meshForward b (lineWay p c) p
      else
        match s.meshLocal t p false e with
        | none => none
        | some s' => if c = mfield p 36 29 then some (s'.meshPop b, none) else s'.meshForward b (lineWay p c) p

/-- The first packet of buffer `b` moves on, router by router, until it is delivered, leaves, waits, or as a multicast has delivered a copy;
the fuel bounds the routers of its way. -/
def State.meshRun : Nat → State → Nat → SramEcc → State
  | 0, s, _, _ => s
  | f + 1, s, b, e =>
    let t := meshTile b
    let stops := match (s.meshBuf b).pkts with
      | p :: _ => mfield p 63 62 != 0 && onSegment p (linePlace p (t % 220) (t / 220))
      | [] => true
    match s.meshHop b e with
    | none => s
    | some (s', none) => s'
    | some (s', some n) => if !stops && (s'.meshBuf n).pkts.length == 1 then State.meshRun f s' n e else s'

/-- Routers on the longest way through the mesh. -/
def meshSpan : Nat := 220 + 96

/-! ### From a stream engine (R29, R255, R257) -/

/-- The packet that a hub die's edge logic forms: from an edge, on virtual channel 1, or 2 for a multicast (Tables 11.1 and 11.2). -/
def feedPacket (f : Feed) (p : ImgSlot) (data : List Byte) : MeshPkt :=
  let m1 := 0xFD * 2 ^ 56 + (if f.hub < 2 then 0x7E else 0x7F) * 2 ^ 49 + 127 * 2 ^ 42 + f.tag % 2 ^ 32
  ⟨BitVec.ofNat 64 (sendM0 p f.dst (sendChannel f.dst 1) f.len f.queue), BitVec.ofNat 64 m1, f.user, data⟩

/-- The column at which a hub die's packet enters: its destination's (R18, R256, R261). -/
def feedColumn (f : Feed) (p : ImgSlot) : Option Nat :=
  match f.dst with
  | .tile dx _ => some (p.x0 + dx)
  | .column dx _ _ => some (p.x0 + dx)
  | .edge _ _ => none
  | .row _ _ _ => none

/-- Bytes of a stream engine's buffer enter the mesh at its hub die's edge for the partition it serves, once the edge link's credits cover
them; the engine goes on reading (R18, R29, R258). A partition that does not run, or is quiesced, takes none (R276). -/
def State.feedMesh (s : State) (f : Feed) : State :=
  let g := s.engine f.hub f.engine
  match g.slot with
  | none => s
  | some n =>
    let p := s.islot n
    match feedColumn f p with
    | none => s
    | some x =>
      let t := if f.hub < 2 then tileNo x 0 else tileNo x 95
      let b := meshAt t (if f.hub < 2 then 0 else 2) (sendChannel f.dst 1)
      if p.state ≠ .running ∨ p.quiet = true ∨ sendInside p f.dst = false ∨ exitHub t ≠ f.hub ∨ g.buf.length < f.len
          ∨ s.meshCredit b < flits f.len then s
      else
        let pkt := feedPacket f p (g.buf.take f.len)
        let s := (s.setEngine f.hub f.engine { g with buf := g.buf.drop f.len }).streamIssue f.hub f.engine
        if !headerOk pkt then s.meshDrop t pkt.m0.toNat 31 16 else s.meshPush b pkt

/-! ### The commands -/

/-- What a command's packet meets on its way: it may first enter from a stream engine, and its same-cycle ties at router outputs count for the
contexts they are of (R259). -/
def State.meshGo (s : State) (b : Nat) (feed : Option Feed) (ties : List Nat) (e : SramEcc) (multicast : Bool) : State :=
  let s := match feed with | some f => s.feedMesh f | none => s
  match (s.meshBuf b).pkts with
  | [] => s
  | p :: _ =>
    if (mfield p 63 62 != 0) != multicast then s
    else (ties.foldl (fun (s : State) n => s.tieCount n 1) s).meshRun meshSpan b e

/-- MESH_DELIVER: the unicast packet that is first in a router's input buffer goes to its destination, as far as the buffers on its way allow
(R256 to R258). -/
def bodyMeshDeliver (x y d vc : Nat) (feed : Option Feed) (ties : List Nat) (e : SramEcc) (s : State) : State :=
  if 220 ≤ x ∨ 96 ≤ y ∨ 5 ≤ d ∨ 3 ≤ vc then s else s.meshGo (meshAt (tileNo x y) d vc) feed ties e false

def execMeshDeliver (x y d vc : Nat) (feed : Option Feed) (ties : List Nat) (e : SramEcc) (s : State) : Out :=
  commit s (s.unlessSafe (bodyMeshDeliver x y d vc feed ties e))

/-- MESH_MULTICAST_DELIVER: the multicast that is first in a router's input buffer of virtual channel 2 goes along its line up to the next tile
of its segment, and delivers a copy there (R261). -/
def bodyMeshMulticastDeliver (x y d : Nat) (feed : Option Feed) (ties : List Nat) (e : SramEcc) (s : State) : State :=
  if 220 ≤ x ∨ 96 ≤ y ∨ 5 ≤ d then s else s.meshGo (meshAt (tileNo x y) d 2) feed ties e true

def execMeshMulticastDeliver (x y d : Nat) (feed : Option Feed) (ties : List Nat) (e : SramEcc) (s : State) : Out :=
  commit s (s.unlessSafe (bodyMeshMulticastDeliver x y d feed ties e))

/-- MESH_CREDIT_RETURN: the credit of a flit that left an input buffer goes back to its sender (R258). -/
def bodyMeshCreditReturn (x y d vc : Nat) (s : State) : State :=
  let b := meshAt (tileNo x y) d vc
  let m := s.meshBuf b
  if 220 ≤ x ∨ 96 ≤ y ∨ 5 ≤ d ∨ 3 ≤ vc ∨ m.owed = 0 then s else s.setMeshBuf b { m with owed := m.owed - 1 }

def execMeshCreditReturn (x y d vc : Nat) (s : State) : Out := commit s (s.unlessSafe (bodyMeshCreditReturn x y d vc))

end Sys2Proof.Machine
end

