-- ==== Sys2Proof/Machine/Images.lean ====
section
/-!
DEFINITION. Fabric images (chapter 11): the container (R263 to R266), the load-time checks of Table 11.5, and the image slot states of
Table 11.7.
-/

namespace Sys2Proof.Machine

/-! ### The container -/

/-- `k` bytes at `i` as a number. -/
def at_ (bs : List Byte) (i k : Nat) : Nat := beNat ((bs.drop i).take k)

/-- A section of a container: type, offset and size. -/
structure Sect where
  typ  : Nat
  off  : Nat
  size : Nat
  deriving DecidableEq, Repr

/-- The section table (R263). -/
def sectsOf (bs : List Byte) : List Sect :=
  (List.range (at_ bs 20 4)).map fun i => ⟨at_ bs (128 + 16 * i) 4, at_ bs (136 + 16 * i) 4, at_ bs (140 + 16 * i) 4⟩

/-- The resource declaration, fields packed in the order of Table 11.4 (R266; log entry 53). -/
def declOf (d : List Byte) (i : Image) : Image :=
  let n := min (at_ d 29 1) 16
  { i with minW := at_ d 0 1, minH := at_ d 1 1, maxW := at_ d 2 1, maxH := at_ d 3 1, extends_ := at_ d 4 4, absentOk := at_ d 8 2,
           uops := at_ d 10 2, sramKib := at_ d 12 2, respOut := at_ d 14 4, nregions := at_ d 18 2, regionMib := at_ d 20 4,
           streams := (List.range 4).map fun k => at_ d (24 + k) 1, pclass := at_ d 28 1
           flows := (List.range n).map fun k =>
             let f := Config.imageFlow ((d.drop (30 + 16 * k)).take 16)
             ⟨f.1, f.2.1, f.2.2⟩ }

/-- Check 1 of Table 11.5 on the bytes of a container: the image it holds, or none (R263, R266). -/
def parseImage (bs : List Byte) : Option Image :=
  let len := at_ bs 24 8
  let ns := at_ bs 20 4
  let ss := sectsOf bs
  let count (t : Nat) : Nat := (ss.filter fun x => x.typ == t).length
  let user := at_ bs 7 1 == 1
  if at_ bs 0 4 ≠ 0x5A46494D ∨ at_ bs 4 2 ≠ 1 ∨ 1 < at_ bs 7 1 ∨ len ≠ bs.length ∨ 64 * 2 ^ 20 < len ∨ ns = 0 ∨ 16 < ns
      ∨ len < 232 + 16 * ns then none
  else if ss.any fun x => x.typ == 0 || decide (7 < x.typ) || x.off % 64 != 0 || decide (x.off < 128 + 16 * ns)
      || decide (len - 104 < x.off + x.size) then none
  else
    match ss.find? fun x => x.typ == 1 with
    | none => none
    | some d =>
      let i := declOf ((bs.drop d.off).take d.size)
        { user := user, imageId := at_ bs 8 4, imageVer := at_ bs 12 4, svc := at_ bs 16 4, logical := bs.take (len - 104) }
      if count 1 ≠ 1 ∨ (i.uops ≠ 0 ∧ count 2 = 0) ∨ 1 < count 3 ∨ (user = true ∧ count 6 ≠ 0) ∨ i.pclass = 0 ∨ 15 < i.pclass
          ∨ (if user then i.svc ≠ 0 else i.svc = 0 ∨ 4 < i.svc) then none
      else some i

/-- A container verifies under a key (R264). -/
def containerSigned (bs key : List Byte) : Bool :=
  let n := bs.length
  at_ bs (n - 104) 8 == 1 && (bs.drop 32).take 8 == (sha256 (key.take 97)).take 8
    && ecdsaOk key (bs.take (n - 104)) (at_ bs (n - 96) 48) (at_ bs (n - 48) 48)

/-- Check 2: a service image under a ROM key, a user image under a key listed for its job (R264). -/
def State.imageSigned (s : State) (user : Bool) (job : Nat) (bs : List Byte) : Bool :=
  if user then s.cfg.userKeys.any fun k => k.2 == job && containerSigned bs k.1 else Config.romKeys.any (containerSigned bs)

/-! ### The mesh budget (R272) -/

/-- Links a packet takes along a row: each from its tile, eastward (1) or westward (3). -/
def pathX (y a b : Nat) : List (Nat × Nat × Nat) :=
  if a ≤ b then (List.range (b - a)).map fun i => (a + i, y, 1) else (List.range (a - b)).map fun i => (a - i, y, 3)

/-- Links along a column: southward (2) or northward (0). -/
def pathY (x a b : Nat) : List (Nat × Nat × Nat) :=
  if a ≤ b then (List.range (b - a)).map fun i => (x, a + i, 2) else (List.range (a - b)).map fun i => (x, a - i, 0)

/-- The places a flow ends at, each with the link that leaves the mesh there, if any: the partition's tiles, or an edge over the
partition's columns or rows. -/
def flowEnds (x0 y0 w h dst : Nat) : List (Nat × Nat × List (Nat × Nat × Nat)) :=
  let cols := (List.range w).map (x0 + ·)
  let rows := (List.range h).map (y0 + ·)
  if dst = 1 then cols.map fun x => (x, 0, [(x, 0, 10)])
  else if dst = 2 then rows.map fun y => (219, y, [(219, y, 11)])
  else if dst = 3 then cols.map fun x => (x, 95, [(x, 95, 12)])
  else if dst = 4 then rows.map fun y => (0, y, [(0, y, 13)])
  else rows.flatMap fun y => cols.map fun x => (x, y, [])

/-- The dimension-ordered path of a flow to one place: from the row's entry on a west or east edge, from the column on a north or south
edge, or from the partition's centre tile. -/
def flowPath (x0 y0 w h src : Nat) (e : Nat × Nat × List (Nat × Nat × Nat)) : List (Nat × Nat × Nat) :=
  let x := e.1
  let y := e.2.1
  let cx := x0 + w / 2
  let cy := y0 + h / 2
  (if src = 1 then (x, 0, 6) :: pathY x 0 y
   else if src = 2 then (219, y, 7) :: pathX y 219 x
   else if src = 3 then (x, 95, 8) :: pathY x 95 y
   else if src = 4 then (0, y, 9) :: pathX y 0 x
   else pathX cy cx x ++ pathY x cy y) ++ e.2.2

/-- The image takes a partition of its own (chapter 11, "Partitions"). -/
def Image.hasTiles (i : Image) : Bool := i.uops != 0 && i.extends_ == 0

/-- The slot whose image an extending image extends. -/
def State.hostSlot (s : State) (i : Image) : Option (Nat × ImgSlot) :=
  if i.extends_ = 0 then none
  else List.find? (fun (e : Nat × ImgSlot) => e.2.state != .empty && e.2.image.imageId == i.extends_) s.fab.slots

/-- What an image's flows add: each link with its rate as a fraction. -/
def flowLoads (i : Image) (x0 y0 w h : Nat) : List ((Nat × Nat × Nat) × Nat × Nat) :=
  i.flows.flatMap fun f =>
    let es := flowEnds x0 y0 w h f.dst
    es.flatMap fun e => (flowPath x0 y0 w h f.src e).map fun l => (l, f.rate, max es.length 1)

/-- The rectangle an image's flows are spread over: its own partition, its host's where it extends one, and the whole grid for an image
without tiles (log entry 113). -/
def State.flowRect (s : State) (i : Image) (x0 y0 w h : Nat) : Nat × Nat × Nat × Nat :=
  if i.hasTiles then (x0, y0, w, h)
  else
    match s.hostSlot i with
    | some e => (e.2.x0, e.2.y0, e.2.w, e.2.h)
    | none => (0, 0, 220, 96)

/-- The loads of an image's flows where it lies or would lie. -/
def State.imageLoads (s : State) (i : Image) (x0 y0 w h : Nat) : List ((Nat × Nat × Nat) × Nat × Nat) :=
  let r := s.flowRect i x0 y0 w h
  flowLoads i r.1 r.2.1 r.2.2.1 r.2.2.2

/-- A declared flow of the image leaves, or passes, the router of tile `t` (R278). -/
def State.flowsThrough (s : State) (i : Image) (x0 y0 w h t : Nat) : Bool :=
  (s.imageLoads i x0 y0 w h).any fun l => tileNo l.1.1 l.1.2.1 == t

/-- No link exceeds the budget, in percent of 128 GB/s. -/
def loadsOk (pct : Nat) (ls : List ((Nat × Nat × Nat) × Nat × Nat)) : Bool :=
  (ls.map Prod.fst).eraseDups.all fun l =>
    let t := (ls.filter fun e => e.1 == l).foldl (fun (a : Nat × Nat) e => (a.1 * e.2.2 + e.2.1 * a.2, a.2 * e.2.2)) (0, 1)
    decide (t.1 * 100 ≤ 128 * pct * t.2)

/-! ### The checks of Table 11.5 -/

/-- A load as Temond judges it. -/
structure Load where
  slot  : Nat
  job   : Nat
  x0    : Nat
  y0    : Nat
  w     : Nat
  h     : Nat
  actAt : Nat
  deriving DecidableEq, Repr

/-- Tiles of a rectangle. -/
def rectTiles (x0 y0 w h : Nat) : List Nat := (List.range h).flatMap fun j => (List.range w).map fun k => tileNo (x0 + k) (y0 + j)

/-- Retired tiles in a rectangle. -/
def State.absentIn (s : State) (l : Load) : Nat := (s.fab.retired.filter fun t => (rectTiles l.x0 l.y0 l.w l.h).contains t).length

/-- Two rectangles share a tile. -/
def overlaps (p : ImgSlot) (l : Load) : Bool :=
  decide (p.x0 < l.x0 + l.w) && decide (l.x0 < p.x0 + p.w) && decide (p.y0 < l.y0 + l.h) && decide (l.y0 < p.y0 + p.h)

/-- Check 6. -/
def State.tilesOk (s : State) (i : Image) (l : Load) : Bool :=
  !i.hasTiles
    || (l.w != 0 && l.h != 0 && decide (l.x0 + l.w ≤ 220) && decide (l.y0 + l.h ≤ 96) && decide (max i.minW 1 ≤ l.w)
        && decide (max i.minH 1 ≤ l.h) && (i.maxW == 0 || decide (l.w ≤ i.maxW)) && (i.maxH == 0 || decide (l.h ≤ i.maxH))
        && (s.fab.slots.all fun e => e.2.state == .empty || e.1 == l.slot || !overlaps e.2 l) && decide (s.absentIn l ≤ i.absentOk)
        && (s.fab.routers.all fun t => !(rectTiles l.x0 l.y0 l.w l.h).contains t))

/-- The accumulator share of a tile of the collective partition, in KiB (R128, R268). -/
def State.accShare (s : State) : Nat := ceilDiv s.cfg.accKib (max s.areaTiles.length 1)

/-- Check 7: SRAM with the accumulator share, and receive queues of virtual channel 1 that hold RESP_OUT (R260, R268). -/
def State.sramOk (s : State) (i : Image) (bs : List Byte) : Bool :=
  let share := if i.svc = 1 ∨ i.svc = 2 then s.accShare else 0
  let host := match s.hostSlot i with | some e => e.2.image.sramKib | none => 0
  let q := ((List.range 16).map fun k => if (Config.imageQueue bs k).2.2 = 1 then (Config.imageQueue bs k).2.1 else 0).sum
  decide (i.sramKib + share + host ≤ 256) && decide (i.respOut ≤ q)

/-- Units of 4 KiB that the `k`-th of an image's regions takes: REGION_MIB spread evenly, at least one (log entry 53). -/
def Image.regionUnits (i : Image) (k : Nat) : Nat :=
  max 1 (i.regionMib * 256 * (k + 1) / i.nregions - i.regionMib * 256 * k / i.nregions)

/-- The image's regions, created for its job with the key in its declaration: those that numbers and pages allow (R269; log entry 53). -/
def State.imageRegions (s : State) (i : Image) (job : Nat) : List Nat × State :=
  (List.range i.nregions).foldl (fun (a : List Nat × State) k =>
    match a.2.createRegion ⟨2 ^ 56 + Config.imageRegionKey i.logical % 2 ^ 16 * 2 ^ 24, i.regionUnits k * 2 ^ 32, job, none⟩ with
    | .ok (r, s) => (a.1 ++ [r], s)
    | .error _ => a) ([], s)

/-- Check 8: every region of the image can be created. -/
def State.regionsOk (s : State) (i : Image) (job : Nat) : Bool := (s.imageRegions i job).1.length == i.nregions

/-- Check 9; a flow through a failed router has no link (R278; log entry 105). -/
def State.meshOk (s : State) (i : Image) (l : Load) : Bool :=
  let others := (s.fab.slots.filter fun e => e.2.state != .empty && e.1 != l.slot).flatMap fun e =>
    s.imageLoads e.2.image e.2.x0 e.2.y0 e.2.w e.2.h
  (s.fab.routers.all fun t => !s.flowsThrough i l.x0 l.y0 l.w l.h t)
    && loadsOk (if s.cfg.meshPct = 0 then 75 else s.cfg.meshPct) (s.imageLoads i l.x0 l.y0 l.w l.h ++ others)

/-- Check 10. -/
def State.streamsOk (s : State) (i : Image) : Bool :=
  (List.range 4).all fun h =>
    decide (nth i.streams h + ((s.fab.slots.filter fun e => e.2.state != .empty).map fun e => nth e.2.image.streams h).sum ≤ 128)

/-- Tokens of an image: its class over the area of its partition (R31, R417, R221). -/
def State.imageCost (s : State) (i : Image) (l : Load) : Nat := s.costOf i.pclass (if i.hasTiles then l.w * l.h else 0)

/-- Checks 5 to 11 on an image: the reason code of the first that fails, 0 where all pass. -/
def State.placeReason (s : State) (i : Image) (l : Load) : Nat :=
  if (s.islot l.slot).state ≠ .empty ∨ 64 ≤ l.slot ∨ (i.user = true ∧ (l.slot < 4 ∨ i.extends_ ≠ 0))
      ∨ (i.extends_ ≠ 0 ∧ (s.hostSlot i).isNone) then 0x05
  else if !s.tilesOk i l then 0x06
  else if !s.sramOk i i.logical then 0x07
  else if !s.regionsOk i l.job then 0x08
  else if !s.meshOk i l then 0x09
  else if !s.streamsOk i then 0x0A
  else if s.tokensShort (s.imageCost i l) then 0x0B
  else 0

/-- Checks 3 and 4: the compatibility level and the programs. -/
def compatReason (compat : Nat) (bs : List Byte) (i : Image) : Nat :=
  if at_ bs 6 1 = 0 ∨ compat < at_ bs 6 1 then 0x03
  else if 4096 < i.uops ∨ Config.imageProgramsOk bs = false then 0x04
  else 0

/-- The reason code of the first check of Table 11.5 that a container fails, 0 where all pass. -/
def State.loadReason (s : State) (bs : List Byte) (l : Load) : Nat :=
  match parseImage bs with
  | none => 0x01
  | some i =>
    if !s.imageSigned i.user l.job bs then 0x02
    else
      let r := compatReason s.compat bs i
      if r ≠ 0 then r else s.placeReason i l

/-! ### Loading -/

/-- The receive queues that an image's router section fixes (R260). -/
def imageQueues (bs : List Byte) : Tbl QPlace :=
  (List.range 16).filterMap fun k =>
    let q := Config.imageQueue bs k
    if q.2.1 = 0 then none else some (k, (⟨q.1, q.2.1, q.2.2⟩ : QPlace))

/-- A tile with an image's queues and first SRAM contents written, for the tile at an offset from the partition's origin (R260, R263,
R270). -/
def Tile.loaded (x : Tile) (bs : List Byte) (dx dy : Nat) : Tile :=
  let x := ((Config.imageSram bs dx dy).filter fun p => decide (p.1 + p.2.length ≤ sramBytes)).foldl
    (fun (x : Tile) p => x.storeBytes p.1 p.2) x
  { x with queues := (imageQueues bs).foldl (fun (q : Tbl QPlace) e => q.set e.1 e.2) x.queues }

/-- A tile as an image load leaves it: stopped at bundle 0, its queues and first SRAM contents as the image fixes them (R232, R260,
R270). -/
def freshTile (bs : List Byte) (dx dy : Nat) : Tile := Tile.loaded {} bs dx dy

/-- The tile registers that an image load sets to 0 (Table 10.8). -/
def State.clearTileRegs (s : State) (t : Nat) : State :=
  [Reg.tileFlags, .tileSat, .tileFlush, .tileCubecyc].foldl (fun (s : State) r => s.setReg r (tileIdx t) 0) s

/-- Programs, SRAM and tables of a partition written; a retired tile is powered off and takes nothing (R270, R278). -/
def State.writeTiles (s : State) (bs : List Byte) (l : Load) : State :=
  ((rectTiles l.x0 l.y0 l.w l.h).filter fun t => !s.fab.retired.contains t).foldl (fun (s : State) t =>
    (s.setTile t (freshTile bs (t % 220 - l.x0) (t / 220 - l.y0))).clearTileRegs t) s

/-- An extending image's SRAM and tables added to its host's tiles (R268, R270). -/
def State.extendTiles (s : State) (bs : List Byte) (p : ImgSlot) : State :=
  ((rectTiles p.x0 p.y0 p.w p.h).filter fun t => !s.fab.retired.contains t).foldl (fun (s : State) t =>
    s.setTile t ((s.tile t).loaded bs (t % 220 - p.x0) (t / 220 - p.y0))) s

/-- What an image's load writes into tiles: its own partition's, or its host's. -/
def State.writeImage (s : State) (i : Image) (l : Load) : State :=
  if i.hasTiles then s.writeTiles i.logical l
  else match s.hostSlot i with | some e => s.extendTiles i.logical e.2 | none => s

/-- The descriptor list of the `j`-th stream engine of an image in hub die `h`, over its regions `rs` (R29, R263 section 5; log entry 53). -/
def Image.streamList (i : Image) (h j : Nat) (rs : List Nat) : List (Nat × Nat × Nat) :=
  (Config.imageStream i.logical h j).filterMap fun d => (rs[d.1]?).map fun r => (r, d.2.1, d.2.2)

/-- The lowest free stream engines of each hub die serve the image in slot `k`, as many as it declares (Table 11.5 check 10; log entry 53). -/
def State.takeEngines (s : State) (k : Nat) (i : Image) (rs : List Nat) : State :=
  (List.range 4).foldl (fun (s : State) h =>
    let free := (List.range 128).filter fun e => (s.engine h e).slot.isNone
    ((free.take (nth i.streams h)).zipIdx).foldl (fun (s : State) e =>
      s.setEngine h e.1 { slot := some k, list := i.streamList h e.2 rs }) s) s

/-- The numbers of the stream engines that serve slot `k`, 128 to a hub die. -/
def State.enginesOf (s : State) (k : Nat) : List Nat := (Tbl.keys s.fab.engines).filter fun n => (s.fab.engines.get n {}).slot == some k

/-- An engine begins its descriptor list anew (log entry 53). -/
def State.restartEngine (s : State) (n : Nat) : State :=
  match (s.fab.engines.get n {}).slot with
  | none => s
  | some k =>
    let p := s.islot k
    let j := ((s.enginesOf k).filter fun m => m / 128 == n / 128 && decide (m < n)).length
    s.setEngine (n / 128) (n % 128) { slot := some k, list := p.image.streamList (n / 128) j p.regions }

/-- The engines of a reloaded slot begin anew. -/
def State.restartEngines (s : State) (k : Nat) : State := (s.enginesOf k).foldl State.restartEngine s

/-- The engines of a slot go on issuing reads. -/
def State.streamSlot (s : State) (k : Nat) : State :=
  (s.enginesOf k).foldl (fun (s : State) n => s.streamIssue (n / 128) (n % 128)) s

/-- The image slots with a tile on fabric die `d`, their quiesced and loading states included. -/
def State.slotsOn (s : State) (d : Nat) : List Nat :=
  Tbl.keys (s.fab.slots.filter fun (e : Nat × ImgSlot) => e.2.state != .empty && e.2.w != 0
    && (List.range e.2.h).any fun j => (List.range e.2.w).any fun i => fabricDie (tileNo (e.2.x0 + i) (e.2.y0 + j)) == d)

/-- The PLL of fabric die `d` runs: some tile of the die is powered, in a partition or in the self-test of a spare column (R412). -/
def State.pllRuns (s : State) (d : Nat) : Bool :=
  !(s.slotsOn d).isEmpty || (match s.fab.subst with | some u => u.die == d | none => false)

/-- How long the tiles of a rectangle take to wake: 8 µs, and 20 µs more where a PLL of a die that it covers is off (R413). -/
def State.wakeTime (s : State) (x0 y0 w h : Nat) : Nat :=
  if w * h = 0 then 0
  else if (List.range h).all fun j => (List.range w).all fun i => s.pllRuns (fabricDie (tileNo (x0 + i) (y0 + j))) then 8000
  else 28000

/-- A load whose checks pass: everything reserved in one step, the partition generation advanced, and the slot LOADING (R30, R256,
R270). -/
def State.loadImage (s : State) (i : Image) (l : Load) : State :=
  let cost := s.imageCost i l
  let absent := s.absentIn l
  let g := (s.fab.pgens.get l.slot 0 + 1) % 256
  let r := s.imageRegions i l.job
  let s := r.2.takeEngines l.slot i r.1
  let own := i.hasTiles
  let p : ImgSlot :=
    { state := .loading, image := i, job := l.job, pgen := g, x0 := if own then l.x0 else 0, y0 := if own then l.y0 else 0,
      w := if own then l.w else 0, h := if own then l.h else 0, absent := if own then absent else 0
      actAt := if l.actAt = 0 then none else some l.actAt, tokens := cost, regions := r.1
      wakeAt := s.local + (if own then s.wakeTime l.x0 l.y0 l.w l.h else 0) }
  let s := s.setIslot l.slot p
  let s := { s with fab := { s.fab with pgens := s.fab.pgens.set l.slot g } }
  s.writeImage i l

/-! ### The image commands (R273) -/

/-- The command in the registers is under way. -/
def State.imgBusy (s : State) (op : Nat) : Bool := s.fab.cmdBusy == some op

/-- Field [hi:lo] of ARG `i` of the command under way, as the write of GO took it (R522). -/
def State.imgArg (s : State) (i hi lo : Nat) : Nat := s.fab.cmdArgs.getD i 0 / 2 ^ lo % 2 ^ (hi + 1 - lo)

/-- SLOT of the command. -/
def State.imgSlotArg (s : State) : Nat := s.imgArg 0 55 50

/-- A command finishes with a reason code (Table 11.8). -/
def State.imgDone (s : State) (slot reason : Nat) : State :=
  { s with fab := { s.fab with cmdBusy := none, taken := false, reason := reason, cmdSlot := slot, doneSeq := (s.fab.doneSeq + 1) % 2 ^ 32 } }

/-- The container in a region that a LOAD names, where the job, the key and the range allow it (R273; log entry 53). -/
def State.containerAt (s : State) (r key off job : Nat) : Option (List Byte) :=
  match s.liveRegion r with
  | none => none
  | some x =>
    if x.job ≠ job ∨ x.key ≠ key ∨ x.size < off + 128 then none
    else
      let n := beNat (s.readRgn r x (off + 24) 8)
      if x.size < off + n ∨ s.rgnPoisoned r x off n = true then none else some (s.readRgn r x off n)

/-- IMAGE_LOAD: the LOAD in the registers is checked by Table 11.5 and, where every check passes, reserved and written (R271); a LOAD that
has passed waits for IMAGE_LOAD_COMPLETE. -/
def bodyImageLoad (s : State) : State :=
  if !s.imgBusy 1 || (s.fab.taken && (s.islot s.imgSlotArg).state != .empty) || s.svc.holding then s
  else
    let job := s.imgArg 0 49 38
    let l : Load := ⟨s.imgSlotArg, job, s.imgArg 2 63 56, s.imgArg 2 55 49, s.imgArg 2 48 41, s.imgArg 2 40 34, s.imgArg 3 63 0⟩
    match s.containerAt (s.imgArg 0 37 22) (s.imgArg 0 21 6) (s.imgArg 1 63 0) job with
    | none => s.imgDone l.slot 0x01
    | some bs =>
      let r := s.loadReason bs l
      let r := if 6 < r ∨ r = 0 then (if l.w = 0 ∨ l.h = 0 then 0x06 else r) else r
      if r ≠ 0 then s.imgDone l.slot r
      else
        match parseImage bs with
        | none => s.imgDone l.slot 0x01
        | some i =>
          let s := s.loadImage i l
          { s with fab := { s.fab with taken := true } }

def execImageLoad (s : State) : Out := commit s (s.unlessSafe (bodyImageLoad))

/-- IMAGE_LOAD_COMPLETE: the tiles are awake, the writing is complete and the slot is LOADED; the LOAD command that waits for it finishes (R270,
R413; log entry 55). -/
def bodyImageLoadComplete (k : Nat) (s : State) : State :=
  let p := s.islot k
  let s := if p.state = .loading ∧ s.domBusy (1408 + k) = false ∧ p.wakeAt ≤ s.local then s.setIslot k { p with state := .loaded } else s
  if s.imgBusy 1 && s.fab.taken && s.imgSlotArg == k && (s.islot k).state == .loaded then s.imgDone k 0 else s

def execImageLoadComplete (k : Nat) (s : State) : Out := commit s (s.unlessSafe (bodyImageLoadComplete k))

/-- The sequencers of a slot start together, and its stream engines issue (R29, R270). -/
def State.launch (s : State) (k : Nat) : State := (s.setIslot k { s.islot k with state := .running, actAt := none }).streamSlot k

/-- IMAGE_ACTIVATE: a LOADED slot that no quiesce pauses starts at once, or at ACT_AT (R270, R273). -/
def bodyImageActivate (s : State) : State :=
  if !s.imgBusy 2 || s.svc.holding then s
  else
    let k := s.imgSlotArg
    if (s.islot k).state ≠ .loaded ∨ (s.islot k).quiet = true then s.imgDone k 0x05
    else
      let a := s.imgArg 3 63 0
      (if a = 0 then s.launch k else s.setIslot k { s.islot k with actAt := some a }).imgDone k 0

def execImageActivate (s : State) : Out := commit s (s.unlessSafe (bodyImageActivate))

/-- IMAGE_LAUNCH: the global count reaches the ACT_AT of a LOADED slot (R270). -/
def bodyImageLaunch (k : Nat) (s : State) : State :=
  match (s.islot k).actAt with
  | some a => if (s.islot k).state = .loaded ∧ (s.islot k).quiet = false ∧ a ≤ s.now then s.launch k else s
  | none => s

def execImageLaunch (k : Nat) (s : State) : Out := commit s (s.unlessSafe (bodyImageLaunch k))

/-- IMAGE_STOP: a RUNNING user slot stops at a bundle boundary (R270). -/
def bodyImageStop (s : State) : State :=
  if !s.imgBusy 3 || s.svc.holding then s
  else
    let k := s.imgSlotArg
    if k < 4 ∨ (s.islot k).state ≠ .running ∨ (s.islot k).quiet = true then s.imgDone k 0x05
    else (s.setIslot k { s.islot k with state := .loaded, actAt := none }).imgDone k 0

def execImageStop (s : State) : Out := commit s (s.unlessSafe (bodyImageStop))

/-- A slot is emptied: its regions are released as R191 releases them, its stream engines are free, tiles and SRAM zeroed, tokens released
(Table 11.7). -/
def State.emptySlot (s : State) (k : Nat) : State :=
  let p := s.islot k
  let s := p.regions.foldl (fun (s : State) r =>
    match s.liveRegion r with
    | some x => s.setRegion r { x with state := .draining, since := s.local }
    | none => s) s
  { s with fab := { s.fab with
    slots := s.fab.slots.erase k
    engines := s.fab.engines.filter fun e => e.2.slot != some k
    tiles := s.fab.tiles.filter fun e => !(p.covers e.1) } }

/-- IMAGE_UNLOAD: a LOADED user slot becomes EMPTY, and the deferral queue is attempted with its tokens (R270, R420). -/
def bodyImageUnload (s : State) : State :=
  if !s.imgBusy 4 || s.svc.holding then s
  else
    let k := s.imgSlotArg
    if k < 4 ∨ (s.islot k).state ≠ .loaded ∨ (s.islot k).quiet = true then s.imgDone k 0x05
    else ((s.emptySlot k).imgDone k 0).tryDeferred

def execImageUnload (s : State) : Out := commitMem s fun t => t.unlessSafe bodyImageUnload

/-- GO written with an OP: it runs as its row, and any OP but 1 to 4 finishes with reason 0x05 (Table 11.8). -/
def State.imgGo (s : State) : State :=
  if s.fab.cmdBusy.isSome then s
  else
    let op := s.fld .imgArg0 [] 63 56
    let args := [s.reg .imgArg0 [], s.reg .imgArg1 [], s.reg .imgArg2 [], s.reg .imgArg3 []]
    if 1 ≤ op ∧ op ≤ 4 then { s with fab := { s.fab with cmdBusy := some op, taken := false, cmdArgs := args } }
    else s.imgDone (s.fld .imgArg0 [] 55 50) 0x05

end Sys2Proof.Machine
end

