-- ==== Sys2Proof/Machine/Links.lean ====
section
/-!
DEFINITION. Ports and links: the link states of Table 15.3, negotiation, credit, link-level retry and PTP (chapter 15), and the
liveness and adaptive updates that follow from links (R286, R288).
-/

namespace Sys2Proof.Machine

/-! ### Link states (R366) -/

/-- The port's link replaced. -/
def State.setLink (s : State) (port : Nat) (l : Link) : State := s.setPort port { s.port port with link := l }

/-- A change of liveness is reported; lookups use it 1 µs later (R286, R366). -/
def State.reportLive (s : State) (port : Nat) (up : Bool) : State :=
  { s with fwd := { s.fwd with reports := s.fwd.reports ++ [(port, up, s.local + 1000)] } }

/-- The state a port restarts at: AN, or TRAINING when AN = 0 (Table 15.3). -/
def State.anState (s : State) (port : Nat) : LinkState :=
  if s.fld .prtPortCfg (portIdx port) 31 31 = 1 then .an else .training

/-- A port moves to a link state other than UP. Leaving UP is counted and reported, ends negotiation, discards the frames held
for replay and flushes the queues (R321, R366, R372, R382). -/
def State.linkTo (s : State) (port : Nat) (st : LinkState) : State :=
  let q := s.port port
  let wasUp := q.link.state == .up
  let l : Link := { q.link with
    state := st, since := s.local, negotiated := false, retryAct := 0, creditRx := 0, creditTx := 0, peerRbuf := 0
    helloGot := false, helloMore := 0, helloAt := none, retryFail := false }
  let s := s.setPort port { q with
    link := l, ctx := [], crx := [], rtx := [], rrx := [], localTx := [], replays := []
    sched := { q.sched with paused := [], xoffAt := none, waitAt := [] } }
  if wasUp then ((s.portCount port 12).reportLive port false).flushPort port else s

/-- A port enters UP (R366, R372). -/
def State.linkUpNow (s : State) (port : Nat) : State :=
  let q := s.port port
  let l : Link := { q.link with
    state := .up, since := s.local
    retryOwn := s.fld .prtPortCtl (portIdx port) 45 38, creditOwn := s.fld .prtPortCtl (portIdx port) 37 30 }
  (s.setLink port l).reportLive port true

/-- A port die's lanes are powered once the main rails are good (chapter 20). -/
def State.lanesPowered (s : State) : Bool := s.pins.pwrGood

/-- A lane of the port is isolated or under self-test, or its clock is lost, which holds the port in DISABLED (Tables 18.6 and
18.7). -/
def State.portHeld (s : State) (port : Nat) : Bool :=
  let die := port / 96
  let q := port % 96
  let mine (i : Nat) : Bool := decide (q ≤ i) && decide (i < q + s.lanes port)
  (s.port port).link.laneHold || s.pins.pllLost.contains die || !(if die < 4 then s.pins.sdA else s.pins.sdB)
    || (s.flt.isol.any fun r => r.die == die && r.block == 1 && mine r.inst)
    || (s.flt.tests.any fun t => t.msg.die == die && t.msg.block == 1 && mine t.msg.inst)

/-- The link state of a port. -/
def State.linkState (s : State) (port : Nat) : LinkState := (s.port port).link.state

/-- What a port's transmitter sends beside frames: Remote Fault ordered sets in DISABLED with its lanes powered, in the safe state, and while its
own PCS reports a Local Fault (R363, R367). -/
def State.sendsRemoteFault (s : State) (port : Nat) : Bool :=
  s.isPort port && s.lanesPowered && (s.flt.safe || s.linkState port == .disabled || (s.port port).link.lf)

/-- LINK_ENABLE: DISABLED to AN or TRAINING (Table 15.3). -/
def bodyLinkEnable (port : Nat) (s : State) : State :=
  if s.isPort port ∧ s.linkState port = .disabled ∧ s.fld .prtPortCtl (portIdx port) 63 63 = 0 ∧ s.lanesPowered
      ∧ s.flt.safe = false ∧ s.portHeld port = false then s.linkTo port (s.anState port)
  else s

def execLinkEnable (port : Nat) (s : State) : Out := commit s (bodyLinkEnable port s)

/-- AN_COMPLETE: TRAINING when the peer advertises the configured ability, AN restarted when not. -/
def bodyAnComplete (port : Nat) (ability : Bool) (s : State) : State :=
  if s.linkState port = .an then s.linkTo port (if ability then .training else .an) else s

def execAnComplete (port : Nat) (ability : Bool) (s : State) : Out := commit s (bodyAnComplete port ability s)

/-- TRAINING_COMPLETE: TRAINING to ALIGN. -/
def bodyTrainingComplete (port : Nat) (s : State) : State :=
  if s.linkState port = .training then (s.setPort port { s.port port with trainFails := [] }).linkTo port .align else s

def execTrainingComplete (port : Nat) (s : State) : Out := commit s (bodyTrainingComplete port s)

/-- A lane that failed to train adds to its failures in a row, the third of which is a LANE_TRAIN (Table 18.5); one that trained starts
again at none. -/
def State.laneTrained (s : State) (port lane : Nat) (failed : Bool) : State :=
  let q := s.port port
  let n := q.trainFails.get lane 0 + 1
  if !failed then s.setPort port { q with trainFails := q.trainFails.erase lane }
  else if n = 3 then (s.setPort port { q with trainFails := q.trainFails.erase lane }).raise (port / 96) 0x01 (port % 96 + lane) 0x002 1 0
  else s.setPort port { q with trainFails := q.trainFails.set lane n }

/-- TRAINING_TIMEOUT: 1 s in TRAINING restarts at AN or TRAINING. Bit i of `failed` names the port's lane i as one that did not complete. -/
def bodyTrainingTimeout (port failed : Nat) (s : State) : State :=
  if s.linkState port = .training ∧ (s.port port).link.since + 1000000000 ≤ s.local then
    ((List.range (s.lanes port)).foldl (fun (s : State) i => s.laneTrained port i (failed / 2 ^ i % 2 == 1)) s).linkTo port (s.anState port)
  else s

def execTrainingTimeout (port failed : Nat) (s : State) : Out := commit s (bodyTrainingTimeout port failed s)

/-- LANE_ALIGNED: ALIGN to HOLD. -/
def bodyLaneAligned (port : Nat) (s : State) : State :=
  if s.linkState port = .align then s.linkTo port .hold else s

def execLaneAligned (port : Nat) (s : State) : Out := commit s (bodyLaneAligned port s)

/-- HOLD_EXPIRE: 10 ms in HOLD with no fault brings the port UP. -/
def bodyHoldExpire (port : Nat) (s : State) : State :=
  let l := (s.port port).link
  if l.state = .hold ∧ l.since + 10000000 ≤ s.local ∧ l.lf = false ∧ l.rf = false ∧ l.laneHold = false then
    s.linkUpNow port
  else s

def execHoldExpire (port : Nat) (s : State) : Out := commit s (bodyHoldExpire port s)

/-- LINK_FAULT: UP to FAULT, HOLD restarted; no effect on other states but what LF and RF show. Both false is a loss of lock. -/
def bodyLinkFault (port : Nat) (lf rf : Bool) (s : State) : State :=
  if s.isPort port then
    let s := match s.linkState port with
      | .up => s.linkTo port .fault
      | .hold => s.linkTo port .hold
      | _ => s
    let l := (s.port port).link
    s.setLink port { l with lf := l.lf || lf, rf := l.rf || rf }
  else s

def execLinkFault (port : Nat) (lf rf : Bool) (s : State) : Out := commit s (bodyLinkFault port lf rf s)

/-- LINK_FAULT_CLEAR: within 50 ms FAULT returns to HOLD; after a retry failure the port retrains (R382). In HOLD the 10 ms without a
fault begin here. -/
def bodyLinkFaultClear (port : Nat) (s : State) : State :=
  if s.isPort port then
    let l := (s.port port).link
    let s := s.setLink port { l with lf := false, rf := false }
    if l.state = .fault then
      if l.retryFail then s.linkTo port (s.anState port)
      else if s.local < l.since + 50000000 then s.linkTo port .hold
      else s
    else if l.state = .hold ∧ (l.lf ∨ l.rf) then s.linkTo port .hold
    else s
  else s

def execLinkFaultClear (port : Nat) (s : State) : Out := commit s (bodyLinkFaultClear port s)

/-- LINK_FAULT_TIMEOUT: a fault of 50 ms, or a retry failure, restarts the port. -/
def bodyLinkFaultTimeout (port : Nat) (s : State) : State :=
  let l := (s.port port).link
  if l.state = .fault ∧ (l.retryFail ∨ l.since + 50000000 ≤ s.local) then s.linkTo port (s.anState port) else s

def execLinkFaultTimeout (port : Nat) (s : State) : Out := commit s (bodyLinkFaultTimeout port s)

/-- ADMIN_DOWN: the port is held in DISABLED (R367, Table 15.3). -/
def bodyAdminDown (port : Nat) (s : State) : State :=
  if s.isPort port then (s.setFld .prtPortCtl (portIdx port) 63 63 1).linkTo port .disabled else s

def execAdminDown (port : Nat) (s : State) : Out := commit s (s.ifMain (bodyAdminDown port))

/-- RETRAIN in UP or FAULT restarts the port (Tables 15.3 and 15.7). -/
def bodyRetrain (port : Nat) (s : State) : State :=
  if s.linkState port = .up ∨ s.linkState port = .fault then s.linkTo port (s.anState port) else s

def execRetrain (port : Nat) (s : State) : Out := commit s (s.ifMain (bodyRetrain port))

/-- A retry failure: NOTE RETRY_FAIL, counted, and UP leaves for FAULT to retrain (R382, Table 18.5). -/
def State.retryFailure (s : State) (port : Nat) : State :=
  let s := (s.portCount port 17).raise (port / 96) 0x02 (port % 96) 0x003 0 0
  let s := s.linkTo port .fault
  s.setLink port { (s.port port).link with retryFail := true }

/-! ### Negotiation (R372) -/

/-- HELLO_SEND: on entering UP and every 10 µs until the peer's HELLO arrives, then twice more. -/
def bodyHelloSend (port : Nat) (s : State) : State :=
  let l := (s.port port).link
  let due := match l.helloAt with | none => true | some t => decide (t + 10000 ≤ s.local)
  if l.state = .up ∧ due = true ∧ (l.helloGot = false ∨ 0 < l.helloMore) then
    let s := s.pushLink port tLINK_RETRY 0 [2 ^ 56 + l.retryOwn * 2 ^ 48 + l.creditOwn * 2 ^ 40, s.lanes port * 32 * 2 ^ 48]
    s.setLink port { l with helloAt := some s.local, helloMore := if l.helloGot then l.helloMore - 1 else 0 }
  else s

def execHelloSend (port : Nat) (s : State) : Out := commit s (bodyHelloSend port s)

/-- The credit-active classes the port grants: a window each, and one LINK_CREDIT at once (R376, R377). -/
def State.grantWindows (s : State) (port classes : Nat) : State :=
  let cs := (List.range 8).filter fun c => classes / 2 ^ c % 2 == 1
  let h := hubOfDie (port / 96)
  let w := min (s.headroom h port) (160 * s.lanes port) / max cs.length 1
  cs.foldl (fun (s : State) c =>
    let q := s.port port
    let s := s.setPort port { q with crx := q.crx.set c { window := w, sentRel := some 0, sentAt := s.local } }
    s.pushLink port tLINK_CREDIT c [w % 2 ^ 32 * 2 ^ 32]) s

/-- Negotiation ends (R372): the classes both sides retry, and the classes each side grants credit for. -/
def State.negotiate (s : State) (port retry creditPeer : Nat) : State :=
  let l := (s.port port).link
  let s := s.setLink port { l with
    negotiated := true, retryAct := Nat.land l.retryOwn retry, creditRx := l.creditOwn, creditTx := creditPeer }
  s.grantWindows port l.creditOwn

/-- A link-local frame of the named type that passed steps 1 to 6, which PRT_QFT_RX counts (R116), and whose LEN is right (R373). -/
def State.linkLocalIn (s : State) (port : Nat) (f : Frame) (typ len : Nat) (k : Packet → State → State) : State :=
  match s.header? f with
  | some h =>
    if h.typ = typ then
      match s.receive port f with
      | .linkLocal p t =>
        if p.len = len then k p (t.qftCount port 0) else (t.qftCount port 0).qftCount port 3
      | .dropped t => t
      | _ => s
    else s
  | none => s

/-- A LINK_RETRY of an OP; an unassigned OP is dropped and counted (R373). -/
def State.retryIn (s : State) (port : Nat) (f : Frame) (op : Nat) (k : Packet → State → State) : State :=
  match s.header? f with
  | some h =>
    let o := (h.word 0).field 63 56
    if o = op then s.linkLocalIn port f tLINK_RETRY 16 k
    else if op = 1 ∧ (o = 0 ∨ 4 < o) ∧ h.typ = tLINK_RETRY then
      match s.receive port f with
      | .linkLocal _ t => (t.qftCount port 0).qftCount port 3
      | .dropped t => t
      | _ => s
    else s
  | none => s

/-- HELLO received (R372). A frame with an unassigned OP comes here too and is dropped. -/
def bodyHello (port : Nat) (f : Frame) (s : State) : State :=
  s.retryIn port f 1 fun p s =>
    let l := (s.port port).link
    let s := s.setLink port { l with
      helloGot := true, helloMore := if l.helloGot then l.helloMore else 2, peerRbuf := (p.word 1).field 63 48 }
    if l.negotiated then s else s.negotiate port ((p.word 0).field 55 48) ((p.word 0).field 47 40)

def execHello (port : Nat) (f : Frame) (s : State) : Out := commit s (bodyHello port f s)

/-- NEGOTIATION_TIMEOUT: 1 ms in UP without a HELLO (R372). -/
def bodyNegotiationTimeout (port : Nat) (s : State) : State :=
  let l := (s.port port).link
  if l.state = .up ∧ l.negotiated = false ∧ l.since + 1000000 ≤ s.local then
    s.setLink port { l with negotiated := true, retryAct := 0, creditRx := 0, creditTx := 0 }
  else s

def execNegotiationTimeout (port : Nat) (s : State) : Out := commit s (bodyNegotiationTimeout port s)

/-! ### Credit (R375 to R378) -/

/-- LINK_CREDIT received: LIMIT of its class. -/
def bodyLinkCredit (port : Nat) (f : Frame) (s : State) : State :=
  s.linkLocalIn port f tLINK_CREDIT 8 fun p s =>
    let q := s.port port
    let c := q.ctx.get p.cls {}
    s.setPort port { q with ctx := q.ctx.set p.cls { c with limit := some ((p.word 0).field 63 32) } }

def execLinkCredit (port : Nat) (f : Frame) (s : State) : Out := commit s (bodyLinkCredit port f s)

/-- A LINK_CREDIT is due: growth of an eighth of the window, 1 µs after growth not sent, or 10 µs (R377). -/
def CreditRx.due (c : CreditRx) (t : Nat) : Bool :=
  let grown := (c.released + 2 ^ 32 - c.sentRel.getD 0 % 2 ^ 32) % 2 ^ 32
  (decide (0 < grown) && decide (ceilDiv c.window 8 ≤ grown))
    || (match c.grewAt with | some g => decide (g + 1000 ≤ t) | none => false)
    || decide (c.sentAt + 10000 ≤ t)

/-- CREDIT_UPDATE_SEND: LINK_CREDIT with LIMIT = Wc + RELEASED (R377). -/
def bodyCreditUpdateSend (port cls : Nat) (s : State) : State :=
  let q := s.port port
  let c := q.crx.get cls {}
  if s.linkUp port ∧ q.link.creditRx / 2 ^ cls % 2 = 1 ∧ c.due s.local = true then
    let s := s.setPort port { q with crx := q.crx.set cls { c with sentRel := some c.released, sentAt := s.local, grewAt := none } }
    s.pushLink port tLINK_CREDIT cls [(c.window + c.released) % 2 ^ 32 * 2 ^ 32]
  else s

def execCreditUpdateSend (port cls : Nat) (s : State) : Out := commit s (bodyCreditUpdateSend port cls s)

/-! ### Link-level retry (R379 to R382) -/

/-- Whether the replay buffer can account for an LSEQ: from the oldest held frame to the next to be sent (R382). -/
def RetryTx.accounts (r : RetryTx) (lseq : Nat) : Bool :=
  let oldest := match r.held.head? with | some e => e.1 | none => r.nextSeq
  decide ((lseq + 2 ^ 32 - oldest) % 2 ^ 32 ≤ (r.nextSeq + 2 ^ 32 - oldest) % 2 ^ 32)

/-- The held frames below an LSEQ removed. -/
def RetryTx.freeBelow (r : RetryTx) (lseq : Nat) : RetryTx :=
  let oldest := match r.held.head? with | some e => e.1 | none => r.nextSeq
  { r with held := r.held.drop ((lseq + 2 ^ 32 - oldest) % 2 ^ 32) }

/-- The class is retry-active on a port that is up. -/
def State.retryOn (s : State) (port cls : Nat) : Bool :=
  s.linkUp port && (s.port port).link.retryAct / 2 ^ cls % 2 == 1

/-- ACK received (R379, R382). -/
def bodyAck (port : Nat) (f : Frame) (s : State) : State :=
  s.retryIn port f 2 fun p s =>
    let l := (p.word 0).field 31 0
    let q := s.port port
    let r := q.rtx.get p.cls {}
    if s.retryOn port p.cls then
      if r.accounts l then
        let r' := r.freeBelow l
        s.setPort port { q with rtx := q.rtx.set p.cls { r' with naks := if r'.held.length < r.held.length then 0 else r.naks } }
      else s.retryFailure port
    else s

def execAck (port : Nat) (f : Frame) (s : State) : Out := commit s (bodyAck port f s)

/-- RETRY_ACK_SEND: after 64 accepted frames, or 500 ns after one not acknowledged (R379). -/
def bodyRetryAckSend (port cls : Nat) (s : State) : State :=
  let q := s.port port
  let r := q.rrx.get cls {}
  let due := decide (64 ≤ r.unacked) || (match r.ackDueAt with | some t => decide (t ≤ s.local) | none => false)
  if s.retryOn port cls = true ∧ 0 < r.unacked ∧ due = true then
    (s.setPort port { q with rrx := q.rrx.set cls { r with unacked := 0, ackDueAt := none } }).sendRetry port 2 cls r.expected
  else s

def execRetryAckSend (port cls : Nat) (s : State) : Out := commit s (bodyRetryAckSend port cls s)

/-- The frame is a REPLAY of class `cls` that has not gone out. -/
def LocalFrame.replays (cls : Nat) (x : LocalFrame) : Bool := match x.note with | .replay c _ => c == cls | _ => false

/-- A replay begins, in place of one of the class under way: REPLAY with the LSEQ at the next frame boundary, then every held frame from it
(R381). -/
def State.replayFrom (s : State) (port cls lseq : Nat) : State :=
  let q := s.port port
  let r := q.rtx.get cls {}
  let oldest := match r.held.head? with | some e => e.1 | none => r.nextSeq
  let again := (r.held.drop ((lseq + 2 ^ 32 - oldest) % 2 ^ 32)).map Prod.snd
  let others := q.replays.filter fun e => e.1 != cls
  let s := s.setPort port { q with
    localTx := q.localTx.filter fun x => !x.replays cls
    replays := if again.isEmpty then others else others ++ [(cls, again)] }
  s.sendRetry port 4 cls lseq (.replay cls lseq)

/-- NAK received (R381, R382). -/
def bodyNak (port : Nat) (f : Frame) (s : State) : State :=
  s.retryIn port f 3 fun p s =>
    let l := (p.word 0).field 31 0
    let s := s.portCount port 14
    let q := s.port port
    let r := q.rtx.get p.cls {}
    if s.retryOn port p.cls then
      let recent := match r.replayed with | some (x, t) => x == l && decide (s.local < t + 2000) | none => false
      let s := s.setPort port { q with rtx := q.rtx.set p.cls { r with naks := r.naks + 1 } }
      if 16 ≤ r.naks + 1 ∨ r.accounts l = false then s.retryFailure port
      else if recent then s
      else s.replayFrom port p.cls l
    else s

def execNak (port : Nat) (f : Frame) (s : State) : Out := commit s (bodyNak port f s)

/-- NAK_RESEND_TIMER: 4 µs without the REPLAY (R380). -/
def bodyNakResendTimer (port cls : Nat) (s : State) : State :=
  match ((s.port port).rrx.get cls {}).waiting with
  | some t => if s.retryOn port cls = true ∧ t + 4000 ≤ s.local then s.nakClass port cls else s
  | none => s

def execNakResendTimer (port cls : Nat) (s : State) : Out := commit s (bodyNakResendTimer port cls s)

/-- REPLAY received: the class leaves waiting when LSEQ is the expected sequence (R380). -/
def bodyReplay (port : Nat) (f : Frame) (s : State) : State :=
  s.retryIn port f 4 fun p s =>
    let q := s.port port
    let r := q.rrx.get p.cls {}
    if s.retryOn port p.cls = true ∧ r.waiting.isSome = true ∧ (p.word 0).field 31 0 = r.expected then
      s.setPort port { q with rrx := q.rrx.set p.cls { r with waiting := none } }
    else s

def execReplay (port : Nat) (f : Frame) (s : State) : Out := commit s (bodyReplay port f s)

/-! ### Liveness and adaptive estimates (R286, R288) -/

/-- LIVENESS_UPDATE: 1 µs after a report, lookups use it. -/
def bodyLivenessUpdate (port : Nat) (s : State) : State :=
  match s.fwd.reports.find? fun r => r.1 == port && decide (r.2.2 ≤ s.local) with
  | some r => { s with fwd := { s.fwd with live := s.fwd.live.set port r.2.1, reports := s.fwd.reports.erase r } }
  | none => s

def execLivenessUpdate (port : Nat) (s : State) : Out := commit s (bodyLivenessUpdate port s)

/-- ADAPT_ESTIMATE_UPDATE: every 512 ns depths and delays replace the port dies' copies (R288). -/
def bodyAdaptEstimateUpdate (s : State) : State :=
  if s.fwd.estAt + 512 ≤ s.local then
    let ports := s.ports.keys
    let depth (p c : Nat) : Nat := ((s.classQueue p c).map QItem.cells).sum
    let delay (p c : Nat) : Nat := min ((s.port p).sched.delay.get c 0 / 16) 65535
    let upd (v : Nat → Nat → Nat) : Tbl Nat :=
      (List.range 8).foldl (fun (t : Tbl Nat) die => ports.foldl (fun (t : Tbl Nat) p =>
        (List.range 8).foldl (fun (t : Tbl Nat) c =>
          let n := v p c
          if n = 0 then t else t.set ((die * 768 + p) * 8 + c) n) t) t) []
    { s with fwd := { s.fwd with estAt := s.local, qEst := upd depth, dEst := upd delay } }
  else s

def execAdaptEstimateUpdate (s : State) : Out := commit s (bodyAdaptEstimateUpdate s)

end Sys2Proof.Machine
end

