-- ==== Sys2Proof/Machine/Log.lean ====
section
/-!
DEFINITION. The fault log and the safe state (chapter 18): reactions and units of Table 18.5, log entries (R436 to R440), FAULT_N
(R447), and the safe state (R449).
-/

namespace Sys2Proof.Machine

/-! ### Kinds (Table 18.5) -/

/-- The default reaction of a kind: 1 log only, 2 self-test, 3 isolate, 4 reset domain, 5 safe state. -/
def defaultReaction (k : Nat) : Nat :=
  if [0x001, 0x002, 0x011, 0x021, 0x028, 0x031, 0x032, 0x033].contains k then 2
  else if k = 0x036 then 3
  else if [0x022, 0x040, 0x048].contains k then 4
  else if [0x009, 0x060, 0x061, 0x070, 0x071].contains k then 5
  else 1

/-- The unit a kind names: 1 lane, 2 row of 16 cells, 3 memory row, 4 hub engine, 5 SRAM segment, 6 tile store, 7 tile cube, 8 router;
0 none. -/
def unitClass (k : Nat) : Nat :=
  if k = 0x001 ∨ k = 0x002 then 1
  else if k = 0x011 then 2
  else if k = 0x021 then 3
  else if k = 0x028 then 4
  else if k = 0x031 then 5
  else if k = 0x032 then 6
  else if k = 0x033 then 7
  else if k = 0x036 then 8
  else 0

/-- The part of ADDRESS the unit column names (R441). -/
def FaultMsg.part (m : FaultMsg) : Nat :=
  match unitClass m.kind with
  | 2 => m.addr / 16
  | 3 => m.addr / 1024
  | 5 => m.addr % 2 ^ 18 / 1024
  | _ => 0

/-- Two messages concern the same unit (R441). -/
def FaultMsg.sameUnit (a b : FaultMsg) : Bool :=
  unitClass a.kind != 0 && unitClass a.kind == unitClass b.kind && a.die == b.die && a.block == b.block && a.inst == b.inst
    && a.part == b.part

/-- The reaction to a message under FLT_REACT (R442). -/
def State.reactionOf (s : State) (kind sev : Nat) : Nat :=
  let f := s.fld .fltReact [kind] 63 61
  let r := if f = 0 ∨ 5 < f then defaultReaction kind else f
  if sev = 3 ∨ defaultReaction kind = 5 then 5
  else if r = 2 ∧ unitClass kind = 0 then 1
  else if r = 3 ∧ unitClass kind = 0 then 4
  else r

/-- The lasting window of a kind in nanoseconds (Table 18.5, R452). -/
def State.windowNs (s : State) (kind : Nat) : Nat :=
  let m := s.fld .fltReact [kind] 60 44
  let m := if m ≠ 0 then m else if kind = 0x028 then 60 else if defaultReaction kind = 2 then 1440 else 0
  m * 60 * 1000000000

/-! ### The log -/

/-- The words E0 to E3 of an entry (Tables 18.1 and 18.4). -/
def LogEntry.words (e : LogEntry) : List Nat :=
  let m := e.msg
  [m.die % 32 * 2 ^ 59 + m.block % 128 * 2 ^ 52 + m.inst % 4096 * 2 ^ 40 + m.kind % 4096 * 2 ^ 28 + m.sev % 8 * 2 ^ 25 + m.count % 2 ^ 25,
   m.addr % 2 ^ 64, m.count % 2 ^ 64,
   e.seq * 2 ^ 32 + e.reaction * 2 ^ 29 + e.verdict * 2 ^ 26 + (if e.isOpen then 2 ^ 25 else 0) + (if e.mirrored then 2 ^ 24 else 0)
     + e.rep * 2 ^ 8]

/-- The entry with sequence `n`, while the ring holds it (R438). -/
def State.logAt (s : State) (n : Nat) : Option LogEntry :=
  match s.flt.log.find? (n % 4096) with
  | some e => if e.seq = n then some e else none
  | none => none

/-- The entry with sequence `n` changed (R438). -/
def State.onLog (s : State) (n : Nat) (f : LogEntry → LogEntry) : State :=
  match s.logAt n with
  | some e => { s with flt := { s.flt with log := s.flt.log.set (n % 4096) (f e) } }
  | none => s

/-- The entry that a new one overwrites: counted where it was never mirrored, and kept in the open count (R438, R439, R446). -/
def State.overwriteLog (s : State) : State :=
  match s.flt.log.find? (s.flt.nextSeq % 4096) with
  | none => s
  | some e =>
    let s := if e.mirrored then s else s.bump .fltCounts [] 31 0
    if e.isOpen then { s with flt := { s.flt with openOld := s.flt.openOld ++ [(e.seq, e.msg.sev)] } } else s

/-- A log entry written for a message (R436, R438 to R440); SAFE_SEQ takes the first FATAL entry of a safe state. -/
def State.putLog (s : State) (m : FaultMsg) (reaction verdict : Nat) : State :=
  let s := s.overwriteLog
  let n := s.flt.nextSeq
  let e : LogEntry := ⟨m, n, reaction, verdict, decide (2 ≤ m.sev), false, 0⟩
  let first := match s.flt.first with
    | some f => some f
    | none => if s.fld .fltFirstCtl [] 61 60 ≤ m.sev then some e else none
  { s with flt := { s.flt with
      log := s.flt.log.set (n % 4096) e, nextSeq := (n + 1) % 2 ^ 32, first := first
      pageAt := (match s.flt.pageAt with | some t => some t | none => some s.local)
      urgent := s.flt.urgent || decide (2 ≤ m.sev)
      safeSeq := (if s.flt.safe = true ∧ s.flt.safeSeq = none ∧ reaction = 5 then some n else s.flt.safeSeq) } }

/-- Open MAJOR and FATAL entries (R446). -/
def State.openCount (s : State) : Nat := (s.flt.log.filter fun e => e.2.isOpen).length + s.flt.openOld.length

/-- A MAJOR or FATAL fault is detected and not yet logged. -/
def State.majorWaits (s : State) : Bool :=
  (s.flt.queues.any fun q => q.2.any fun m => decide (2 ≤ m.sev)) || s.flt.holding.any fun q => !q.2.isEmpty

/-- The device drives FAULT_N low (R21, R447). -/
def State.faultLow (s : State) : Bool := s.flt.romLow || decide (0 < s.openCount) || s.majorWaits

/-! ### The safe state (R449) -/

/-- A port as the safe state leaves it: DISABLED, the frame on its line cut off. -/
def State.stopPort (s : State) (p : Nat) : State :=
  let s := s.cutLine p
  let q := s.port p
  let l : Link := { state := .disabled, since := s.local, lf := q.link.lf, rf := q.link.rf, laneHold := q.link.laneHold }
  let t := s.setPort p { q with
    link := l, ctx := [], crx := [], rtx := [], rrx := [], localTx := [], replays := []
    sched := { q.sched with busy := none, paused := [], xoffAt := none, waitAt := [] } }
  if q.link.state = .up then (t.portCount p 12).reportLive p false else t

/-- The service images lose their power in the safe state, once the crash dump has their tiles (R412, R413, R470; log entry 124). -/
def State.servicesOff (s : State) : State :=
  if s.flt.safe ∧ s.nvm.dumping = [] then
    (List.range 4).foldl (fun (s : State) k => if (s.islot k).state = .empty then s else s.emptySlot k) s
  else s

/-- The safe state is entered: ports DISABLED, stacks in self-refresh; what SAFE stops, every command of the datapath, the control path
and the engines checks for itself. -/
def State.enterSafe (s : State) : State :=
  if s.flt.safe then s
  else
    let s := s.ports.keys.foldl (fun (s : State) p => if s.linkState p = .disabled then s else s.stopPort p) s
    let s := (List.range 16).foldl (fun (s : State) k =>
      if (s.stack k).up then s.setStack k { s.stack k with asleep := true } else s) s
    ({ s with flt := { s.flt with safe := true, safeSeq := none } } : State).servicesOff

/-- A FATAL detection: its message, the safe state, and a crash dump where a slot is not being written and flash B serves (R432, R449, R469, R470, R475). -/
def State.fatal (s : State) (die block inst kind addr : Nat) : State :=
  let at_ := s.now
  let s := s.raise die block inst kind 3 addr
  let s := if s.nvm.dumping.length < 2 ∧ s.nvm.badB = false then { s with nvm := { s.nvm with dumping := s.nvm.dumping ++ [at_] } } else s
  s.enterSafe

/-! ### Where a unit lies -/

/-- The port that has a lane of a port die. -/
def State.portOfLane (s : State) (die lane : Nat) : Option Nat :=
  ((List.range 96).find? fun q => decide (q ≤ lane) && decide (lane < q + s.lanes (96 * die + q))).map fun q => 96 * die + q

/-- The tile a message's DIE and INSTANCE name (Table 18.3). -/
def tileOfMsg (m : FaultMsg) : Nat :=
  let d := m.die - 12
  tileNo (d % 4 * 55 + m.inst % 55) (d / 4 * 48 + m.inst / 55)

/-- The reset domains that hold a message's source unit (Tables 19.2 and 19.3); the whole module where no smaller one does. -/
def State.domainsOf (s : State) (m : FaultMsg) : List Nat :=
  let k := m.die - 8
  if m.block = 0x01 then (match s.portOfLane m.die m.inst with | some p => [p] | none => [])
  else if m.block = 0x02 then [96 * m.die + m.inst]
  else if m.block = 0x05 then [1492 + (if m.die < 8 then m.inst % 4 else k % 4)]
  else if m.block = 0x08 ∨ m.block = 0x09 then [1492 + k % 4]
  else if m.block = 0x0A then [1472 + 4 * (k % 4) + m.inst / 32 % 4]
  else if m.block = 0x0B then [768 + 160 * (k % 4) + m.inst % 128]
  else if m.block = 0x0C then [768 + 160 * (k % 4) + 128 + m.inst % 16]
  else if m.block = 0x0D then [768 + 160 * (k % 4) + 144 + m.inst % 16]
  else if m.block = 0x10 ∨ m.block = 0x11 then (match s.partOf (tileOfMsg m) with | some (n, _) => [1408 + n] | none => [])
  else if m.block = 0x12 then (s.slotsOn (m.die - 12)).map (1408 + ·)
  else if m.block = 0x1B then
    if 12 ≤ m.die then (s.slotsOn (m.die - 12)).map (1408 + ·) else if 8 ≤ m.die then [1492 + k % 4] else []
  else if m.block = 0x1C then [m.inst]
  else [1496]

/-! ### Targeted self-tests (R443, R444) -/

/-- The cells of the row that a test or isolation takes. -/
def rowCells (m : FaultMsg) : List Nat := (List.range 16).map fun i => m.addr / 16 * 16 + i

/-- The FREE cells of a row are withheld from grant. -/
def State.withholdRow (s : State) (m : FaultMsg) : State :=
  let p := m.die - 8
  let q := s.pool p
  s.setPool p { q with bufs := (rowCells m).foldl (fun (b : Tbl Buf) i => if (b.find? i).isNone then b.set i .withheld else b) q.bufs }

/-- The withheld cells of a row are FREE again. -/
def State.freeRow (s : State) (m : FaultMsg) : State :=
  let p := m.die - 8
  let q := s.pool p
  s.setPool p { q with bufs := (rowCells m).foldl (fun (b : Tbl Buf) i =>
    match b.find? i with | some .withheld => b.erase i | _ => b) q.bufs }

/-- A test begins: the port of a lane is held in DISABLED, the FREE cells of a row are withheld (Table 18.6). -/
def State.beginTest (s : State) (t : SelfTest) : State :=
  let s := { s with flt := { s.flt with tests := s.flt.tests ++ [t] } }
  match unitClass t.msg.kind with
  | 1 => match s.portOfLane t.msg.die t.msg.inst with | some p => s.linkTo p .disabled | none => s
  | 2 => s.withholdRow t.msg
  | _ => s

/-- SELFTEST_START: at most 16 tests run; further tests wait in the order of their entries. -/
def State.startTest (s : State) (t : SelfTest) : State :=
  if s.flt.tests.length < 16 then s.beginTest t else { s with flt := { s.flt with waiting := s.flt.waiting ++ [t] } }

/-- Waiting tests take the places that have become free. -/
def State.nextTests (s : State) : State :=
  let n := 16 - s.flt.tests.length
  let ts := s.flt.waiting.take n
  ts.foldl State.beginTest { s with flt := { s.flt with waiting := s.flt.waiting.drop n } }

/-- A reset of the domain that holds a unit ends its test with VERDICT 5 (R443). -/
def State.abandonTests (s : State) (domain : Nat) : State :=
  let hit (t : SelfTest) : Bool := (s.domainsOf t.msg).contains domain
  let gone := (s.flt.tests ++ s.flt.waiting).filter hit
  let s := { s with flt := { s.flt with tests := s.flt.tests.filter fun t => !hit t, waiting := s.flt.waiting.filter fun t => !hit t } }
  let s := gone.foldl (fun (s : State) t =>
    let s := s.onLog t.seq fun e => { e with verdict := 5 }
    if unitClass t.msg.kind = 2 then s.freeRow t.msg else s) s
  s.nextTests

end Sys2Proof.Machine
end

