-- ==== Sys2Proof/Machine/Data.lean ====
section
/-!
DEFINITION. The collective data phase (chapter 6): contributions, releases, GRANT and COMPLETE, timeouts and aborts, RESEND, and
the slot inspection registers (R141).
-/

namespace Sys2Proof.Machine

/-! ### At the ingress port die -/

/-- The tile a service packet is for: its chunk's for a contribution, the home tile where that names no chunk and for every other packet
(R127, R149). -/
def CtxFix.tileFor (x : CtxFix) (p : Packet) : Nat :=
  let k := p.offset / max x.c 1
  if p.typ ≠ tCONTRIB ∨ p.offset % max x.c 1 ≠ 0 ∨ x.n ≤ k then x.home else x.tileOf k

/-- A packet that passed steering is on its way to its tile, with the generation of the partition as the edge has it (R25, R256, R293). -/
def State.fly (s : State) (port : Nat) (p : Packet) (c : Ctx) : State :=
  let g : Flight := ⟨s.nextId, port, p.ctx, p, c.fix.tileFor p, (s.islot (svcPart c.fix.kind)).pgen % 256⟩
  { s with nextId := s.nextId + 1, svc := { s.svc with flight := s.svc.flight ++ [g] } }

/-! ### Through the mesh -/

/-- The row of a port die's edge at which a packet for row `y` enters: PDn serves rows 24n to 24n + 23 of the west edge, PD(4 + m) rows 24m to
24m + 23 of the east edge (Table 1.2, R25). -/
def edgeRow (die y : Nat) : Nat := 24 * (die % 4) + y % 24

/-- The mesh position at which a packet enters from its port die (R18, R25). -/
def Flight.entry (g : Flight) : Nat :=
  tileNo (if g.port / 96 < 4 then 0 else 219) (edgeRow (g.port / 96) (g.tile / 220))

/-- The header that the edge logic of the port die forms: unicast on virtual channel 0, from an edge (Tables 11.1 and 11.2). What QUEUE, TAG and
USER hold is the service image's own: free values (log entry 122). -/
def Flight.header (g : Flight) : Word × Word × Word :=
  let m0 := g.tile % 220 * 2 ^ 52 + g.tile / 220 * 2 ^ 45 + (40 + g.pkt.len) % 2 ^ 13 * 2 ^ 16 + g.pgen % 256 * 2 ^ 8
    + Config.edgeWord g.id 0 % 16
  let m1 := (if g.port / 96 < 4 then 0xFE else 0xFF) * 2 ^ 56 + g.entry / 220 * 2 ^ 49 + 127 * 2 ^ 42 + Config.edgeWord g.id 1 % 2 ^ 32
  (BitVec.ofNat 64 m0, BitVec.ofNat 64 m1, BitVec.ofNat 64 (Config.edgeWord g.id 2))

/-- A router lies on the packet's way, along X from its entry to its tile's column and then along Y to the tile (R25, R256). -/
def Flight.passes (g : Flight) (r : Nat) : Bool :=
  let between (a b c : Nat) : Bool := decide (min a b ≤ c) && decide (c ≤ max a b)
  (r / 220 == g.entry / 220 && between (g.entry % 220) (g.tile % 220) (r % 220))
    || (r % 220 == g.tile % 220 && between (g.entry / 220) (g.tile / 220) (r / 220))

/-- What becomes of a packet on its way: it waits behind a failed router or at the edge of a quiesced partition (R276, R278), it is of an
earlier load of the partition (R256), or its tile takes it. -/
inductive MeshFate where
  | waits | stale | here
  deriving DecidableEq, Repr

def State.flightFate (s : State) (g : Flight) : MeshFate :=
  match s.ctx? g.ctx with
  | none => .here
  | some c =>
    if s.paused c ∨ (s.fab.routers.any fun r => g.passes r) = true then .waits
    else if g.pgen ≠ (s.islot (svcPart c.fix.kind)).pgen % 256 then .stale
    else .here

/-- CONTRIB: check 0 of Table 6.3, then the entry's state (R276, R292, R293). -/
def bodyContrib (port : Nat) (f : Frame) (s : State) : State :=
  match s.serviceRx port f tCONTRIB with
  | .done t => t
  | .pass p t =>
    match t.ctx? p.ctx with
    | none => t
    | some c =>
      if c.fix.kind = 3 then (t.ctxCount .ctxDrop p.ctx 63 48).nackAt port p stBADDESC
      else if c.steer = .held then t.heldDrop
      else if c.steer = .closed then t.ctxCount .ctxLate p.ctx 63 32
      else t.fly port p c

def execContrib (port : Nat) (f : Frame) (s : State) : Out := commit s (bodyContrib port f s)

/-- ABORT at the port die: to the home tile, or for a gather context to the control complex, which ends the generation (R133, R159,
R293). -/
def bodyAbort (port : Nat) (f : Frame) (s : State) : State :=
  match s.serviceRx port f tABORT with
  | .done t => t
  | .pass p t =>
    match t.ctx? p.ctx with
    | none => t
    | some c =>
      if c.steer = .held then t.heldDrop
      else if c.fix.kind = 3 then (if c.runs then t.endAbort p.ctx stMEMBER_ABORT 0 [] none else t)
      else t.fly port p c

def execAbort (port : Nat) (f : Frame) (s : State) : Out := commit s (bodyAbort port f s)

/-- The first packet of a type on its way to a context's home tile. -/
def State.firstFlight (s : State) (n typ : Nat) : Option Flight := s.svc.flight.find? fun g => g.ctx == n && g.pkt.typ == typ

/-- A packet leaves the mesh. -/
def State.land (s : State) (g : Flight) : State :=
  { s with svc := { s.svc with flight := s.svc.flight.filter fun x => x.id != g.id } }

/-- A packet comes to its tile, where `work` takes it, unless it waits or its partition has been loaded again. -/
def State.landing (s : State) (g : Flight) (work : State → State) : State :=
  match s.flightFate g with
  | .waits => s
  | .stale => (s.land g).meshDrop g.tile g.header.1.toNat 47 32
  | .here => work (s.land g)

/-- Work of the tiles for a context, which a quiesce of their partition holds up (R276). -/
def State.unlessPaused (s : State) (n : Nat) (work : Ctx → State) : State :=
  match s.ctx? n with
  | some c => if s.paused c then s else work c
  | none => s

/-! ### At the tile -/

/-- The first accepted data packet of a generation: ACTIVE, START, the timeout and the GRANT repeats begin (R133, R134, R151). A
RETRY abort keeps START (R400). -/
def State.firstData (s : State) (n : Nat) : State :=
  s.onCtx n fun c =>
    if c.state = .armed then
      { c with state := .active,
               run := { c.run with start := some (c.run.start.getD s.now), grantAt := s.local,
                                   timerAt := some (s.now + timeoutOf s.cfg.jobTimeout c.fix.desc * 1000) } }
    else c

/-- A contribution is accepted: bit, term of IN_HASH, and accumulation in one step (R147, R148, R399, R402). The events of Table 3.6 count
in a poisoned chunk too (R70). -/
def CtxFix.accept (x : CtxFix) (k rank : Nat) (sl : Slot) (payload : List Byte) : Slot :=
  let sl := x.addTo k sl payload
  { sl with bitmap := sl.bitmap + 2 ^ rank, hash := Nat.xor sl.hash (laneTerm x.key 1 rank k payload),
            mixed := sl.mixed || decide (sl.bitmap / 2 ^ rank ≠ 0) }

/-- What Table 6.3 says of a contribution at its tile. -/
inductive Contribution where
  | drop (r : Reg) (hi lo : Nat)
  | refuse (status hi lo : Nat)
  | accept
  deriving DecidableEq, Repr

/-- Checks 1 to 10 of Table 6.3 on a contribution that reaches its tile. DESIGN CHOICE (log entry 112): a contribution of an old generation that
comes after a REARM whose START_AT still lies ahead meets check 2 first and counts EARLY, by the order of Table 6.3 (R147), though R135 speaks of
LATE. -/
def State.judgeContribution (s : State) (c : Ctx) (p : Packet) : Contribution :=
  let x := c.fix
  let k := p.offset / max x.c 1
  if p.len = 0 then .drop .ctxDrop 47 32
  else if s.beforeStart c then .drop .ctxDrop 63 48
  else if !c.runs || p.gen != c.gen then .drop .ctxLate 63 32
  else if p.fmt ≠ x.fmtIn then .refuse stBADDESC 15 0
  else if p.offset % max x.c 1 ≠ 0 ∨ x.n ≤ k then .refuse stRANGE 15 0
  else if !x.expects k p.rank then .refuse stRANGE 15 0
  else if p.len ≠ x.inLen k then .refuse stRANGE 15 0
  else if c.finalised k then .drop .ctxDup 63 32
  else if c.frontier ≤ k then .refuse stRETRY 31 16
  else if (c.run.slots.get k {}).bitmap / 2 ^ p.rank % 2 = 1 then .drop .ctxDup 63 32
  else .accept

/-- A contribution that reaches its tile is judged, and if accepted added; a full chunk finalises. `ties` counts the same-cycle
ties it met at its slot and at mesh routers with packets of its context (R73, R259). -/
def State.contributionAt (s : State) (g : Flight) (ties : Nat) (sram : SlotRead) : State :=
  let p := g.pkt
  match s.ctx? g.ctx with
  | none => s
  | some c =>
    let k := p.offset / max c.fix.c 1
    let tile := c.fix.tileFor p
    let s := s.tieCount g.ctx ties
    match s.judgeContribution c p with
    | .drop r hi lo => s.ctxCount r g.ctx hi lo
    | .refuse st hi lo => (s.ctxCount .ctxDrop g.ctx hi lo).nackFrom (8 + exitHub tile) g.port p st
    | .accept =>
      let s := match sram with
        | .clean => s
        | .corrected => s.tileEcc tile false
        | _ => s.tileEcc tile true
      if sram = .header then s.endAbort g.ctx stPOISON 0 [] none
      else
        let s := s.firstData g.ctx
        let s := s.onCtx g.ctx fun c =>
          let sl := c.run.slots.get k {}
          let sl := if sram = .accumulators then { sl with bad := true } else sl
          { c with run := { c.run with slots := c.run.slots.set k (c.fix.accept k p.rank sl p.payload) } }
        let s := s.ctxCount .ctxRx g.ctx 63 0
        let s := s.setFld .ctxLate [g.ctx] 31 0 (s.now / 1024)
        s.tryFinish g.ctx k

/-- CONTRIB_TILE_ARRIVAL (R147, R256). -/
def bodyContribTileArrival (id ties : Nat) (sram : SlotRead) (s : State) : State :=
  match s.svc.flight.find? fun g => g.id == id && g.pkt.typ == tCONTRIB with
  | some g => s.landing g fun s => s.contributionAt g ties sram
  | none => s

def execContribTileArrival (id ties : Nat) (sram : SlotRead) (s : State) : Out :=
  commit s (s.unlessSafe (bodyContribTileArrival id ties sram))

/-! ### At the home tile -/

/-- RELEASE_REPORT: the home tile records the next release on its way to it, advances L and F, and ends the generation at the last
(R149, R150, R151). -/
def bodyReleaseReport (n : Nat) (s : State) : State :=
  s.unlessPaused n fun c =>
    match c.run.reports with
    | [] => s
    | k :: rest =>
      if !c.runs then s.setCtx n { c with run := { c.run with reports := rest } }
      else
        let rel := k :: c.run.rel
        let low := lowest rel.length c.run.low rel
        let keep (l : List Nat) : List Nat := l.filter fun j => decide (low ≤ j)
        let s := s.setCtx n { c with run := { c.run with reports := rest, low := low, rel := keep rel, fin := keep c.run.fin } }
        let s := s.grantAfter n
        if low = c.fix.n then s.endComplete n else s

def execReleaseReport (n : Nat) (s : State) : Out := commitMem s fun t => t.unlessSafe (bodyReleaseReport n)

/-- GRANT_DELAY_EXPIRE: 2 µs since F first advanced beyond the value last sent (R151). -/
def bodyGrantDelayExpire (n : Nat) (s : State) : State :=
  s.unlessPaused n fun c =>
    match c.run.grantDue with
    | some t => if t ≤ s.local ∧ c.runs = true then s.grantNow n else s
    | none => s

def execGrantDelayExpire (n : Nat) (s : State) : Out := commit s (s.unlessSafe (bodyGrantDelayExpire n))

/-- GRANT_REPEAT: 50 µs without a GRANT while ACTIVE with an unreleased chunk (R151). -/
def bodyGrantRepeat (n : Nat) (s : State) : State :=
  s.unlessPaused n fun c =>
    if c.state = .active ∧ c.fix.w ≠ 0 ∧ c.run.low < c.fix.n ∧ c.run.grantAt + 50000 ≤ s.local then s.grantNow n else s

def execGrantRepeat (n : Nat) (s : State) : Out := commit s (s.unlessSafe (bodyGrantRepeat n))

/-- COMPLETE_SEND: every RESULT copy of the generation has left its egress port (R155). -/
def bodyCompleteSend (n : Nat) (s : State) : State :=
  s.unlessPaused n fun c =>
    match c.run.completeDue, c.run.record with
    | true, some rec_ =>
      if s.resultsOut n c.gen then s
      else (s.setCtx n { c with run := { c.run with completeDue := false } }).toMembers n c tCOMPLETE rec_ none
    | _, _ => s

def execCompleteSend (n : Nat) (s : State) : Out := commit s (s.unlessSafe (bodyCompleteSend n))

/-! ### Timeout, closure and abort -/

/-- CONTEXT_TIMEOUT: the steering entries are marked closed (R134, R158). The timeout of a context whose entries are held does not
run (R276, R464). -/
def bodyContextTimeout (n : Nat) (s : State) : State :=
  match s.ctx? n with
  | some c =>
    match c.run.timerAt with
    | some t =>
      if c.state = .active ∧ t ≤ s.now ∧ c.steer = .open_ then
        s.setCtx n { c with steer := .closed, run := { c.run with closing := true, timerAt := none } }
      else s
    | none => s
  | none => s

def execContextTimeout (n : Nat) (s : State) : Out := commit s (s.unlessSafe (bodyContextTimeout n))

/-- The missing ranks at a closure (R158): expected contributors whose bit is clear in an unreleased chunk below F. -/
def Ctx.missing (c : Ctx) : List Nat :=
  let open_ := (List.range c.frontier).filter fun k => !c.finalised k
  (List.range c.fix.mcount).filter fun r =>
    open_.any fun k => c.fix.expects k r && (c.run.slots.get k {}).bitmap / 2 ^ r % 2 == 0

/-- CLOSURE_END: no contribution past its lookup remains, and the chunks they completed are released; with a chunk unreleased the
generation ends with ABORT TIMEOUT (R158). -/
def bodyClosureEnd (n : Nat) (s : State) : State :=
  s.unlessPaused n fun c =>
    if c.state = .active ∧ c.run.closing = true ∧ (s.firstFlight n tCONTRIB).isNone ∧ c.run.reports = []
        ∧ c.units.all (fun e => !e.2.live) then
      s.endAbort n stTIMEOUT 0 c.missing none
    else s

def execClosureEnd (n : Nat) (s : State) : Out := commit s (s.unlessSafe (bodyClosureEnd n))

/-- ABORT_AT_HOME: the home tile records the next member's ABORT on its way; the first ends the generation (R159). `ties` is as at
CONTRIB_TILE_ARRIVAL. -/
def bodyAbortAtHome (n ties : Nat) (s : State) : State :=
  match s.firstFlight n tABORT with
  | none => s
  | some g =>
    s.landing g fun s =>
    let s := s.tieCount n ties
    match s.ctx? n with
    | none => s
    | some c =>
      if c.runs && g.pkt.gen == c.gen then s.endAbort n stMEMBER_ABORT g.pkt.rank [] (some g.pkt.rank)
      else s.ctxCount .ctxLate n 63 32

def execAbortAtHome (n ties : Nat) (s : State) : Out := commit s (s.unlessSafe (bodyAbortAtHome n ties))

/-! ### RESEND (R156, R157) -/

/-- The chunks a RESEND names, the completion record's number N among them. -/
def resendChunks (x : CtxFix) (p : Packet) : List Nat :=
  let n := max ((p.word 0).field 15 0) 1
  (List.range n).map fun i => p.offset / max x.c 1 + i

/-- Checks 2 and 3 of R156. -/
def resendOk (x : CtxFix) (p : Packet) : Bool :=
  let n := (p.word 0).field 15 0
  p.offset % max x.c 1 == 0 && decide (n ≤ 256)
    && (resendChunks x p).all fun k => decide (k ≤ x.n) && (k == x.n || x.served k p.rank)

/-- The hub die that retains a chunk, or the completion record (R157 step 2). -/
def resendHub (x : CtxFix) (k : Nat) : Nat := if x.n ≤ k then exitHub x.home else exitHub (x.tileOf k)

/-- RESEND at the port die: checks 1 to 3 and the sub-requests (R157 steps 1 and 2). A gather context retains nothing (R227). -/
def bodyResend (port : Nat) (f : Frame) (s : State) : State :=
  match s.serviceRx port f tRESEND with
  | .done t => t
  | .pass p t =>
    match t.ctx? p.ctx with
    | none => t
    | some c =>
      let x := c.fix
      if c.state = .draining then t.ctxCount .ctxLate p.ctx 63 32
      else if x.kind = 3 ∨ resendOk x p = false then t.nackAt port p stRANGE
      else
        let ks := resendChunks x p
        let parts := (ks.map (resendHub x)).eraseDups.map fun h =>
          let mine := ks.filter fun k => resendHub x k == h
          (⟨h, mine.filter (decide <| · < x.n), mine.contains x.n, none⟩ : ResendPart)
        { t with nextId := t.nextId + 1,
                 svc := { t.svc with resends := t.svc.resends ++ [⟨t.nextId, port, p.ctx, p, parts, [], none⟩] } }

def execResend (port : Nat) (f : Frame) (s : State) : Out := commit s (bodyResend port f s)

def State.resend? (s : State) (id : Nat) : Option Resend := s.svc.resends.find? fun r => r.id == id

def State.setResend (s : State) (r : Resend) : State :=
  { s with svc := { s.svc with resends := s.svc.resends.map fun x => if x.id == r.id then r else x } }

def State.dropResend (s : State) (id : Nat) : State :=
  { s with svc := { s.svc with resends := s.svc.resends.filter fun x => x.id != id } }

/-- Checks 4 and 5 of R156 at a hub die; a REARM has released what the old generation retained. -/
def Ctx.holdsPart (c : Ctx) (gen : Nat) (q : ResendPart) : Bool :=
  gen == c.gen && (q.chunks.all fun k => (c.kept.find? k).isSome) && (!q.record || c.run.record.isSome)

/-- RESEND_HUB_CHECK: PASS with the blocks held, or FAIL (R157 step 3); dropped while DRAINING (R156). -/
def bodyResendHubCheck (id hub : Nat) (s : State) : State :=
  match s.resend? id with
  | none => s
  | some r =>
    match s.ctx? r.ctx with
    | none => s.dropResend id
    | some c =>
      if c.state = .draining then (s.dropResend id).ctxCount .ctxLate r.ctx 63 32
      else
        match r.parts.find? fun q => q.hub == hub && q.answer.isNone with
        | none => s
        | some q =>
          let ok := c.holdsPart r.pkt.gen q
          let held := if ok then q.chunks.filterMap fun k => (c.kept.find? k).map fun v => (k, v) else []
          s.setResend { r with parts := r.parts.map fun y => if y.hub == hub then { y with answer := some ok } else y,
                               kept := r.kept ++ held, rec_ := if ok && q.record then c.run.record else r.rec_ }

def execResendHubCheck (id hub : Nat) (s : State) : Out := commit s (s.unlessSafe (bodyResendHubCheck id hub))

/-- RESEND_GO: every hub die passed; the RESULTs and the COMPLETE are sent again to the one rank and counted (R156 step 6, R157 step
4). -/
def bodyResendGo (id : Nat) (s : State) : State :=
  match s.resend? id with
  | none => s
  | some r =>
    match s.ctx? r.ctx with
    | none => s
    | some c =>
      if r.parts.all fun q => q.answer == some true then
        let x := c.fix
        let rank := r.pkt.rank
        let gen := r.pkt.gen
        let s := r.kept.foldl (fun (s : State) e =>
          s.emit (exitHub (x.tileOf e.1))
            ⟨r.ctx, gen, tRESULT, e.2.fmt, 0, e.1 * x.c, some e.1, e.2.payload, some rank, none⟩) (s.dropResend id)
        let named := r.parts.any ResendPart.record
        let s := match named, r.rec_ with
          | true, some b => s.emit (exitHub x.home) ⟨r.ctx, gen, tCOMPLETE, 0, 0, 0, none, b, some rank, none⟩
          | _, _ => s
        s.ctxCount .ctxDup r.ctx 31 0 (r.kept.length + if named then 1 else 0)
      else s

def execResendGo (id : Nat) (s : State) : Out := commit s (s.unlessSafe (bodyResendGo id))

/-- RESEND_DROP: a hub die failed; the port die drops the request and answers NACK RANGE (R157 step 5). -/
def bodyResendDrop (id : Nat) (s : State) : State :=
  match s.resend? id with
  | some r =>
    if r.parts.any fun q => q.answer == some false then (s.dropResend id).nackAt r.port r.pkt stRANGE else s
  | none => s

def execResendDrop (id : Nat) (s : State) : Out := commit s (s.unlessSafe (bodyResendDrop id))

/-! ### Slot inspection (R141) -/

/-- The words of a snapshot: SVC_SLOT_INFO and SVC_SLOT_ACC0 to 5. A chunk occupies its slot while it is below F and not released, an update
unit's until it completes (R176). -/
def State.slotWords (s : State) (v : Nat) : List Nat :=
  let n := v / 2 ^ 48 % 2 ^ 16
  let k := v / 2 ^ 16 % 2 ^ 32
  let e := v / 8 % 2 ^ 13
  let none_ := List.replicate 7 0
  match s.ctx? n with
  | none => none_
  | some c =>
    if c.fix.kind = 3 ∨ c.state = .settingUp ∨ c.state = .quarantine ∨ c.frontier ≤ k
        ∨ (c.finalised k = true ∧ (c.run.slots.find? k).isNone = true) then none_
    else
      let sl := c.run.slots.get k {}
      let t := c.fix.tileOf k
      let sum := c.fix.op ≤ 3 && c.fix.func ≤ 1
      let pat := if sum && decide (e < c.fix.c) then (sl.accs.getD e Accum.zero).pattern c.fix.window else 0
      (2 ^ 63 + c.gen * 2 ^ 55 + t % 220 * 2 ^ 47 + t / 220 * 2 ^ 40 + bitCount c.fix.mcount sl.bitmap * 2 ^ 25)
        :: (List.range 6).map fun i => pat / 2 ^ (64 * i) % 2 ^ 64

/-- SLOT_SNAPSHOT (R141). -/
def bodySlotSnapshot (v : Word) (s : State) : State :=
  let s := s.setReg .slotSel [] (applyWrite Reg.slotSel.fields 0 v.toNat)
  { s with svc := { s.svc with snap := s.slotWords v.toNat } }

def execSlotSnapshot (v : Word) (s : State) : Out := commit s (s.ifMain (bodySlotSnapshot v))

end Sys2Proof.Machine
end

