-- ==== Sys2Proof/Machine/Optim.lean ====
section
/-!
DEFINITION. The optimizer service (chapter 7): STEP at the port die and at the home tile (R174, R175), staging (R176), and the
update unit (R176, R185).
-/

namespace Sys2Proof.Machine

/-- STEP at the port die: check 1 of Table 7.5, then the entry's state (R174, R276). -/
def bodyStep (port : Nat) (f : Frame) (s : State) : State :=
  match s.serviceRx port f tSTEP with
  | .done t => t
  | .pass p t =>
    match t.ctx? p.ctx with
    | none => t
    | some c =>
      if c.fix.kind = 1 then (t.ctxCount .ctxDrop p.ctx 15 0).nackAt port p stBADDESC
      else if c.fix.kind = 3 then (t.ctxCount .ctxDrop p.ctx 63 48).nackAt port p stBADDESC
      else if c.steer = .held then t.heldDrop
      else t.fly port p c

def execStep (port : Nat) (f : Frame) (s : State) : Out := commit s (bodyStep port f s)

/-- What Table 7.5 says of a STEP at the home tile. -/
inductive StepVerdict where
  | dropped
  | nack (status : Nat)
  | again
  | accepted
  deriving DecidableEq, Repr

/-- Words of the span header as the home tile reads them: DONE_STEP, OPEN_STEP, OPEN_PARAMS. -/
structure SpanHdr where
  done   : Nat
  opn    : Nat
  params : List Byte
  bad    : Bool
  deriving DecidableEq, Repr

def State.spanHdr (s : State) (x : CtxFix) : SpanHdr :=
  let sp := spanOf x.desc
  match s.region? sp.region with
  | none => ⟨0, 0, [], true⟩
  | some r =>
    ⟨s.headerWord sp.region r sp 0, s.headerWord sp.region r sp 1, s.readRgn sp.region r (sp.poff + 16) 24,
     s.rgnPoisoned sp.region r sp.poff 48⟩

/-- Checks 2 to 7 of Table 7.5. A poisoned header cannot be read: POISON, as at setup (R172; log entry 45). -/
def State.judgeStep (s : State) (c : Ctx) (p : Packet) : StepVerdict :=
  let a := stepArgs p.payload
  let h := s.spanHdr c.fix
  if s.beforeStart c then .dropped
  else if !c.runs || p.gen != c.gen then .dropped
  else if p.rank ≠ c.fix.convRank then .nack stNOTMEMBER
  else
    match c.opt.step with
    | some old => if old = p.payload then .again else .nack stBADDESC
    | none =>
      if !a.ok (dfield c.fix.desc 12 63 60) then .nack stBADDESC
      else if h.bad then .nack stPOISON
      else if h.opn = 0 then (if a.t = h.done + 1 then .accepted else .nack stRANGE)
      else if a.t = h.opn ∧ p.payload.drop 8 = h.params then .accepted
      else .nack stRANGE

/-- An accepted STEP (R175): OPEN_PARAMS and then OPEN_STEP are written where no step was open. -/
def State.acceptStep (s : State) (n : Nat) (c : Ctx) (p : Packet) : State :=
  let sp := spanOf c.fix.desc
  let t := (stepArgs p.payload).t
  let h := s.spanHdr c.fix
  let s := match s.region? sp.region with
    | some r =>
      if h.opn = 0 then
        (s.writeRgn sp.region r (sp.poff + 16) (p.payload.drop 8)).writeRgn sp.region r (sp.poff + 8) (natBytes 8 t)
      else s
    | none => s
  let s := s.firstData n
  let s := s.onCtx n fun c => { c with opt := { c.opt with step := some p.payload }, optHdr := (h.done, t) }
  s.setFld .optStep [n] 63 16 t

/-- The home tile reads the span header for check 7 of Table 7.5, and can. -/
def State.stepReads (s : State) (c : Ctx) (p : Packet) : Bool :=
  !s.beforeStart c && c.runs && p.gen == c.gen && p.rank == c.fix.convRank && c.opt.step.isNone
    && (stepArgs p.payload).ok (dfield c.fix.desc 12 63 60) && !(s.spanHdr c.fix).bad

/-- STEP_AT_HOME: the next STEP on its way is judged and answered in class 0 (R174, R175); SVC_OPT_HDR shows the header as read (R188).
`ties` is as at CONTRIB_TILE_ARRIVAL. -/
def bodyStepAtHome (n ties : Nat) (s : State) : State :=
  match s.firstFlight n tSTEP with
  | none => s
  | some g =>
    s.landing g fun s =>
    let s := s.tieCount n ties
    match s.ctx? n with
    | none => s
    | some c =>
      let hub := 8 + exitHub c.fix.home
      let h := s.spanHdr c.fix
      let verdict := s.judgeStep c g.pkt
      let s := if s.stepReads c g.pkt then s.setCtx n { c with optHdr := (h.done, h.opn) } else s
      match verdict with
      | .dropped => s.ctxCount .optStepRx n 31 16
      | .nack st => (s.ctxCount .optStepRx n 47 32).nackFrom hub g.port g.pkt st
      | .again => (s.ctxCount .optStepRx n 63 48).originate hub (ackOf g.pkt s.keys.svcEp stOK)
      | .accepted => (s.acceptStep n c g.pkt).originate hub (ackOf g.pkt s.keys.svcEp stOK)

def execStepAtHome (n ties : Nat) (s : State) : Out := commitMem s fun t => t.unlessSafe (bodyStepAtHome n ties)

/-- The parts of a span that belong to chunk `k`: offset and length of W, M, V and S[k]. -/
def CtxFix.chunkParts (x : CtxFix) (k : Nat) : List (Nat × Nat) :=
  let sp := spanOf x.desc
  let e0 := k * x.c
  let n := x.elems k
  [(sp.poff + 4096 + 4 * e0, 4 * n), (sp.poff + sp.mOff + sp.mb * e0, sp.mb * n),
   (sp.poff + sp.vOff + sp.mb * e0, if sp.vSize = 0 then 0 else sp.mb * n), (sp.poff + sp.sOff + 8 * k, 8)]

/-- A stack that holds a part of a chunk's state is being retrained. -/
def State.stagingWaits (s : State) (r : Nat) (x : Region) (parts : List (Nat × Nat)) : Bool :=
  parts.any fun q => (spanCuts q.1 q.2).any fun c => (s.stack (x.stackOf r (c.1 / pageBytes))).retrain

/-- OPTIMIZER_STATE_STAGED: the hub die has staged a chunk's W, M, V and S[c] into its slot; a full chunk finalises (R176, R177). -/
def bodyOptimizerStateStaged (n k : Nat) (m : MemResult) (s : State) : State :=
  match s.ctx? n with
  | none => s
  | some c =>
    let sp := spanOf c.fix.desc
    match s.region? sp.region with
    | none => s
    | some r =>
      let sl := c.run.slots.get k {}
      let parts := c.fix.chunkParts k
      if c.fix.kind ≠ 2 ∨ c.state ≠ .active ∨ c.opt.step = none ∨ c.frontier ≤ k ∨ c.finalised k = true ∨ sl.staged.isSome = true
          ∨ s.paused c = true ∨ s.stagingWaits sp.region r parts = true then s
      else
        let w0 := parts.headD (0, 0)
        let s := s.memReport (r.stackOf sp.region (w0.1 / pageBytes)) (r.phys sp.region w0.1) w0.2 (r.faultAddr w0.1) m
        let rd (i : Nat) : List Byte := match parts[i]? with | some q => s.readRgn sp.region r q.1 q.2 | none => []
        let bad := parts.any fun q => s.rgnPoisoned sp.region r q.1 q.2
        let st : Staged := ⟨rd 0, rd 1, rd 2, beNat (rd 3), bad⟩
        let s := s.onCtx n fun c => { c with run := { c.run with slots := c.run.slots.set k { sl with staged := some st } } }
        s.tryFinish n k

def execOptimizerStateStaged (n k : Nat) (m : MemResult) (s : State) : Out := commit s (s.unlessSafe (bodyOptimizerStateStaged n k m))

/-- UPDATE_UNIT_DONE: the unit's writes are made whole, and its chunk's RESULT goes out and its slot is released where its
generation still waits for it (R176, R185, R461). -/
def bodyUpdateUnitDone (n k : Nat) (s : State) : State :=
  s.unlessPaused n fun c =>
    match c.units.find? k with
    | none => s
    | some u =>
      let s := u.writes.foldl (fun (s : State) w => s.memOp (.put w.1 w.2)) s
      let s := s.setCtx n { c with units := c.units.erase k }
      if u.live && c.runs && u.gen == c.gen then s.releaseChunk n k u.out u.fin else s

def execUpdateUnitDone (n k : Nat) (s : State) : Out := commitMem s fun t => t.unlessSafe (bodyUpdateUnitDone n k)

end Sys2Proof.Machine
end

