-- ==== Sys2Proof/Machine/Tables.lean ====
section
/-!
DEFINITION. Route banks: the table operations of FWD_TBL_CMD, copying, arming and swapping (R299 to R307).
-/

namespace Sys2Proof.Machine

/-- The inactive bank's number. -/
def State.idleBank (s : State) : Nat := 1 - s.fwd.active

/-- The inactive bank may be written (R301). -/
def State.bankWritable (s : State) : Bool :=
  match s.fwd.inactive with
  | none => true
  | some t => s.twiceAgePassed t

/-- A bank replaced. -/
def Fwd.setBank (f : Fwd) (n : Nat) (b : Bank) : Fwd := if n = 0 then { f with bank0 := b } else { f with bank1 := b }

/-- Units of the prefix store in use (R296). -/
def Bank.units (b : Bank) : Nat := b.v4.length + 2 * b.v6.length

/-- A keyed list with the entry of a key replaced or added at the end. -/
def putKey (l : List (Nat × Nat × Nat)) (a b v : Nat) : List (Nat × Nat × Nat) :=
  if l.any fun e => e.1 == a && e.2.1 == b then l.map fun e => if e.1 = a ∧ e.2.1 = b then (a, b, v) else e
  else l ++ [(a, b, v)]

def getKey (l : List (Nat × Nat × Nat)) (a b : Nat) : Option Nat :=
  (l.find? fun e => e.1 == a && e.2.1 == b).map fun e => e.2.2

def dropKey (l : List (Nat × Nat × Nat)) (a b : Nat) : List (Nat × Nat × Nat) :=
  l.filter fun e => !(e.1 == a && e.2.1 == b)

/-- The operation named by the table registers: table, index, data words (Table 12.10). -/
structure TblOp where
  table : Nat
  op    : Nat
  index : Nat
  bank  : Nat
  d0    : Nat
  d1    : Nat
  d2    : Nat
  d3    : Nat
  deriving DecidableEq, Repr

def State.tblOp (s : State) : TblOp :=
  let f (hi lo : Nat) : Nat := s.fld .fwdTblAddr [] hi lo
  ⟨f 63 60, f 59 56, f 55 32, f 31 31, s.reg .fwdTblData [0], s.reg .fwdTblData [1], s.reg .fwdTblData [2], s.reg .fwdTblData [3]⟩

/-- IPv4 prefix and length, IPv6 prefix and length (Table 12.11). -/
def TblOp.v4 (o : TblOp) : Nat × Nat := (o.d0 / 2 ^ 32, o.d0 / 2 ^ 24 % 256)
def TblOp.v6 (o : TblOp) : Nat × Nat := (o.d0 * 2 ^ 64 + o.d1, o.d2 / 2 ^ 56)

/-- VID and MAC of a bridge entry's key. -/
def TblOp.vidMac (o : TblOp) : Nat × Nat := (o.d0 / 2 ^ 48 % 4096, o.d0 % 2 ^ 48)

/-- The index lies in its table, or the key has its form (Table 12.11). -/
def TblOp.named (o : TblOp) : Bool :=
  match o.table with
  | 1 => decide (o.index < 1048576)
  | 2 => decide (o.index < 262144)
  | 3 => decide (o.index < 16384)
  | 4 => decide (o.v4.2 ≤ 32) && o.v4.1 % 2 ^ (32 - o.v4.2) == 0
  | 5 => decide (o.v6.2 ≤ 128) && o.v6.1 % 2 ^ (128 - o.v6.2) == 0
  | 6 => true
  | 7 => decide (o.index < 32768) && o.index % 4 != 3
  | 8 => decide (o.index < 72)
  | _ => false

/-- The entry's values lie in their tables, and a bridge entry's PORT names a port (R279, R282, R297, R362, Table 12.2). -/
def TblOp.valued (o : TblOp) (isPort : Nat → Bool) : Bool :=
  match o.table with
  | 1 => o.index != 0 && o.index != 0xFFFFF
  | 2 => decide (o.d0 / 2 ^ 54 < 768)
  | 3 => o.d0 / 2 ^ 62 != 3
  | 6 => o.d1 / 2 ^ 63 == 1 || isPort (o.d1 % 4096)
  | 8 => decide (4 ≤ o.d0 % 8) && decide (o.d0 % 8 ≤ 6)
  | _ => true

/-- The entry would not fit the prefix store or the bridge entries (R295, R296). -/
def TblOp.full (o : TblOp) (b : Bank) : Bool :=
  match o.table with
  | 4 => (getKey b.v4 o.v4.1 o.v4.2).isNone && decide (524288 < b.units + 1)
  | 5 => (getKey b.v6 o.v6.1 o.v6.2).isNone && decide (524288 < b.units + 2)
  | 6 => (getKey b.bridge o.vidMac.1 o.vidMac.2).isNone && decide (65536 ≤ b.bridge.length)
  | _ => false

/-- The bank with the entry written, reserved bits dropped. -/
def TblOp.write (o : TblOp) (b : Bank) : Bank :=
  match o.table with
  | 1 => { b with endpoint := b.endpoint.set o.index (o.d0 / 2 ^ 14 % 4 * 2 ^ 14 + o.d0 % 4096) }
  | 2 => { b with member := b.member.set o.index (o.d0 / 2 ^ 24 * 2 ^ 24) }
  | 3 => { b with nhr := b.nhr.set o.index [o.d0 / 2 ^ 61 * 2 ^ 61 + o.d0 % 2 ^ 60, o.d1, o.d2] }
  | 4 => { b with v4 := putKey b.v4 o.v4.1 o.v4.2 (o.d1 % 4096) }
  | 5 => { b with v6 := putKey b.v6 o.v6.1 o.v6.2 (o.d3 % 4096) }
  | 6 => { b with bridge := putKey b.bridge o.vidMac.1 o.vidMac.2 (o.d1 / 2 ^ 63 * 2 ^ 63 + o.d1 % 4096) }
  | 7 => { b with vlan := b.vlan.set o.index [o.d0, o.d1, o.d2, o.d3] }
  | 8 => { b with cmap := b.cmap.set o.index (o.d0 % 8) }
  | _ => b

/-- The data words of a read (Table 12.11). -/
def TblOp.read (o : TblOp) (b : Bank) : List Nat :=
  match o.table with
  | 1 => [b.ep o.index, 0, 0, 0]
  | 2 => [b.member.get o.index 0, 0, 0, 0]
  | 3 => let d := b.nhr.get o.index []; [nth d 0, nth d 1, nth d 2, 0]
  | 4 => [o.d0, (getKey b.v4 o.v4.1 o.v4.2).getD 0, 0, 0]
  | 5 => [o.d0, o.d1, o.d2, (getKey b.v6 o.v6.1 o.v6.2).getD 0]
  | 6 => [o.d0, (getKey b.bridge o.vidMac.1 o.vidMac.2).getD 0, 0, 0]
  | 7 => let d := b.vlan.get o.index []; [nth d 0, nth d 1, nth d 2, nth d 3]
  | 8 => [b.cmap.get o.index 0, 0, 0, 0]
  | _ => [0, 0, 0, 0]

/-- The bank without the keyed entry; none where no entry has the key. -/
def TblOp.delete (o : TblOp) (b : Bank) : Option Bank :=
  match o.table with
  | 4 => (getKey b.v4 o.v4.1 o.v4.2).map fun _ => { b with v4 := dropKey b.v4 o.v4.1 o.v4.2 }
  | 5 => (getKey b.v6 o.v6.1 o.v6.2).map fun _ => { b with v6 := dropKey b.v6 o.v6.1 o.v6.2 }
  | 6 => (getKey b.bridge o.vidMac.1 o.vidMac.2).map fun _ => { b with bridge := dropKey b.bridge o.vidMac.1 o.vidMac.2 }
  | _ => none

/-- An operation ends with a status (Table 12.10). -/
def State.tblEnd (s : State) (st : Nat) : State :=
  { s with fwd := { s.fwd with tblStatus := st, tblDone := (s.fwd.tblDone + 1) % 2 ^ 32 } }

/-- GO of FWD_TBL_CMD: the operation in FWD_TBL_ADDR (R306, R307). -/
def State.tableGo (s : State) : State :=
  let o := s.tblOp
  let n := s.idleBank
  if !o.named then s.tblEnd stBADDESC
  else if o.op = 1 then
    if !o.valued s.isPort then s.tblEnd stBADDESC
    else if !s.bankWritable then s.tblEnd stRETRY
    else if o.full (s.fwd.bankOf n) then s.tblEnd stNOSPACE
    else ({ s with fwd := s.fwd.setBank n (o.write (s.fwd.bankOf n)) } : State).tblEnd stOK
  else if o.op = 2 then
    let ws := o.read (s.fwd.bankOf o.bank)
    ((List.range 4).foldl (fun (s : State) i => s.setReg .fwdTblData [i] (nth ws i)) s).tblEnd stOK
  else if o.op = 3 ∧ 4 ≤ o.table ∧ o.table ≤ 6 then
    if !s.bankWritable then s.tblEnd stRETRY
    else
      match o.delete (s.fwd.bankOf n) with
      | some b => ({ s with fwd := s.fwd.setBank n b } : State).tblEnd stOK
      | none => s.tblEnd stRANGE
  else s.tblEnd stBADDESC

/-- TABLE_WRITE, TABLE_READ and TABLE_DELETE: GO with the OP of the row in FWD_TBL_ADDR. -/
def bodyTableWrite (s : State) : State := if s.tblOp.op = 1 then s.tableGo else s
def bodyTableRead (s : State) : State := if s.tblOp.op = 2 then s.tableGo else s
def bodyTableDelete (s : State) : State := if s.tblOp.op = 3 then s.tableGo else s

def execTableWrite (s : State) : Out := commit s (s.ifMain bodyTableWrite)
def execTableRead (s : State) : Out := commit s (s.ifMain bodyTableRead)
def execTableDelete (s : State) : Out := commit s (s.ifMain bodyTableDelete)

/-- BANK_COPY: starts, or RETRY into a bank that is not writable; nothing while BUSY (R305, R306). -/
def bodyBankCopy (s : State) : State :=
  if s.fwd.busy then s
  else if s.bankWritable then { s with fwd := { s.fwd with busy := true } }
  else { s with fwd := { s.fwd with status := stRETRY } }

def execBankCopy (s : State) : Out := commit s (s.ifMain bodyBankCopy)

/-- BANK_COPY_DONE: the inactive bank holds the active one; LAST_STATUS OK (R305). -/
def bodyBankCopyDone (s : State) : State :=
  if s.fwd.busy then { s with fwd := { s.fwd.setBank s.idleBank s.activeBank with busy := false, status := stOK } } else s

def execBankCopyDone (s : State) : Out := commit s (bodyBankCopyDone s)

/-- SWAP_ARM: RANGE for a count not in the future; a second arm replaces the first (R302). -/
def bodySwapArm (s : State) : State :=
  let at_ := s.reg .fwdSwapAt []
  if s.fwd.busy then s
  else if at_ ≤ s.now then { s with fwd := { s.fwd with status := stRANGE } }
  else { s with fwd := { s.fwd with armed := some at_, status := stOK } }

def execSwapArm (s : State) : Out := commit s (s.ifMain bodySwapArm)

/-- SWAP_DISARM: no effect when none is armed (Table 12.10). -/
def bodySwapDisarm (s : State) : State :=
  if s.fwd.busy then s
  else match s.fwd.armed with
    | some _ => { s with fwd := { s.fwd with armed := none, status := stOK } }
    | none => s

def execSwapDisarm (s : State) : Out := commit s (s.ifMain bodySwapDisarm)

/-- BANK_SWAP: at the swap count the other bank becomes active (R301, R302). -/
def bodyBankSwap (s : State) : State :=
  match s.fwd.armed with
  | some at_ =>
    if at_ ≤ s.now then
      { s with fwd := { s.fwd with
          active := s.idleBank, armed := none, inactive := some s.local, swaps := (s.fwd.swaps + 1) % 2 ^ 32, lastSwap := at_ } }
    else s
  | none => s

def execBankSwap (s : State) : Out := commit s (bodyBankSwap s)

/-- BANK_WRITABLE: twice the largest age limit after it stopped being active, the inactive bank may be written (R301). -/
def bodyBankWritable (s : State) : State :=
  match s.fwd.inactive with
  | some t => if s.twiceAgePassed t then { s with fwd := { s.fwd with inactive := none } } else s
  | none => s

def execBankWritable (s : State) : Out := commit s (bodyBankWritable s)

end Sys2Proof.Machine
end

