-- ==== Sys2Proof/Machine/Recovery.lean ====
section
/-!
DEFINITION. Hangs, reset domains and recovery (chapter 19): domain resets and what they lose (R457, R458), escalation (R471), the search
for a guilty context (R464 to R466), and the resets of the whole module (R467, R468).
-/

namespace Sys2Proof.Machine

/-! ### Reset domains (Tables 19.1 and 19.2) -/

/-- The die of a domain's watchdog message (Table 19.2). -/
def domainDie (n : Nat) : Nat :=
  if n < 768 then n / 96
  else if n < 1408 then 8 + (n - 768) / 160
  else if 1472 ≤ n ∧ n < 1488 then 8 + (n - 1472) / 4
  else if 1492 ≤ n ∧ n < 1496 then 8 + (n - 1492)
  else 31

/-- The limit of a unit's watchdog in nanoseconds (Tables 19.1 and 19.8). -/
def State.watchLimit (s : State) (n : Nat) : Nat :=
  let f (hi lo d : Nat) : Nat := let v := s.fld .fltWdgCfg [] hi lo; (if v = 0 then d else v) * 1000
  if n < 768 then f 63 48 1000 else if n < 1408 then f 47 32 1000 else if n < 1472 then f 15 0 1000 else f 31 16 100

/-- The domain resets that make one: the collective and optimizer services share a partition (Table 19.3). -/
def sharedWith (n : Nat) : List Nat :=
  if n = 1408 ∨ n = 1409 then [1408, 1409] else if n = 1488 ∨ n = 1489 then [1488, 1489] else [n]

/-- A reset of a domain begins: counted, its generation advanced, its unit's self-tests ended (R443, R457, R463). -/
def State.markReset (s : State) (n : Nat) : State :=
  let d := s.reco.doms.get n {}
  let s := { s with reco := { s.reco with doms := s.reco.doms.set n { d with since := some s.local, times := (s.local :: d.times).take 4 } } }
  ((s.bump .fltDom [n] 55 32).bumpMod .fltDom [n] 63 56).abandonTests n

/-- The domain has been reset four times within 1 s (R471). -/
def State.resetOften (s : State) (n : Nat) : Bool :=
  match (s.reco.doms.get n {}).times with
  | [_, _, _, t] => decide (s.local ≤ t + 1000000000)
  | _ => false

/-- The reset of a domain has ended. -/
def State.clearBusy (s : State) (n : Nat) : State :=
  { s with reco := { s.reco with doms := s.reco.doms.set n { s.reco.doms.get n {} with since := none } } }

/-! ### What resets lose (Table 19.3) -/

/-- A port restarts, unless it is held in DISABLED. -/
def State.losePort (s : State) (p : Nat) : State :=
  if s.linkState p = .disabled then s else s.linkTo p (s.anState p)

/-- The items of hub engine `e` of hub die `h` go; pool accesses and gather reads among them receive no answer. -/
def State.loseEngine (s : State) (h e : Nat) : State :=
  if e < 128 then s.setEngine h e { s.engine h e with buf := [], out := [] }
  else if e < 144 then
    let mine (id : Nat) : Bool := Config.engineOf id % 16 == e - 128
    let s := s.loseReqs fun q => q.sent && hubOfStack q.stack == h && mine q.id
    { s with mp := { s.mp with greqs := s.mp.greqs.filter fun g => !mine g.id } }
  else
    let u := s.hub h
    s.setHub h { u with meshOut := u.meshOut.filter fun m => Config.engineOf (256 * m.ctx + m.gen) % 16 != e - 144 }

/-- SRAM and registers of a partition's tiles go, its generation advances, and Temond begins to reload it (R256). -/
def State.losePart (s : State) (k : Nat) : State :=
  let p := s.islot k
  if p.state = .empty then s
  else
    let g := (s.fab.pgens.get k 0 + 1) % 256
    let s := s.setIslot k { p with state := .loading, pgen := g, actAt := none }
    { s with fab := { s.fab with pgens := s.fab.pgens.set k g, tiles := s.fab.tiles.filter fun e => !(p.covers e.1) } }

/-- The slots of the contexts in a partition go with its SRAM. -/
def State.loseSlots (s : State) (n : Nat) : State :=
  let f (e : Nat × Ctx) : Nat × Ctx := if s.usesDomain e.2 n then (e.1, { e.2 with run := { e.2.run with slots := [] } }) else e
  { s with svc := { s.svc with ctxs := s.svc.ctxs.map f } }

/-- A reset stack loses the accesses held for it, the RESULTs it retained, and the staged state read from it (R215, R458). -/
def State.loseStack (s : State) (k : Nat) : State :=
  let staged (x : CtxFix) (e : Nat × Slot) : Nat × Slot :=
    match e.2.staged, s.region? (spanOf x.desc).region with
    | some st, some r =>
      let on_ := (x.chunkParts e.1).any fun q => (spanCuts q.1 q.2).any fun c => r.stackOf (spanOf x.desc).region (c.1 / pageBytes) == k
      if on_ then (e.1, { e.2 with staged := some { st with bad := true } }) else e
    | _, _ => e
  let f (e : Nat × Ctx) : Nat × Ctx :=
    (e.1, { e.2 with
      kept := e.2.kept.filter fun q => e.2.blockStack q.1 != some k
      run := { e.2.run with slots := e.2.run.slots.map (staged e.2.fix) } })
  let onStack (g : GReq) (l : GLine) : Bool :=
    match s.ctx? g.ctx with
    | some c => (match s.region? (gatherRegion c) with
      | some x => x.stackOf (gatherRegion c) (l.off / pageBytes) == k && l.data.isNone
      | none => false)
    | none => false
  let x := s.stack k
  let s := { s with
    svc := { s.svc with ctxs := s.svc.ctxs.map f }
    mp := { s.mp with greqs := s.mp.greqs.filter fun g => !(g.lines.any (onStack g)) } }
  (s.loseReqs fun q => q.sent && q.stack == k).setStack k { x with retrain := true, asleep := false, dueAt := none, busyTo := 0 }

/-- A context is lost (R458): its steering entries go first, nothing is sent for it, and it waits for the reset's end. -/
def Ctx.lose (c : Ctx) : Ctx :=
  if c.state = .quarantine then c
  else { c with state := .draining, steer := .absent, lost := true, suspect := false, tear := none, rearm := [], holdFrom := none,
                kept := [], units := deadUnits c.units, bound := false, run := { startAt := c.run.startAt }, opt := {} }

/-- The contexts that `sel` selects are lost. -/
def State.loseCtxs (s : State) (sel : Ctx → Bool) : State :=
  let f (e : Nat × Ctx) : Nat × Ctx := if sel e.2 then (e.1, e.2.lose) else e
  { s with svc := { s.svc with ctxs := s.svc.ctxs.map f } }

/-- A context has a slot exit, a member-list copy or a retention block in a hub die. -/
def Ctx.onHub (c : Ctx) (h : Nat) : Bool := c.fix.tiles.any (fun t => exitHub t == h) || c.fix.blocks.any fun b => b.1 == 4 + h

/-- A service reset: its contexts, its slots, and what its engines held; a pool service loses only the accesses held. -/
def State.loseService (s : State) (n : Nat) : State :=
  if n = 1490 then s.loseReqs fun _ => true
  else if n = 1491 then ({ s.losePart 3 with mp := { (s.losePart 3).mp with greqs := [] } } : State).loseCtxs fun c => c.fix.kind == 3
  else if n = 1488 then (s.losePart 0).loseCtxs fun c => c.fix.kind == 1
  else (s.losePart 1).loseCtxs fun c => c.fix.kind == 2

/-- A hub die's own contents: packets, buffers, copies, mirror staging and engines. The port dies give back the credit of the cells that
it held (log entry 101). -/
def State.loseHub (s : State) (h : Nat) : State :=
  let held := (s.hub h).queue ++ (s.hub h).arrive.map Arrival.item
  let s := held.foldl (fun (s : State) q => s.creditItem q (q.cells - q.gone)) s
  let s := ((Tbl.keys s.fab.engines).filter fun n => n / 128 == h).foldl State.restartEngine s
  let keep (b : Nat × Buf) : Bool := match b.2 with | .withheld => true | _ => false
  let cells := s.pool h
  let blocks := s.pool (8 + h)
  let floors := 768 * ((List.range 8).map fun c => s.fld .hubBufClass [h, c] 63 54).sum
  let u : Hub := { shared := 393216 - floors - 192 * s.fld .hubBufHdrm [h] 63 53 }
  let s := (s.setHub h u).setPool h { cells with bufs := cells.bufs.filter keep, bank := 0 }
  let s := s.setPool (8 + h) { blocks with bufs := [] }
  let f (e : Nat × MirSess) : Nat × MirSess := (e.1, { e.2 with staged := e.2.staged.filter fun x => stagePool x.die != 8 + h })
  ({ s with mirror := s.mirror.map f } : State).loseReqs fun q => q.sent && hubOfStack q.stack == h

/-! ### The whole module (R467, R468) -/

/-- What a warm reset leaves of a stored register word: all of an always-on register, the RWS fields of any other, and the counts that
their tables keep until a cold reset (R12, R252, R273). -/
def warmWord (e : Nat × Nat) : List (Nat × Nat) :=
  if e.1 < 0x500000 then [e]
  else
    match locate e.1 with
    | none => []
    | some (r, is) =>
      if r = .subDrop ∨ r = .tileSecc ∨ r = .tileSunc then [e]
      else
        let keep := r.fields.filter fun f => f.acc == .rws
        if keep.isEmpty then []
        else [(e.1, keep.foldl (fun v f => Nat.withField v f.hi f.lo (e.2 / 2 ^ f.lo)) (regReset r is))]

/-- The fields of always-on registers that restart at a warm reset by their Meaning: CTL_START, the verdict of CTL_COMPLEX until the
self-test has run again, and FIXED_W until it is computed again (Tables 1.3, 17.7 and 20.6). -/
def restarted (addr word : Nat) : Nat :=
  if addr = Reg.ctlStart.addr [] ∨ addr = Reg.ctlComplex.addr [] then 0
  else if addr = Reg.pwrTokens.addr [] then Nat.withField word 31 16 0
  else word

/-- Every self-test of a module that resets is abandoned (R443). -/
def State.endAllTests (s : State) : State :=
  let ts := s.flt.tests ++ s.flt.waiting
  let s := { s with flt := { s.flt with tests := [], waiting := [] } }
  ts.foldl (fun (s : State) t => s.onLog t.seq fun e => { e with verdict := 5 }) s

/-- Every domain generation of a partition advances (R463). -/
def State.nextPgens (s : State) : Tbl Nat := (List.range 64).map fun k => (k, (s.fab.pgens.get k 0 + 1) % 256)

/-- A warm reset: main power is switched off and the start begins again at the ROM (R467, R468, R509). Contexts are lost and wait for
READY to enter QUARANTINE; an armed activation becomes pending (R490). -/
def State.warmReset (s : State) : State :=
  let s := s.endAllTests
  let lost (e : Nat × Ctx) : Nat × Ctx := (e.1, { e.2.lose with fix := { e.2.fix with blocks := [] } })
  { s with
    regs := (s.regs.flatMap warmWord).map fun e => (e.1, restarted e.1 e.2)
    ageLog := s.ageLog ++ [(s.local, 4000)]
    ports := [], hubs := [], bpm := [], fwd := {}, meters := [], mirror := [], mp := {}, cfg := {}, pow := { s.pow with crit := [] }
    svc := { ctxs := s.svc.ctxs.map lost, nextNew := s.svc.nextNew, freed := s.svc.freed, lastGen := s.svc.lastGen,
             leftAt := s.svc.leftAt, quar := s.svc.quar }
    fab := { pgens := s.nextPgens, retired := s.fab.retired, routers := s.fab.routers }
    reco := { genAll := s.reco.genAll + 1 }
    flt := { s.flt with safe := false, safeSeq := none, fwSeen := false, romLow := false, isol := s.flt.isol.take 1024 }
    pins := { s.pins with pwrGood := false, mainOn := false, thermLow := false, pllLost := [], offAt := s.local }
    nvm := { s.nvm with boot := none, run := none, refused := [], trained := false, stopped := false, warm := true, cmd := none,
                        doneSeq := 0, fellback := false, live := none, copying := false, actAt := none,
                        stg := if s.nvm.stg = 4 then 3 else s.nvm.stg } }

/-- A cold start's reset: as a warm one, with the always-on islands reset too; the log, FLT_FIRST and flash survive, open entries
close, and isolation records marked for it go (R446, R453, R468). -/
def State.coldReset (s : State) : State :=
  let s := s.endAllTests
  let close (e : Nat × LogEntry) : Nat × LogEntry := (e.1, { e.2 with isOpen := false })
  { s with
    time := {}, regs := s.regs.filter fun e => (List.range 8).any fun d => e.1 == Reg.fabSpare.addr [d]
    ageLog := [(0, 4000)]
    ports := [], hubs := [], bpm := [], fwd := {}, meters := [], mirror := [], mp := {}, cfg := {}, svc := {}, keys := {}, i3c := {}
    fab := { retired := s.fab.retired, routers := s.fab.routers }
    reco := {}, pow := {}
    flt := { log := s.flt.log.map close, nextSeq := s.flt.nextSeq, first := s.flt.first, tie := s.flt.tie
             isol := (s.flt.isol.take 1024).filter fun r => !r.pending, pageFrom := s.flt.pageFrom, urgent := s.flt.urgent
             pageAt := s.flt.pageAt.map fun _ => 0 }
    pins := { s.pins with pwrGood := false, mainOn := false, thermLow := false, pllLost := [], offAt := 0, sampledN := true }
    nvm := { s.nvm with source := 0, stgHash := [], boot := none, run := none, refused := [], trained := false, stopped := false, warm := false, cmd := none,
                        doneSeq := 0, reason := 0, fellback := false, live := none, copying := false, actAt := none, dumping := []
                        stg := if s.nvm.stg = 4 then 3 else s.nvm.stg } }

/-! ### Searches (R464 to R466) -/

/-- Contexts that a domain's reset keeps but cannot resume: their slots lie in the partition and they retain nothing (R458). -/
def State.endUnretained (s : State) (n : Nat) : State :=
  if 1408 ≤ n ∧ n < 1472 then
    (Tbl.keys (s.svc.ctxs.filter fun (e : Nat × Ctx) => e.2.runs && !e.2.fix.retains && e.2.fix.kind != 3 && s.usesDomain e.2 n)).foldl
      (fun (s : State) k => s.endAbort k stDEVICE_RESET 0 [] none) s
  else s

/-- The ACTIVE contexts with work in a domain, ascending (R464 step 1). -/
def State.suspectsOf (s : State) (n : Nat) : List Nat :=
  sortNat (Tbl.keys (s.svc.ctxs.filter fun (e : Nat × Ctx) => e.2.state == .active && s.usesDomain e.2 n))

/-- A search begins: every context whose work would enter the domain is held, the ACTIVE ones as suspects; a search already under way
goes first (log entry 58). -/
def State.beginSearch (s : State) (n : Nat) : State :=
  let q : Search := ⟨n, s.suspectsOf n, none, s.local, s.local, []⟩
  let f (e : Nat × Ctx) : Nat × Ctx :=
    if e.2.steer = .open_ ∧ s.usesDomain e.2 n = true then (e.1, { e.2 with steer := .held, suspect := e.2.state == .active }) else e
  let s := { s with svc := { s.svc with ctxs := s.svc.ctxs.map f } }
  match s.reco.search with
  | none => { s with reco := { s.reco with search := some q } }
  | some _ => { s with reco := { s.reco with later := s.reco.later ++ [q] } }

/-- Held entries that nothing holds any more open, and the contexts' timeouts go on from where they stopped (R276, R464). -/
def State.openHeld (s : State) (from_ : Nat) : State :=
  let f (e : Nat × Ctx) : Nat × Ctx :=
    if e.2.steer = .held ∧ s.entriesHeld e.1 e.2 = false then
      (e.1, { e.2 with steer := .open_, suspect := false,
                       run := { e.2.run with timerAt := e.2.run.timerAt.map fun t => t + (s.local - from_) } })
    else e
  { s with svc := { s.svc with ctxs := s.svc.ctxs.map f } }

/-- A context's record is rebuilt from the hub dies: every release they hold is counted at home (R460). -/
def rebuild (n : Nat) : Nat → State → State
  | 0, s => s
  | k + 1, s => rebuild n k (bodyReleaseReport n s)

/-- SUSPECT_READMIT: the suspect's record is rebuilt, its members are sent ABORT RETRY, and its entries open (R464 step 3). -/
def State.readmit (s : State) (q : Search) (n : Nat) (rest : List Nat) : State :=
  let s := { s with reco := { s.reco with
    search := some { q with left := rest, current := some n, since := s.local, cleared := q.cleared ++ [n] } } }
  let s := s.onCtx n fun c => { c with suspect := false }
  let s := match s.ctx? n with | some c => rebuild n c.run.reports.length s | none => s
  (s.abortRetry n).openHeld s.local

/-- The search goes on: the next suspect, or the end and the next search; the fuel is one more than the searches that wait. -/
def State.goOn : Nat → State → State
  | 0, s => s
  | k + 1, s =>
    match s.reco.search with
    | none => s
    | some q =>
      if s.domBusy q.domain || q.current.isSome then s
      else
        match q.left with
        | n :: rest => s.readmit q n rest
        | [] =>
          State.goOn k (({ s with reco := { s.reco with search := s.reco.later.head?, later := s.reco.later.drop 1 } } : State).openHeld
            q.from_)

def State.searchOn (s : State) : State := State.goOn (s.reco.later.length + 1) s

/-- GUILTY_CONTEXT: the generation of the readmitted suspect ends with DEVICE_RESET, its descriptor's hash is quarantined (R465). -/
def State.guilty (s : State) (q : Search) (n : Nat) : State :=
  let s := s.endAbort n stDEVICE_RESET 0 [] none
  let s := match s.ctx? n with
    | some c =>
      let h := sha256 c.fix.desc
      let l := if s.svc.quar.contains h then s.svc.quar else s.svc.quar ++ [h]
      { s with svc := { s.svc with quar := l.drop (l.length - 256) } }
    | none => s
  ({ s with reco := { s.reco with search := some { q with current := none } } } : State).bump .fltSearch [] 21 0

/-! ### Resets and escalation (R457, R471) -/

/-- A service or hub die that does not recover is a FATAL fault of KIND NO_PROGRESS (Table 19.7). -/
def State.fatalDomain (s : State) (n : Nat) : State := s.fatal (domainDie n) 0x1C n 0x040 0

/-- A service or hub die is reset; four resets in 1 s escalate. -/
def State.resetWide (s : State) (n : Nat) : State :=
  let s := (sharedWith n).foldl (fun (s : State) d => (s.markReset d).loseService d) s
  if s.resetOften n then s.fatalDomain n else s

/-- A memory stack is reset. -/
def State.resetStack (s : State) (k : Nat) : State := (s.markReset (1472 + k)).loseStack k

def State.resetHub (s : State) (h : Nat) : State :=
  let s := (s.markReset (1492 + h)).loseHub h
  let s := (List.range 4).foldl (fun (s : State) i => s.resetStack (4 * h + i)) s
  let s := s.loseCtxs fun c => c.fix.kind != 3 && c.onHub h
  if s.resetOften (1492 + h) then s.fatalDomain (1492 + h) else s

/-- A user partition that does not recover is unloaded, and logged as UNIT_ISOLATED of severity MAJOR (Table 19.7). -/
def State.dropPartition (s : State) (k : Nat) : State :=
  (((s.emptySlot k).clearBusy (1408 + k)).putLog ⟨31, 0x1C, 1408 + k, 0x0FF, 2, s.now, 0⟩ 1 0).tryDeferred

/-- ESCALATION (R471): the enclosing domain is reset. -/
def State.escalate (s : State) (n : Nat) : State :=
  if n < 768 then s
  else if n < 1408 then s.resetHub ((n - 768) / 160)
  else if n < 1412 then s.resetWide (1488 + (n - 1408))
  else if n < 1472 then s.dropPartition (n - 1408)
  else if n < 1488 then s.resetHub ((n - 1472) / 4)
  else s.fatalDomain n

/-- The losses of a port, engine or partition. -/
def State.loseNarrow (s : State) (n : Nat) : State :=
  if n < 768 then s.losePort n
  else if n < 1408 then s.loseEngine ((n - 768) / 160) ((n - 768) % 160)
  else (s.losePart (n - 1408)).loseSlots n

/-- A port, engine, partition or stack is reset; four resets in 1 s escalate. -/
def State.resetNarrow (s : State) (n : Nat) : State :=
  let s := if 1472 ≤ n then s.resetStack (n - 1472) else (sharedWith n).foldl (fun (s : State) d => (s.markReset d).loseNarrow d) s
  if s.resetOften n then s.escalate n else s

/-- DOMAIN_RESET (R457): a port with none behind its number, a partition with no image and numbers above 1,496 have nothing to reset.
The contexts that an engine or partition reset keeps follow the search of R464. -/
def State.resetDomain (s : State) (n : Nat) : State :=
  if n < 768 then (if s.isPort n then s.resetNarrow n else s)
  else if n < 1472 then
    if 1408 ≤ n ∧ (s.islot (n - 1408)).state = .empty then s
    else ((s.endUnretained n).beginSearch n).resetNarrow n
  else if n < 1488 then s.resetNarrow n
  else if n < 1492 then s.resetWide n
  else if n < 1496 then s.resetHub (n - 1492)
  else if n = 1496 then s.warmReset
  else s

/-! ### The rows -/

/-- The unit has a watchdog and it is not paused (R454). -/
def State.watched (s : State) (n : Nat) : Bool :=
  !s.flt.safe && s.pins.pwrGood
    && (if n < 768 then s.isPort n && s.linkUp n
        else if n < 1408 then true
        else if n < 1472 then (let p := s.islot (n - 1408); (p.state == .running && !p.quiet) || (s.domBusy n && p.state != .empty))
        else if n < 1488 then (s.stack (n - 1472)).up
        else false)

/-- Every tile of a partition that has not halted stops with HALT = 4 (R455). -/
def State.haltPart (s : State) (k : Nat) : State :=
  let p := s.islot k
  (rectTiles p.x0 p.y0 p.w p.h).foldl (fun (s : State) t =>
    let x := s.tile t
    if x.halt = 0 ∧ s.fab.retired.contains t = false then s.setTile t { x with halt := 4, waiting := false } else s) s

/-- WATCHDOG_FIRE (R455, R464 to R466): NO_PROGRESS is sent, a partition's tiles halt, and the reaction to reset the domain follows:
while one suspect is readmitted it is guilty; during the domain's own reset, or with no suspect readmitted, the enclosing domain
is reset. -/
def bodyWatchdogFire (n : Nat) (s : State) : State :=
  if !s.watched n then s
  else
    let s := s.raise (domainDie n) 0x1C n 0x040 2 0
    let s := if 1408 ≤ n ∧ n < 1472 then s.haltPart (n - 1408) else s
    if s.reactionOf 0x040 2 ≠ 4 then s
    else if s.domBusy n then s.escalate n
    else
      match s.reco.search with
      | some q =>
        if q.domain = n then
          match q.current with
          | some g => (s.guilty q g).resetNarrow n
          | none => s.escalate n
        else s.resetDomain n
      | none => s.resetDomain n

def execWatchdogFire (n : Nat) (s : State) : Out := commitMem s fun t => bodyWatchdogFire n t

/-- A reloaded partition: a service image runs again, a user image is LOADED; one with too many retired tiles stays EMPTY (R278, R462). -/
def State.reload (s : State) (k : Nat) : State :=
  let p := s.islot k
  if p.state ≠ .loading then s
  else
    let l : Load := ⟨k, p.job, p.x0, p.y0, p.w, p.h, 0⟩
    let a := s.absentIn l
    if p.image.absentOk < a then (s.emptySlot k).tryDeferred
    else
      let s := s.setIslot k { p with absent := a }
      let s := s.writeImage p.image l
      let s := s.restartEngines k
      if k < 4 then s.launch k else s.setIslot k { s.islot k with state := .loaded }

/-- The pages of a stack that regions hold. -/
def State.rgnPages (s : State) (k : Nat) : List Nat :=
  s.mp.regions.flatMap fun e => (List.range e.2.pages.length).filterMap fun i =>
    if e.2.stackOf e.1 i = k then some (nth e.2.pages i) else none

/-- A reset stack serves again: every line of every region page on it is poisoned, and its other pages are zeroed and clean (R215). -/
def State.stackBack (s : State) (k : Nat) : State :=
  let held := s.rgnPages k
  let lines := pageBytes / 64
  let s := s.cleanLines (k * stackPages * lines) ((k + 1) * stackPages * lines)
  let s := held.foldl (fun (s : State) p => s.poisonLines ((k * stackPages + p) * lines) ((k * stackPages + p + 1) * lines)) s
  let mine := (s.hbm.map fun (c : Host.Cell) => c.1 / pageBytes).eraseDups.filter fun p => p / stackPages == k && !held.contains (p % stackPages)
  let s := mine.foldl (fun (s : State) p => s.memOp (.clear (p * pageBytes) pageBytes)) s
  (s.setStack k { s.stack k with retrain := false, lastUse := s.local }).clearBusy (1472 + k)

/-- The lost contexts enter QUARANTINE once no service or hub die is under reset (R458). -/
def State.quarantineLost (s : State) : State :=
  if (List.range 8).any fun i => s.domBusy (1488 + i) then s
  else
    (Tbl.keys (s.svc.ctxs.filter fun (e : Nat × Ctx) => e.2.lost && e.2.state != .quarantine)).foldl (fun (s : State) n =>
      match s.ctx? n with | some c => s.toQuarantine n c | none => s) s

/-- What a domain of its own does as its reset ends; its stream engines issue again. -/
def State.serveAgain (s : State) (n : Nat) : State :=
  let s := s.clearBusy n
  if n < 768 then s
  else if n < 1408 then (if (n - 768) % 160 < 128 then s.streamIssue ((n - 768) / 160) ((n - 768) % 160) else s)
  else if 1492 ≤ n then (List.range 128).foldl (fun (s : State) e => s.streamIssue (n - 1492) e) s
  else if 1408 ≤ n ∧ n < 1472 then s.reload (n - 1408)
  else if 1472 ≤ n ∧ n < 1488 then s.stackBack (n - 1472)
  else if n = 1491 then s.reload 3
  else if n = 1488 then s.reload 0
  else if n = 1489 then s.reload 1
  else s

/-- DOMAIN_RESET_DONE: the domain serves again; lost contexts enter QUARANTINE, what Temond held is answered, and the search goes on
(R457, R458, R462, R464). -/
def bodyDomainResetDone (n : Nat) (s : State) : State :=
  if s.domBusy n && !s.flt.safe then
    let s := (sharedWith n).foldl State.serveAgain s
    s.quarantineLost.flushHeld.searchOn
  else s

def execDomainResetDone (n : Nat) (s : State) : Out := commitMem s (bodyDomainResetDone n)

/-- SUSPECT_CLEARED: the readmitted suspect's generation has ended, or twice the watchdog limit has passed without a firing; the next
is readmitted (R464 steps 3 to 5). -/
def bodySuspectCleared (s : State) : State :=
  match s.reco.search with
  | none => s
  | some q =>
    match q.current with
    | none => s
    | some n =>
      let ended := match s.ctx? n with | some c => !c.runs | none => true
      if ended || decide (q.since + 2 * s.watchLimit q.domain ≤ s.local) then
        ({ s with reco := { s.reco with search := some { q with current := none } } } : State).searchOn
      else s

def execSuspectCleared (s : State) : Out := commitMem s fun t => t.unlessSafe bodySuspectCleared

/-- DOMAIN_GO: writing 1 resets the domain that DOMAIN names; a value above 1,495 does nothing (Table 19.8). -/
def bodyDomainGo (n : Nat) (s : State) : State :=
  if n ≤ 1495 ∧ s.flt.safe = false ∧ s.pins.pwrGood then s.resetDomain n else s

def execDomainGo (n : Nat) (s : State) : Out := commitMem s fun t => t.ifIslands (bodyDomainGo n)

/-- WARM written to FLT_RESET (R467). -/
def bodyWarm (s : State) : State := if s.islandsUp then s.warmReset else s

def execWarm (s : State) : Out := commit s (bodyWarm s)

/-- COLD written to FLT_RESET (R467). -/
def bodyCold (s : State) : State := if s.islandsUp then s.coldReset else s

def execCold (s : State) : Out := commit s (bodyCold s)

/-- RESET_N_PULSE: a low of 1 µs to below 1 s starts a warm reset at its rising edge (R508). -/
def bodyResetNPulse (s : State) : State := if s.islandsUp then s.warmReset else s

def execResetNPulse (s : State) : Out := commit s (bodyResetNPulse s)

/-- RESET_N_HELD: a low of 1 s starts a cold start; the always-on islands stay in reset until the pin rises (R508). -/
def bodyResetNHeld (s : State) : State :=
  if s.pins.auxGood then let t := s.coldReset; { t with pins := { t.pins with resetN := false } } else s

def execResetNHeld (s : State) : Out := commit s (bodyResetNHeld s)

/-- HBM_TRAIN of a stack (Table 18.5). -/
def State.trainFault (s : State) (k : Nat) : State := s.raise (8 + k / 4) 0x0A (32 * (k % 4)) 0x022 2 0

/-- STACK_RETRAIN_DONE (R215): a stack that fails training is reported and does not serve. -/
def bodyStackRetrainDone (k : Nat) (r : TestResult) (s : State) : State :=
  if k < 16 ∧ (s.stack k).retrain then (match r with | .pass => s.stackBack k | .fail => s.trainFault k) else s

def execStackRetrainDone (k : Nat) (r : TestResult) (s : State) : Out := commitMem s fun t => t.unlessSafe (bodyStackRetrainDone k r)

/-- CLEAR_ALL: the quarantine list is emptied (R474). -/
def bodyClearAll (s : State) : State := { s with svc := { s.svc with quar := [] } }

def execClearAll (s : State) : Out := commit s (s.ifMain bodyClearAll)

end Sys2Proof.Machine
end

