-- ==== Sys2Proof/Machine/Faults.lean ====
section
/-!
DEFINITION. Fault collection (chapter 18): taking a message (R436, R437), targeted self-tests and their verdicts (R443), isolation
(R445), spare-column substitution (R275 to R278), the log mirror (R439), clearing (R446), and Temond's check-in and ALIVE (R448).
-/

namespace Sys2Proof.Machine

/-! ### Isolation (R445, Table 18.7) -/

/-- UNIT of an isolation record (Table 18.11). -/
def FaultMsg.unit_ (m : FaultMsg) : Nat :=
  match unitClass m.kind with
  | 2 => m.part
  | 3 => Config.memoryRow m.addr % 2 ^ 26
  | 5 => m.part
  | _ => 0

/-- An isolation is recorded, and its UNIT_ISOLATED entry logged, raised to MAJOR where the list is full, with the reaction set for it
(R442, R445). -/
def State.logIsolated (s : State) (m : FaultMsg) (sev : Nat) : State :=
  let sev := if 1024 ≤ s.flt.isol.length then 2 else sev
  let r := s.reactionOf 0x0FF sev
  let s := if r = 5 then s.enterSafe else s
  let rec_ : Isolation := ⟨m.die, m.block, m.inst, m.kind, m.unit_, false⟩
  let s := ({ s with flt := { s.flt with isol := s.flt.isol ++ [rec_] } } : State).putLog ⟨m.die, m.block, m.inst, 0x0FF, sev, s.now, m.addr⟩ r 0
  if r = 4 ∧ s.flt.safe = false then (s.domainsOf m).foldl State.resetDomain s else s

/-- Slots whose partition has a tile that `hit` selects, with the images that extend them. -/
def State.slotsWith (s : State) (hit : Nat → Bool) : List Nat :=
  let direct := Tbl.keys (s.fab.slots.filter fun (e : Nat × ImgSlot) =>
    e.2.state != .empty && e.2.w != 0 && (rectTiles e.2.x0 e.2.y0 e.2.w e.2.h).any hit)
  let ids := direct.map fun k => (s.islot k).image.imageId
  Tbl.keys (s.fab.slots.filter fun (e : Nat × ImgSlot) =>
    direct.contains e.1 || (e.2.state != .empty && e.2.image.extends_ != 0 && ids.contains e.2.image.extends_))

/-- TILE_RETIRE: the logical tile is retired, and its partition is reset and reloaded without it (R278). -/
def State.retireTile (s : State) (m : FaultMsg) : State :=
  let t := tileOfMsg m
  let d := m.die - 12
  let s := { s with fab := { s.fab with retired := s.fab.retired ++ [t], tiles := s.fab.tiles.erase t } }
  let s := (s.setFld .fabSpare [d] 56 47 (s.fld .fabSpare [d] 56 47 + 1)).logIsolated m 1
  match s.partOf t with
  | some (n, _) => s.resetDomain (1408 + n)
  | none => s

/-- A failed router: the tile is retired, and every partition whose tiles or declared flows use the router is unloaded (R278). -/
def State.retireRouter (s : State) (m : FaultMsg) : State :=
  let t := tileOfMsg m
  let d := m.die - 12
  let uses (p : ImgSlot) : Bool :=
    p.covers t || s.flowsThrough p.image p.x0 p.y0 p.w p.h t
  let s := { s with fab := { s.fab with retired := s.fab.retired ++ [t], routers := s.fab.routers ++ [t], tiles := s.fab.tiles.erase t } }
  let s := (s.setFld .fabSpare [d] 56 47 (s.fld .fabSpare [d] 56 47 + 1)).logIsolated m 2
  let ks := Tbl.keys (s.fab.slots.filter fun (e : Nat × ImgSlot) => e.2.state != .empty && uses e.2)
  if ks.isEmpty then s else (ks.foldl State.emptySlot s).tryDeferred

/-- SUBSTITUTION_QUIESCE: the affected partitions are quiesced and the entries that target them held (R275, R276). -/
def State.beginSubst (s : State) (m : FaultMsg) : State :=
  let t := tileOfMsg m
  let d := m.die - 12
  let p := t % 220 % 55
  let slots := s.slotsWith fun x => fabricDie x == d && decide (p ≤ x % 220 % 55)
  let s := { s with fab := { s.fab with subst := some ⟨d, t, p, s.local, slots, false, m⟩ } }
  let s := slots.foldl (fun (s : State) k => s.setIslot k { s.islot k with quiet := true }) s
  let f (e : Nat × Ctx) : Nat × Ctx := if e.2.steer = .open_ ∧ s.entriesHeld e.1 e.2 = true then (e.1, { e.2 with steer := .held }) else e
  { s with svc := { s.svc with ctxs := s.svc.ctxs.map f } }

/-- A lasting part of a tile: a substitution where the die's spare is free, one at a time, else the logical tile is retired (R275,
R278). -/
def State.isolateTile (s : State) (m : FaultMsg) : State :=
  if s.fld .fabSpare [m.die - 12] 63 63 = 1 then s.retireTile m
  else if s.fab.subst.isSome then { s with fab := { s.fab with substq := s.fab.substq ++ [m] } }
  else s.beginSubst m

/-- The substitution is over: quiesced partitions and held entries are released, and the next lasting tile has its turn (R276). -/
def State.endSubst (s : State) (u : Subst) : State :=
  let s := { s with fab := { s.fab with subst := none } }
  let s := u.slots.foldl (fun (s : State) k => if (s.islot k).state = .empty then s else (s.setIslot k { s.islot k with quiet := false }).streamSlot k) s
  s.openHeld u.from_

def State.nextSubst (s : State) : State :=
  match s.fab.substq with
  | [] => s
  | m :: rest => ({ s with fab := { s.fab with substq := rest } } : State).isolateTile m

/-- A stack with no spare row left leaves service: its region lines are poisoned, and no page of it is free (Table 18.7). -/
def State.dropStack (s : State) (k : Nat) : State :=
  let lines := pageBytes / 64
  let s := (s.rgnPages k).foldl (fun (s : State) p =>
    s.poisonLines ((k * stackPages + p) * lines) ((k * stackPages + p + 1) * lines)) s
  let q := s.pool (16 + k)
  s.setPool (16 + k) { q with cap := q.bufs.length }

/-- UNIT_ISOLATION (Table 18.7). -/
def State.isolate (s : State) (m : FaultMsg) : State :=
  match unitClass m.kind with
  | 1 =>
    let s := match s.portOfLane m.die m.inst with | some p => s.linkTo p .disabled | none => s
    s.logIsolated m 2
  | 2 => (s.withholdRow m).logIsolated m 0
  | 3 =>
    let used := (s.flt.isol.filter fun r => r.die == m.die && r.block == 0x0A && r.inst == m.inst).length
    if used < 256 then s.logIsolated m 0 else (s.dropStack (4 * (m.die - 8) + m.inst / 32)).logIsolated m 2
  | 4 => (s.domainsOf m).foldl State.resetDomain (s.logIsolated m 1)
  | 8 => s.retireRouter m
  | 0 => s
  | _ => s.isolateTile m

/-! ### Taking a message -/

/-- The message at the head of a die's queue leaves it, and a held message takes a free entry (R435). -/
def State.dequeueFault (s : State) (die : Nat) : State :=
  let q := (s.flt.queues.get die []).drop 1
  let h := s.flt.holding.get die []
  { s with flt := { s.flt with queues := s.flt.queues.set die (q ++ h.take 1), holding := s.flt.holding.set die (h.drop 1) } }

/-- The newest entry, where a NOTE message merges into it (R437). -/
def State.mergeInto (s : State) (m : FaultMsg) : Option Nat :=
  match s.logAt ((s.flt.nextSeq + 2 ^ 32 - 1) % 2 ^ 32) with
  | some e =>
    if m.sev = 0 ∧ e.msg.die = m.die ∧ e.msg.block = m.block ∧ e.msg.inst = m.inst ∧ e.msg.kind = m.kind
        ∧ s.now ≤ e.msg.count + 1000000 then some e.seq
    else none
  | none => none

/-- NOTE messages logged for a die and block in the last second (R437). -/
def State.notesOf (s : State) (die block : Nat) : Nat :=
  (s.flt.notes.filter fun n => n.1 == die && n.2.1 == block && decide (s.local < n.2.2 + 1000000000)).length

/-- A test of the same unit runs or waits: the message makes the unit lasting when the test ends (R443). -/
def State.testAgain (s : State) (m : FaultMsg) : State :=
  let f (t : SelfTest) : SelfTest := if t.msg.sameUnit m then { t with again := true } else t
  { s with flt := { s.flt with tests := s.flt.tests.map f, waiting := s.flt.waiting.map f } }

/-- What the collector does with a message of reaction 2 (R443): its verdict at logging, and what follows. -/
def State.selfTestOn (s : State) (m : FaultMsg) : State :=
  let n := s.flt.nextSeq
  let lasting (s : State) : State := (s.putLog m 2 4).bump .fltSelftest [] 21 0
  if (s.flt.tests ++ s.flt.waiting).any fun t => t.msg.sameUnit m then (lasting s).testAgain m
  else if s.flt.tracker.any fun v => v.msg.sameUnit m && decide (s.local < v.until_) then (lasting s).isolate m
  else (s.putLog m 2 1).startTest ⟨n, m, false⟩

/-- A message is logged and its reaction taken (R436, R440, R442). A watchdog's own reset has already begun (R455). -/
def State.logFault (s : State) (m : FaultMsg) (tie : Bool) : State :=
  let n := s.flt.nextSeq
  let r := s.reactionOf m.kind m.sev
  let both := match s.flt.first with
    | some f => tie && f.seq == (n + 2 ^ 32 - 1) % 2 ^ 32 && f.msg.die != m.die && decide (s.fld .fltFirstCtl [] 61 60 ≤ m.sev)
    | none => false
  let s := { s with flt := { s.flt with
    tie := s.flt.tie || both
    notes := if m.sev = 0 then (s.flt.notes.filter fun (n : Nat × Nat × Nat) => decide (s.local < n.2.2 + 1000000000)) ++ [(m.die, m.block, s.local)]
             else s.flt.notes } }
  if r = 2 then s.selfTestOn m
  else if r = 3 then (s.putLog m 3 0).isolate m
  else if r = 4 then
    let s := s.putLog m 4 0
    if m.block = 0x1C ∨ s.flt.safe = true then s else (s.domainsOf m).foldl State.resetDomain s
  else if r = 5 then s.enterSafe.putLog m 5 0
  else s.putLog m 1 0

/-- A fault found in a unit of a die joins the die's queue (R431, R435). -/
def State.found (s : State) (die : Nat) (f : Found) : State :=
  let hub := decide (8 ≤ die) && decide (die < 12)
  match f with
  | .streamEngine e => if hub && decide (e < 128) then s.raise die 0x0B e 0x028 1 0 else s
  | .poolEngine e a => if hub && decide (e < 16) then s.raise die 0x0C e 0x028 1 a else s
  | .replicationEngine e => if hub && decide (e < 16) then s.raise die 0x0D e 0x028 1 0 else s
  | .router i => if 12 ≤ die ∧ die < 20 ∧ i < 2640 then s.raise die 0x11 i 0x036 2 0 else s

/-- FAULT_MESSAGE_TAKE: the next message of a die, what the die has just found having joined its queue. `tie` says that the message
logged before it came from another die in the same cycle (R435, R440). -/
def bodyFaultMessageTake (die : Nat) (tie : Bool) (found : Option Found) (s : State) : State :=
  let s := match found with
    | some f => if s.pins.pwrGood then s.found die f else s
    | none => s
  match s.flt.queues.get die [] with
  | [] => s
  | m :: _ =>
    let s := s.dequeueFault die
    match s.mergeInto m with
    | some n => s.onLog n fun e => { e with rep := min 0xFFFF (e.rep + 1) }
    | none =>
      if m.sev = 0 ∧ 1000 ≤ s.notesOf m.die m.block then s.bump .fltCounts [] 47 32 else s.logFault m tie

def execFaultMessageTake (die : Nat) (tie : Bool) (found : Option Found) (s : State) : Out := commitMem s fun t => bodyFaultMessageTake die tie found t

/-! ### Verdicts (R443) -/

/-- A cell of a row is still in use, so the row's march test has not begun (Table 18.6). -/
def State.rowBusy (s : State) (m : FaultMsg) : Bool :=
  unitClass m.kind == 2 && (rowCells m).any fun i => match (s.pool (m.die - 8)).bufs.find? i with | some .withheld => false | _ => true

/-- A transient verdict joins the tracker, which drops its oldest when full. -/
def State.trackVerdict (s : State) (m : FaultMsg) : State :=
  let l := s.flt.tracker ++ [⟨m, s.local + s.windowNs m.kind⟩]
  { s with flt := { s.flt with tracker := l.drop (l.length - 1024) } }

/-- SELFTEST_DONE: a test ends with VERDICT 2, or the unit is lasting with 3, or with 4 where a second message came during a test that
passed (log entry 57), and is isolated. -/
def bodySelftestDone (seq : Nat) (r : TestResult) (s : State) : State :=
  match s.flt.tests.find? fun t => t.seq == seq with
  | none => s
  | some t =>
    if s.rowBusy t.msg then s
    else
      let s := { s with flt := { s.flt with tests := s.flt.tests.filter fun x => x.seq != seq } }
      let s :=
        if r = .pass ∧ t.again = false then
          let s := ((s.onLog seq fun e => { e with verdict := 2 }).bump .fltSelftest [] 43 22).trackVerdict t.msg
          if unitClass t.msg.kind = 2 then s.freeRow t.msg else s
        else
          ((s.onLog seq fun e => { e with verdict := if r = .pass then 4 else 3 }).bump .fltSelftest [] 21 0).isolate t.msg
      s.nextTests

def execSelftestDone (seq : Nat) (r : TestResult) (s : State) : Out := commitMem s fun t => bodySelftestDone seq r t

/-- VERDICT_EXPIRE: verdicts whose window has ended leave the tracker. -/
def bodyVerdictExpire (s : State) : State :=
  { s with flt := { s.flt with tracker := s.flt.tracker.filter fun v => decide (s.local < v.until_) } }

def execVerdictExpire (s : State) : Out := commit s (bodyVerdictExpire s)

/-! ### Spare columns (R276) -/

/-- SPARE_SELFTEST_DONE: a spare that passes takes the column's place and FAB_SPARE records it; one that fails is retired too and the
die behaves as under R278 (log entry 54). -/
def bodySpareSelftestDone (die : Nat) (r : TestResult) (s : State) : State :=
  match s.fab.subst with
  | none => s
  | some u =>
    if u.die ≠ die ∨ u.passed = true then s
    else if r = .pass then
      let s := { s with fab := { s.fab with subst := some { u with passed := true } } }
      (s.setFld .fabSpare [die] 63 63 1).setFld .fabSpare [die] 62 57 u.pcol
    else
      let s := (s.setFld .fabSpare [die] 63 63 1).setFld .fabSpare [die] 62 57 55
      ((s.endSubst u).retireTile u.msg).nextSubst

def execSpareSelftestDone (die : Nat) (r : TestResult) (s : State) : Out := commitMem s fun t => t.unlessSafe (bodySpareSelftestDone die r)

/-- SUBSTITUTION_COMPLETE: sequencers, stream engines and entries are released, and UNIT_ISOLATED is logged (R276, Table 18.8). -/
def bodySubstitutionComplete (die : Nat) (s : State) : State :=
  match s.fab.subst with
  | none => s
  | some u => if u.die = die ∧ u.passed = true then ((s.endSubst u).logIsolated u.msg 1).nextSubst else s

def execSubstitutionComplete (die : Nat) (s : State) : Out := commitMem s fun t => t.unlessSafe (bodySubstitutionComplete die)

/-! ### The log mirror (R439) -/

/-- Entries not yet mirrored: the first sequence, while the ring holds it, and how many. -/
def State.unmirrored (s : State) : Nat × Nat :=
  let n := (s.flt.nextSeq + 2 ^ 32 - s.flt.pageFrom) % 2 ^ 32
  if 4096 < n then ((s.flt.nextSeq + 2 ^ 32 - 4096) % 2 ^ 32, 4096) else (s.flt.pageFrom, n)

/-- LOG_MIRROR_WRITE: the page of 128 entries in hand is written when it is full, 10 s after its first entry, or at once after a MAJOR or
FATAL entry; but for the last case, at most one page every 10 s; a flash B that does not serve takes none (R475). -/
def bodyLogMirrorWrite (s : State) : State :=
  let (from_, n) := s.unmirrored
  let k := min n (128 - from_ % 128)
  let full := from_ % 128 + n ≥ 128
  let old := match s.flt.pageAt with | some t => decide (t + 10000000000 ≤ s.local) | none => false
  let rested := s.flt.wroteAt == 0 || decide (s.flt.wroteAt + 10000000000 ≤ s.local)
  if n = 0 ∨ s.nvm.badB ∨ !(s.flt.urgent || ((full || old) && rested)) then s
  else
    let s := (List.range k).foldl (fun (s : State) i =>
      let q := (from_ + i) % 2 ^ 32
      let s := s.onLog q fun e => { e with mirrored := true }
      match s.logAt q with
      | some e => { s with nvm := { s.nvm with mlog := s.nvm.mlog.set (q % 131072) e.words } }
      | none => s) s
    { s with flt := { s.flt with
        pageFrom := (from_ + k) % 2 ^ 32, pageAt := (if k < n then some s.local else none), wroteAt := s.local
        urgent := s.flt.urgent && decide (k < n) } }

def execLogMirrorWrite (s : State) : Out := commit s (bodyLogMirrorWrite s)

/-! ### Clearing -/

/-- FLT_ACK: OPEN is cleared on every open entry within 2^31 behind the sequence; a FATAL entry stays open in the safe state (R446). -/
def bodyFltAck (n : Nat) (s : State) : State :=
  let hit (q sev : Nat) : Bool := decide ((n + 2 ^ 32 - q) % 2 ^ 32 < 2 ^ 31) && !(sev == 3 && s.flt.safe)
  let f (e : Nat × LogEntry) : Nat × LogEntry := if e.2.isOpen ∧ hit e.2.seq e.2.msg.sev = true then (e.1, { e.2 with isOpen := false }) else e
  { s with flt := { s.flt with log := s.flt.log.map f, openOld := s.flt.openOld.filter fun e => !hit e.1 e.2 } }

def execFltAck (n : Nat) (s : State) : Out := commit s (s.ifIslands (bodyFltAck n))

/-- FIRST_FAULT_CLEAR: writing 1 to VALID clears FLT_FIRST and TIE and arms the register (R440). -/
def bodyFirstFaultClear (s : State) : State := { s with flt := { s.flt with first := none, tie := false } }

def execFirstFaultClear (s : State) : Out := commit s (s.ifIslands bodyFirstFaultClear)

/-- FORCE_SAFE: a FATAL message of KIND 0x061 from die 31, and the safe state (Table 18.9). -/
def bodyForceSafe (s : State) : State := if s.islandsUp then s.fatal 31 0x1C 1496 0x061 0 else s

def execForceSafe (s : State) : Out := commit s (bodyForceSafe s)

/-- ISOLATION_CLEAR: the record is removed at the next cold start (R453). -/
def bodyIsolationClear (n : Nat) (s : State) : State :=
  { s with flt := { s.flt with isol := modNth (fun r => { r with pending := true }) s.flt.isol n } }

def execIsolationClear (n : Nat) (s : State) : Out := commit s (s.ifIslands (bodyIsolationClear n))

/-! ### Temond's check-in and ALIVE (R448) -/

/-- Temond runs: the start has reached CONFIG and not ended in recovery mode. -/
def State.temondRuns (s : State) : Bool := decide (4 ≤ s.stage) && decide (s.stage ≤ 7)

/-- TEMOND_CHECKIN; while a live activation hands over, the check-in awaited is the new Temond's, which has a row of its own (R493). -/
def bodyTemondCheckin (s : State) : State :=
  if s.temondRuns && !s.svc.holding then { s with flt := { s.flt with fwSeen := true, checkin := s.local } } else s

def execTemondCheckin (s : State) : Out := commit s (bodyTemondCheckin s)

/-- Temond's check-ins are current. -/
def State.fwOk (s : State) : Bool := s.flt.fwSeen && decide (s.local ≤ s.flt.checkin + 500000)

/-- FIRMWARE_HANG: 500 µs without a check-in raise a FATAL FIRMWARE_HANG (log entry 60). -/
def bodyFirmwareHang (s : State) : State :=
  if s.flt.fwSeen && decide (s.flt.checkin + 500000 < s.local) then
    ({ s with flt := { s.flt with fwSeen := false } } : State).fatal 31 0x1C 1496 0x061 0
  else s

def execFirmwareHang (s : State) : Out := commit s (bodyFirmwareHang s)

/-- ALIVE_TOGGLE: every 500 µs while Temond is current, outside the safe state and R21. -/
def bodyAliveToggle (s : State) : State :=
  if s.fwOk && !s.flt.safe && !s.flt.romLow && decide (s.flt.aliveAt + 500000 ≤ s.local) then
    { s with flt := { s.flt with alive := !s.flt.alive, aliveAt := s.local } }
  else s

def execAliveToggle (s : State) : Out := commit s (bodyAliveToggle s)

/-! ### Clocks, the Truss and the control complex -/

/-- PLL_UNLOCK: a main-domain PLL that runs loses lock, or a port die's SerDes reference fails, which keeps its ports out of UP and is reported
once for the die; the PLL of a fabric die without a powered tile is off (R412, R441, R511). -/
def bodyPllUnlock (die pll : Nat) (s : State) : State :=
  if 20 ≤ die ∨ s.pins.pwrGood = false ∨ (12 ≤ die ∧ s.pllRuns (die - 12) = false) then s
  else if die < 8 then
    if s.pins.pllLost.contains die then s
    else
      let s := { s with pins := { s.pins with pllLost := s.pins.pllLost ++ [die] } }
      let s := (List.range 96).foldl (fun (s : State) q =>
        if s.isPort (96 * die + q) ∧ s.linkState (96 * die + q) ≠ .disabled then s.linkTo (96 * die + q) .disabled else s) s
      s.raise die 0x1B pll 0x048 2 0
  else s.raise die 0x1B pll 0x048 2 0

def execPllUnlock (die pll : Nat) (s : State) : Out := commit s (bodyPllUnlock die pll s)

/-- A Truss link of a die: one to each hub die on a port die, one to each port die on a hub die (R17, Table 18.3). -/
def trussLink (die link : Nat) : Bool := if die < 8 then decide (link < 4) else decide (die < 12) && decide (link < 8)

/-- TRUSS_LINK_ERROR: repaired by the link's own retry, a NOTE; retries exhausted, FATAL and the safe state (Table 18.5). -/
def bodyTrussLinkError (die link : Nat) (repaired : Bool) (s : State) : State :=
  if trussLink die link = false ∨ s.pins.pwrGood = false then s
  else if repaired then s.raise die 0x05 link 0x008 0 0
  else s.fatal die 0x05 link 0x009 0

def execTrussLinkError (die link : Nat) (repaired : Bool) (s : State) : Out := commit s (bodyTrussLinkError die link repaired s)

/-- A control complex is in use: Temond's, or the ROM's from the choice of the complex on, in recovery mode too (R20, R21, R488). -/
def State.complexUsed (s : State) : Bool :=
  s.temondRuns || (s.islandsUp && s.fld .ctlComplex [] 3 3 == 1 && !s.flt.romLow)

/-- COMPLEX_FAIL: the control complex in use fails after start (R20). Which core or memory, and its address, the command does not say:
INSTANCE and ADDRESS are free (log entry 1). -/
def bodyComplexFail (s : State) : State :=
  if s.complexUsed then
    let i := s.freeVal % 5
    let s := s.tickFree
    let a := s.freeVal % 2 ^ 64
    s.tickFree.fatal s.complexDie 0x18 i 0x060 a
  else s

def execComplexFail (s : State) : Out := commit s (bodyComplexFail s)

end Sys2Proof.Machine
end

