-- ==== Sys2Proof/Machine/Power.lean ====
section
/-!
DEFINITION. Power, clocks and heat (chapter 17): sensors (R422, R424), the token supply (R416), the fabric clock step (R423), and the loss
of either supply (R408, R409).
-/

namespace Sys2Proof.Machine

/-! ### Sensors (R422) -/

/-- A reading as a temperature field holds it: a 12-bit two's complement number of 1/8 °C, 0x800 for none (R429). -/
def tempField (r : Reading) : Nat :=
  match r with
  | some t => ofSigned 12 (max (-2047) (min 2047 t))
  | none => 0x800

/-- The hotter of two temperature fields, 0x800 being no reading. -/
def hotter (a b : Nat) : Nat :=
  if a = 0x800 then b else if b = 0x800 then a else if toSigned 12 a < toSigned 12 b then b else a

/-- A sensor's register takes its reading, and MAX the hottest one since the last cold start. -/
def State.noteTemp (s : State) (r : Reg) (i : Nat) (t : Reading) : State :=
  let v := tempField t
  let m := hotter (s.fld r [i] 51 40) v
  (s.setFld r [i] 63 52 v).setFld r [i] 51 40 m

/-- The hottest of a list of readings with its source; the earliest of equals. -/
def hottest : List (Nat × Reading) → Option (Nat × Int)
  | [] => none
  | (i, r) :: l =>
    match r, hottest l with
    | some t, some (j, u) => if u ≤ t then some (i, t) else some (j, u)
    | some t, none => some (i, t)
    | none, h => h

/-- The sensor numbers of PWR_TEMP SOURCE: 0 to 19 for dies, 32 to 47 for memory stacks. -/
def sources (dieT stackT : List Reading) : List (Nat × Reading) :=
  ((List.range 20).map fun d => (d, (dieT.getD d none))) ++ ((List.range 16).map fun k => (32 + k, (stackT.getD k none)))

/-- The die and INSTANCE that report a sensor (Table 18.3). -/
def sensorDie (source : Nat) : Nat × Nat := if source < 32 then (source, 0) else (8 + (source - 32) / 4, 1)

/-- A sensor without a reading is reported (Table 18.5, kind SENSOR_FAIL). -/
def State.sensorFail (s : State) (source : Nat) : State :=
  s.raise (sensorDie source).1 0x1A (sensorDie source).2 0x058 1 0

/-- THERM_CRIT (R424): THERM_N is latched low until the next reset. -/
def State.thermCrit (s : State) (source : Nat) (t : Int) : State :=
  ({ s with pins := { s.pins with thermLow := true } } : State).fatal (sensorDie source).1 0x1A (sensorDie source).2 0x070
    (ofSigned 64 t)

/-- Each sensor that comes to read 105.0 °C or more sends its message; one that stays there has sent it (R424, R431; log entry 84). -/
def State.critical (s : State) (src : List (Nat × Reading)) : State :=
  let hot := src.filterMap fun e => e.2.bind fun t => if 840 ≤ t then some (e.1, t) else none
  let new := hot.filter fun e => !s.pow.crit.contains e.1
  new.foldl (fun (s : State) e => s.thermCrit e.1 e.2) { s with pow := { s.pow with crit := hot.map Prod.fst } }

/-- The registers of a reading of every sensor. -/
def State.takeTemps (s : State) (dieT stackT : List Reading) : State :=
  let s := (List.range 20).foldl (fun (s : State) d => s.noteTemp .pwrDieTemp d (dieT.getD d none)) s
  (List.range 16).foldl (fun (s : State) k =>
    let t := stackT.getD k none
    let hot := match t with | some v => decide (680 < v) | none => s.fld .pwrMem [k] 61 61 == 1
    (s.noteTemp .pwrStackTemp k t).setFld .pwrMem [k] 61 61 (if hot then 1 else 0)) s

/-- Tj_max joins the readings of the last 1 ms; below 93.0 °C it clears TEMP (R423). -/
def State.takeHottest (s : State) (h : Option (Nat × Int)) : State :=
  match h with
  | none => s.setFld .pwrTemp [] 63 52 0x800
  | some (i, t) =>
    let s := { s with pow := { s.pow with tj := (t :: s.pow.tj).take 10 } }
    let s := (s.setFld .pwrTemp [] 63 52 (tempField (some t))).setFld .pwrTemp [] 51 46 i
    if t < 744 then s.setFld .pwrStatus [] 45 45 0 else s

/-- A reading of every sensor is due: 100 µs after the last. -/
def State.sensorsDue (s : State) : Bool :=
  s.islandsUp && (match s.pow.readAt with | some t => decide (t + 100000 ≤ s.local) | none => true)

/-- SENSOR_READ: every die and stack sensor is read, in 1/8 °C; a sensor that gives none raises SENSOR_FAIL (R422, R424). -/
def bodySensorRead (dieT stackT : List Reading) (s : State) : State :=
  if !s.sensorsDue then s
  else
    let src := sources dieT stackT
    let s := { s with pow := { s.pow with readAt := some s.local } }
    let s := s.takeTemps dieT stackT
    let s := (src.filter fun e => e.2.isNone).foldl (fun (s : State) e => s.sensorFail e.1) s
    (s.takeHottest (hottest src)).critical src

def execSensorRead (dieT stackT : List Reading) (s : State) : Out := commit s (bodySensorRead dieT stackT s)

/-! ### The evaluation (R416, R423) -/

/-- CAP_W as it acts (Table 17.7). -/
def State.capW (s : State) : Nat :=
  let v := s.fld .pwrCap [] 63 51
  if v = 0 then 5600 else max 1500 (min 5600 v)

/-- The thermal factor as a fraction, from the sum and number of the readings of the last 1 ms, in 1/8 °C (R416). -/
def thermalFactor (sum : Int) (n : Nat) : Nat × Nat :=
  if sum ≤ 680 * (n : Int) then (1, 1)
  else if 760 * (n : Int) ≤ sum then (1, 2)
  else ((840 * (n : Int) - sum).toNat, 160 * n)

/-- SUPPLY for a cap, a thermal factor and a fixed load (R416). -/
def supplyOf (cap : Nat) (k : Nat × Nat) (fixed : Nat) : Nat := cap * k.1 * 100 / (k.2 * 106) - fixed

/-- The sum and the number of the readings of the last 1 ms. -/
def State.tjSum (s : State) : Int × Nat := (s.pow.tj.foldl (· + ·) 0, s.pow.tj.length)

/-- SUPPLY and K set; with no reading of any sensor yet, the factor is a free value between one half and one (log entry 61). -/
def State.setSupply (s : State) : State :=
  let a := s.tjSum
  let k := if a.2 = 0 then (500 + s.freeVal % 501, 1000) else thermalFactor a.1 a.2
  let s := if a.2 = 0 then s.tickFree else s
  (s.setFld .pwrTokens [] 63 48 (supplyOf s.capW k (s.fld .pwrTokens [] 31 16))).setFld .pwrTemp [] 45 36 (k.1 * 1000 / k.2)

/-- STEP (Table 17.7) and MIN_STEP. -/
def State.clockStep (s : State) : Nat := s.fld .pwrStatus [] 49 46
def State.minStep (s : State) : Nat := s.fld .pwrClkLimit [] 63 60

/-- STEP changes at the multiple `m` of 1 ms; a rise counts, and CAP says whether the cap caused it. -/
def State.setStep (s : State) (m step : Nat) (forCap : Bool) : State :=
  let rise := decide (s.clockStep < step)
  let s := { s with pow := { s.pow with stepAt := m } }
  let s := s.setFld .pwrStatus [] 49 46 step
  if rise then (s.bump .pwrThrCnt [] 63 32).setFld .pwrStatus [] 44 44 (if forCap then 1 else 0) else s

/-- The rules of R423, from the averages of the last 1 ms, at the multiple `m`. -/
def State.moveStep (s : State) (m inputW : Nat) : State :=
  let a := s.tjSum
  let hot := a.2 != 0 && decide (760 * (a.2 : Int) ≤ a.1)
  let over_ := decide (s.capW < inputW)
  let ok := a.2 != 0 && decide (a.1 < 744 * (a.2 : Int)) && decide (inputW * 100 ≤ 97 * s.capW)
  let s := { s with pow := { s.pow with okRun := if ok then s.pow.okRun + 1 else 0 } }
  if hot || over_ then
    if s.clockStep < 15 then
      let s := s.setStep m (max (s.clockStep + 1) s.minStep) over_
      if hot then s.setFld .pwrStatus [] 45 45 1 else s
    else s
  else if s.clockStep < s.minStep then s.setStep m s.minStep false
  else if 10 ≤ s.pow.okRun ∧ s.pow.stepAt + 10 ≤ m ∧ s.minStep < s.clockStep then s.setStep m (s.clockStep - 1) false
  else s

/-- LIMIT and UNMET (Table 17.7). -/
def State.stepFlags (s : State) (inputW : Nat) : State :=
  (s.setFld .pwrStatus [] 43 43 (if s.minStep ≠ 0 ∧ s.clockStep = s.minStep then 1 else 0)).setFld .pwrStatus [] 42 42
    (if s.clockStep = 15 ∧ s.capW < inputW then 1 else 0)

/-- What the supply monitor measures beside the input power: current of MAIN54, voltage and current of AUX12, free values, since the
command does not carry them (log entry 62). -/
def State.measure (s : State) : State :=
  let f (s : State) (hi lo : Nat) : State := (s.setFld .pwrInput [] hi lo s.freeVal).tickFree
  f (f (f s 47 32) 31 16) 15 0

/-- The main regulators may run: enabled by Temond, after 100 ms of AUX12, and 50 ms after a warm reset switched them off (R408, R509). -/
def State.mainRuns (s : State) : Bool :=
  s.pins.mainOn && decide (100000000 ≤ s.local) && decide (s.pins.offAt = 0 ∨ s.pins.offAt + 50000000 ≤ s.local)

/-- POWER_EVALUATION: once for every multiple of 1 ms that the count reaches, the supply, the step and their registers are set, written costs
begin to apply (R421), and the deferral queue is attempted (R416, R420, R423). `inputW` is the 1 ms average of the input power. -/
def bodyPowerEvaluation (inputW : Nat) (s : State) : State :=
  let m := s.now / 1000000
  if !s.islandsUp || m == s.pow.evalAt then s
  else
    let w := if s.mainRuns then inputW else 0
    let s := { s with pow := { s.pow with evalAt := m, costs := (List.range 16).map fun k => (k, s.reg .pwrClass [k]) } }
    let s := if s.minStep < s.clockStep then s.bump .pwrThrCnt [] 31 0 else s
    let s := (s.setFld .pwrStatus [] 63 50 (min w (2 ^ 14 - 1))).measure
    let s := (s.setSupply.moveStep m w).stepFlags w
    s.unlessSafe State.tryDeferred

def execPowerEvaluation (inputW : Nat) (s : State) : Out := commitMem s (bodyPowerEvaluation inputW)

/-! ### The supplies -/

/-- The main regulators switch off: PWR_GOOD falls and the memory stacks lose their contents (R409, R509). -/
def State.mainOff (s : State) : State :=
  let s := { s with pins := { s.pins with mainOn := false, pwrGood := false, offAt := s.local } }
  (List.range 16).foldl (fun (s : State) k => s.setStack k { s.stack k with off := true }) s

/-- MAIN_RANGE: MAIN54 has read `readingCv`, in 10 mV, for more than 100 µs; outside 40.0 to 59.5 V the main regulators switch off, with
a FATAL fault of die number 31 (R409). -/
def bodyMainRange (readingCv : Nat) (s : State) : State :=
  if !s.islandsUp then s
  else
    let s := s.setFld .pwrInput [] 63 48 (min readingCv 0xFFFF)
    if s.mainRuns && (decide (readingCv < 4000) || decide (5950 < readingCv)) then s.mainOff.fatal 31 0x1A 2 0x071 readingCv else s

def execMainRange (readingCv : Nat) (s : State) : Out := commit s (bodyMainRange readingCv s)

/-- AUX_LOSS: AUX12 leaves its range; the main regulators shut down, no register answers, and the next start is cold (R408). -/
def bodyAuxLoss (s : State) : State :=
  let t := s.coldReset
  { t with pins := { t.pins with auxGood := false } }

def execAuxLoss (s : State) : Out := commit s (bodyAuxLoss s)

end Sys2Proof.Machine
end

