-- ==== Sys2Proof/Machine/Eudel.lean ====
section
/-!
DEFINITION. The Eudel image (chapter 20): the container (R478), signatures and keys (R479), the checks of Table 20.3, and the keys of
Table 20.4 as Temond applies them (R481).
-/

namespace Sys2Proof.Machine

/-! ### The container (R478) -/

/-- Bytes a field of `n` bytes takes, padded to a multiple of 8. -/
def pad8 (n : Nat) : Nat := ceilDiv n 8 * 8

/-- One byte string stands before another. -/
def bytesLt : List Byte → List Byte → Bool
  | _, [] => false
  | [], _ :: _ => true
  | a :: as_, b :: bs => decide (a.toNat < b.toNat) || (a == b && bytesLt as_ bs)

/-- `n` entries from a byte string, in strictly rising key order above `last`, with nothing left over. -/
def takeEntries : Nat → List Byte → List Byte → Option (List Entry)
  | 0, _, bs => if bs.isEmpty then some [] else none
  | n + 1, last, bs =>
    let kl := at_ bs 0 2
    let vl := at_ bs 4 4
    let size := 8 + pad8 kl + pad8 vl
    let key := (bs.drop 8).take kl
    if bs.length < 8 ∨ kl = 0 ∨ 64 < kl ∨ bs.length < size ∨ bytesLt last key = false then none
    else
      (takeEntries n key (bs.drop size)).map fun l =>
        (⟨key, at_ bs 2 1, at_ bs 3 1 % 2 == 1, (bs.drop (8 + pad8 kl)).take vl⟩ : Entry) :: l

/-- Bytes of a partition that an image may take: 64 MiB less the record's page (R476). -/
def partBytes : Nat := 67104768

/-- Check 1: the header and the entries (Tables 20.2 and 20.3). `bs` begins with the header. -/
def eudelEntries (bs : List Byte) : Option (List Entry) :=
  let len := at_ bs 8 8
  let n := at_ bs 16 4
  if at_ bs 0 4 ≠ 0x4555444C ∨ at_ bs 4 2 ≠ 1 ∨ len < 272 ∨ partBytes < len ∨ bs.length < len ∨ n = 0 ∨ 65536 < n then none
  else takeEntries n [] ((bs.take (len - 208)).drop 64)

/-- A key's name as bytes. -/
def keyBytes (k : String) : List Byte := k.toList.map fun c => BitVec.ofNat 8 c.toNat

/-- The value of a key, where the image has it. -/
def Eudel.find (e : Eudel) (k : String) : Option (List Byte) := (e.entries.find? fun x => x.key == keyBytes k).map Entry.val

/-! ### Signatures (R479) -/

/-- The signature block's key as a 97-byte point, and whether the signature verifies under it. -/
def eudelSigned (bs : List Byte) : Option (List Byte) :=
  let len := at_ bs 8 8
  let b := (bs.take len).drop (len - 208)
  let key := (b.drop 8).take 97
  if at_ b 0 8 = 1 ∧ (b.drop 105).take 7 = List.replicate 7 0 ∧ ecdsaOk key (bs.take (len - 208)) (at_ b 112 48) (at_ b 160 48) = true
  then some key else none

/-- The key is accepted: a Knagen key, an enrolled owner's, or any while no owner is enrolled. -/
def State.keyAccepted (s : State) (key : List Byte) : Bool :=
  Config.romKeys.contains key || s.nvm.owners.contains (sha384 key) || s.nvm.owners.isEmpty

/-- Checks 1 to 4 on an image's bytes: the reason of the first that fails, or the image (Table 20.3). -/
def State.checkImage (s : State) (bs : List Byte) : Except Nat Eudel :=
  let len := at_ bs 8 8
  let compat := s.compat
  match eudelEntries bs with
  | none => .error 0x01
  | some es =>
    match eudelSigned bs with
    | none => .error 0x02
    | some key =>
      let e : Eudel := ⟨at_ bs 6 1, at_ bs 24 8, es, sha256 (bs.take (len - 208)), if Config.romKeys.contains key then none else some key⟩
      if !s.keyAccepted key then .error 0x02
      else if e.compat = 0 ∨ compat < e.compat then .error 0x03
      else
        match e.find "firmware.temond" with
        | none => .error 0x05
        | some t => if Config.temondOk t compat then .ok e else .error 0x05

/-! ### Keys (Table 20.4) -/

/-- A key as Table 20.4 gives it: its type, whether it applies at a start only, its default where it has one, and its range. -/
structure KeyDef where
  name  : String
  typ   : Nat
  start : Bool
  dflt  : Option (List Byte)
  ok    : List Byte → Bool

/-- A U64 key with its range and default. -/
def u64Key (name : String) (start : Bool) (lo hi : Nat) (dflt : Option Nat) : KeyDef :=
  ⟨name, 1, start, dflt.map (natBytes 8), fun v => v.length == 8 && decide (lo ≤ beNat v) && decide (beNat v ≤ hi)⟩

/-- A RECORDS key: record size, fewest and most records, and a check of each record. -/
def recKey (name : String) (start : Bool) (size lo hi : Nat) (dflt : Option (List Byte)) (ok : List Byte → Bool) : KeyDef :=
  ⟨name, 5, start, dflt, fun v =>
    v.length % size == 0 && decide (lo ≤ v.length / size) && decide (v.length / size ≤ hi) && (pieces size v).all ok⟩

/-- A BLOB key that every image has. -/
def blobKey (name : String) : KeyDef := ⟨name, 4, false, none, fun _ => true⟩

/-- The names of the route keys, in the order of the tables of Table 12.11. -/
def routeKeys : List String :=
  ["route.endpoint", "route.group", "route.nhr", "route.prefix4", "route.prefix6", "route.bridge", "route.vlan", "route.class_map"]

/-- The names of the service images' keys, in slot order. -/
def svcKeys : List String := ["fabric.svc.collective", "fabric.svc.optimizer", "fabric.svc.pool", "fabric.svc.gather"]

/-- The keys with a number as their value. -/
def numberKeys : List KeyDef :=
  [u64Key "svc.endpoint" true 1 1048574 none, u64Key "gather.tiles" true 0 4096 (some 1024),
   ⟨"fabric.mesh_budget_pct", 1, false, some (natBytes 8 75), fun v => v.length == 8 && (beNat v == 0 || (decide (10 ≤ beNat v) && decide (beNat v ≤ 100)))⟩,
   u64Key "qft.ethertype" true 0x0600 0xFFFF (some 0x88B5), u64Key "qft.udp_port" true 1 65535 (some 49374),
   u64Key "qft.ttl" false 1 63 (some 16), u64Key "job.timeout_us" false 1 60000000 (some 2000000),
   u64Key "svc.acc_mib" true 0 4096 (some 4096), u64Key "svc.retain_mib" true 0 65536 (some 16384),
   u64Key "svc.win_share_pct" false 1 100 (some 25), u64Key "buf.hdrm_cells" true 0 1024 (some 128),
   ⟨"mirror.area_mib", 1, true, some (natBytes 8 1024), fun v => v.length == 8 && decide (beNat v ≤ 4096) && beNat v % 2 == 0⟩,
   u64Key "mirror.region" true 1 4096 (some 4096), u64Key "mirror.job" true 0 4095 (some 0), u64Key "mirror.key" true 0 65535 (some 0),
   u64Key "time.source" true 0 2 (some 0), u64Key "time.sync_out" true 0 1 (some 0), u64Key "time.sync_delay_ns" true 0 65535 (some 0),
   u64Key "power.cap_w" false 1500 5600 (some 5600)]

/-- The buffer floors of the classes. -/
def floorKeys : List KeyDef :=
  (["buf.floor.c0", "buf.floor.c1", "buf.floor.c2", "buf.floor.c3", "buf.floor.c4", "buf.floor.c5", "buf.floor.c6", "buf.floor.c7"].zip
    [8, 24, 16, 48, 0, 0, 0, 0]).map fun e => u64Key e.1 true 0 1023 (some e.2)

/-- A port.map record's speed and frame size, and its place in its octet (R361, R365). A MAX_FRAME of 0 leaves the default; DEDUCED (log entry
119). -/
def portRecOk (r : List Byte) : Bool :=
  let p := at_ r 0 2
  let cfg := at_ r 2 8
  let w := 2 ^ (cfg / 2 ^ 61 - 1)
  decide (p < 768) && decide (1 ≤ cfg / 2 ^ 61) && decide (cfg / 2 ^ 61 ≤ 4) && p % 8 % w == 0
    && (cfg / 2 ^ 32 % 2 ^ 14 == 0 || decide (4210 ≤ cfg / 2 ^ 32 % 2 ^ 14)) && decide (cfg / 2 ^ 32 % 2 ^ 14 ≤ 9600)

/-- The keys with records, bytes or text. -/
def recordKeys : List KeyDef :=
  [⟨"module.name", 3, true, some [], fun v => decide (v.length ≤ 64)⟩,
   recKey "eudel.owner_keys" false 48 1 4 (some []) (fun _ => true), blobKey "firmware.temond",
   recKey "fabric.collective.rect" true 4 1 1 (some [0, 0, 220, 80]) (fun _ => true),
   recKey "gather.rect" true 4 1 1 (some [156, 80, 64, 16]) (fun _ => true),
   recKey "fabric.user_keys" false 112 0 8 (some []) (fun _ => true), recKey "port.map" true 48 0 768 (some []) portRecOk,
   recKey "region.list" true 16 0 4096 (some []) (fun _ => true),
   recKey "qft.dscp" true 1 8 8 (some [0, 8, 16, 24, 32, 40, 48, 56]) (fun r => decide (beNat r ≤ 63)),
   recKey "job.weight" false 4 0 4096 (some []) (fun r => decide (at_ r 0 2 < 4096) && decide (1 ≤ at_ r 2 2) && decide (at_ r 2 2 ≤ 255)),
   recKey "flt.react" false 8 0 4096 (some []) (fun r => decide (at_ r 0 2 < 4096)),
   recKey "flt.wdg" false 8 1 1 (some (natBytes 8 0)) (fun _ => true)]

/-- Every key that Temond reads. -/
def keyDefs : List KeyDef :=
  numberKeys ++ floorKeys ++ recordKeys ++ svcKeys.map blobKey ++ routeKeys.map fun n => ⟨n, 5, true, some [], fun _ => true⟩

/-- The value of a key as it acts: the image's, else the default (R481). -/
def Eudel.value (e : Eudel) (k : String) : List Byte :=
  match e.find k with
  | some v => v
  | none => ((keyDefs.find? fun d => d.name == k).bind KeyDef.dflt).getD []

def Eudel.num (e : Eudel) (k : String) : Nat := beNat (e.value k)

/-- The records of a key. -/
def Eudel.records (e : Eudel) (k : String) (size : Nat) : List (List Byte) := pieces size (e.value k)

/-! ### Checks 5 and 6 -/

/-- Every entry is of a known key, of its TYPE and range, or unknown and OPTIONAL. -/
def Eudel.valuesOk (e : Eudel) : Bool :=
  e.entries.all fun x =>
    match keyDefs.find? fun d => keyBytes d.name == x.key with
    | some d => d.typ == x.typ && d.ok x.val
    | none => x.opt

/-- Every required key is there; the owner keys are, but for an image that Knagen signed, and list the signer. -/
def Eudel.keysThere (e : Eudel) : Bool :=
  (keyDefs.all fun d => d.dflt.isSome || (e.find d.name).isSome)
    && (match e.signer with
        | none => true
        | some k => (e.records "eudel.owner_keys" 48).contains (sha384 k))

/-- Shared cells that the floors and the headroom leave (R310). -/
def Eudel.sharedCells (e : Eudel) : Nat :=
  393216 - 768 * ((floorKeys.map fun d => e.num d.name).sum) - 192 * e.num "buf.hdrm_cells"

/-- The lanes of the port map, octet lane by octet lane; no lane lies in two ports (R361). -/
def Eudel.laneList (e : Eudel) : List Nat :=
  (e.records "port.map" 48).flatMap fun r => (List.range (2 ^ (at_ r 2 8 / 2 ^ 61 - 1))).map fun i => at_ r 0 2 + i

/-- gather.tiles and gather.rect agree (R268). -/
def Eudel.gatherOk (e : Eudel) : Bool :=
  let r := e.value "gather.rect"
  e.num "gather.tiles" == 0 || e.num "gather.tiles" == at_ r 2 1 * at_ r 3 1

/-- Check 5. -/
def Eudel.keysOk (e : Eudel) : Bool :=
  e.valuesOk && e.keysThere && decide (65536 ≤ e.sharedCells) && e.gatherOk && e.laneList.eraseDups.length == e.laneList.length

/-- Check 6: a service image passes checks 1 to 4 of Table 11.5. -/
def serviceOk (compat : Nat) (bs : List Byte) : Bool :=
  match parseImage bs with
  | none => false
  | some i => !i.user && Config.romKeys.any (containerSigned bs) && compatReason compat bs i == 0

/-- Checks 5 and 6: the reason of the first that fails, 0 where both pass. -/
def State.checkKeys (s : State) (e : Eudel) : Nat :=
  if !e.keysOk then 0x04
  else if svcKeys.all fun k => serviceOk s.compat (e.value k) then 0
  else 0x06

/-- The factory's golden image: signed by Knagen, with no port and no region (R483). -/
def factoryEudel : Eudel :=
  { seq := Config.factorySeq, hash := Config.factoryHash
    entries := (Config.factoryKeys.filter fun k => k.1 != keyBytes "port.map" && k.1 != keyBytes "region.list").map fun k =>
      ⟨k.1, k.2.1, false, k.2.2⟩ }

/-! ### Applying keys (R481) -/

/-- The job and weight records, and the kind and reaction records, as register indices with their words (log entry 63). -/
def Eudel.weights (e : Eudel) : List (Nat × Nat) := (e.records "job.weight" 4).map fun r => (at_ r 0 2 % 4096, at_ r 2 2 % 256)
def Eudel.reacts (e : Eudel) : List (Nat × Nat) := (e.records "flt.react" 8).map fun r => (at_ r 0 2 % 4096, at_ r 2 6 * 2 ^ 16)

/-- The owner key list takes the image's (R479). -/
def State.enrol (s : State) (e : Eudel) : State :=
  match e.find "eudel.owner_keys" with
  | some v => { s with nvm := { s.nvm with owners := pieces 48 v } }
  | none => s

/-- The live keys that are no register. -/
def State.liveCfg (s : State) (e : Eudel) : State :=
  { s with
    keys := { s.keys with ttl := e.num "qft.ttl" }
    cfg := { s.cfg with
      winPct := e.num "svc.win_share_pct", jobTimeout := e.num "job.timeout_us", meshPct := e.num "fabric.mesh_budget_pct"
      userKeys := (e.records "fabric.user_keys" 112).map fun r => (r.take 104, at_ r 104 2 % 4096) } }

/-- The job weights written, those of `old` that the image does not name back at their default. -/
def State.putWeights (s : State) (old e : Eudel) : State :=
  let s := old.weights.foldl (fun (s : State) w => s.setReg .schJob [w.1] 0) s
  e.weights.foldl (fun (s : State) w => s.setFld .schJob [w.1] 63 56 w.2) s

/-- The power cap and the reactions written, the reactions of `old` that the image does not name back at their default. -/
def State.putReacts (s : State) (old e : Eudel) : State :=
  let s := s.setFld .pwrCap [] 63 51 (e.num "power.cap_w")
  let s := old.reacts.foldl (fun (s : State) r => s.setReg .fltReact [r.1] 0) s
  e.reacts.foldl (fun (s : State) r =>
    (s.setFld .fltReact [r.1] 63 61 (r.2 / 2 ^ 61)).setFld .fltReact [r.1] 60 44 (r.2 / 2 ^ 44)) s

/-- FLT_WDG_CFG from flt.wdg (R472). -/
def State.putWdg (s : State) (e : Eudel) : State := s.setReg .fltWdgCfg [] (e.num "flt.wdg")

/-- A rectangle's record. -/
def rectOf (v : List Byte) : Nat × Nat × Nat × Nat := (at_ v 0 1, at_ v 1 1, at_ v 2 1, at_ v 3 1)

/-- A port.map record's part of the keys: PVID, MAC and addresses, all zeros meaning none (Table 20.4). -/
def Keys.withPort (k : Keys) (r : List Byte) : Keys :=
  let p := at_ r 0 2
  { k with
    pvid := k.pvid.set p (at_ r 10 2 % 4096)
    mac := k.mac.set p (at_ r 14 6)
    ip4 := if at_ r 20 4 = 0 then k.ip4 else k.ip4.set p (at_ r 20 4)
    ip6 := if at_ r 24 16 = 0 then k.ip6 else k.ip6.set p (at_ r 24 16) }

/-- The start keys that are no register. -/
def State.startCfg (s : State) (e : Eudel) : State :=
  let k : Keys :=
    { s.keys with
      svcEp := e.num "svc.endpoint", etherType := e.num "qft.ethertype", udpPort := e.num "qft.udp_port"
      dscp := (List.range 8).map fun c => (c, at_ (e.value "qft.dscp") c 1)
      mac := [], ip4 := [], ip6 := [], pvid := [] }
  { s with
    keys := (e.records "port.map" 48).foldl Keys.withPort k
    cfg := { s.cfg with
      accKib := e.num "svc.acc_mib" * 1024, retain := e.num "svc.retain_mib", rect := rectOf (e.value "fabric.collective.rect")
      gatherTiles := e.num "gather.tiles", gatherRect := rectOf (e.value "gather.rect") } }

/-- TIM_CFG from time.sync_delay_ns and time.sync_out. -/
def State.putTime (s : State) (e : Eudel) : State :=
  (s.setFld .timCfg [] 63 48 (e.num "time.sync_delay_ns")).setFld .timCfg [] 47 47 (e.num "time.sync_out")

/-- Temond applies the image at a start; power and reaction registers only at a cold one (chapters 17 and 18). -/
def State.applyStart (s : State) (e : Eudel) : State :=
  let s := (((s.enrol e).liveCfg e).startCfg e).putWdg e
  let s := s.putTime e
  let s := s.putWeights {} e
  if s.nvm.warm then s else s.putReacts {} e

/-- Temond applies the live keys at an activation (R493). -/
def State.applyLive (s : State) (old e : Eudel) : State :=
  ((((s.enrol e).liveCfg e).putWeights old e).putReacts old e).putWdg e

/-- A start-only key differs between two images (R492). -/
def startDiffers (a b : Eudel) : Bool := keyDefs.any fun d => d.start && a.value d.name != b.value d.name

/-- A service image differs and its slot layout does too (R492). -/
def layoutDiffers (a b : Eudel) : Bool :=
  svcKeys.any fun k => a.value k != b.value k && Config.slotLayout (a.value k) != Config.slotLayout (b.value k)

end Sys2Proof.Machine
end

