-- ==== Sys2Proof/Machine/Boot.lean ====
section
/-!
DEFINITION. The start sequence (chapter 20): the ROM's self-test and choice of an image (R20, R21, R482), Temond's checks and keys, the
main rails, training, the ports and READY (Table 20.5).
-/

namespace Sys2Proof.Machine

/-! ### Flash partitions (R475, R476) -/

/-- Page `i` of a partition; an erased page reads all ones. -/
def Part.page (p : Part) (i : Nat) : List Byte := p.pages.get i (List.replicate 4096 255)

/-- The first `n` bytes of a partition. -/
def Part.bytes (p : Part) (n : Nat) : List Byte := ((List.range (ceilDiv n 4096)).flatMap p.page).take n

/-- The bytes of the image that a partition's record vouches for: its length and its hash hold (R476). -/
def Part.recorded (p : Part) : Option (List Byte) :=
  match p.record with
  | none => none
  | some r =>
    let bs := p.bytes r.length
    if r.length ≤ partBytes ∧ sha256 bs = r.hash then some bs else none

/-- The image of a partition, or the reason why it is not valid by checks 1 to 4. -/
def State.partImage (s : State) (p : Part) : Except Nat Eudel :=
  match p.recorded with
  | none => .error 0x01
  | some bs => s.checkImage bs

/-- The golden partition's image: the factory's where none has been promoted (R483). -/
def State.goldenImage (s : State) : Except Nat Eudel :=
  match s.nvm.golden with
  | none => .ok factoryEudel
  | some p => s.partImage p

/-! ### The ROM (R482, R484) -/

/-- STAGE of CTL_START set. -/
def State.setStage (s : State) (n : Nat) : State := s.setFld .ctlStart [] 63 60 n

/-- The start goes on with an image: source 0 active, 1 golden. -/
def State.useImage (s : State) (source : Nat) (e : Eudel) : State :=
  ({ s with nvm := { s.nvm with boot := some e, source := source } } : State).setStage 3

/-- Recovery mode (R488). -/
def State.recover (s : State) : State := ({ s with nvm := { s.nvm with source := 2, boot := none } } : State).setStage 8

/-- An image refused at a start: its reason, where there was an image at all and flash B takes the record (R475, R477). -/
def State.noteReason (s : State) (there : Bool) (r : Nat) : State :=
  if there ∧ s.nvm.badB = false then { s with nvm := { s.nvm with lastReason := r } } else s

/-- Rules 4 and 5 of R482. -/
def State.chooseGolden (s : State) : State :=
  if s.nvm.refused.contains 1 ∨ s.nvm.badB then s.recover
  else
    match s.goldenImage with
    | .ok e => ({ s with nvm := { s.nvm with fellback := true } } : State).useImage 1 e
    | .error r => (s.noteReason s.nvm.golden.isSome r).recover

/-- Rule 3: the active image, while it is valid and BOOT_FAILS is below 2; choosing it counts (R483). -/
def State.chooseActive (s : State) : State :=
  if s.nvm.refused.contains 0 ∨ 2 ≤ s.nvm.bootFails ∨ s.nvm.badA then s.chooseGolden
  else
    match s.partImage s.nvm.active with
    | .ok e => ({ s with nvm := { s.nvm with bootFails := if s.nvm.badB then s.nvm.bootFails else min 7 (s.nvm.bootFails + 1) } } : State).useImage 0 e
    | .error r => (s.noteReason s.nvm.active.record.isSome r).chooseGolden

/-- Rules 1 and 2: recovery mode, or a staged image, which is copied. -/
def State.chooseImage (s : State) : State :=
  if !s.pins.sampledN then s.recover
  else if 3 ≤ s.nvm.stg ∧ s.nvm.stg ≤ 5 ∧ s.nvm.badA = false then
    match s.partImage s.nvm.staging with
    | .ok _ => ({ s with nvm := { s.nvm with copying := true } } : State).setStage 2
    | .error r => (({ s with nvm := { s.nvm with stg := 0 } } : State).noteReason true r).chooseActive
  else s.chooseActive

/-- CTL_COMPLEX after the self-tests (R20, Table 1.3). With both complexes failed neither runs Temond and the table gives ACTIVE no value:
the model keeps its reset value 0 (DESIGN CHOICE, log entry 107). -/
def complexWord (hd0 hd3 : TestResult) : Nat :=
  match hd0, hd3 with
  | .pass, _ => 8
  | .fail, .pass => 8 + 2 + 1
  | .fail, .fail => 8 + 4 + 2

/-- AUX12 comes within range, or RESET_N rises after a low of 1 s: the islands leave reset (R408, R508). -/
def State.leaveReset (s : State) : State := { s with pins := { s.pins with auxGood := true, resetN := true } }

/-- The ROM waits at its first stage of this start. -/
def State.romWaits (s : State) : Bool := s.pins.refAux && s.stage == 0 && s.nvm.boot.isNone && !s.flt.romLow

/-- The flash devices as the ROM finds them: one that fails its SFDP tables is reported and not used (R475). -/
def State.readFlash (s : State) (a b : TestResult) : State :=
  let s : State := { s with nvm := { s.nvm with badA := a == .fail, badB := b == .fail } }
  let s := if a = .fail then s.raise 8 0x19 0 0x050 1 0 else s
  if b = .fail then s.raise 8 0x19 1 0x050 1 0 else s

/-- COLD_START: the ROM's run, at a cold start and at a warm reset alike (log entry 56). With both complexes failed the device does not
start: FAULT_N low, nothing chosen (R21). -/
def bodyColdStart (hd0 hd3 flashA flashB : TestResult) (s : State) : State :=
  let s := s.leaveReset
  if !s.romWaits then s
  else
    let s := s.setReg .ctlComplex [] (complexWord hd0 hd3)
    if hd0 = .fail ∧ hd3 = .fail then { s with flt := { s.flt with romLow := true } }
    else (({ s with pins := { s.pins with sampledN := s.pins.recoveryN } } : State).readFlash flashA flashB).chooseImage

def execColdStart (hd0 hd3 flashA flashB : TestResult) (s : State) : Out := commit s (bodyColdStart hd0 hd3 flashA flashB s)

/-- STAGED_COPY_DONE: the active partition holds the staged image and its record, staging is CURRENT, and the start uses the copy; it
counts as a start of the active image (R482, R483). -/
def bodyStagedCopyDone (s : State) : State :=
  if s.stage = 2 ∧ s.nvm.copying = true ∧ s.nvm.boot = none then
    ({ s with nvm := { s.nvm with active := s.nvm.staging, bootFails := if s.nvm.badB then s.nvm.bootFails else 0, stg := 6, copying := false } } : State).chooseActive
  else s

def execStagedCopyDone (s : State) : Out := commit s (bodyStagedCopyDone s)

/-! ### Temond (STAGE CONFIG) -/

/-- Checks 5 and 6 on the chosen image; the factory's image is as it shipped (R482, R483). -/
def State.bootReason (s : State) (e : Eudel) : Nat :=
  if s.nvm.source = 1 ∧ s.nvm.golden = none then 0 else s.checkKeys e

/-- The chosen image fails check 5 or 6: it is not valid for this start, and the choice resumes at the next rule. -/
def State.refuseBoot (s : State) (r : Nat) : State :=
  let n := s.nvm.source
  let s := ({ s with nvm := { s.nvm with boot := none, refused := n :: s.nvm.refused } } : State).noteReason true r
  if n = 0 then s.chooseGolden else s.recover

/-- TEMOND_START: Temond checks in, applies the image and enables the main regulators (R408, R484). -/
def bodyTemondStart (s : State) : State :=
  match s.nvm.boot with
  | none => s
  | some e =>
    if s.stage ≠ 3 ∨ s.flt.safe = true then s
    else
      let r := s.bootReason e
      if r ≠ 0 then s.refuseBoot r
      else
        let s := s.applyStart e
        ({ s with
          nvm := { s.nvm with run := some e }
          flt := { s.flt with fwSeen := true, checkin := s.local }
          pins := { s.pins with mainOn := true } } : State).setStage 4

def execTemondStart (s : State) : Out := commit s (bodyTemondStart s)

/-! ### Main power (STAGE TRAIN) -/

/-- FIXED_W for a number of lanes of configured ports (R415). -/
def fixedW (lanes : Nat) : Nat := 1257 + ceilDiv (24 * lanes) 10

/-- The regulators run and PWR_GOOD has not risen yet (R408, R509). -/
def State.railsDue (s : State) : Bool := s.mainRuns && !s.pins.pwrGood

/-- MAIN_RAILS_GOOD: PWR_GOOD rises and FIXED_W is computed (R415, R509). -/
def bodyMainRailsGood (s : State) : State :=
  match s.nvm.run with
  | none => s
  | some e =>
    if s.stage = 4 ∧ s.railsDue = true ∧ s.flt.safe = false then
      (({ s with pins := { s.pins with pwrGood := true } } : State).setFld .pwrTokens [] 31 16 (fixedW e.laneList.length)).setStage 5
    else s

def execMainRailsGood (s : State) : Out := commit s (bodyMainRailsGood s)

/-! ### Training -/

/-- The pools after the sweep (R322, R328). -/
def sweptPools (retainMib : Nat) : Tbl BpmPool :=
  ((List.range 4).map fun h => (h, ({ cap := 393216 } : BpmPool)))
    ++ ((List.range 4).map fun h => (4 + h, ({ cap := retainMib * 64 } : BpmPool)))
    ++ ((List.range 4).map fun h => (8 + h, ({ cap := 256 } : BpmPool)))
    ++ (List.range 16).map fun k => (16 + k, ({ cap := stackPages } : BpmPool))

/-- The memory stacks serve, with every byte zero. -/
def State.stacksUp (s : State) : State :=
  let s := (List.range 16).foldl (fun (s : State) k =>
    s.setStack k { off := false, lastUse := s.local, recalAt := s.local, recalTemp := (s.stackTemp k).getD 0, passFrom := s.local }) s
  { s.memOp (.clear 0 (16 * stackPages * pageBytes)) with mp := { s.mp with poison := [] } }

/-- The hub dies' division of their cells (R310). -/
def State.hubsUp (s : State) (e : Eudel) : State :=
  let s := (List.range 4).foldl (fun (s : State) h =>
    let s := (List.range 8).foldl (fun (s : State) c =>
      s.setFld .hubBufClass [h, c] 63 54 (match floorKeys[c]? with | some d => e.num d.name | none => 0)) s
    (s.setFld .hubBufHdrm [h] 63 53 (e.num "buf.hdrm_cells")).setHub h { shared := e.sharedCells }) s
  { s with bpm := sweptPools (e.num "svc.retain_mib") }

/-- A record of the isolation list takes effect again: rows of cells are withheld, and a stack with more lasting rows than spare ones
is out of service (R445, Table 18.7). -/
def State.isolateAgain (s : State) (r : Isolation) : State :=
  if unitClass r.kind = 2 then s.withholdRow ⟨r.die, r.block, r.inst, r.kind, 0, 0, 16 * r.unit⟩
  else if unitClass r.kind = 3 ∧ 256 < (s.flt.isol.filter fun x => x.die == r.die && x.block == r.block && x.inst == r.inst).length then
    s.dropStack (4 * (r.die - 8) + r.inst / 32)
  else s

/-- Bank 0 from the route keys, its class maps at their defaults but for what the keys name (R297, R299). -/
def Eudel.bank (e : Eudel) : Bank :=
  (routeKeys.zip (List.range' 1 8)).foldl (fun (b : Bank) k =>
    (Config.routeEntries k.2 (e.value k.1)).foldl (fun (b : Bank) x =>
      let o : TblOp := ⟨k.2, 1, x.1, 0, x.2.1, x.2.2.1, x.2.2.2.1, x.2.2.2.2⟩
      if o.named && o.valued (fun p => (e.records "port.map" 48).any fun r => at_ r 0 2 == p) && !o.full b then o.write b else b) b) { cmap := (List.range 72).map fun i => (i, defaultClass i) }

/-- The time source starts (Table 20.5): an origin is LOCKED, and a source other than the one in use before begins UNLOCKED (R390). The
time block keeps its source and its lock across a warm reset. -/
def State.timeUp (s : State) (src : Nat) : State :=
  if s.time.started ∧ s.keys.timeSrc = src then s
  else
    let s := s.setLock .unlocked
    let l : LockState := if src = 0 then .locked else .unlocked
    { s with
      keys := { s.keys with timeSrc := src }
      time := { s.time with started := true, lock := l, behind := false, resync := false, word := none, pulseAt := none, misses := 0 } }

/-- Stacks failed training at a start, beyond what Temond can isolate: the start stops at its stage (R486; log entry 102). -/
def State.trainStops (s : State) (failed : List Nat) : State :=
  failed.foldl (fun (s : State) k => s.trainFault k) { s with nvm := { s.nvm with stopped := true } }

/-- TRAIN_STAGE_DONE: memory stacks trained, hub dies up, the BPM swept, bank 0 filled, isolations applied and the time source started
(Table 20.5). -/
def bodyTrainStageDone (failed : List Nat) (s : State) : State :=
  match s.nvm.run with
  | none => s
  | some e =>
    if s.stage = 5 ∧ s.pins.pwrGood = true ∧ s.nvm.trained = false ∧ s.flt.safe = false ∧ s.nvm.stopped = false then
      if failed ≠ [] then s.trainStops failed
      else
      let s := (s.stacksUp.hubsUp e).timeUp (e.num "time.source")
      let s := s.flt.isol.foldl State.isolateAgain s
      { s with fwd := { bank0 := e.bank }, nvm := { s.nvm with trained := true } }
    else s

def execTrainStageDone (failed : List Nat) (s : State) : Out := commitMem s (bodyTrainStageDone failed)

/-! ### Ports (STAGE FWD_READY) -/

/-- A port.map record's word in PRT_PORT_CFG (Table 20.4); a MAX_FRAME left 0 takes the default (R365). -/
def State.portUp (s : State) (r : List Byte) : State :=
  let i := portIdx (at_ r 0 2)
  let s := s.setReg .prtPortCfg i (at_ r 2 8 / 2 ^ 30 * 2 ^ 30)
  if s.maxFrame (at_ r 0 2) = 0 then s.setFld .prtPortCfg i 45 32 9216 else s

/-- FWD_READY: the port dies are configured and every configured port leaves DISABLED. -/
def bodyFwdReady (s : State) : State :=
  match s.nvm.run with
  | none => s
  | some e =>
    if s.stage = 5 ∧ s.nvm.trained = true ∧ s.pins.pwrGood = true ∧ s.flt.safe = false then
      let ports := e.records "port.map" 48
      let s := ports.foldl State.portUp s
      (ports.foldl (fun (s : State) r => bodyLinkEnable (at_ r 0 2) s) s).setStage 6
    else s

def execFwdReady (s : State) : Out := commit s (bodyFwdReady s)

/-! ### READY -/

/-- The pages of the retention area, on every stack alike (R193). -/
def State.takeRetention (s : State) (mib : Nat) : State :=
  (List.range 16).foldl (fun (s : State) k =>
    let q := s.pool (16 + k)
    let n := min (ceilDiv mib 32) q.freeCount
    s.setPool (16 + k) { q with bufs := (List.range n).foldl (fun (b : Tbl Buf) i => b.set i (.held 0)) q.bufs }) s

/-- A region created at start: one that meets no space is not created. -/
def State.startRegion (s : State) (o : RegOp) : State :=
  match s.createRegion o with
  | .ok (_, t) => t
  | .error _ => s

/-- The mirror region (R332). -/
def State.takeMirror (s : State) (e : Eudel) : State :=
  let mib := e.num "mirror.area_mib"
  let r := e.num "mirror.region"
  if mib = 0 then s
  else
    let o : RegOp := ⟨2 ^ 56 + r * 2 ^ 40 + e.num "mirror.key" * 2 ^ 24 + 4 * 2 ^ 5, mib * 256 * 2 ^ 32, e.num "mirror.job", none⟩
    let s := s.startRegion o
    { s with mp := { s.mp with mirrorRgn := r } }

/-- The regions of region.list (R194, Table 20.4). -/
def State.takeRegions (s : State) (e : Eudel) : State :=
  (e.records "region.list" 16).foldl (fun (s : State) r =>
    let d1 := at_ r 8 8
    let o : RegOp := ⟨at_ r 0 8, d1, d1 / 2 ^ 4 % 4096, none⟩
    if o.rop = 1 ∧ o.fieldsOk = true then s.startRegion o else s) s

/-- The image of service slot `k` in an Eudel image, without tiles for a gather image where gather.tiles is 0 (R221). -/
def State.svcImage (s : State) (e : Eudel) (k : Nat) : Option (List Byte × Image) :=
  let bs := e.value (svcKeys.getD k "")
  (parseImage bs).map fun i => (bs, if k = 3 ∧ s.cfg.gatherTiles = 0 then { i with uops := 0 } else i)

/-- The place of service slot `k` (R268, Table 11.6). -/
def State.svcLoad (s : State) (k : Nat) : Load :=
  let r := if k = 3 then s.cfg.gatherRect else if k = 2 then (0, 0, 0, 0) else s.cfg.rect
  ⟨k, 0, r.1, r.2.1, r.2.2.1, r.2.2.2, 0⟩

/-- A service image is loaded and runs, where checks 5 to 11 of Table 11.5 allow it; a slot that holds one is left (R268, R420). -/
def State.loadService (s : State) (e : Eudel) (k : Nat) : State :=
  match s.svcImage e k with
  | none => s
  | some (_, i) =>
    let l := s.svcLoad k
    if s.placeReason i l ≠ 0 then s else (s.loadImage i l).launch k

/-- The four service images in slot order. -/
def State.loadServices (s : State) (e : Eudel) : State := (List.range 4).foldl (fun (s : State) k => s.loadService e k) s

/-- READY: the areas taken, the listed regions created, the service images loaded and running, BOOT_FAILS 0; contexts that a warm reset
lost enter QUARANTINE (R483, R484, R458). -/
def bodyReady (s : State) : State :=
  match s.nvm.run with
  | none => s
  | some e =>
    if s.stage = 6 ∧ s.pins.pwrGood = true ∧ s.flt.safe = false then
      let s := ((s.takeRetention (e.num "svc.retain_mib")).takeMirror e).takeRegions e
      let s := (s.loadServices e).quarantineLost
      ({ s with nvm := { s.nvm with bootFails := if s.nvm.badB then s.nvm.bootFails else 0, svcTry := s.local } } : State).setStage 7
    else s

def execReady (s : State) : Out := commit s (bodyReady s)

/-- SERVICE_IMAGE_RETRY: every 1 ms, service images that are not loaded are attempted again (R420). -/
def bodyServiceImageRetry (s : State) : State :=
  match s.nvm.run with
  | none => s
  | some e =>
    if s.isReady = true ∧ s.nvm.svcTry + 1000000 ≤ s.local ∧ s.svc.holding = false then
      ({ s with nvm := { s.nvm with svcTry := s.local } } : State).loadServices e
    else s

def execServiceImageRetry (s : State) : Out := commit s (s.unlessSafe (bodyServiceImageRetry))

end Sys2Proof.Machine
end

