-- ==== Sys2Proof/Machine/Nvm.lean ====
section
/-!
DEFINITION. The update commands (R489, R490), live activation (R492, R493), and what flash holds as READ sees it (Table 20.1).
-/

namespace Sys2Proof.Machine

/-! ### Free values -/

/-- A free choice between two states (log entry 64). -/
def State.eitherOf (s : State) (a b : State → State) : State := if s.freeVal % 2 = 0 then a s.tickFree else b s.tickFree

/-- A page of free bytes (log entry 64). -/
def State.freePage (s : State) : List Byte × State :=
  (List.range 512).foldl (fun (a : List Byte × State) _ => (a.1 ++ natBytes 8 a.2.freeVal, a.2.tickFree)) ([], s)

/-! ### What flash holds (Table 20.1) -/

/-- An erased page. -/
def erasedPage : List Byte := List.replicate 4096 255

/-- The record page of a partition, STATE being `st` (R476). -/
def recordPage (st : Nat) (r : Option FlashRec) : List Byte :=
  match r with
  | none => erasedPage
  | some r => ((natBytes 4 0x50524543 ++ Config.recordRest st r.length r.hash) ++ erasedPage).take 4096

/-- Page `i` of a partition with its record in the last one. -/
def partPage (p : Part) (st i : Nat) : List Byte := if i = 16383 then recordPage st p.record else p.page i

/-- The header and sections of a crash dump as bytes; an unused part of a section is zeros (Table 19.6). -/
def Dump.section_ (size : Nat) (ws : List Nat) : List Byte := ((ws.flatMap (natBytes 8)).take size) ++ List.replicate (size - 8 * ws.length) 0

/-- Bytes 0x1000 to 0x1F_FFFF of a dump slot. -/
def Dump.body (d : Dump) : List Byte :=
  Dump.section_ 258048 d.snap ++ Dump.section_ 262144 d.ctxs.flatten ++ Dump.section_ 131072 d.regions.flatten
    ++ Dump.section_ 393216 d.tiles.flatten ++ ((Config.controlTrace d.trace) ++ List.replicate 1048576 0).take 1048576

/-- The header (Table 19.6). -/
def Dump.header (d : Dump) : List Byte :=
  let h := natBytes 4 0x5A444D50 ++ natBytes 4 d.dseq ++ natBytes 4 d.logSeq ++ natBytes 4 d.omitted ++ natBytes 8 d.at_ ++ natBytes 8 d.done
    ++ d.head.flatMap (natBytes 8) ++ sha256 d.body
  h ++ List.replicate (4096 - h.length) 0

/-- Page `i` of a dump slot; a slot never written is erased. -/
def dumpPage (d : Option Dump) (i : Nat) : List Byte :=
  match d with
  | none => erasedPage
  | some d => if i = 0 then d.header else (d.body.drop (4096 * (i - 1))).take 4096

/-- Page `i` of the log mirror: 128 entries of 32 bytes (R439). -/
def State.mirrorPage (s : State) (i : Nat) : List Byte :=
  (List.range 128).flatMap fun k =>
    match s.nvm.mlog.find? (128 * i + k) with
    | some ws => ws.flatMap (natBytes 8)
    | none => List.replicate 32 255

/-- A page of flash A (0) or B (1); the persistent records and the reserved part of flash B have no layout in the spec, so their bytes
are free (log entry 64). -/
def State.flashPage (s : State) (flash page : Nat) : List Byte × State :=
  if flash = 0 then
    (if page < 16384 then partPage s.nvm.active 0 page else partPage s.nvm.staging s.nvm.stg (page - 16384), s)
  else if page < 16384 then
    ((match s.nvm.golden with | none => Config.factoryPage page | some p => partPage p 0 page), s)
  else if page < 17408 then (dumpPage (s.nvm.dumps.find? ((page - 16384) / 512)) (page % 512), s)
  else if page < 18432 then (s.mirrorPage (page - 17408), s)
  else s.freePage

/-! ### Starting a command (R489, R490) -/

/-- A command finishes with a reason code. -/
def State.nvmEnd (s : State) (reason : Nat) : State :=
  { s with nvm := { s.nvm with cmd := none, reason := reason, doneSeq := (s.nvm.doneSeq + 1) % 2 ^ 32 } }

/-- The fields of the command as GO found them. -/
def State.nvmPage (s : State) : Nat := s.nvm.cmdWord / 2 ^ 40 % 2 ^ 15
def State.nvmFlash (s : State) : Nat := s.nvm.cmdWord / 2 ^ 55 % 2

/-- STG_STATE allows the command (Table 20.8). -/
def allowedIn (op stg : Nat) : Bool :=
  match op with
  | 1 => true
  | 2 => [0, 1, 2, 3, 6].contains stg
  | 3 => stg == 0 || stg == 1
  | 4 => stg == 0
  | 5 => stg == 1 || stg == 2
  | 6 => stg == 2
  | 7 => stg == 2 || stg == 3
  | 8 => stg == 3 || stg == 4
  | 9 => true
  | _ => false

/-- Without Temond, the ROM accepts READ, ERASE_STAGING, WRITE, VERIFY, MARK_PENDING and PROMOTE (R488). -/
def State.nvmServed (s : State) (op : Nat) : Bool := s.temondRuns || [1, 2, 3, 5, 6, 9].contains op

/-- ACT_AT of the command: 0 means 1 ms after it (Table 20.7). -/
def State.actCount (s : State) : Nat :=
  let a := s.reg .nvmArg1 []
  if a = 0 then s.now + 1000000 else a

/-- The staged image differs from the running one in what only a start may change, or ACT_AT lies in the past (R492). -/
def State.activateReason (s : State) : Nat :=
  if s.actCount < s.now then 0x0A
  else
    match s.nvm.run, s.partImage s.nvm.staging with
    | some a, .ok b => if startDiffers a b ∨ layoutDiffers a b then 0x07 else 0
    | _, .error r => r
    | none, _ => 0x08

/-- The reason with which a command is refused before it runs, 0 where it runs. -/
def State.nvmReason (s : State) (op : Nat) : Nat :=
  if !s.nvmServed op || !allowedIn op s.nvm.stg then 0x08
  else if op = 3 ∧ 16382 < s.fld .nvmArg0 [] 54 40 then 0x0A
  else if op = 4 ∧ (s.fld .nvmArg0 [] 39 24 = 0 ∨ s.reg .nvmArg2 [] = 0 ∨ partBytes < s.reg .nvmArg2 []) then 0x0A
  else if op = 7 then s.activateReason
  else 0

/-- GO: the command in NVM_ARG0 starts, or finishes with the reason that refuses it; nothing while BUSY (R489, R490). -/
def State.nvmGo (s : State) : State :=
  if s.nvm.cmd.isSome then s
  else
    let op := s.fld .nvmArg0 [] 63 56
    let r := s.nvmReason op
    if r ≠ 0 then s.nvmEnd r
    else
      let at_ := if op = 7 then some s.actCount else s.nvm.actAt
      { s with nvm := { s.nvm with cmd := some op, cmdWord := s.reg .nvmArg0 [], cmdArg1 := s.reg .nvmArg1 [], cmdArg2 := s.reg .nvmArg2 [], actAt := at_ } }

/-- The row of a command: GO while its OP stands in NVM_ARG0. -/
def State.nvmRow (s : State) (op : Nat) : State := if s.islandsUp ∧ s.fld .nvmArg0 [] 63 56 = op then s.nvmGo else s

def bodyNvmRead (s : State) : State := s.nvmRow 1
def bodyEraseStaging (s : State) : State := s.nvmRow 2
def bodyNvmWrite (s : State) : State := s.nvmRow 3
def bodyCopyFromRegion (s : State) : State := s.nvmRow 4
def bodyVerify (s : State) : State := s.nvmRow 5
def bodyMarkPending (s : State) : State := s.nvmRow 6
def bodyActivate (s : State) : State := s.nvmRow 7
def bodyCancel (s : State) : State := s.nvmRow 8
def bodyPromote (s : State) : State := s.nvmRow 9

/-- READ (Table 20.8). -/
def execNvmRead (s : State) : Out := commit s (bodyNvmRead s)
/-- ERASE_STAGING. -/
def execEraseStaging (s : State) : Out := commit s (bodyEraseStaging s)
/-- WRITE. -/
def execNvmWrite (s : State) : Out := commit s (bodyNvmWrite s)
/-- COPY_FROM_REGION. -/
def execCopyFromRegion (s : State) : Out := commit s (bodyCopyFromRegion s)
/-- VERIFY. -/
def execVerify (s : State) : Out := commit s (bodyVerify s)
/-- MARK_PENDING. -/
def execMarkPending (s : State) : Out := commit s (bodyMarkPending s)
/-- ACTIVATE. -/
def execActivate (s : State) : Out := commit s (bodyActivate s)
/-- CANCEL. -/
def execCancel (s : State) : Out := commit s (bodyCancel s)
/-- PROMOTE. -/
def execPromote (s : State) : Out := commit s (bodyPromote s)

/-! ### Finishing a command -/

/-- NVM_BUF as bytes: byte 8i + j is bits 8j + 7 to 8j of word i (R489). -/
def State.nvmBuf (s : State) : List Byte := (List.range 512).flatMap fun i => (natBytes 8 (s.reg .nvmBuf [i])).reverse

/-- NVM_BUF filled from a page. -/
def State.fillBuf (s : State) (bs : List Byte) : State :=
  (List.range 512).foldl (fun (s : State) i => s.setReg .nvmBuf [i] (beNat ((bs.drop (8 * i)).take 8).reverse)) s

/-- The staging partition changed. -/
def State.setStaging (s : State) (p : Part) (stg : Nat) : State := { s with nvm := { s.nvm with staging := p, stg := stg } }

/-- Bytes written to a partition from its first page, the last page filled with erased bytes. -/
def partOfBytes (bs : List Byte) : Part :=
  { pages := (List.range (ceilDiv bs.length 4096)).map fun i => (i, ((bs.drop (4096 * i)).take 4096 ++ erasedPage).take 4096) }

/-- The bytes COPY_FROM_REGION copies, where every check of a POOL_RD passes (R200, R201, R490). -/
def State.regionBytes (s : State) : Option (List Byte) :=
  let r := s.nvm.cmdWord / 2 ^ 24 % 2 ^ 16
  let off := s.nvm.cmdArg1
  let n := s.nvm.cmdArg2
  match s.liveRegion r with
  | none => none
  | some x =>
    if x.key ≠ s.nvm.cmdWord / 2 ^ 8 % 2 ^ 16 ∨ x.perm / 4 % 2 = 0 ∨ x.size < off + n ∨ s.touchesOpenSpan r off n = true
        ∨ s.rgnPoisoned r x off n = true ∨ s.flt.safe = true then none
    else some (s.readRgn r x off n)

/-- WRITE into a page that is not erased fails its read-back. -/
def State.pageErased (s : State) : Bool := (s.nvm.staging.pages.find? s.nvmPage).isNone

/-- VERIFY: the checks of Table 20.3, 5 and 6 left to the next start in recovery mode (R488). -/
def State.verifyStaged (s : State) : Except Nat (Eudel × FlashRec) :=
  let n := at_ (s.nvm.staging.bytes 16) 8 8
  let bs := s.nvm.staging.bytes (min n partBytes)
  match s.checkImage bs with
  | .error r => .error r
  | .ok e =>
    let r := if s.temondRuns then s.checkKeys e else 0
    if r ≠ 0 then .error r else .ok (e, ⟨n, sha256 bs⟩)

/-- The effect of a command whose flash operations all went right, and its reason (Table 20.8). -/
def State.nvmEffect (s : State) (op : Nat) : State :=
  match op with
  | 1 => let p := s.flashPage s.nvmFlash s.nvmPage; (p.2.fillBuf p.1).nvmEnd 0
  | 2 => (s.setStaging {} 0).nvmEnd 0
  | 3 => (s.setStaging { s.nvm.staging with pages := s.nvm.staging.pages.set s.nvmPage s.nvmBuf } 1).nvmEnd 0
  | 4 =>
    match s.regionBytes with
    | none => s.nvmEnd 0x0A
    | some bs => (s.setStaging (partOfBytes bs) 1).nvmEnd 0
  | 5 =>
    match s.verifyStaged with
    | .error r => (s.setStaging s.nvm.staging 1).nvmEnd r
    | .ok (e, r) =>
      let s := s.setStaging { s.nvm.staging with record := some r } 2
      ({ s with nvm := { s.nvm with stgHash := e.hash } } : State).nvmEnd 0
  | 6 => (s.setStaging s.nvm.staging 3).nvmEnd 0
  | 7 => (s.setStaging s.nvm.staging 4).nvmEnd 0
  | 8 => ({ s.setStaging s.nvm.staging 2 with nvm := { (s.setStaging s.nvm.staging 2).nvm with actAt := none } } : State).nvmEnd 0
  | _ =>
    match s.nvm.active.recorded with
    | none => s.nvmEnd 0x01
    | some _ => ({ s with nvm := { s.nvm with golden := some s.nvm.active } } : State).nvmEnd 0

/-- The flash device a command works on: 1 for flash B. -/
def State.nvmDevice (s : State) (op : Nat) : Nat := if op = 1 then s.nvmFlash else if op = 9 then 1 else 0

/-- The flash byte address that a failed command reports (Table 18.3): the page that it reads or writes, the partition record whose STATE it
changes; where in the partition an operation on all of it failed, no operand says: a free value (log entry 64). -/
def State.flashAddr (s : State) (op : Nat) : Nat × State :=
  if op = 1 then (s.nvmPage * 4096, s)
  else if op = 3 then (0x4000000 + s.nvmPage * 4096, s)
  else if op = 6 ∨ op = 7 ∨ op = 8 then (0x7FFF000, s)
  else ((if op = 9 then 0 else 0x4000000) + s.freeVal % 2 ^ 26, s.tickFree)

/-- What a command whose erase, program or read-back failed leaves (log entry 64): a partition it was writing keeps its image or holds
none, and a page it was writing is free. -/
def State.nvmFails (s : State) (op : Nat) : State :=
  let lose (s : State) : State := s.setStaging { s.nvm.staging with record := none } 1
  let s :=
    if op = 1 then let p := s.freePage; p.2.fillBuf p.1
    else if op = 3 then
      let p := s.freePage
      p.2.setStaging { s.nvm.staging with pages := s.nvm.staging.pages.set s.nvmPage p.1 } 1
    else if op = 9 then s.eitherOf id fun s => { s with nvm := { s.nvm with golden := some { s.nvm.active with record := none } } }
    else if op = 2 ∨ op = 4 ∨ op = 5 then s.eitherOf id lose
    else s
  let a := s.flashAddr op
  (a.2.raise 8 0x19 (s.nvmDevice op) 0x050 1 a.1).nvmEnd 0x09

/-- NVM_COMMAND_COMPLETE: the command takes effect and finishes; one that uses flash B waits for a crash dump, and one on a
flash that does not serve fails (R475, R477, R489, R490). -/
def bodyNvmCommandComplete (ok : Bool) (s : State) : State :=
  match s.nvm.cmd with
  | none => s
  | some op =>
    if !s.islandsUp || (s.nvmDevice op == 1 && !s.nvm.dumping.isEmpty) then s
    else if ok && !(op == 3 && !s.pageErased) && !(if s.nvmDevice op = 1 then s.nvm.badB else s.nvm.badA) then s.nvmEffect op
    else s.nvmFails op

def execNvmCommandComplete (ok : Bool) (s : State) : Out := commit s (bodyNvmCommandComplete ok s)

/-! ### Live activation (R493) -/

/-- An activation may begin: no search and no domain reset is under way (R492). -/
def State.quietNow (s : State) : Bool := s.reco.search.isNone && s.reco.doms.all fun e => e.2.since.isNone

/-- LIVE_ACTIVATION: Temond holds the control path and hands its state to the new Temond; the check-in awaited is 50 ms away. A staged
image that no longer meets its record gives no new Temond. -/
def bodyLiveActivation (s : State) : State :=
  match s.nvm.actAt with
  | none => s
  | some t =>
    if s.nvm.stg ≠ 4 ∨ s.now < t ∨ s.quietNow = false ∨ s.isReady = false ∨ s.flt.safe = true then s
    else
      let live : Option Live := match s.partImage s.nvm.staging with
        | .ok e => if e.hash = s.nvm.stgHash then some { image := e, from_ := s.local } else none
        | .error _ => none
      { s with
        svc := { s.svc with holding := true }
        nvm := { s.nvm with actAt := none, live := live }
        flt := { s.flt with checkin := s.local + 49500000 } }

def execLiveActivation (s : State) : Out := commit s (bodyLiveActivation s)

/-- The slots of the services that pause: those whose image differs, the collective and optimizer services together. -/
def pausing (a b : Eudel) : List Nat :=
  let d := (List.range 4).filter fun k => a.value (svcKeys.getD k "") != b.value (svcKeys.getD k "")
  if d.contains 0 ∨ d.contains 1 then 0 :: 1 :: d.filter fun k => decide (2 ≤ k) else d

/-- Slots pause: their sequencers stop, and the entries that target them are held (R276). -/
def State.pauseSlots (s : State) (slots : List Nat) : State :=
  let s := slots.foldl (fun (s : State) k => if (s.islot k).state = .empty then s else s.setIslot k { s.islot k with quiet := true }) s
  let f (e : Nat × Ctx) : Nat × Ctx := if e.2.steer = .open_ ∧ s.entriesHeld e.1 e.2 = true then (e.1, { e.2 with steer := .held }) else e
  { s with svc := { s.svc with ctxs := s.svc.ctxs.map f } }

/-- With no service left to swap, staging becomes COPYING. -/
def State.endSwaps (s : State) : State :=
  match s.nvm.live with
  | some l => if l.slots.isEmpty then { s with nvm := { s.nvm with live := none, stg := 5, copying := true } } else s
  | none => s

/-- NEW_TEMOND_CHECKIN: within 50 ms the new Temond applies the live keys and takes the held items in arrival order; services whose image
differs pause. -/
def bodyNewTemondCheckin (s : State) : State :=
  match s.nvm.live, s.nvm.run with
  | some l, some old =>
    if l.checked = true ∨ s.flt.safe = true ∨ l.from_ + 50000000 < s.local then s
    else
      let slots := pausing old l.image
      let s := s.applyLive old l.image
      let s := { s with
        nvm := { s.nvm with run := some l.image, live := some { l with checked := true, slots := slots, from_ := s.local } }
        flt := { s.flt with fwSeen := true, checkin := s.local }
        svc := { s.svc with holding := false } }
      (s.pauseSlots slots).flushHeld.endSwaps
  | _, _ => s

def execNewTemondCheckin (s : State) : Out := commitMem s bodyNewTemondCheckin

/-- A slot's programs and tables rewritten in place; its partition generation and SRAM stay (R256, R493). -/
def State.swapImage (s : State) (k : Nat) (i : Image) : State :=
  let p := s.islot k
  let f (e : Nat × Tile) : Nat × Tile :=
    if p.covers e.1 && i.hasTiles then (e.1, { e.2 with queues := imageQueues i.logical }) else e
  let s := s.setIslot k { p with image := i, quiet := false }
  (({ s with fab := { s.fab with tiles := s.fab.tiles.map f } } : State).restartEngines k).streamSlot k

/-- SERVICE_SWAP_DONE: the service resumes, the collective and optimizer services together; its entries open, and what Temond held for it
is judged. -/
def bodyServiceSwapDone (k : Nat) (s : State) : State :=
  match s.nvm.live with
  | none => s
  | some l =>
    if l.checked = false ∨ l.slots.contains k = false then s
    else
      let g := if k ≤ 1 then [0, 1] else [k]
      let s := g.foldl (fun (s : State) j =>
        if (s.islot j).state = .empty then s
        else match s.svcImage l.image j with
          | some x => s.swapImage j x.2
          | none => s) s
      let s := { s with nvm := { s.nvm with live := some { l with slots := l.slots.filter fun j => !g.contains j } } }
      (s.openHeld l.from_).flushHeld.endSwaps

def execServiceSwapDone (k : Nat) (s : State) : Out := commitMem s fun t => t.unlessSafe (bodyServiceSwapDone k)

/-- ACTIVE_COPY_DONE: the copy of staging into the active partition is read back; staging is CURRENT. -/
def bodyActiveCopyDone (s : State) : State :=
  if s.nvm.copying = true ∧ s.nvm.stg = 5 ∧ s.isReady = true ∧ s.flt.safe = false then
    { s with nvm := { s.nvm with active := s.nvm.staging, stg := 6, copying := false } }
  else s

def execActiveCopyDone (s : State) : Out := commit s (bodyActiveCopyDone s)

end Sys2Proof.Machine
end

