-- ==== Sys2Proof/Machine/RegRead.lean ====
section
/-!
DEFINITION. What a register reads (chapter 23): the stored word with the fields that report state laid over it, block by block.
-/

namespace Sys2Proof.Machine

/-- Fields (hi, lo, value) laid over a word. -/
def overlay (w : Nat) (fs : List (Nat × Nat × Nat)) : Nat := fs.foldl (fun n f => Nat.withField n f.1 f.2.1 f.2.2) w

/-- A flag as a field value. -/
def flag (b : Bool) : Nat := if b then 1 else 0

/-- Word `i` of a hash of 32 bytes, word 0 most significant. -/
def hashWord (h : List Byte) (i : Nat) : Nat := beNat ((h.drop (8 * i)).take 8)

/-! ### The always-on blocks -/

/-- The image in use: none in recovery mode (Table 20.7). -/
def State.imageInUse (s : State) : Option Eudel := if s.nvm.source = 2 then none else s.nvm.run.or s.nvm.boot

/-- THERM_N is driven low: throttled, or after a THERM_CRIT fault (chapter 22). -/
def State.thermDriven (s : State) : Bool := s.pins.thermLow || s.fld .pwrStatus [] 45 45 == 1

/-- A SerDes reference is present and the PLLs of its port dies, from `d`, are locked; they run on main power. -/
def State.sdOk (s : State) (ref : Bool) (d : Nat) : Bool :=
  ref && s.pins.pwrGood && (List.range 4).all fun i => !s.pins.pllLost.contains (d + i)

/-- The level driven on ALIVE: low in the safe state and while the ROM holds it (R21, R448). -/
def State.aliveLevel (s : State) : Bool := s.flt.alive && !s.flt.safe && !s.flt.romLow

/-- CTL_PINS (Table 22.14). -/
def State.pinsWord (s : State) : Nat :=
  let sync := match s.time.syncAt with
    | some t => decide (s.local ≤ t + 2097152)
    | none => false
  overlay 0 [(63, 63, flag s.pins.resetN), (62, 62, flag s.pins.recoveryN), (61, 61, flag s.pins.sampledN), (60, 60, flag s.faultLow),
    (59, 59, flag s.thermDriven), (58, 58, flag s.pins.pwrGood), (57, 57, flag s.aliveLevel), (56, 56, flag sync),
    (55, 55, flag (s.sdOk s.pins.sdA 0)), (54, 54, flag (s.sdOk s.pins.sdB 4)), (53, 53, flag s.pins.pcieClk)]

/-- STATE of TIM_STATUS: an origin reads LOCKED from the start of its time source on (R390, Table 20.5), which a warm reset does not stop. -/
def State.lockCode (s : State) : Nat := if s.keys.timeSrc = 0 ∧ s.time.started = true then 2 else s.time.lock.code

/-- STATE of PWR_MEM_s. -/
def StackSt.code (x : StackSt) : Nat := if x.off then 3 else if x.retrain then 2 else if x.asleep then 1 else 0

/-- Registers of CTL, TIM and PWR. -/
def State.readCtl (s : State) (r : Reg) (is : List Nat) (w : Nat) : Nat :=
  match r with
  | .ctlId => overlay w [(47, 40, s.factory.stepping)]
  | .ctlSerial => overlay w [(63, 16, s.factory.serial)]
  | .ctlMgmtMac => overlay w [(47, 0, s.factory.mac)]
  | .ctlStart => overlay w [(59, 59, flag ((s.flt.safe || s.nvm.stopped) && decide (s.stage < 7))), (58, 58, flag s.nvm.warm)]
  | .ctlPins => s.pinsWord
  | .timCount => s.now % 2 ^ 64
  | .timStatus => overlay w [(63, 62, s.keys.timeSrc), (61, 59, s.lockCode), (58, 58, flag s.time.behind)]
  | .pwrTokens => overlay w [(47, 32, s.tokensHeld)]
  | .pwrMem => overlay w [(63, 62, (s.stack (is.getD 0 0)).code)]
  | .pwrScrub =>
    let x := s.stack (is.getD 0 0)
    overlay w [(31, 22, x.scrubPos * 1000 / stackLines), (21, 21, flag x.catchup)]
  | _ => w

/-- A record of the isolation list (Table 18.11). -/
def Isolation.word (x : Isolation) : Nat :=
  overlay 0 [(63, 63, 1), (62, 62, flag x.pending), (61, 57, x.die), (56, 50, x.block), (49, 38, x.inst), (37, 26, x.kind), (25, 0, x.unit)]

/-- FLT_SEARCH (Table 19.8) over its stored GUILTY. -/
def State.searchWord (s : State) (w : Nat) : Nat :=
  match s.reco.search with
  | none => w
  | some q => overlay w [(63, 63, 1), (62, 52, q.domain), (51, 36, q.current.getD 0), (35, 22, q.left.length)]

/-- Registers of FLT. -/
def State.readFlt (s : State) (r : Reg) (is : List Nat) (w : Nat) : Nat :=
  let i := is.getD 0 0
  match r with
  | .fltStatus => overlay w [(63, 63, flag s.flt.safe), (62, 62, flag s.fwOk), (61, 49, s.openCount), (48, 17, s.flt.nextSeq)]
  | .fltFirst => match s.flt.first with | some e => nth e.words i | none => 0
  | .fltFirstCtl =>
    overlay w [(63, 63, flag s.flt.first.isSome), (62, 62, flag s.flt.tie), (59, 32, s.flt.safeSeq.getD 0)]
  | .fltSelftest => overlay w [(63, 59, s.flt.tests.length), (58, 44, s.flt.waiting.length)]
  | .fltDump =>
    overlay w [(63, 63, flag (!s.nvm.dumps.isEmpty)), (62, 62, s.nvm.dumpSlot.getD 0), (61, 61, flag (!s.nvm.dumping.isEmpty)),
      (60, 29, s.nvm.dseq)]
  | .fltSearch => s.searchWord w
  | .fltIsol => match s.flt.isol[i]? with | some x => x.word | none => 0
  | .fltLog => match s.flt.log.find? i with | some e => nth e.words (is.getD 1 0) | none => 0
  | .fltDom =>
    let gen := if 1408 ≤ i ∧ i < 1472 then s.fab.pgens.get (i - 1408) 0 else w / 2 ^ 56 + s.reco.genAll
    overlay w [(63, 56, gen % 256)]
  | _ => w

/-- Registers of NVM (Table 20.7). -/
def State.readNvm (s : State) (r : Reg) (is : List Nat) (w : Nat) : Nat :=
  let i := is.getD 0 0
  match r with
  | .nvmStatus => overlay w [(63, 63, flag s.nvm.cmd.isSome), (62, 55, s.nvm.reason), (54, 52, s.nvm.stg), (51, 20, s.nvm.doneSeq)]
  | .nvmBoot =>
    overlay w [(63, 62, s.nvm.source), (61, 61, flag s.nvm.fellback), (60, 58, s.nvm.bootFails), (57, 55, s.nvm.owners.length),
      (54, 47, s.nvm.lastReason)]
  | .nvmRunSeq => match s.imageInUse with | some e => e.seq % 2 ^ 64 | none => 0
  | .nvmImgHash => match s.imageInUse with | some e => hashWord e.hash i | none => 0
  | .nvmStgHash => hashWord s.nvm.stgHash i
  | _ => w

/-! ### Ports and hub dies -/

/-- PRT_LINK_STATUS (Table 15.7). -/
def Link.word (l : Link) : Nat :=
  overlay 0 [(63, 61, l.state.code), (60, 60, flag l.lf), (59, 59, flag l.rf), (58, 58, flag l.negotiated), (57, 50, l.retryAct),
    (49, 42, l.creditRx), (41, 34, l.creditTx), (33, 18, l.peerRbuf)]

/-- The transmit and receive polarity masks of a port, a byte each, from its port.map record (Table 20.4; log entry 63). -/
def State.polarity (s : State) (p : Nat) : Nat × Nat :=
  match s.nvm.run with
  | none => (0, 0)
  | some e =>
    match (e.records "port.map" 48).find? fun r => at_ r 0 2 == p with
    | some r => (at_ r 12 1, at_ r 13 1)
    | none => (0, 0)

/-- PRT_LANE_STATUS (Table 15.9): training has completed from ALIGN on, and HOLD and UP hold only while lock is achieved (Table 15.3). The signal
and the clock recovery in the other states, and SNR, are the line's, so they are free values (log entry 1); a lane of no port is powered
down (R362). -/
def State.laneWord (s : State) (die lane : Nat) : Nat :=
  match s.portOfLane die lane with
  | none => 0
  | some p =>
    let k := 96 * die + lane - p
    let pol := s.polarity p
    let st := s.linkState p
    let v := Config.freeValue s.free
    let lock := st == .hold || st == .up
    overlay 0 [(63, 63, if lock then 1 else v), (62, 62, if lock then 1 else v / 2), (61, 61, flag (decide (3 ≤ st.code) && decide (st.code ≤ 6))), (60, 60, pol.1 / 2 ^ k),
      (59, 59, pol.2 / 2 ^ k), (58, 51, v / 4)]

/-- HUB_BUF_STATUS (Table 13.8). -/
def State.hubWord (s : State) (h : Nat) : Nat :=
  let u := s.hub h
  overlay 0 [(63, 45, u.shared), (44, 26, u.floorU), (25, 7, u.hdrm.vals.sum)]

/-- Registers of PRT and HUB. -/
def State.readPrt (s : State) (r : Reg) (is : List Nat) (w : Nat) : Nat :=
  match r with
  | .prtLinkStatus => (s.port (96 * is.getD 0 0 + is.getD 1 0)).link.word
  | .prtLaneStatus => s.laneWord (is.getD 0 0) (is.getD 1 0)
  | .hubBufStatus => s.hubWord (is.getD 0 0)
  | _ => w

/-! ### Tiles and image slots -/

/-- The tile of a register index: die and place (R252). -/
def tileOfIdx (d i : Nat) : Nat := tileNo (d % 4 * 55 + i % 55) (d / 4 * 48 + i / 55)

/-- FAB_TILE_STATUS (Table 10.8). -/
def State.tileWord (s : State) (t : Nat) : Nat :=
  let x := s.tile t
  if s.fab.retired.contains t then overlay 0 [(63, 61, 5)]
  else
    match s.partOf t with
    | none => 0
    | some (k, p) =>
      let st := if x.halt ≠ 0 then 4 else if x.waiting then 3 else if p.state == .running && !p.quiet then 2 else 1
      overlay 0 [(63, 61, st), (60, 55, k), (54, 51, x.halt), (50, 39, x.pc)]

/-- FAB_IMG_SLOT_n, first word (Table 11.8). -/
def ImgSlot.word (p : ImgSlot) (pgen : Nat) : Nat :=
  overlay 0 [(63, 61, if p.quiet then 4 else p.state.code), (60, 60, flag p.image.user), (59, 48, p.job), (47, 40, pgen), (39, 32, p.x0),
    (31, 25, p.y0), (24, 17, p.w), (16, 10, p.h), (9, 0, p.absent)]

/-- Registers of FAB. -/
def State.readFab (s : State) (r : Reg) (is : List Nat) (w : Nat) : Nat :=
  let i := is.getD 0 0
  match r with
  | .tileStatus => s.tileWord (tileOfIdx i (is.getD 1 0))
  | .imgStatus =>
    overlay w [(63, 63, flag s.fab.cmdBusy.isSome), (62, 55, s.fab.reason), (54, 49, s.fab.cmdSlot), (48, 17, s.fab.doneSeq)]
  | .imgSlot => (s.islot i).word (s.fab.pgens.get i 0)
  | .imgSlotId => (s.islot i).image.imageId % 2 ^ 32 * 2 ^ 32 + (s.islot i).image.imageVer % 2 ^ 32
  | .imgSlotHash => if (s.islot i).state = .empty then 0 else hashWord (sha256 (s.islot i).image.logical) (is.getD 1 0)
  | _ => w

/-! ### Contexts -/

/-- SVC_CTX_STATE (Table 5.7). -/
def State.ctxWord (s : State) (n : Nat) : Nat :=
  match s.ctx? n with
  | none => overlay 0 [(57, 50, s.svc.lastGen.get n 255)]
  | some c =>
    overlay 0 [(63, 61, c.stateCode), (60, 58, c.fix.kind), (57, 50, c.gen), (49, 42, c.endStatus), (41, 30, c.fix.job),
      (29, 27, c.fix.op), (26, 25, c.fix.func), (24, 10, c.fix.mcount)]

/-- SVC_OPT_HDR (Table 7.10). -/
def optHdrWord (h : Nat × Nat) : Nat :=
  overlay 0 [(63, 16, h.1), (15, 14, if h.2 = 0 then 0 else if h.2 = h.1 + 1 then 1 else if h.2 = h.1 then 2 else 0)]

/-- Registers of one context; those of a FREE number read 0 but for GEN, and the optimizer's read 0 but for KIND 2. -/
def State.readCtx (s : State) (r : Reg) (is : List Nat) (w : Nat) : Nat :=
  let n := is.getD 0 0
  if n = 0 then 0
  else if r = .ctxState then s.ctxWord n
  else
    match s.ctx? n with
    | none => 0
    | some c =>
      let here := c.state != .settingUp && c.state != .quarantine
      match r with
      | .ctxSize => if here then overlay 0 [(63, 32, c.fix.n), (31, 19, c.fix.c)] else 0
      | .ctxProgress => if here then overlay 0 [(63, 32, c.run.done), (31, 0, c.frontier)] else 0
      | .ctxPlace => if here then overlay 0 [(63, 32, c.fix.w), (31, 17, c.fix.tiles.length), (16, 0, c.fix.slotKib)] else 0
      | .optHdr => if c.fix.kind = 2 then optHdrWord c.optHdr else 0
      | .optStep | .optCnt | .optStepRx => if c.fix.kind = 2 then w else 0
      | _ => w

/-- Service-wide registers. -/
def State.readSvc (s : State) (r : Reg) (is : List Nat) (w : Nat) : Nat :=
  let i := is.getD 0 0
  let pools := (List.range 4).map fun h => s.pool (4 + h)
  match r with
  | .svcCap =>
    overlay 0 [(63, 48, 65535 - s.svc.ctxs.length), (47, 32, s.inFlight),
      (31, 16, (s.svc.ctxs.filter fun (e : Nat × Ctx) => e.2.state == .quarantine).length), (15, 0, s.svc.deferq.length)]
  | .svcAcc => overlay 0 [(63, 32, s.areaKib), (31, 0, (s.areaFree.map Prod.snd).sum)]
  | .svcRetain => overlay 0 [(63, 32, (pools.map BpmPool.capacity).sum), (31, 0, (pools.map BpmPool.freeCount).sum)]
  | .svcMlist => overlay 0 [(63, 52, s.svc.mlists.length), (51, 30, 2097152 - ((List.range 4).map s.listUsed).foldl max 0)]
  | .quarCtl => overlay 0 [(63, 55, s.svc.quar.length)]
  | .quarHash => hashWord (s.svc.quar.getD i []) (is.getD 1 0)
  | .slotInfo => nth s.svc.snap 0
  | .slotAcc => nth s.svc.snap (i + 1)
  | .setupResult | .slotSel => w
  | _ => s.readCtx r is w

/-! ### The pool and the switch core -/

/-- The pages of a stack that regions hold, the mirror region's aside (R193). -/
def State.allocated (s : State) (k : Nat) : Nat :=
  (s.mp.regions.map fun (e : Nat × Region) =>
    if e.1 = s.mp.mirrorRgn then 0 else ((List.range e.2.pages.length).filter fun i => e.2.stackOf e.1 i == k).length).sum

/-- STACKS of a region: bit s for each stack, 0xFFFF for a region created with STACKS 0. -/
def Region.stacksWord (x : Region) : Nat := (x.stackSet.map fun k => 2 ^ k).sum

/-- Registers of POOL; those of a FREE region read 0. -/
def State.readPool (s : State) (r : Reg) (is : List Nat) (w : Nat) : Nat :=
  let i := is.getD 0 0
  match r with
  | .poolCmdStatus =>
    overlay w [(63, 63, flag s.mp.cmdBusy), (62, 55, s.mp.cmdStatus), (54, 39, s.mp.cmdRegion), (38, 7, s.mp.cmdSeq)]
  | .poolOut => overlay 0 ((List.range 4).map fun h => (16 * h + 15, 16 * h, s.entriesUsed h))
  | .poolStreams => overlay 0 [(63, 48, s.mp.streams.length)]
  | .poolStack =>
    overlay 0 [(63, 48, (s.pool (16 + i)).freeCount), (47, 32, (s.stack i).zeroing.length), (31, 16, s.allocated i),
      (0, 0, flag (s.stack i).retrain)]
  | .poolArg0 | .poolArg1 | .poolStat | .poolRacewin => w
  | _ =>
    match s.region? i with
    | none => 0
    | some x =>
      match r with
      | .rgnCfg =>
        overlay 0 [(63, 62, x.state.code), (61, 50, x.job), (49, 47, x.perm), (46, 46, x.orddef), (45, 30, x.key), (29, 14, x.stacksWord)]
      | .rgnSize => overlay 0 [(63, 32, x.size / 4096), (31, 12, x.pages.length)]
      | .rgnBase => x.base
      | _ => w

/-- The mirror sessions' registers (Table 13.11). -/
def State.readMir (s : State) (r : Reg) (i w : Nat) : Nat :=
  let m := s.sess i
  match r with
  | .mirCfg => overlay w [(63, 63, flag m.enabled)]
  | .mirWptr => m.written % 2 ^ 64
  | .mirLost => overlay 0 [(63, 32, min m.overwritten (2 ^ 32 - 1)), (31, 16, min m.frozenLost 0xFFFF), (15, 0, min m.stageLost 0xFFFF)]
  | .mirRing => overlay 0 [(63, 32, if m.enabled then m.capacity else 0), (31, 31, flag m.frozen)]
  | _ => w

/-- A shaper's level register: 0 while it is disabled (Table 14.4). -/
def State.levelWord (s : State) (a : Nat) : Nat :=
  if (meterCfg (s.regs.get a 0)).enable then ofSigned 64 (s.meterNow a 0 1).level else 0

/-- A gate's registers: the pending list and its status (Table 14.4). -/
def Gate.statusWord (g : Gate) : Nat := overlay 0 [(63, 63, flag g.armed), (62, 55, g.mask), (54, 44, g.entry), (43, 36, g.status)]

/-- Registers of BPM, FWD, SCH and MIR. -/
def State.readNet (s : State) (r : Reg) (is : List Nat) (w : Nat) : Nat :=
  let i := is.getD 0 0
  match r with
  | .bpmCap => overlay 0 [(63, 32, (s.pool i).capacity), (31, 0, (s.pool i).freeCount)]
  | .fwdBank =>
    overlay 0 [(63, 63, s.fwd.active), (62, 62, flag s.fwd.armed.isSome), (61, 61, flag s.bankWritable), (60, 60, flag s.fwd.busy),
      (59, 52, s.fwd.status), (51, 20, s.fwd.swaps)]
  | .fwdSwapLast => s.fwd.lastSwap % 2 ^ 64
  | .fwdTblStatus => overlay 0 [(62, 55, s.fwd.tblStatus), (54, 23, s.fwd.tblDone)]
  | .schPortLevel => s.levelWord (Reg.addr .schPortShape [i])
  | .schClsLevel => s.levelWord (Reg.addr .schClsShape is)
  | .gatePend => (s.port i).gate.wait.pend
  | .gateEntry => (s.port i).gate.wait.entries.get (is.getD 1 0) (0xFF * 2 ^ 56)
  | .gateStatus => (s.port i).gate.statusWord
  | .admStatus =>
    overlay 0 [(63, 52, match firstDeferred s.svc.deferq with | some q => q.job | none => 0), (51, 0, s.svc.defArb.v)]
  | .mirCfg | .mirWptr | .mirLost | .mirRing => s.readMir r i w
  | _ => w

/-! ### Any register -/

/-- The port whose number a per-port register names. -/
def portOfReg (r : Reg) (is : List Nat) : Option Nat :=
  match r with
  | .prtPortCfg | .prtPortCtl | .prtLinkStatus | .prtCnt | .prtQft => some (96 * is.getD 0 0 + is.getD 1 0)
  | .schWeight | .schPortShape | .schPortLevel | .schClsShape | .schClsLevel | .gatePend | .gateActAt | .gateCmd | .gateStatus | .gateCnt
  | .polPort | .polPortDrop | .polCls | .polClsDrop | .gateEntry => some (is.getD 0 0)
  | .smpLast | .smpMax | .smpClr | .smpDhist | .smpThist => some (is.getD 0 0 / 8)
  | _ => none

/-- The instance answers: its block has power, and its port exists (R362, R520). -/
def State.regAnswers (s : State) (r : Reg) (is : List Nat) : Bool :=
  s.islandsUp && (alwaysOn (r.addr is) || s.pins.pwrGood) && (match portOfReg r is with | some p => s.isPort p | none => true)
    && !(r == .pwrClass && is == [0]) && !(is == [0] && r.addr [0] ≥ 0x4800000 && r.addr [0] < 0x4800040)

/-- The word of an instance by its block. -/
def State.readBlock (s : State) (r : Reg) (is : List Nat) : Nat :=
  let w := s.reg r is
  let a := r.addr is
  if a < 0x300000 then s.readCtl r is w
  else if a < 0x400000 then s.readFlt r is w
  else if a < 0x500000 then s.readNvm r is w
  else if a < 0x3000000 then s.readPrt r is w
  else if a < 0x4000000 then s.readFab r is w
  else if a < 0x4800000 then s.readSvc r is w
  else if a < 0x5000000 then s.readPool r is w
  else s.readNet r is w

/-- What instance `is` of register `r` reads. -/
def State.readReg (s : State) (r : Reg) (is : List Nat) : Nat := if s.regAnswers r is then s.readBlock r is % 2 ^ 64 else 0

/-- What an aligned 64-bit read of an address returns (R518, R519). -/
def State.readAddr (s : State) (a : Nat) : Nat :=
  match locate a with
  | some (r, is) => s.readReg r is
  | none => 0

end Sys2Proof.Machine
end

