-- ==== Sys2Proof/Machine/Time.lean ====
section
/-!
DEFINITION. The global count: comparison points, lock states, slewing, SYNC and PTP (chapter 16, R384), and the tick of an idle
step.
-/

namespace Sys2Proof.Machine

/-- Magnitude limit of LAST_NS (Table 16.10). -/
def clampNs (e : Int) : Int := max (min e (2 ^ 31 - 1)) (-(2 ^ 31 - 1))

/-- A measured error in TIM_OFFSET (Table 16.10). -/
def State.noteError (s : State) (e : Int) : State :=
  let m := min e.natAbs (2 ^ 32 - 1)
  let s := s.setFld .timOffset [] 63 32 (ofSigned 32 (clampNs e))
  s.setFld .timOffset [] 31 0 (max (s.fld .timOffset [] 31 0) m)

/-- Every packet queued in a hub die is aged by its sojourn from here on (R393). -/
def State.ageBySojourn (s : State) : State :=
  { s with hubs := s.hubs.map fun e => (e.1, { e.2 with queue := e.2.queue.map fun q => { q with sojourn := true } }) }

/-! ### Launches (R393, R396, Table 16.4) -/

/-- A launch that an armed count starts. -/
inductive Launch where
  | context (n : Nat) | gates (port : Nat) | bank | image (slot : Nat) | firmware
  deriving DecidableEq, Repr

/-- What a launch does at its count: the body of the row that takes it, with that row's own conditions. -/
def State.launchNow (s : State) (l : Launch) : State :=
  match l with
  | .context n => s.unlessSafe (bodyGatherContextStart n)
  | .gates p => bodyGateListStart p s
  | .bank => bodyBankSwap s
  | .image k => s.unlessSafe (bodyImageLaunch k)
  | .firmware => bodyLiveActivation s

/-- The launches whose counts have been reached and that have not taken effect, with their counts. -/
def State.launchesDue (s : State) : List (Nat × Launch) :=
  let ctxs := s.svc.ctxs.filterMap fun (e : Nat × Ctx) =>
    if e.2.fix.kind = 3 ∧ e.2.state = .armed then some (e.2.run.startAt, Launch.context e.1) else none
  let gates := s.ports.filterMap fun (e : Nat × PortSt) => if e.2.gate.armed then some (e.2.gate.actAt, Launch.gates e.1) else none
  let slots := s.fab.slots.filterMap fun (e : Nat × ImgSlot) => e.2.actAt.map fun a => (a, Launch.image e.1)
  let bank := s.fwd.armed.toList.map fun a => (a, Launch.bank)
  let firmware := s.nvm.actAt.toList.map fun a => (a, Launch.firmware)
  (ctxs ++ gates ++ bank ++ slots ++ firmware).filter fun e => decide (e.1 ≤ s.now)

/-- A launch among others in ascending order of count, behind those of its own count. -/
def putLaunch (l : List (Nat × Launch)) (e : Nat × Launch) : List (Nat × Launch) :=
  l.takeWhile (fun x => decide (x.1 ≤ e.1)) ++ e :: l.dropWhile (fun x => decide (x.1 ≤ e.1))

/-- The launches that a forward step has passed take effect in ascending order of their counts (R393). -/
def State.takeLaunches (s : State) : State :=
  ((s.launchesDue.foldl putLaunch []).map Prod.snd).foldl State.launchNow s

/-- The count is set to the source's value in one step and LOCKED is entered (R393). -/
def State.stepTo (s : State) (value : Nat) : State :=
  let e : Int := value - s.time.count
  let s := { s with time := { s.time with count := value, behind := false, resync := false, slew := 0, misses := 0 } }
  let s := (s.setReg .timStep [] (ofSigned 64 e)).setLock .locked
  if e < 0 then s.ageBySojourn else s.takeLaunches

/-- Entering LOCKED from ACQUIRING (R393): a forward step at any time; a backward step before READY or when RESYNC permits it,
else BEHIND. -/
def State.lockAt (s : State) (value : Nat) : State :=
  if s.time.behind then (if s.time.resync then s.stepTo value else s)
  else if s.time.count ≤ value ∨ s.isReady = false then s.stepTo value
  else { s with time := { s.time with behind := true } }

/-- A comparison in LOCKED or HOLDOVER (Table 16.1, R392). -/
def State.trackCount (s : State) (e : Int) : State :=
  if 1000 < e.natAbs then s.setLock .unlocked
  else { s.setLock .locked with time := { (s.setLock .locked).time with slew := e, misses := 0 } }

/-- The 7 bytes of an epoch word its CRC covers, and whether it is right (Table 16.2). -/
def epochOk (w : Word) : Bool := crc8 ((wordBytes w).take 7) == w.field 7 0

/-- SYNC_EPOCH_WORD: ignored unless time.source is 1 (chapter 22); checked by CRC and held for the next pulse (R394). -/
def bodySyncEpochWord (w : Word) (s : State) : State :=
  if s.keys.timeSrc = 1 then
    if epochOk w then { s.setReg .timEpoch [] w.toNat with time := { s.time with word := some w } }
    else { s.bump .timErr [] 63 32 with time := { s.time with word := none } }
  else s

def execSyncEpochWord (w : Word) (s : State) : Out := commit s (bodySyncEpochWord w s)

/-- SYNC_PULSE: the pulse takes NEXT × 2^20 + SYNC_DELAY_NS (R394) and moves the lock state (Table 16.1). A pulse without a
valid epoch word is not missing; it restarts ACQUIRING and is no comparison point. -/
def bodySyncPulse (s : State) : State :=
  if s.keys.timeSrc = 1 then
    let s : State := { s with time := { s.time with syncAt := some s.local } }
    match s.time.word with
    | none =>
      let s : State := { s with time := { s.time with pulseAt := some s.local, misses := 0 } }
      if s.time.lock = .acquiring then { s with time := { s.time with prev := none } } else s
    | some w =>
      let next := w.field 63 20
      let value : Nat := next * 2 ^ 20 + s.fld .timCfg [] 63 48
      let e : Int := value - s.time.count
      let agrees := match s.time.prev with | some p => p + 1 == next | none => false
      let s := ({ s with time := { s.time with word := none, prev := some next, pulseAt := some s.local } } : State).noteError e
      match s.time.lock with
      | .unlocked => s.setLock .acquiring
      | .acquiring => if agrees then s.lockAt value else s
      | .locked => s.trackCount e
      | .holdover => s.trackCount e
  else s

def execSyncPulse (s : State) : Out := commit s (bodySyncPulse s)

/-- SYNC_PULSE_MISSING: no pulse a period after the last one (Table 16.1). The epoch word that named the missing pulse names no later one
(R394), and ACQUIRING begins again with the next pulse. -/
def bodySyncPulseMissing (s : State) : State :=
  match s.time.pulseAt with
  | none => s
  | some t =>
    if s.keys.timeSrc = 1 ∧ t + 2 ^ 20 < s.local then
      let s := { s with time := { s.time with pulseAt := some (t + 2 ^ 20), word := none } }
      if s.time.lock = .locked ∨ s.time.lock = .holdover then
        let n := s.time.misses + 1
        let s := ({ s with time := { s.time with misses := n } } : State).bump .timErr [] 31 0
        if 4 ≤ n then s.setLock .unlocked else s.setLock .holdover
      else { s with time := { s.time with prev := none } }
    else s

def execSyncPulseMissing (s : State) : Out := commit s (bodySyncPulseMissing s)

/-- The PTP Sync interval in nanoseconds: 10^9 × 2^k (R384). -/
def State.ptpInterval (s : State) : Nat :=
  if 0 ≤ s.keys.ptpLog then 1000000000 * 2 ^ s.keys.ptpLog.toNat else 1000000000 / 2 ^ (-s.keys.ptpLog).toNat

/-- A Sync message from the chosen master gives the source's value now (Table 16.1). In ACQUIRING each message is held against the one
before: 16 intervals in a row, each with a message whose error differs by at most 50 ns, lock (log entry 7). -/
def State.ptpCompare (s : State) (value : Nat) : State :=
  let e : Int := value - s.time.count
  let inTime := decide (s.local < s.time.lastAt + 2 * s.ptpInterval)
  let s := ({ s with time := { s.time with lastAt := s.local } } : State).noteError e
  match s.time.lock with
  | .unlocked => { s.setLock .acquiring with time := { (s.setLock .acquiring).time with base := some e, good := 0 } }
  | .acquiring =>
    let near := match s.time.base with | some b => decide ((e - b).natAbs ≤ 50) | none => false
    let n := if near && inTime then s.time.good + 1 else 0
    let s := { s with time := { s.time with base := some e, good := n } }
    if 16 ≤ n then s.lockAt value else s
  | .locked => { s.trackCount e with time := { (s.trackCount e).time with misses := 0 } }
  | .holdover => s.trackCount e

/-- PTP_SYNC_TIMEOUT: 4 intervals without a Sync message leave LOCKED, 16 leave HOLDOVER; each further interval missing counts. -/
def bodyPtpSyncTimeout (s : State) : State :=
  let i := s.ptpInterval
  let n := (s.local - s.time.lastAt) / max i 1
  if s.keys.timeSrc = 2 ∧ (s.time.lock = .locked ∨ s.time.lock = .holdover) ∧ s.time.misses < n then
    let s := ({ s with time := { s.time with misses := n } } : State).bump .timErr [] 31 0 (n - s.time.misses)
    if 16 ≤ n then s.setLock .unlocked
    else if 4 ≤ n then s.setLock .holdover
    else s
  else s

def execPtpSyncTimeout (s : State) : Out := commit s (bodyPtpSyncTimeout s)

/-- PTP_MESSAGE: with PTP_EN = 1 the MAC consumes the message; a Sync message of the chosen master is a comparison point of a
device that follows PTP (R384, R390). With PTP_EN = 0 it is any other frame, which the forwarding rows take. -/
def bodyPtpMessage (port : Nat) (f : Frame) (isSync fromMaster : Bool) (sourceNs : Nat) (s : State) : State :=
  if s.linkUp port ∧ s.flt.safe = false ∧ s.takesPtp port f then
    if f.fcsOk then
      let s := (s.portCount port 0).portCount port 1 f.len
      if f.len < 64 then (s.portCount port 5).receiveErr port
      else if s.maxFrame port < f.len then s.portCount port 6
      else if s.keys.timeSrc = 2 ∧ isSync ∧ fromMaster then s.ptpCompare sourceNs
      else s
    else (s.portCount port 4).receiveErr port
  else s

def execPtpMessage (port : Nat) (f : Frame) (isSync fromMaster : Bool) (sourceNs : Nat) (s : State) : Out :=
  commit s (bodyPtpMessage port f isSync fromMaster sourceNs s)

/-- The epoch word a source sends: bits 63:20 of the count at the next pulse, with its CRC (Table 16.2). -/
def epochWord (count : Nat) : Word :=
  let n := (count / 2 ^ 20 + 1) % 2 ^ 44 * 2 ^ 20
  BitVec.ofNat 64 (n + crc8 ((natBytes 8 n).take 7))

/-- SYNC_OUT_PULSE: at a multiple of 2^20 a device with SYNC_OUT_EN emits one pulse and the epoch word (R394). -/
def bodySyncOutPulse (s : State) : State :=
  if s.fld .timCfg [] 47 47 = 1 ∧ s.now % 2 ^ 20 = 0 ∧ s.pins.auxGood = true ∧ s.time.outAt ≠ some s.now then
    { s with time := { s.time with outAt := some s.now, outLog := s.time.outLog ++ [(s.now, epochWord s.now)] } }
  else s

def execSyncOutPulse (s : State) : Out := commit s (bodySyncOutPulse s)

/-- RESYNC: while BEHIND, permits the backward step at the next comparison point (Table 16.10). -/
def bodyResync (s : State) : State :=
  if s.time.behind then { s with time := { s.time with resync := true } } else s

def execResync (s : State) : Out := commit s (s.ifIslands bodyResync)

/-- CLR_MAX: MAX_NS becomes 0 (Table 16.10). -/
def bodyClrMax (s : State) : State := s.setFld .timOffset [] 31 0 0

def execClrMax (s : State) : Out := commit s (s.ifIslands bodyClrMax)

/-- What slewing adds to one nanosecond: 1 ns in every 10,000, which is 100 ppm, toward the source (R392). A count that gains passes no
multiple of 2^20 over, since every one is a tick of SYNC_OUT (R394); it gains 10 µs later. -/
def slewNow (t : TimeSt) : Int :=
  if t.lock = .locked ∧ (t.localNs + 1) % 10000 = 0 then
    if 0 < t.slew ∧ (t.count + 1) % 2 ^ 20 ≠ 0 then 1 else if t.slew < 0 then -1 else 0
  else 0

/-- One nanosecond of an idle block (log entry 30): both counts advance while the always-on islands run, the global one slewed while LOCKED
(R389, R392). -/
def tick (s : State) : State :=
  if s.islandsUp then
    { s with time := { s.time with
        localNs := s.time.localNs + 1
        count := (((s.time.count : Int) + 1 + slewNow s.time).toNat) % 2 ^ 64
        slew := s.time.slew - slewNow s.time } }
  else s

end Sys2Proof.Machine
end

