-- ==== Sys2Proof/Machine/Mgmt.lean ====
section
/-!
DEFINITION. Management accesses (chapters 4, 22 and 23): a register write with what its fields trigger, MGMT packets, I3C messages, and
PROBE.
-/

namespace Sys2Proof.Machine

/-! ### Writing a register -/

/-- The fields of a register set by their access codes (R10, R12, Table 0.3). -/
def State.storeReg (s : State) (r : Reg) (is : List Nat) (v : Nat) : State := s.setReg r is (applyWrite r.fields (s.reg r is) v)

/-- Bit `i` of a value written. -/
def bitOf (v i : Nat) : Bool := v / 2 ^ i % 2 == 1

/-- `f` where a bit of a value written is 1. -/
def State.onBit (s : State) (v i : Nat) (f : State → State) : State := if bitOf v i then f s else s

/-- FLT_RESET: COLD before WARM before DOMAIN_GO (Table 19.8, R508). -/
def State.writeReset (s : State) (v : Nat) : State :=
  if bitOf v 63 then s.coldReset else if bitOf v 62 then s.warmReset else s.onBit v 61 (bodyDomainGo (v % 2 ^ 11))

/-- A write of a register of CTL, TIM, PWR, FLT or NVM. -/
def State.writeOn (s : State) (r : Reg) (is : List Nat) (v : Nat) : State :=
  match r with
  | .timCmd => (s.onBit v 1 bodyResync).onBit v 0 bodyClrMax
  | .fltAck => bodyFltAck (v / 2 ^ 32 % 2 ^ 32) s
  | .fltCmd => s.onBit v 0 bodyForceSafe
  | .fltFirstCtl => (s.storeReg r is v).onBit v 63 bodyFirstFaultClear
  | .fltIsolClr => s.onBit v 63 (bodyIsolationClear (v % 2 ^ 10))
  | .fltReset => s.writeReset v
  | .nvmCmd => s.onBit v 0 State.nvmGo
  | _ => s.storeReg r is v

/-- PRT_PORT_CTL: its masks, then ADMIN_DOWN and RETRAIN (Table 15.7). -/
def State.writePortCtl (s : State) (p v : Nat) : State :=
  let s := s.storeReg .prtPortCtl (portIdx p) v
  if bitOf v 63 then (if s.linkState p = .disabled then s else bodyAdminDown p s) else s.onBit v 62 (bodyRetrain p)

/-- XOFF_CELLS and XON_CELLS of a PRT_PFC_THRESH value agree (Table 15.10). -/
def pfcThreshOk (v : Nat) : Bool :=
  let xoff := v / 2 ^ 45 % 2 ^ 19
  let xon := v / 2 ^ 26 % 2 ^ 19
  xon == 0 || decide (xoff ≤ xon)

/-- PRT_PFC_THRESH of port die `d`: ignored where XON_CELLS is non-zero and below XOFF_CELLS (R388). -/
def State.writePfcThresh (s : State) (d v : Nat) : State :=
  if pfcThreshOk v then (s.storeReg .prtPfcThresh [d] v).pfcWatch (hubOfDie d) else s

/-- HUB_BUF_CLASS_c: EVICTABLE is fixed for classes 0, 1 and 3; a new age limit takes effect at once (Table 13.8, R318). -/
def State.writeHubClass (s : State) (h c v : Nat) : State :=
  let v := if c = 0 ∨ c = 1 ∨ c = 3 then Nat.withField v 49 49 0 else v
  let old := s.largestAgeNow
  let s := s.storeReg .hubBufClass [h, c] v
  if s.largestAgeNow = old then s else { s with ageLog := s.ageLog ++ [(s.local, s.largestAgeNow)] }

/-- GO of POOL_CMD: the operation of the ARG registers joins Temond's queue; nothing while BUSY (R194, R522), or in the safe state
(R449). -/
def State.poolGo (s : State) : State :=
  if s.mp.cmdBusy ∨ s.flt.safe then s
  else
    let d1 := s.reg .poolArg1 []
    let o : RegOp := ⟨s.reg .poolArg0 [], d1, d1 / 2 ^ 4 % 4096, none⟩
    { s with mp := { s.mp with ops := s.mp.ops ++ [o], cmdBusy := true } }

/-- A write of the pending gate list or of ACT_AT: ignored with RETRY while a list is armed (R350). -/
def State.writeGate (s : State) (p : Nat) (f : State → State) : State :=
  let g := (s.port p).gate
  if g.armed then s.setGate p { g with status := stRETRY } else f (s.setGate p { g with status := stOK })

/-- The pending list of a port changed. -/
def State.onWait (s : State) (p : Nat) (f : GateList → GateList) : State :=
  s.setGate p { (s.port p).gate with wait := f (s.port p).gate.wait }

/-- A write of a per-port scheduling register. -/
def State.writeSch (s : State) (r : Reg) (is : List Nat) (v : Nat) : State :=
  let p := is.getD 0 0
  match r with
  | .schPortShape | .schClsShape | .polPort | .polCls | .polCtx => bodyShaperConfigWrite (r.addr is) (BitVec.ofNat 64 v) s
  | .gatePend => s.writeGate p fun s => s.onWait p fun l => { l with pend := applyWrite Reg.gatePend.fields 0 v }
  | .gateEntry =>
    s.writeGate p fun s => s.onWait p fun l => { l with entries := l.entries.set (is.getD 1 0) (applyWrite Reg.gateEntry.fields 0 v) }
  | .gateActAt => s.writeGate p fun s => s.storeReg r is v
  | .gateCmd => (s.onBit v 1 (bodyGateArm p)).onBit v 0 (bodyGateDisarm p)
  | .smpClr => s.onBit v 0 (bodySamplerClear (p / 8) (p % 8))
  | _ => s.storeReg r is v

/-- A write of FWD_SWAP_CMD: one command bit acts, and more than one set LAST_STATUS to BADDESC and do nothing else; nothing while BUSY
(R306). -/
def State.swapCmd (s : State) (v : Nat) : State :=
  match v % 8 with
  | 0 => s
  | 1 => bodySwapDisarm s
  | 2 => bodySwapArm s
  | 4 => bodyBankCopy s
  | _ => if s.fwd.busy then s else { s with fwd := { s.fwd with status := stBADDESC } }

/-- A write of a register of a main-domain block; a write with several triggers makes them from the highest bit down (log entry 65). -/
def State.writeMain (s : State) (r : Reg) (is : List Nat) (v : Nat) : State :=
  let i := is.getD 0 0
  match r with
  | .prtPortCtl => s.writePortCtl (96 * i + is.getD 1 0) v
  | .prtPfcThresh => s.writePfcThresh i v
  | .hubBufClass => s.writeHubClass i (is.getD 1 0) v
  | .imgCmd => s.unlessSafe fun s => s.onBit v 0 State.imgGo
  | .quarCtl => s.onBit v 54 bodyClearAll
  | .slotSel => bodySlotSnapshot (BitVec.ofNat 64 v) s
  | .poolCmd => s.onBit v 0 State.poolGo
  | .bpmErrFirst => s.onBit v 63 fun s => s.setReg .bpmErrFirst [] 0
  | .fwdSwapCmd => s.swapCmd v
  | .fwdTblCmd => s.onBit v 0 State.tableGo
  | .fwdClassMode => s.storeReg r is (Nat.land v 0x78)
  | .mirCfg => if bitOf v 63 then bodyMirrorEnable i (s.storeReg r is v) else bodyMirrorDisable i (s.storeReg r is v)
  | _ => s.writeSch r is v

/-- A write of `v` to an instance: its fields take it by their access codes, and what they trigger happens (R12, R13). -/
def State.writeReg (s : State) (r : Reg) (is : List Nat) (v : Nat) : State :=
  if s.regAnswers r is then (if alwaysOn (r.addr is) then s.writeOn r is v else s.writeMain r is v) else s

/-- A write of an aligned 64-bit address (R518, R519). -/
def State.writeAddr (s : State) (a v : Nat) : State :=
  match locate a with
  | some (r, is) => s.writeReg r is v
  | none => s

/-! ### Accesses (R9) -/

/-- An access of `size` bytes at `a` reaches the registers: 64 bits, aligned. -/
def accessOk (a size : Nat) : Bool := size == 8 && a % 8 == 0

/-- An access that R9 refuses is counted. -/
def State.badAccess (s : State) : State := s.bump .fltMgmtBadacc [] 63 0

/-- A read: the word, and the state with a refused access counted and the free values it used taken. -/
def State.busReadAt (s : State) (a size : Nat) : Nat × State :=
  if accessOk a size then (s.readAddr a, s.tickFree) else (2 ^ 64 - 1, s.badAccess)

/-- A write. -/
def State.busWriteAt (s : State) (a size v : Nat) : State := if accessOk a size then s.writeAddr a v else s.badAccess

/-- REGISTER_WRITE, over PCIe. -/
def bodyRegisterWrite (a size : Nat) (v : Word) (s : State) : State := s.busWriteAt a size v.toNat

/-- A management write to a register field (Table 0.3, R518 to R522). -/
def execRegisterWrite (a size : Nat) (v : Word) (s : State) : Out := commitMem s fun t => t.ifIslands (bodyRegisterWrite a size v)

/-- BAD_REGISTER_ACCESS, over PCIe: counted, and a read returns all ones (R9). -/
def bodyBadRegisterAccess (a size : Nat) (isWrite : Bool) (s : State) : State :=
  if accessOk a size then s
  else if isWrite then s.badAccess else { s.badAccess with busRead := some (2 ^ 64 - 1) }

/-- An access narrower than 64 bits or not aligned (R9). -/
def execBadRegisterAccess (a size : Nat) (isWrite : Bool) (s : State) : Out :=
  commit s (s.ifIslands (bodyBadRegisterAccess a size isWrite))

/-! ### The management Ethernet port (R515) -/

/-- The management Ethernet port runs: the always-on islands run, and REFCLK_SD_A clocks its lane (R511). -/
def State.mgeUp (s : State) : Bool := s.islandsUp && s.pins.sdA

/-- What is taken in from the management Ethernet port: a good frame under qft.ethertype for its MAC address, with a QFT packet that
passes the checks of Table 4.9 on its form; it is answered whatever its DST (log entry 66). -/
def State.mgeTakes (s : State) (f : Frame) : Option Packet :=
  if !s.mgeUp || !f.fcsOk || decide (f.len < 64) || f.dmac != s.factory.mac || !f.tags.isEmpty || f.etype != s.keys.etherType
      || decide (f.body.length < 44) then none
  else
    let p := Packet.parse f.body
    if p.ver = 1 ∧ p.headCrc = p.hcrc ∧ p.len ≤ 4096 ∧ 44 + p.len ≤ f.body.length ∧ p.icrc = p.bodyCrc ∧ classOk p.typ p.cls = true
        ∧ lenOk p = true then some p
    else none

/-- A packet sent back on the management Ethernet port. -/
def State.mgeSend (s : State) (f : Frame) (p : Packet) : State :=
  let b := (Packet.sealed (({ p with w0 := p.w0.setField 47 42 s.keys.ttl } : Packet).stamp (some s.birthNow) s.fwd.active)).bytes
  { s with mgmtOut := s.mgmtOut ++ [⟨true, f.smac, s.factory.mac, [], s.keys.etherType, b ++ List.replicate (46 - b.length) 0⟩] }

/-- An answer to packet `p` of frame `f`, sent from where the frame entered. -/
def State.mgmtSend (s : State) (src : Ingress) (f : Frame) (p : Packet) : State :=
  match src with
  | .port n => s.originate (n / 96) p
  | .mgmtEth => s.mgeSend f p

/-- A NACK of a management packet. -/
def State.mgmtNack (s : State) (src : Ingress) (f : Frame) (p : Packet) (status : Nat) : State :=
  match src with
  | .port n => s.nackAt n p status
  | .mgmtEth => s.mgeSend f (nackOf p s.keys.svcEp status 0)

/-- The packet of a frame before any check: what names its row. -/
def State.mgmtHead (s : State) (src : Ingress) (f : Frame) : Option Packet :=
  match src with
  | .port _ => s.header? f
  | .mgmtEth => if 44 ≤ f.body.length then some (Packet.parse f.body) else none

/-- A management packet of a type through the checks of where it entered. -/
def State.mgmtRx (s : State) (src : Ingress) (f : Frame) (typ : Nat) : Rx2 :=
  match src with
  | .port n => s.serviceRx n f typ
  | .mgmtEth => match s.mgeTakes f with | some p => if p.typ = typ then .pass p s else .done s | none => .done s

/-! ### MGMT (R111, R112) -/

/-- OP and NREG of P0, and the address of register `i`. -/
def mgmtOp (p : Packet) : Nat := (p.word 0).field 63 56
def mgmtN (p : Packet) : Nat := (p.word 0).field 55 48
def mgmtAddr (p : Packet) (i : Nat) : Nat := (p.word 0).field 47 0 + 8 * i

/-- MGMT is accepted where the packet entered: on a management port (R112). -/
def State.mgmtPort (s : State) (src : Ingress) : Bool :=
  match src with
  | .port n => s.fld .prtPortCfg (portIdx n) 58 58 == 1
  | .mgmtEth => true

/-- The words of the registers of a request, in ascending address. -/
def State.readRun (s : State) (p : Packet) : List Nat × State :=
  (List.range (mgmtN p)).foldl (fun (a : List Nat × State) i =>
    let r := a.2.busReadAt (mgmtAddr p i) 8
    (a.1 ++ [r.1], r.2)) ([], s)

/-- The registers of a write request take their words in ascending address; a misaligned one is counted once, as it is read back. -/
def State.writeRun (s : State) (p : Packet) : State :=
  (List.range (mgmtN p)).foldl (fun (s : State) i =>
    if accessOk (mgmtAddr p i) 8 then s.writeAddr (mgmtAddr p i) (p.word (i + 1)).toNat else s) s

/-- The header of a PROBE or MGMT reply: every header field of the request but those that name the sender and the receiver, LEN, TTL,
BIRTH, EPOCH and the checks (R86), with ACKREQ 0 as in every packet the device sends (R102). -/
def echoHdr (p : Packet) (typ self : Nat) : Hdr := { answerHdr p typ self with fmt := p.fmt, last := p.lastBit == 1 }

/-- The MGMT reply: P0 echoed, then the words. -/
def mgmtReply (p : Packet) (self : Nat) (ws : List Nat) : Packet :=
  (echoHdr p tMGMT self).packet ((p.word 0).toNat :: ws |>.flatMap (natBytes 8))

/-- A request is judged and answered (R111, R112). -/
def State.mgmtServe (s : State) (src : Ingress) (f : Frame) (p : Packet) : State :=
  if !s.mgmtPort src then
    (match src with | .port n => s.qftCount n 9 | .mgmtEth => s).mgmtNack src f p stNOT_MY_JOB
  else if (mgmtOp p ≠ 1 ∧ mgmtOp p ≠ 2) ∨ mgmtN p = 0 then s.mgmtNack src f p stBADDESC
  else if mgmtOp p = 2 ∧ p.len < 8 + 8 * mgmtN p then s.mgmtNack src f p stBADDESC
  else
    let s := if mgmtOp p = 2 then s.writeRun p else s
    let r := s.readRun p
    r.2.mgmtSend src f (mgmtReply p r.2.keys.svcEp r.1)

/-- A row of MGMT: the packets whose OP is 2 are the write's, any other OP the read's. -/
def State.mgmtRow (s : State) (isWrite : Bool) (src : Ingress) (f : Frame) : State :=
  match s.mgmtHead src f with
  | none => s
  | some h =>
    if (mgmtOp h == 2) != isWrite then s
    else
      match s.mgmtRx src f tMGMT with
      | .done t => t
      | .pass p t => t.mgmtServe src f p

def bodyMgmtRead (src : Ingress) (f : Frame) (s : State) : State := s.mgmtRow false src f

/-- MGMT_READ (R111, R112). -/
def execMgmtRead (src : Ingress) (f : Frame) (s : State) : Out := commit s (bodyMgmtRead src f s)

def bodyMgmtWrite (src : Ingress) (f : Frame) (s : State) : State := s.mgmtRow true src f

/-- MGMT_WRITE (R111, R112). -/
def execMgmtWrite (src : Ingress) (f : Frame) (s : State) : Out := commitMem s fun t => bodyMgmtWrite src f t

/-! ### I3C (R515) -/

/-- The byte address of a private write: 6 bytes after the first, most significant first. -/
def i3cAddr (bs : List Byte) : Nat := numAt bs 1 6

/-- The private write of 7 bytes names a register, and the private read that follows returns its bytes in memory-view order. -/
def bodyI3cRead (bs : List Byte) (s : State) : State :=
  if bs.length = 7 ∧ byteAt bs 0 = 1 then
    let r := s.busReadAt (i3cAddr bs) 8
    { r.2 with i3c := { addr := some (i3cAddr bs), out := (natBytes 8 r.1).reverse } }
  else s

def execI3cRead (bs : List Byte) (s : State) : Out := commit s (s.ifIslands (bodyI3cRead bs))

/-- The private write of 15 bytes writes a register, its 8 bytes in memory-view order. -/
def bodyI3cWrite (bs : List Byte) (s : State) : State :=
  if bs.length = 15 ∧ byteAt bs 0 = 2 then s.busWriteAt (i3cAddr bs) 8 (beNat (bs.drop 7).reverse) else s

def execI3cWrite (bs : List Byte) (s : State) : Out := commitMem s fun t => t.ifIslands (bodyI3cWrite bs)

/-! ### PROBE (R110) -/

/-- REPLY of a PROBE. -/
def probeReply (p : Packet) : Bool := (p.word 0).bit 63

/-- The reply to a request: DST and SRC exchanged, REPLY 1, the reserved bits of P0 0 (R10), T_RX and T_TX filled in. -/
def probeAnswer (p : Packet) (self now : Nat) : Packet :=
  (echoHdr p tPROBE self).packet
    (natBytes 8 (2 ^ 63 + (p.word 0).field 31 0) ++ natBytes 8 (p.word 1).toNat ++ natBytes 8 (now % 2 ^ 64) ++ natBytes 8 (now % 2 ^ 64))

/-- A PROBE with the REPLY of the row; the management Ethernet port answers none in recovery mode (R515). -/
def State.probeRow (s : State) (reply : Bool) (src : Ingress) (f : Frame) : State :=
  match s.mgmtHead src f with
  | none => s
  | some h =>
    if probeReply h != reply then s
    else
      match s.mgmtRx src f tPROBE with
      | .done t => t
      | .pass p t =>
        if reply || (src == .mgmtEth && s.stage == 8) then t
        else t.mgmtSend src f (probeAnswer p t.keys.svcEp t.now)

def bodyProbe (src : Ingress) (f : Frame) (s : State) : State := s.probeRow false src f

/-- PROBE. -/
def execProbe (src : Ingress) (f : Frame) (s : State) : Out := commit s (bodyProbe src f s)

def bodyProbeReplyReceive (src : Ingress) (f : Frame) (s : State) : State := s.probeRow true src f

/-- PROBE_REPLY_RECEIVE: counted in PRT_QFT_RX by the checks that pass it, and nothing else. -/
def execProbeReplyReceive (src : Ingress) (f : Frame) (s : State) : Out := commit s (bodyProbeReplyReceive src f s)

/-! ### PRT_PFC_THRESH -/

/-- PFC_THRESH_WRITE (R388). -/
def bodyPfcThreshWrite (d : Nat) (v : Word) (s : State) : State := if d < 8 then s.writePfcThresh d v.toNat else s

def execPfcThreshWrite (d : Nat) (v : Word) (s : State) : Out := commit s (s.ifMain (bodyPfcThreshWrite d v))

end Sys2Proof.Machine
end

