-- ==== Sys2Proof/Machine/Dump.lean ====
section
/-!
DEFINITION. The crash dump (R469, R470): the sections the dump engine writes and the end of its writing.
-/

namespace Sys2Proof.Machine

/-- The indices of every instance of a register, in address order. -/
def allIndices : List (Nat × Nat) → List (List Nat)
  | [] => [[]]
  | (_, n) :: ds => (List.range n).flatMap fun i => (allIndices ds).map fun is => i :: is

/-- The words of every instance of a register. -/
def State.readAll (s : State) (r : Reg) : List Nat := (allIndices r.place.dims).map (s.readReg r)

/-- The registers of the snapshot, in the order of the dump (Table 19.6; log entry 67). -/
def snapshotRegs : List Reg :=
  (Reg.all.filter fun r => decide (r.place.base < 0x400000) && r != .fltLog)
    ++ [.prtLinkStatus, .hubBufStatus, .fabSpare, .imgSlot, .imgSlotId, .imgSlotHash, .svcCap, .svcAcc, .svcRetain, .poolOut]

/-- The context records: each context in flight, ascending by number. -/
def State.dumpCtxs (s : State) : List (List Nat) :=
  (Tbl.keys (s.svc.ctxs.filter fun (e : Nat × Ctx) => e.2.inFlight)).map fun n =>
    [Reg.ctxState, .ctxSize, .ctxProgress, .ctxPlace].map fun r => s.readReg r [n]

/-- The region records, regions 1 to 4,096. -/
def State.dumpRegions (s : State) : List (List Nat) :=
  (List.range 4096).map fun i => [Reg.rgnCfg, .rgnSize, .rgnBase, .rgnErr].map fun r => s.readReg r [i + 1]

/-- Tiles whose HALT meets a condition, by fabric die, row and column (R470). -/
def State.haltedTiles (s : State) (p : Nat → Bool) : List Nat :=
  (List.range 8).flatMap fun d => Tbl.keys (s.fab.tiles.filter fun (e : Nat × Tile) => fabricDie e.1 == d && p e.2.halt)

/-- The halted tiles in the order of the two passes. -/
def State.haltOrder (s : State) : List Nat :=
  s.haltedTiles (fun h => [1, 2, 3, 5].contains h) ++ s.haltedTiles fun h => h == 4

/-- A halted-tile record of 1 KiB: logical x and y, FAB_TILE_STATUS, and the general registers. -/
def State.tileRecord (s : State) (t : Nat) : List Nat :=
  let ws := [t % 220 * 2 ^ 32 + t / 220, s.readReg .tileStatus (tileIdx t)] ++ List.replicate 6 0
    ++ (List.range 64).map fun i => ((s.tile t).greg i).toNat
  ws ++ List.replicate (128 - ws.length) 0

/-- The SEQ of the causing entry: the FATAL entry detected at the dump's count, else the latest FATAL one. -/
def State.causeSeq (s : State) (at_ : Nat) : Nat :=
  let fatal := s.flt.log.vals.filter fun e => e.msg.sev == 3
  match fatal.find? fun e => e.msg.count == at_ with
  | some e => e.seq
  | none => match fatal.getLast? with | some e => e.seq | none => 0

/-- The Temond version of the image in use. -/
def State.temondWord (s : State) : Nat :=
  match s.imageInUse with | some e => Config.temondVersion (e.value "firmware.temond") | none => 0

/-- The dump of a FATAL fault detected at global count `at_`, as the engine finishes it. DESIGN CHOICE (log entry 123): Table 19.6 gives no place to
the accumulators that R63 calls visible in the dump; only the control trace, whose layout the spec leaves open, may hold them. -/
def State.dumpOf (s : State) (at_ : Nat) : Dump :=
  let tiles := s.haltOrder
  { dseq := (s.nvm.dseq + 1) % 2 ^ 32, logSeq := s.causeSeq at_, omitted := tiles.length - 384, at_ := at_, done := s.now
    head := [s.readReg .ctlId [], s.readReg .ctlComplex [], s.readReg .fltStatus []] ++ s.readAll .fltFirst ++ [s.temondWord]
    snap := snapshotRegs.flatMap s.readAll, ctxs := s.dumpCtxs, regions := s.dumpRegions
    tiles := (tiles.take 384).map s.tileRecord, trace := s.free }

/-- The slot that a new dump overwrites: the older one. -/
def State.olderSlot (s : State) : Nat := match s.nvm.dumpSlot with | some k => 1 - k | none => 0

/-- CRASH_DUMP_DONE: the dump under way is complete in its slot, and one that waits goes into the other. -/
def bodyCrashDumpDone (s : State) : State :=
  match s.nvm.dumping with
  | [] => s
  | t :: rest =>
    if s.islandsUp then
      let d := s.dumpOf t
      ({ s.tickFree with nvm := { s.nvm with dumps := s.nvm.dumps.set s.olderSlot d, dumpSlot := some s.olderSlot, dseq := d.dseq,
                                             dumping := rest } } : State).servicesOff
    else s

def execCrashDumpDone (s : State) : Out := commit s (bodyCrashDumpDone s)

end Sys2Proof.Machine
end

