-- ==== Sys2Proof/Machine/Dispatch.lean ====
section
/-!
DEFINITION. The dispatch: one arm per command, each a direct call of its meaning.
-/

namespace Sys2Proof.Machine

/-- What each command does to everything but the queue. -/
def exec (i : Instr) (s : State) : Host.Outcome State Fault Refusal :=
  match i with
  | .registerWrite addr size value => Sys2Proof.Machine.execRegisterWrite addr size value s
  | .badRegisterAccess addr size isWrite => Sys2Proof.Machine.execBadRegisterAccess addr size isWrite s
  | .mgmtRead src f => Sys2Proof.Machine.execMgmtRead src f s
  | .mgmtWrite src f => Sys2Proof.Machine.execMgmtWrite src f s
  | .i3cRead bytes => Sys2Proof.Machine.execI3cRead bytes s
  | .i3cWrite bytes => Sys2Proof.Machine.execI3cWrite bytes s
  | .probe src f => Sys2Proof.Machine.execProbe src f s
  | .probeReplyReceive src f => Sys2Proof.Machine.execProbeReplyReceive src f s
  | .qftForward port f => Sys2Proof.Machine.execQftForward port f s
  | .ipRoute port f => Sys2Proof.Machine.execIpRoute port f s
  | .ethernetBridge port f => Sys2Proof.Machine.execEthernetBridge port f s
  | .receiveError port kind => Sys2Proof.Machine.execReceiveError port kind s
  | .hubAdmit hub => Sys2Proof.Machine.execHubAdmit hub s
  | .packetTailArrive hub id tail => Sys2Proof.Machine.execPacketTailArrive hub id tail s
  | .transmitSelect port => Sys2Proof.Machine.execTransmitSelect port s
  | .pfcXoffRepeat port => Sys2Proof.Machine.execPfcXoffRepeat port s
  | .pfcFrameReceive port enable times => Sys2Proof.Machine.execPfcFrameReceive port enable times s
  | .pfcPauseExpire port prio => Sys2Proof.Machine.execPfcPauseExpire port prio s
  | .ptpMessage port f isSync fromMaster sourceNs => Sys2Proof.Machine.execPtpMessage port f isSync fromMaster sourceNs s
  | .hubReplicate hub ties => Sys2Proof.Machine.execHubReplicate hub ties s
  | .bpmAlloc pool owner rival => Sys2Proof.Machine.execBpmAlloc pool owner rival s
  | .bpmShare pool buf owner n tag last => Sys2Proof.Machine.execBpmShare pool buf owner n tag last s
  | .bpmRelease pool buf owner tag => Sys2Proof.Machine.execBpmRelease pool buf owner tag s
  | .bpmErrFirstClear => Sys2Proof.Machine.execBpmErrFirstClear s
  | .mirrorBlockWrite session die => Sys2Proof.Machine.execMirrorBlockWrite session die s
  | .mirrorEnable session => Sys2Proof.Machine.execMirrorEnable session s
  | .mirrorDisable session => Sys2Proof.Machine.execMirrorDisable session s
  | .setup port f => Sys2Proof.Machine.execSetup port f s
  | .setupAssemblyTimeout src setupId => Sys2Proof.Machine.execSetupAssemblyTimeout src setupId s
  | .setupTablesWritten ctx => Sys2Proof.Machine.execSetupTablesWritten ctx s
  | .genReuseHoldEnd ctx => Sys2Proof.Machine.execGenReuseHoldEnd ctx s
  | .deferredSetupExpire seq => Sys2Proof.Machine.execDeferredSetupExpire seq s
  | .rearm port f => Sys2Proof.Machine.execRearm port f s
  | .teardown port f => Sys2Proof.Machine.execTeardown port f s
  | .contextDrainEnd ctx => Sys2Proof.Machine.execContextDrainEnd ctx s
  | .contextQuarantineEnd ctx => Sys2Proof.Machine.execContextQuarantineEnd ctx s
  | .gatherContextStart ctx => Sys2Proof.Machine.execGatherContextStart ctx s
  | .contrib port f => Sys2Proof.Machine.execContrib port f s
  | .contribTileArrival seq ties sram => Sys2Proof.Machine.execContribTileArrival seq ties sram s
  | .releaseReport ctx => Sys2Proof.Machine.execReleaseReport ctx s
  | .grantDelayExpire ctx => Sys2Proof.Machine.execGrantDelayExpire ctx s
  | .grantRepeat ctx => Sys2Proof.Machine.execGrantRepeat ctx s
  | .completeSend ctx => Sys2Proof.Machine.execCompleteSend ctx s
  | .contextTimeout ctx => Sys2Proof.Machine.execContextTimeout ctx s
  | .closureEnd ctx => Sys2Proof.Machine.execClosureEnd ctx s
  | .abort port f => Sys2Proof.Machine.execAbort port f s
  | .abortAtHome ctx ties => Sys2Proof.Machine.execAbortAtHome ctx ties s
  | .ackNackReceive port f => Sys2Proof.Machine.execAckNackReceive port f s
  | .resend port f => Sys2Proof.Machine.execResend port f s
  | .resendHubCheck seq hub => Sys2Proof.Machine.execResendHubCheck seq hub s
  | .resendGo seq => Sys2Proof.Machine.execResendGo seq s
  | .resendDrop seq => Sys2Proof.Machine.execResendDrop seq s
  | .step port f => Sys2Proof.Machine.execStep port f s
  | .stepAtHome ctx ties => Sys2Proof.Machine.execStepAtHome ctx ties s
  | .optimizerStateStaged ctx chunk m => Sys2Proof.Machine.execOptimizerStateStaged ctx chunk m s
  | .updateUnitDone ctx chunk => Sys2Proof.Machine.execUpdateUnitDone ctx chunk s
  | .slotSnapshot value => Sys2Proof.Machine.execSlotSnapshot value s
  | .poolRd port f => Sys2Proof.Machine.execPoolRd port f s
  | .poolWr port f => Sys2Proof.Machine.execPoolWr port f s
  | .poolAtom port f => Sys2Proof.Machine.execPoolAtom port f s
  | .poolFence port f => Sys2Proof.Machine.execPoolFence port f s
  | .poolAccessPerform seq m tie => Sys2Proof.Machine.execPoolAccessPerform seq m tie s
  | .orderedStreamExpire die src region => Sys2Proof.Machine.execOrderedStreamExpire die src region s
  | .regionCreate => Sys2Proof.Machine.execRegionCreate s
  | .regionDelete => Sys2Proof.Machine.execRegionDelete s
  | .regionRekey => Sys2Proof.Machine.execRegionRekey s
  | .regionGrow => Sys2Proof.Machine.execRegionGrow s
  | .regionDrainEnd region => Sys2Proof.Machine.execRegionDrainEnd region s
  | .regionQuarantineEnd region => Sys2Proof.Machine.execRegionQuarantineEnd region s
  | .pageZeroDone stack page => Sys2Proof.Machine.execPageZeroDone stack page s
  | .gatherReq port f => Sys2Proof.Machine.execGatherReq port f s
  | .gatherLineRead seq line m ties => Sys2Proof.Machine.execGatherLineRead seq line m ties s
  | .gatherPlainResponse seq => Sys2Proof.Machine.execGatherPlainResponse seq s
  | .gatherSegmentReduce seq segment ties => Sys2Proof.Machine.execGatherSegmentReduce seq segment ties s
  | .streamReadComplete hub engine result => Sys2Proof.Machine.execStreamReadComplete hub engine result s
  | .stackServe stack => Sys2Proof.Machine.execStackServe stack s
  | .stackSelfRefreshEnter stack => Sys2Proof.Machine.execStackSelfRefreshEnter stack s
  | .recalDue stack => Sys2Proof.Machine.execRecalDue stack s
  | .recalForced stack => Sys2Proof.Machine.execRecalForced stack s
  | .hbmScrubBurst stack results => Sys2Proof.Machine.execHbmScrubBurst stack results s
  | .tileScrubAccess x y bank words => Sys2Proof.Machine.execTileScrubAccess x y bank words s
  | .cubeMm iss aAddr aPitch aFmt bAddr bPitch bFmt depth set_ int strict residueOk ecc => Sys2Proof.Machine.execCubeMm iss aAddr aPitch aFmt bAddr bPitch bFmt depth set_ int strict residueOk ecc s
  | .cubeLdc iss set_ addr ecc => Sys2Proof.Machine.execCubeLdc iss set_ addr ecc s
  | .cubeStc iss set_ addr ecc => Sys2Proof.Machine.execCubeStc iss set_ addr ecc s
  | .vectorOperation iss op fmt rd ra rb rc rm strict => Sys2Proof.Machine.execVectorOperation iss op fmt rd ra rb rc rm strict s
  | .laAdd iss addr wmode anchor fmt vr ecc => Sys2Proof.Machine.execLaAdd iss addr wmode anchor fmt vr ecc s
  | .laFin iss addr wmode anchor src n divisor fmt dst rm strict ecc => Sys2Proof.Machine.execLaFin iss addr wmode anchor src n divisor fmt dst rm strict ecc s
  | .load iss vr addr size ecc => Sys2Proof.Machine.execLoad iss vr addr size ecc s
  | .store iss vr addr size ecc => Sys2Proof.Machine.execStore iss vr addr size ecc s
  | .send iss dst addr len vc queue tag user ecc => Sys2Proof.Machine.execSend iss dst addr len vc queue tag user ecc s
  | .recv iss queue rd => Sys2Proof.Machine.execRecv iss queue rd s
  | .wait iss on_ => Sys2Proof.Machine.execWait iss on_ s
  | .setrm iss rm => Sys2Proof.Machine.execSetrm iss rm s
  | .halt iss => Sys2Proof.Machine.execHalt iss s
  | .scalarOperation iss op rd ra rb => Sys2Proof.Machine.execScalarOperation iss op rd ra rb s
  | .meshDeliver x y input vc feed ties ecc => Sys2Proof.Machine.execMeshDeliver x y input vc feed ties ecc s
  | .meshMulticastDeliver x y input feed ties ecc => Sys2Proof.Machine.execMeshMulticastDeliver x y input feed ties ecc s
  | .meshCreditReturn x y input vc => Sys2Proof.Machine.execMeshCreditReturn x y input vc s
  | .imageLoad => Sys2Proof.Machine.execImageLoad s
  | .imageLoadComplete slot => Sys2Proof.Machine.execImageLoadComplete slot s
  | .imageActivate => Sys2Proof.Machine.execImageActivate s
  | .imageLaunch slot => Sys2Proof.Machine.execImageLaunch slot s
  | .imageStop => Sys2Proof.Machine.execImageStop s
  | .imageUnload => Sys2Proof.Machine.execImageUnload s
  | .spareSelftestDone die result => Sys2Proof.Machine.execSpareSelftestDone die result s
  | .substitutionComplete die => Sys2Proof.Machine.execSubstitutionComplete die s
  | .tableWrite => Sys2Proof.Machine.execTableWrite s
  | .tableRead => Sys2Proof.Machine.execTableRead s
  | .tableDelete => Sys2Proof.Machine.execTableDelete s
  | .bankCopy => Sys2Proof.Machine.execBankCopy s
  | .bankCopyDone => Sys2Proof.Machine.execBankCopyDone s
  | .swapArm => Sys2Proof.Machine.execSwapArm s
  | .swapDisarm => Sys2Proof.Machine.execSwapDisarm s
  | .bankSwap => Sys2Proof.Machine.execBankSwap s
  | .bankWritable => Sys2Proof.Machine.execBankWritable s
  | .livenessUpdate port => Sys2Proof.Machine.execLivenessUpdate port s
  | .adaptEstimateUpdate => Sys2Proof.Machine.execAdaptEstimateUpdate s
  | .shaperClear port cls => Sys2Proof.Machine.execShaperClear port cls s
  | .shaperConfigWrite addr value => Sys2Proof.Machine.execShaperConfigWrite addr value s
  | .gateArm port => Sys2Proof.Machine.execGateArm port s
  | .gateDisarm port => Sys2Proof.Machine.execGateDisarm port s
  | .gateListStart port => Sys2Proof.Machine.execGateListStart port s
  | .gateEntryChange port => Sys2Proof.Machine.execGateEntryChange port s
  | .queueSample => Sys2Proof.Machine.execQueueSample s
  | .samplerClear port cls => Sys2Proof.Machine.execSamplerClear port cls s
  | .pfcThreshWrite die value => Sys2Proof.Machine.execPfcThreshWrite die value s
  | .linkEnable port => Sys2Proof.Machine.execLinkEnable port s
  | .anComplete port ability => Sys2Proof.Machine.execAnComplete port ability s
  | .trainingComplete port => Sys2Proof.Machine.execTrainingComplete port s
  | .trainingTimeout port failed => Sys2Proof.Machine.execTrainingTimeout port failed s
  | .laneAligned port => Sys2Proof.Machine.execLaneAligned port s
  | .holdExpire port => Sys2Proof.Machine.execHoldExpire port s
  | .linkFault port localFault remoteFault => Sys2Proof.Machine.execLinkFault port localFault remoteFault s
  | .linkFaultClear port => Sys2Proof.Machine.execLinkFaultClear port s
  | .linkFaultTimeout port => Sys2Proof.Machine.execLinkFaultTimeout port s
  | .adminDown port => Sys2Proof.Machine.execAdminDown port s
  | .retrain port => Sys2Proof.Machine.execRetrain port s
  | .helloSend port => Sys2Proof.Machine.execHelloSend port s
  | .hello port f => Sys2Proof.Machine.execHello port f s
  | .negotiationTimeout port => Sys2Proof.Machine.execNegotiationTimeout port s
  | .linkCredit port f => Sys2Proof.Machine.execLinkCredit port f s
  | .creditUpdateSend port cls => Sys2Proof.Machine.execCreditUpdateSend port cls s
  | .ack port f => Sys2Proof.Machine.execAck port f s
  | .retryAckSend port cls => Sys2Proof.Machine.execRetryAckSend port cls s
  | .nak port f => Sys2Proof.Machine.execNak port f s
  | .nakResendTimer port cls => Sys2Proof.Machine.execNakResendTimer port cls s
  | .replay port f => Sys2Proof.Machine.execReplay port f s
  | .syncPulse => Sys2Proof.Machine.execSyncPulse s
  | .syncEpochWord w => Sys2Proof.Machine.execSyncEpochWord w s
  | .syncPulseMissing => Sys2Proof.Machine.execSyncPulseMissing s
  | .ptpSyncTimeout => Sys2Proof.Machine.execPtpSyncTimeout s
  | .syncOutPulse => Sys2Proof.Machine.execSyncOutPulse s
  | .resync => Sys2Proof.Machine.execResync s
  | .clrMax => Sys2Proof.Machine.execClrMax s
  | .powerEvaluation inputW => Sys2Proof.Machine.execPowerEvaluation inputW s
  | .sensorRead dieT stackT => Sys2Proof.Machine.execSensorRead dieT stackT s
  | .mainRange readingCv => Sys2Proof.Machine.execMainRange readingCv s
  | .auxLoss => Sys2Proof.Machine.execAuxLoss s
  | .serviceImageRetry => Sys2Proof.Machine.execServiceImageRetry s
  | .faultMessageTake die tie found => Sys2Proof.Machine.execFaultMessageTake die tie found s
  | .selftestDone seq result => Sys2Proof.Machine.execSelftestDone seq result s
  | .verdictExpire => Sys2Proof.Machine.execVerdictExpire s
  | .logMirrorWrite => Sys2Proof.Machine.execLogMirrorWrite s
  | .fltAck seq => Sys2Proof.Machine.execFltAck seq s
  | .firstFaultClear => Sys2Proof.Machine.execFirstFaultClear s
  | .forceSafe => Sys2Proof.Machine.execForceSafe s
  | .isolationClear n => Sys2Proof.Machine.execIsolationClear n s
  | .temondCheckin => Sys2Proof.Machine.execTemondCheckin s
  | .firmwareHang => Sys2Proof.Machine.execFirmwareHang s
  | .aliveToggle => Sys2Proof.Machine.execAliveToggle s
  | .watchdogFire unit => Sys2Proof.Machine.execWatchdogFire unit s
  | .domainResetDone domain => Sys2Proof.Machine.execDomainResetDone domain s
  | .suspectCleared => Sys2Proof.Machine.execSuspectCleared s
  | .domainGo domain => Sys2Proof.Machine.execDomainGo domain s
  | .warm => Sys2Proof.Machine.execWarm s
  | .cold => Sys2Proof.Machine.execCold s
  | .resetNPulse => Sys2Proof.Machine.execResetNPulse s
  | .resetNHeld => Sys2Proof.Machine.execResetNHeld s
  | .stackRetrainDone stack result => Sys2Proof.Machine.execStackRetrainDone stack result s
  | .crashDumpDone => Sys2Proof.Machine.execCrashDumpDone s
  | .clearAll => Sys2Proof.Machine.execClearAll s
  | .coldStart hd0 hd3 flashA flashB => Sys2Proof.Machine.execColdStart hd0 hd3 flashA flashB s
  | .stagedCopyDone => Sys2Proof.Machine.execStagedCopyDone s
  | .temondStart => Sys2Proof.Machine.execTemondStart s
  | .mainRailsGood => Sys2Proof.Machine.execMainRailsGood s
  | .trainStageDone failed => Sys2Proof.Machine.execTrainStageDone failed s
  | .fwdReady => Sys2Proof.Machine.execFwdReady s
  | .ready => Sys2Proof.Machine.execReady s
  | .nvmRead => Sys2Proof.Machine.execNvmRead s
  | .eraseStaging => Sys2Proof.Machine.execEraseStaging s
  | .nvmWrite => Sys2Proof.Machine.execNvmWrite s
  | .copyFromRegion => Sys2Proof.Machine.execCopyFromRegion s
  | .verify => Sys2Proof.Machine.execVerify s
  | .markPending => Sys2Proof.Machine.execMarkPending s
  | .activate => Sys2Proof.Machine.execActivate s
  | .cancel => Sys2Proof.Machine.execCancel s
  | .promote => Sys2Proof.Machine.execPromote s
  | .nvmCommandComplete flashOk => Sys2Proof.Machine.execNvmCommandComplete flashOk s
  | .liveActivation => Sys2Proof.Machine.execLiveActivation s
  | .newTemondCheckin => Sys2Proof.Machine.execNewTemondCheckin s
  | .serviceSwapDone slot => Sys2Proof.Machine.execServiceSwapDone slot s
  | .activeCopyDone => Sys2Proof.Machine.execActiveCopyDone s
  | .shaperDebtEnd port cls => Sys2Proof.Machine.execShaperDebtEnd port cls s
  | .pllUnlock die pll => Sys2Proof.Machine.execPllUnlock die pll s
  | .trussLinkError die link repaired => Sys2Proof.Machine.execTrussLinkError die link repaired s
  | .complexFail => Sys2Proof.Machine.execComplexFail s

end Sys2Proof.Machine
end

