-- ==== Sys2Proof/WellFormed.lean ====
section
/-!
DEFINITION. Well-formed commands: every operand lies in the range that the hardware gives what it names. The machine answers a command
that is not well formed too, mostly without effect; a command that the hardware can receive is well formed.
-/

namespace Sys2Proof

/-! ### Ranges -/

/-- A number fits in `w` bits. -/
def fits (w n : Nat) : Bool := decide (n < 2 ^ w)

/-- A port number (R16). -/
def okPort (p : Nat) : Bool := decide (p < 768)

/-- A class (R83). -/
def okClass (c : Nat) : Bool := decide (c < 8)

/-- A hub die (R19). -/
def okHub (h : Nat) : Bool := decide (h < 4)

/-- A die of the module (Table 1.1), or 31, the always-on island (Table 18.1). -/
def okDie (d : Nat) : Bool := decide (d < 20) || d == 31

/-- A memory stack. -/
def okStack (k : Nat) : Bool := decide (k < 16)

/-- A context or region number; 0 names none. -/
def okNumber (n : Nat) : Bool := decide (0 < n) && fits 16 n

/-- A logical tile (R17). -/
def okTile (x y : Nat) : Bool := decide (x < 220) && decide (y < 96)

/-- An image slot (Table 11.7). -/
def okSlot (k : Nat) : Bool := decide (k < 64)

/-- A mirror session. -/
def okSession (i : Nat) : Bool := decide (i < 64)

/-- A BPM pool (Table 13.4). -/
def okPool (p : Nat) : Bool := decide (p < 12) || (decide (16 ≤ p) && decide (p < 32))

/-- A class that may be absent: then the port's own shaper is meant. -/
def okClass? : Option Nat → Bool
  | none => true
  | some c => okClass c

/-! ### Structured operands -/

/-- A frame: addresses of 48 bits, at most two tags of 16 bits each, an EtherType of 16 bits. -/
def Frame.ok (f : Frame) : Bool :=
  fits 48 f.dmac && fits 48 f.smac && decide (f.tags.length ≤ 2) && f.tags.all (fits 16) && fits 16 f.etype

/-- A place where a management packet enters. -/
def Ingress.ok : Ingress → Bool
  | .port p => okPort p
  | .mgmtEth => true

/-- A byte address of tile SRAM (Table 10.1). -/
def okSram (a : Nat) : Bool := decide (a < 262144)

/-- A vector register, a general register, an accumulator set, an RM field (R244: 0 to 4, or 7 for TRM), a virtual channel. -/
def okVreg (r : Nat) : Bool := decide (r < 32)
def okGreg (r : Nat) : Bool := decide (r < 64)
def okSet (k : Nat) : Bool := decide (k < 4)
def okRm (m : Nat) : Bool := decide (m < 5) || m == 7
def okVc (v : Nat) : Bool := decide (v < 3)

/-- A destination of a SEND inside the mesh. -/
def SendTo.ok : SendTo → Bool
  | .tile dx dy => okTile dx dy
  | .edge side place => decide (side < 4) && decide (place < 220)
  | .row dy a b => okTile a dy && okTile b dy
  | .column dx a b => okTile dx a && okTile dx b

/-- A condition of WAIT. -/
def WaitOn.ok : WaitOn → Bool
  | .receiveQueue q => decide (q < 16)
  | .credit vc => okVc vc
  | .counter r _ => okGreg r
  | .globalCount _ => true

/-- A condition that delays a bundle. -/
def Hold.ok : Hold → Bool
  | .wait on_ => on_.ok
  | .send vc len => okVc vc && fits 13 len

/-- Where a micro-operation issues: a tile, and a bundle of the store (R249). -/
def Issue.ok (i : Issue) : Bool := okTile i.x i.y && decide (i.bundle < 4096) && fits 16 i.ctx && i.holds.all Hold.ok

/-- What a stream engine sends is at most 4,136 bytes (Table 11.1). -/
def Feed.ok (f : Feed) : Bool := okHub f.hub && decide (f.engine < 128) && f.dst.ok && decide (f.queue < 16) && decide (f.len ≤ 4136)

/-- An input of a router: one of the four directions or the tile (Table 10.1). -/
def okInput (d : Nat) : Bool := decide (d < 5)

/-- A found fault's unit is one of its die (Table 18.3). -/
def Found.ok (die : Nat) : Found → Bool
  | .streamEngine e => decide (8 ≤ die) && decide (die < 12) && decide (e < 128)
  | .poolEngine e a => decide (8 ≤ die) && decide (die < 12) && decide (e < 16) && fits 64 a
  | .replicationEngine e => decide (8 ≤ die) && decide (die < 12) && decide (e < 16)
  | .router i => decide (12 ≤ die) && decide (die < 20) && decide (i < 2640)

/-! ### Commands -/

/-- A command's operands lie in their ranges. -/
def Instr.wf : Instr → Bool
  | .registerWrite a size _ => fits 48 a && decide (0 < size)
  | .badRegisterAccess a size _ => fits 48 a && decide (0 < size)
  | .mgmtRead src f | .mgmtWrite src f | .probe src f | .probeReplyReceive src f => src.ok && f.ok
  | .i3cRead bs => bs.length == 7
  | .i3cWrite bs => bs.length == 15
  | .qftForward p f | .ipRoute p f | .ethernetBridge p f | .setup p f | .rearm p f | .teardown p f | .contrib p f | .abort p f
  | .ackNackReceive p f | .resend p f | .step p f | .poolRd p f | .poolWr p f | .poolAtom p f | .poolFence p f | .gatherReq p f
  | .hello p f | .linkCredit p f | .ack p f | .nak p f | .replay p f => okPort p && f.ok
  | .ptpMessage p f _ _ t => okPort p && f.ok && fits 64 t
  | .receiveError p _ | .transmitSelect p | .pfcXoffRepeat p | .livenessUpdate p | .gateArm p | .gateDisarm p | .gateListStart p
  | .gateEntryChange p | .linkEnable p | .anComplete p _ | .trainingComplete p | .laneAligned p | .holdExpire p
  | .linkFault p _ _ | .linkFaultClear p | .linkFaultTimeout p | .adminDown p | .retrain p | .helloSend p | .negotiationTimeout p => okPort p
  | .trainingTimeout p m => okPort p && fits 8 m
  | .pfcFrameReceive p e ts => okPort p && fits 16 e && ts.length == 8 && ts.all (fits 16)
  | .pfcPauseExpire p c | .samplerClear p c | .creditUpdateSend p c | .retryAckSend p c | .nakResendTimer p c => okPort p && okClass c
  | .shaperClear p c | .shaperDebtEnd p c => okPort p && okClass? c
  | .hubAdmit h | .hubReplicate h _ => okHub h
  | .packetTailArrive h _ _ => okHub h
  | .bpmAlloc p _ _ | .bpmShare p _ _ _ _ _ | .bpmRelease p _ _ _ => okPool p
  | .bpmErrFirstClear => true
  | .mirrorBlockWrite i d => okSession i && okDie d
  | .mirrorEnable i | .mirrorDisable i => okSession i
  | .setupAssemblyTimeout src i => fits 20 src && fits 16 i
  | .setupTablesWritten n | .genReuseHoldEnd n | .contextDrainEnd n | .contextQuarantineEnd n | .gatherContextStart n | .releaseReport n
  | .grantDelayExpire n | .grantRepeat n | .completeSend n | .contextTimeout n | .closureEnd n | .abortAtHome n _
  | .stepAtHome n _ => okNumber n
  | .deferredSetupExpire _ | .contribTileArrival _ _ _ | .resendGo _ | .resendDrop _ | .poolAccessPerform _ _ _ | .gatherLineRead _ _ _ _
  | .gatherPlainResponse _ | .gatherSegmentReduce _ _ _ | .selftestDone _ _ => true
  | .resendHubCheck _ h => okHub h
  | .optimizerStateStaged n _ _ | .updateUnitDone n _ => okNumber n
  | .slotSnapshot _ => true
  | .orderedStreamExpire d src r => decide (d < 8) && fits 20 src && okNumber r
  | .regionCreate | .regionDelete | .regionRekey | .regionGrow => true
  | .regionDrainEnd r | .regionQuarantineEnd r => decide (0 < r) && decide (r ≤ 4096)
  | .pageZeroDone k page => okStack k && decide (page < 36864)
  | .streamReadComplete h e _ => okHub h && decide (e < 128)
  | .stackServe k | .stackSelfRefreshEnter k | .recalDue k | .recalForced k | .hbmScrubBurst k _ | .stackRetrainDone k _ => okStack k
  | .tileScrubAccess x y bank ws => okTile x y && decide (bank < 8) && decide (ws.length ≤ 4)
  | .cubeMm i a _ _ b _ _ _ set _ _ _ _ => i.ok && okSram a && okSram b && okSet set
  | .cubeLdc i set a _ => i.ok && okSet set && okSram a
  | .cubeStc i set a _ => i.ok && okSet set && okSram a
  | .vectorOperation i _ _ rd ra rb rc rm _ => i.ok && okVreg rd && okVreg ra && okVreg rb && okVreg rc && okRm rm
  | .laAdd i a w _ _ vr _ => i.ok && okSram a && decide (w < 4) && okVreg vr
  | .laFin i a w _ _ _ _ _ dst rm _ _ => i.ok && okSram a && decide (w < 4) && okSram dst && okRm rm
  | .load i vr a size _ | .store i vr a size _ => i.ok && okVreg vr && okSram a && [4, 8, 32].contains size
  | .send i dst a len vc q _ _ _ => i.ok && dst.ok && okSram a && fits 13 len && okVc vc && fits 8 q
  | .recv i q rd => i.ok && decide (q < 16) && okGreg rd
  | .wait i on => i.ok && on.ok
  | .setrm i rm => i.ok && okRm rm
  | .halt i => i.ok
  | .scalarOperation i _ rd ra rb => i.ok && okGreg rd && okGreg ra && okGreg rb
  | .meshDeliver x y d vc f _ _ => okTile x y && okInput d && okVc vc && f.all Feed.ok
  | .meshMulticastDeliver x y d f _ _ => okTile x y && okInput d && f.all Feed.ok
  | .meshCreditReturn x y d vc => okTile x y && okInput d && okVc vc
  | .imageLoad | .imageActivate | .imageStop | .imageUnload => true
  | .imageLoadComplete k | .imageLaunch k | .serviceSwapDone k => okSlot k
  | .spareSelftestDone d _ | .substitutionComplete d => decide (d < 8)
  | .tableWrite | .tableRead | .tableDelete | .bankCopy | .bankCopyDone | .swapArm | .swapDisarm | .bankSwap | .bankWritable => true
  | .adaptEstimateUpdate | .queueSample => true
  | .shaperConfigWrite a _ => fits 28 a
  | .pfcThreshWrite d _ => decide (d < 8)
  | .syncPulse | .syncEpochWord _ | .syncPulseMissing | .ptpSyncTimeout | .syncOutPulse | .resync | .clrMax => true
  | .powerEvaluation w => fits 14 w
  | .sensorRead ds ks => ds.length == 20 && ks.length == 16
  | .mainRange v => fits 16 v
  | .auxLoss | .serviceImageRetry => true
  | .faultMessageTake d _ f => okDie d && (match f with | some x => Found.ok d x | none => true)
  | .verdictExpire | .logMirrorWrite | .firstFaultClear | .forceSafe => true
  | .fltAck q => fits 32 q
  | .isolationClear n => decide (n < 1024)
  | .temondCheckin | .firmwareHang | .aliveToggle => true
  | .watchdogFire n => decide (n < 1488)
  | .domainResetDone n => decide (n < 1497)
  | .domainGo n => fits 11 n
  | .suspectCleared | .warm | .cold | .resetNPulse | .resetNHeld | .crashDumpDone | .clearAll => true
  | .coldStart _ _ _ _ | .stagedCopyDone | .temondStart | .mainRailsGood | .fwdReady | .ready => true
  | .trainStageDone failed => failed.all okStack
  | .nvmRead | .eraseStaging | .nvmWrite | .copyFromRegion | .verify | .markPending | .activate | .cancel | .promote => true
  | .nvmCommandComplete _ | .liveActivation | .newTemondCheckin | .activeCopyDone => true
  | .pllUnlock d _ => decide (d < 20)
  | .trussLinkError d l _ => decide (d < 8 ∧ l < 4) || decide (8 ≤ d ∧ d < 12 ∧ l < 8)
  | .complexFail => true

end Sys2Proof
end

