-- ==== Sys2Proof/Safety.lean ====
section
/-!
DEFINITION. What claims about the block are stated in: the invariant every state of a run meets, a step that goes on, and the commands the
safe state stops.
-/

namespace Sys2Proof.Machine

/-- The invariant: HBM is in its canonical form, and no command's change of it is pending. -/
def State.Inv (s : State) : Prop := Memory.wf s.mem = true ∧ s.mops = []

/-- A step goes on: it ends in a next state, neither a fault nor a refusal. -/
def Goes (s : State) : Prop := ∃ t, step s = .next t

/-- A command goes on in a state. -/
def Completes (c : Instr) (s : State) : Prop := ∃ t, exec c s = .next t

/-- The parts of the state that a command of the datapath or the services never writes: the pins, the flash devices, what the power
controller keeps, the I3C target, and what the factory set. -/
def State.apart (s : State) : Pins × NvmSt × PowSt × I3cSt × Factory := (s.pins, s.nvm, s.pow, s.i3c, s.factory)

/-! ### Frames -/

/-- `t` with the queue, the factory's values and HBM of `s`: what a command that reaches `t` answers. -/
def State.kept (s t : State) : State := { t with pending := s.pending, factory := s.factory, mem := s.mem, mops := s.mops }

/-- `t` as a command that may write HBM leaves it: as `kept`, with the changes of HBM that `t` notes made. -/
def State.keptMem (s t : State) : State :=
  { t with pending := s.pending, factory := s.factory, mem := Memory.after s.mem t.mops, mops := s.mops }

/-- `s` as the body of such a command takes it: no change of HBM noted yet. -/
def State.fresh (s : State) : State := { s with mops := [] }

/-- Every register whose address is not listed keeps its stored word. -/
def State.regsBut (s t : State) (addrs : List Nat) : Prop := ∀ a, a ∉ addrs → t.regs.find? a = s.regs.find? a

/-- Every port but one keeps what it holds. -/
def State.portsBut (s t : State) (port : Nat) : Prop := ∀ q, q ≠ port → t.port q = s.port q

/-- Every hub die but one keeps what it holds. -/
def State.hubsBut (s t : State) (hub : Nat) : Prop := ∀ h, h ≠ hub → t.hub h = s.hub h

/-- Every context but one keeps what it holds. -/
def State.ctxsBut (s t : State) (ctx : Nat) : Prop := ∀ n, n ≠ ctx → t.svc.ctxs.find? n = s.svc.ctxs.find? n

/-- Every tile but one keeps what it holds. -/
def State.tilesBut (s t : State) (tile : Nat) : Prop := ∀ n, n ≠ tile → t.fab.tiles.find? n = s.fab.tiles.find? n

/-- Every byte of HBM outside [a, a + n) reads as before. -/
def State.bytesBut (s t : State) (a n : Nat) : Prop := ∀ x, x < a ∨ a + n ≤ x → Memory.byte t.mem x = Memory.byte s.mem x

/-- What a port's link does in one move of Table 15.3: the new state, entered now, and every other port as it was. -/
def State.linkMoves (s t : State) (port : Nat) (st : LinkState) : Prop :=
  t.linkState port = st ∧ (t.port port).link.since = s.local ∧ s.portsBut t port

/-! ### Tiles -/

/-- The issue of a micro-operation row; none for every other command. -/
def Instr.issue? : Instr → Option Issue
  | .cubeMm i _ _ _ _ _ _ _ _ _ _ _ _ => some i
  | .cubeLdc i _ _ _ => some i
  | .cubeStc i _ _ _ => some i
  | .vectorOperation i _ _ _ _ _ _ _ _ => some i
  | .laAdd i _ _ _ _ _ _ => some i
  | .laFin i _ _ _ _ _ _ _ _ _ _ _ => some i
  | .load i _ _ _ _ => some i
  | .store i _ _ _ _ => some i
  | .send i _ _ _ _ _ _ _ _ => some i
  | .recv i _ _ => some i
  | .wait i _ => some i
  | .setrm i _ => some i
  | .halt i => some i
  | .scalarOperation i _ _ _ _ => some i
  | _ => none

/-- A micro-operation of slot `k` may issue from its bundle on its tile, of the partition in image slot `n`: the tile runs and takes the bundle
next, which reads without error, lies in the image, and whose other slots wait for nothing (R236, R247 to R249). -/
def State.Issues (s : State) (i : Issue) (k n : Nat) (p : ImgSlot) : Prop :=
  i.x < 220 ∧ s.partOf i.tile = some (n, p) ∧ s.tileRuns i.tile n p = true ∧ (s.tile i.tile).expects i.bundle k = true
    ∧ i.fetch = .clean ∧ i.bundle < s.storeUsed p ∧ ((s.tile i.tile).holdsOf i []).all (s.holdMet i.tile) = true

/-! ### Families of commands -/

/-- The commands that may write HBM: those whose effect writes, zeroes or releases pages of it, or can free tokens and so admit an
optimizer context that waits, whose header takes its layout (R172, R420). -/
def Instr.writesHbm : Instr → Bool
  | .mirrorBlockWrite _ _ | .setup _ _ | .contextQuarantineEnd _ | .releaseReport _ | .stepAtHome _ _ | .updateUnitDone _ _
  | .poolAccessPerform _ _ _ | .pageZeroDone _ _ | .imageUnload | .powerEvaluation _ | .domainResetDone _ | .stackRetrainDone _ _
  | .trainStageDone _ | .newTemondCheckin | .serviceSwapDone _ | .domainGo _ | .faultMessageTake _ _ _ | .i3cWrite _ | .mgmtWrite _ _
  | .registerWrite _ _ _ | .selftestDone _ _ | .spareSelftestDone _ _ | .substitutionComplete _ | .suspectCleared | .watchdogFire _ => true
  | _ => false

/-- The commands of the datapath, the services, the images and the stacks that the safe state stops (R449). -/
def Instr.heldBySafe : Instr → Bool
  | .hubAdmit _ | .packetTailArrive _ _ _ | .transmitSelect _ | .hubReplicate _ _ | .bpmAlloc _ _ _ | .mirrorBlockWrite _ _
  | .setupAssemblyTimeout _ _ | .setupTablesWritten _ | .genReuseHoldEnd _ | .deferredSetupExpire _ | .contextDrainEnd _
  | .contextQuarantineEnd _ | .gatherContextStart _ | .contribTileArrival _ _ _ | .releaseReport _ | .grantDelayExpire _
  | .grantRepeat _ | .completeSend _ | .contextTimeout _ | .closureEnd _ | .abortAtHome _ _ | .resendHubCheck _ _ | .resendGo _
  | .resendDrop _ | .stepAtHome _ _ | .optimizerStateStaged _ _ _ | .updateUnitDone _ _ | .poolAccessPerform _ _ _
  | .orderedStreamExpire _ _ _ | .regionCreate | .regionDelete | .regionRekey | .regionGrow | .regionDrainEnd _ | .regionQuarantineEnd _
  | .pageZeroDone _ _ | .gatherLineRead _ _ _ _ | .gatherPlainResponse _ | .gatherSegmentReduce _ _ _ | .streamReadComplete _ _ _
  | .stackServe _ | .stackSelfRefreshEnter _ | .recalDue _ | .recalForced _ | .hbmScrubBurst _ _ | .tileScrubAccess _ _ _ _
  | .meshDeliver _ _ _ _ _ _ _ | .meshMulticastDeliver _ _ _ _ _ _ | .meshCreditReturn _ _ _ _ | .imageLoad | .imageLoadComplete _ | .imageActivate
  | .imageLaunch _ | .imageStop | .imageUnload | .spareSelftestDone _ _ | .substitutionComplete _ | .serviceImageRetry | .suspectCleared
  | .stackRetrainDone _ _ | .serviceSwapDone _ => true
  | _ => false

end Sys2Proof.Machine
end

