-- ==== Sys2Proof/Certificates/Slice0/Obligations.lean ====
section
/-!
DEFINITION. The statements for the provers, from the rules of spec/ each docstring names. Each holds of every state that meets its hypotheses; those that rest on a
choice of the model name its log entry.
-/

open Sys2Proof Sys2Proof.Machine

/-- A step runs the command at the front of the queue on the state with the queue's rest: `exec` says all it does. -/
def Obligations.StepRunsFrontCommand : Prop :=
  ∀ (s : State) (c : Instr) (rest : List Instr), s.pending = c :: rest → step s = exec c { s with pending := rest }

/-- Log entry 31 (how the model holds HBM): a step from a state whose HBM is in canonical form, with no change of it pending, goes to such a state. -/
def Obligations.InvariantKeptByEveryStep : Prop :=
  ∀ s t : State, s.Inv → step s = .next t → t.Inv

/-- The state after reset meets the invariant. -/
def Obligations.InvariantHoldsAtReset : Prop :=
 State.reset.Inv

/-- Every command goes on in every state; none touches the queue or what the factory set, and HBM is written by the twenty-five commands alone whose
effect writes, zeroes or releases its pages, or can admit a context that waits (R172, R193, R208, R332, R420,
R484). -/
def Obligations.CommandsKeepWhatIsNotTheirs : Prop :=
  ∀ (c : Instr) (s : State), ∃ t, exec c s = .next t ∧ t.pending = s.pending ∧ t.factory = s.factory ∧ t.mops = s.mops
    ∧ (Instr.writesHbm c = false → t.mem = s.mem) ∧ (Memory.wf s.mem = true → Memory.wf t.mem = true)

/-- R449: in the safe state no command of the datapath, the services, the images or the stacks has an effect. -/
def Obligations.SafeStateStopsTheDatapath : Prop :=
  ∀ (c : Instr) (s : State), Instr.heldBySafe c = true → s.flt.safe = true → exec c s = .next s

/-- R57 to R59, R62, R65, R66: a SUM or AVG accumulator's pattern and value, and a chunk's RESULT, are the same in every order in which the
contributions arrive. -/
def Obligations.SumsDoNotDependOnOrder : Prop :=
  (∀ (w : Window) (xs ys : List XVal), xs.Perm ys →
    let sum (l : List XVal) : Accum := l.foldl (fun a v => (Accum.add w a v).acc) Accum.zero
    (sum xs).pattern w = (sum ys).pattern w ∧ ∀ n, (sum xs).value w n = (sum ys).value w n)
  ∧ ∀ (x : CtxFix) (k : Nat) (sl : Slot) (p q : List Byte) (f : Fmt), Fmt.ofCode x.fmtIn = some f → x.op < 4 → x.func ≤ 1 →
    (decodePayload f p).length = (decodePayload f q).length →
    x.result k (x.addTo k (x.addTo k sl p) q) = x.result k (x.addTo k (x.addTo k sl q) p)

/-- R389, R392 and log entry 30 (the model's choice that an empty queue is one nanosecond): a step on an empty queue advances the local count by 1 and
the global count by 1, corrected by one nanosecond in 10,000 while LOCKED with an error to slew, and changes nothing else. R394: a valid epoch
word is held for the next pulse and reported, a bad one counted in TIM_ERR, and then none is held; a source emits once at every multiple of 2^20
counts a word that names the next multiple and passes its own check. -/
def Obligations.TimeAdvancesAndEpochWordsAreKept : Prop :=
  (∀ s : State, s.pending = [] →
     (s.islandsUp = false → step s = .next s)
     ∧ (s.islandsUp = true → ∃ n d : Int, step s = .next { s with time := { s.time with
           localNs := s.time.localNs + 1, count := (s.time.count + n).toNat % 2 ^ 64, slew := d } }
         ∧ 0 ≤ n ∧ n ≤ 2 ∧ d = s.time.slew - (n - 1)
         ∧ ((s.time.lock ≠ .locked ∨ s.time.slew = 0 ∨ (s.time.localNs + 1) % 10000 ≠ 0) → n = 1)
         ∧ (s.time.lock = .locked → (s.time.localNs + 1) % 10000 = 0 →
             (0 < s.time.slew → (s.time.count + 1) % 2 ^ 20 ≠ 0 → n = 2) ∧ (s.time.slew < 0 → n = 0))
         ∧ (s.time.slew ≠ 0 → d.natAbs ≤ s.time.slew.natAbs)))
  ∧ (∀ (s : State) (w : Word),
       (s.keys.timeSrc = 1 → epochOk w = true →
         exec (.syncEpochWord w) s = .next { s.setReg .timEpoch [] w.toNat with time := { s.time with word := some w } })
       ∧ (s.keys.timeSrc = 1 → epochOk w = false →
         exec (.syncEpochWord w) s = .next { s.bump .timErr [] 63 32 with time := { s.time with word := none } })
       ∧ (s.fld .timCfg [] 47 47 = 1 → s.now % 2 ^ 20 = 0 → s.pins.auxGood = true → s.time.outAt ≠ some s.now →
         epochOk (epochWord s.now) = true ∧ (epochWord s.now).field 63 20 = (s.now / 2 ^ 20 + 1) % 2 ^ 44
         ∧ exec .syncOutPulse s = .next { s with time := { s.time with
             outAt := some s.now, outLog := s.time.outLog ++ [(s.now, epochWord s.now)] } })
       ∧ (s.time.outAt = some s.now → exec .syncOutPulse s = .next s))

/-- R390 to R394 and Table 16.1: what a pulse that follows a valid epoch word does in each lock state; the launches that the step into LOCKED passes
are taken at it. Table 16.1: a missing pulse counts and leaves LOCKED for HOLDOVER, the fourth in a row for UNLOCKED, and ACQUIRING begins again
with the next; a device that follows PTP leaves LOCKED after 4 intervals without a Sync message and
HOLDOVER after 16. R384, R390 and Table 16.1: a PTP message on a port with PTP_EN is consumed and counted; a Sync message of the chosen master is
a comparison point of a device that follows PTP and no other. RESYNC permits a step while BEHIND, and CLR_MAX clears MAX_NS. -/
def Obligations.ComparisonsMoveTheLock : Prop :=
  (∀ (s : State) (w : Word), s.keys.timeSrc = 1 → s.time.word = some w →
     let value : Nat := w.field 63 20 * 2 ^ 20 + s.fld .timCfg [] 63 48
     let e : Int := value - s.time.count
     let passed := ({ s with time := { s.time with count := value } } : State).launchesDue
     ∃ t, exec .syncPulse s = .next t
       ∧ ((s.time.lock ≠ .acquiring ∨ passed = []) → t = { s with regs := t.regs, time := t.time, hubs := t.hubs }
           ∧ s.regsBut t [Reg.addr .timOffset [], Reg.addr .timStatus [], Reg.addr .timStep []])
       ∧ t.time.word = none
       ∧ t.fld .timOffset [] 63 32 = ofSigned 32 (clampNs e) % 2 ^ 32
       ∧ (s.time.lock = .unlocked → t.time.lock = .acquiring ∧ t.time.count = s.time.count ∧ t.hubs = s.hubs)
       ∧ (s.time.lock = .acquiring → s.time.prev.map (· + 1) = some (w.field 63 20) → s.time.behind = false → s.time.count ≤ value →
           t.time.lock = .locked ∧ t.time.count = value ∧ t.reg .timStep [] = ofSigned 64 e
           ∧ ∃ u : State, t = s.kept u.takeLaunches ∧ u = { s with regs := u.regs, time := u.time } ∧ u.launchesDue = passed)
       ∧ ((s.time.lock = .locked ∨ s.time.lock = .holdover) → e.natAbs ≤ 1000 →
           t.time.lock = .locked ∧ t.time.slew = e ∧ t.time.count = s.time.count ∧ t.hubs = s.hubs)
       ∧ ((s.time.lock = .locked ∨ s.time.lock = .holdover) → 1000 < e.natAbs →
           t.time.lock = .unlocked ∧ t.time.slew = 0 ∧ t.time.count = s.time.count ∧ t.hubs = s.hubs))
  ∧ (∀ (s : State) (p : Nat), s.time.lock = .acquiring → s.keys.timeSrc = 1 → s.time.pulseAt = some p → p + 2 ^ 20 < s.local →
       exec .syncPulseMissing s = .next { s with time := { s.time with pulseAt := some (p + 2 ^ 20), word := none, prev := none } })
  ∧ (∀ s : State, (s.time.lock = .locked ∨ s.time.lock = .holdover) →
       (∀ p, s.keys.timeSrc = 1 → s.time.pulseAt = some p → p + 2 ^ 20 < s.local →
         ∃ t, exec .syncPulseMissing s = .next t ∧ t = { s with regs := t.regs, time := t.time }
           ∧ s.regsBut t [Reg.addr .timErr [], Reg.addr .timStatus []]
           ∧ t.time.misses = s.time.misses + 1 ∧ t.time.pulseAt = some (p + 2 ^ 20) ∧ t.time.word = none ∧ t.time.count = s.time.count
           ∧ t.time.lock = (if 4 ≤ s.time.misses + 1 then .unlocked else .holdover))
       ∧ (∀ n, s.keys.timeSrc = 2 → n = (s.local - s.time.lastAt) / max s.ptpInterval 1 → s.time.misses < n →
         ∃ t, exec .ptpSyncTimeout s = .next t ∧ t = { s with regs := t.regs, time := t.time }
           ∧ s.regsBut t [Reg.addr .timErr [], Reg.addr .timStatus []]
           ∧ t.time.misses = n ∧ t.time.count = s.time.count
           ∧ t.time.lock = (if 16 ≤ n then .unlocked else if 4 ≤ n then .holdover else s.time.lock)))
  ∧ (∀ s : State,
       (∀ port f isSync fromMaster ns, s.linkUp port = true → s.flt.safe = false → s.takesPtp port f = true → f.fcsOk = true →
         64 ≤ f.len → f.len ≤ s.maxFrame port →
         let counted := (s.portCount port 0).portCount port 1 f.len
         (¬ (s.keys.timeSrc = 2 ∧ isSync = true ∧ fromMaster = true) → exec (.ptpMessage port f isSync fromMaster ns) s = .next counted)
         ∧ (s.keys.timeSrc = 2 → isSync = true → fromMaster = true → s.time.lock = .locked →
             ((ns : Int) - s.time.count).natAbs ≤ 1000 →
             ∃ t, exec (.ptpMessage port f isSync fromMaster ns) s = .next t ∧ t = { s with regs := t.regs, time := t.time }
               ∧ t.time = { s.time with lastAt := s.local, slew := ns - s.time.count, misses := 0 })
         ∧ (∀ b, s.keys.timeSrc = 2 → isSync = true → fromMaster = true → s.time.lock = .acquiring → s.time.base = some b →
             let e : Int := ns - s.time.count
             let n := if (e - b).natAbs ≤ 50 ∧ s.local < s.time.lastAt + 2 * s.ptpInterval then s.time.good + 1 else 0
             n < 16 → ∃ t, exec (.ptpMessage port f isSync fromMaster ns) s = .next t ∧ t = { s with regs := t.regs, time := t.time }
               ∧ t.time = { s.time with lastAt := s.local, base := some e, good := n }))
       ∧ (s.islandsUp = true → s.time.behind = true → exec .resync s = .next { s with time := { s.time with resync := true } })
       ∧ (s.islandsUp = true → ∃ t, exec .clrMax s = .next t ∧ t = { s with regs := t.regs } ∧ s.regsBut t [Reg.addr .timOffset []]
           ∧ t.fld .timOffset [] 31 0 = 0 ∧ t.fld .timOffset [] 63 32 = s.fld .timOffset [] 63 32))

/-- R366 and Table 15.3: the moves from DISABLED to HOLD, each with the condition the table gives; nothing but the port changes. -/
def Obligations.LinkStartMoves : Prop :=
  ∀ (s : State) (p : Nat),
    let restart : LinkState := if s.fld .prtPortCfg (portIdx p) 31 31 = 1 then .an else .training
    (s.isPort p = true → s.linkState p = .disabled → s.fld .prtPortCtl (portIdx p) 63 63 = 0 → s.pins.pwrGood = true →
        s.flt.safe = false → s.portHeld p = false →
      ∃ t, exec (.linkEnable p) s = .next t ∧ t = { s with ports := t.ports } ∧ s.linkMoves t p restart)
    ∧ (∀ able, s.linkState p = .an →
      ∃ t, exec (.anComplete p able) s = .next t ∧ t = { s with ports := t.ports } ∧ s.linkMoves t p (if able then .training else .an))
    ∧ (s.linkState p = .training →
      ∃ t, exec (.trainingComplete p) s = .next t ∧ t = { s with ports := t.ports } ∧ s.linkMoves t p .align)
    ∧ (∀ failed, s.linkState p = .training → (s.port p).link.since + 1000000000 ≤ s.local →
      ∃ t, exec (.trainingTimeout p failed) s = .next t ∧ t = { s with ports := t.ports, regs := t.regs, flt := t.flt } ∧ s.linkMoves t p restart
        ∧ (failed = 0 → t = { s with ports := t.ports })
        ∧ ∀ i, i < s.lanes p → failed / 2 ^ i % 2 = 1 → (s.port p).trainFails.get i 0 < 2 →
            (t.port p).trainFails.get i 0 = (s.port p).trainFails.get i 0 + 1)
    ∧ (s.linkState p = .align →
      ∃ t, exec (.laneAligned p) s = .next t ∧ t = { s with ports := t.ports } ∧ s.linkMoves t p .hold)

/-- R366, Table 15.3 and Table 15.7: HOLD ends in UP after 10 ms without a fault, and liveness is reported; a fault restarts HOLD; a fault that clears
within 50 ms returns to HOLD, and a longer one restarts the port; ADMIN_DOWN and RETRAIN act on a port that is not UP on the port and its setting
alone. R321, R366 and R372: a port that leaves UP reports it, ends negotiation, holds no frame for replay, and no hub die keeps a packet queued
for it; every other part of the state than the switch's is untouched. -/
def Obligations.LinkFaultsAndLoss : Prop :=
  (∀ (s : State) (p : Nat),
     let restart : LinkState := if s.fld .prtPortCfg (portIdx p) 31 31 = 1 then .an else .training
     let l := (s.port p).link
     (l.state = .hold → l.since + 10000000 ≤ s.local → l.lf = false → l.rf = false → l.laneHold = false →
       ∃ t, exec (.holdExpire p) s = .next t ∧ s.linkMoves t p .up
         ∧ t = { s with ports := t.ports, fwd := { s.fwd with reports := s.fwd.reports ++ [(p, true, s.local + 1000)] } }
         ∧ (t.port p).link.retryOwn = s.fld .prtPortCtl (portIdx p) 45 38 ∧ (t.port p).link.creditOwn = s.fld .prtPortCtl (portIdx p) 37 30)
     ∧ (∀ lf rf, s.isPort p = true → l.state = .hold →
       ∃ t, exec (.linkFault p lf rf) s = .next t ∧ t = { s with ports := t.ports } ∧ s.linkMoves t p .hold
         ∧ (t.port p).link.lf = (l.lf || lf) ∧ (t.port p).link.rf = (l.rf || rf))
     ∧ (s.isPort p = true → l.state = .fault → l.retryFail = false → s.local < l.since + 50000000 →
       ∃ t, exec (.linkFaultClear p) s = .next t ∧ t = { s with ports := t.ports } ∧ s.linkMoves t p .hold
         ∧ (t.port p).link.lf = false ∧ (t.port p).link.rf = false)
     ∧ (l.state = .fault → (l.retryFail = true ∨ l.since + 50000000 ≤ s.local) →
       ∃ t, exec (.linkFaultTimeout p) s = .next t ∧ t = { s with ports := t.ports } ∧ s.linkMoves t p restart)
     ∧ (s.islandsUp = true → s.pins.pwrGood = true → s.isPort p = true → l.state ≠ .up →
       ∃ t, exec (.adminDown p) s = .next t ∧ t = { s with regs := t.regs, ports := t.ports } ∧ s.linkMoves t p .disabled
         ∧ s.regsBut t [Reg.addr .prtPortCtl (portIdx p)] ∧ t.fld .prtPortCtl (portIdx p) 63 63 = 1)
     ∧ (s.islandsUp = true → s.pins.pwrGood = true → l.state = .fault →
       ∃ t, exec (.retrain p) s = .next t ∧ t = { s with ports := t.ports } ∧ s.linkMoves t p restart))
  ∧ (∀ (s : State) (p : Nat) (c : Instr) (st : LinkState), s.isPort p = true → s.linkState p = .up → s.islandsUp = true → s.pins.pwrGood = true →
       ((∃ lf rf, c = .linkFault p lf rf ∧ st = .fault) ∨ (c = .adminDown p ∧ st = .disabled) ∨ (c = .retrain p ∧ st = s.anState p)) →
       ∃ t, exec c s = .next t ∧ t.linkState p = st ∧ (t.port p).link.negotiated = false ∧ (t.port p).rtx = []
         ∧ t.fwd = { s.fwd with reports := s.fwd.reports ++ [(p, false, s.local + 1000)] }
         ∧ (∀ h, h < 4 → ∀ q ∈ (t.hub h).queue, q.port ≠ p)
         ∧ t = { s with regs := t.regs, ports := t.ports, hubs := t.hubs, bpm := t.bpm, mirror := t.mirror, flt := t.flt, fwd := t.fwd
                        sent := t.sent })

/-- R286, R288: a report of liveness is used by lookups from 1 µs on; every 512 ns each port die's copy of the depths is the cells queued for a port
and class. R372: HELLO names the classes of both sides; a HELLO that is received ends negotiation with the classes both retry; 1 ms in UP without
one ends it with none. -/
def Obligations.LookupCopiesAndNegotiation : Prop :=
  (∀ s : State,
     (∀ p r, s.fwd.reports.find? (fun r => r.1 == p && decide (r.2.2 ≤ s.local)) = some r →
       exec (.livenessUpdate p) s = .next { s with fwd := { s.fwd with live := s.fwd.live.set p r.2.1, reports := s.fwd.reports.erase r } })
     ∧ (s.fwd.estAt + 512 ≤ s.local → (∀ k ∈ s.ports.keys, k < 768) →
       ∃ t, exec .adaptEstimateUpdate s = .next t
         ∧ t = { s with fwd := { s.fwd with estAt := s.local, qEst := t.fwd.qEst, dEst := t.fwd.dEst } }
         ∧ ∀ die p c, die < 8 → p ∈ s.ports.keys → c < 8 →
           t.fwd.qEst.get ((die * 768 + p) * 8 + c) 0 = ((s.classQueue p c).map QItem.cells).sum
           ∧ t.fwd.dEst.get ((die * 768 + p) * 8 + c) 0 = min ((s.port p).sched.delay.get c 0 / 16) 65535))
  ∧ (∀ (s : State) (p : Nat),
       let l := (s.port p).link
       (l.state = .up → (l.helloAt = none ∨ ∃ a, l.helloAt = some a ∧ a + 10000 ≤ s.local) → l.helloGot = false →
         ∃ t, exec (.helloSend p) s = .next t ∧ t = { s with ports := t.ports } ∧ s.portsBut t p
           ∧ (t.port p).link = { l with helloAt := some s.local, helloMore := 0 }
           ∧ (t.port p).localTx = (s.port p).localTx ++ [⟨s.linkFrame p tLINK_RETRY 0
               [2 ^ 56 + l.retryOwn * 2 ^ 48 + l.creditOwn * 2 ^ 40, s.lanes p * 32 * 2 ^ 48], .plain⟩])
       ∧ (∀ f h k u, s.header? f = some h → h.typ = tLINK_RETRY → (h.word 0).field 63 56 = 1 → s.receive p f = .linkLocal k u → k.len = 16 →
           (u.port p).link.negotiated = false →
         ∃ t, exec (.hello p f) s = .next t ∧ (t.port p).link = { (u.port p).link with
             helloGot := true, negotiated := true, creditTx := (k.word 0).field 47 40, creditRx := (u.port p).link.creditOwn
             helloMore := if (u.port p).link.helloGot then (u.port p).link.helloMore else 2, peerRbuf := (k.word 1).field 63 48
             retryAct := Nat.land (u.port p).link.retryOwn ((k.word 0).field 55 48) })
       ∧ (l.state = .up → l.negotiated = false → l.since + 1000000 ≤ s.local →
         exec (.negotiationTimeout p) s = .next (s.setLink p { l with negotiated := true, retryAct := 0, creditRx := 0, creditTx := 0 })))

/-- R375 to R378: a LINK_CREDIT received sets its class's limit; one is sent, when it is due, with LIMIT = window + released modulo 2^32. R379 to
R382: an ACK frees the frames before its LSEQ; a NAK replays from its LSEQ; an ACK is sent when it is due, a NAK again after 4 µs without the
REPLAY, and a REPLAY with the expected sequence ends the wait. -/
def Obligations.CreditAndRetryRunPerClass : Prop :=
  (∀ (s : State) (p : Nat),
     (∀ f h k u, s.header? f = some h → h.typ = tLINK_CREDIT → s.receive p f = .linkLocal k u → k.len = 8 →
       let v := u.qftCount p 0
       let q := v.port p
       exec (.linkCredit p f) s = .next (s.kept (v.setPort p { q with
         ctx := q.ctx.set k.cls { q.ctx.get k.cls {} with limit := some ((k.word 0).field 63 32) } })))
     ∧ (∀ c, s.linkUp p = true → (s.port p).link.creditRx / 2 ^ c % 2 = 1 → ((s.port p).crx.get c {}).due s.local = true →
       let r := (s.port p).crx.get c {}
       ∃ t, exec (.creditUpdateSend p c) s = .next t ∧ t = { s with ports := t.ports } ∧ s.portsBut t p
         ∧ (t.port p).crx.get c {} = { r with sentRel := some r.released, sentAt := s.local, grewAt := none }
         ∧ (t.port p).localTx = (s.port p).localTx
             ++ [⟨s.linkFrame p tLINK_CREDIT c [(r.window + r.released) % 2 ^ 32 * 2 ^ 32], .plain⟩]))
  ∧ (∀ (s : State) (p : Nat),
       (∀ f h k u, s.header? f = some h → h.typ = tLINK_RETRY → (h.word 0).field 63 56 = 2 → s.receive p f = .linkLocal k u → k.len = 16 →
         let v := u.qftCount p 0
         let r := (v.port p).rtx.get k.cls {}
         let lseq := (k.word 0).field 31 0
         v.retryOn p k.cls = true → r.accounts lseq = true →
           ∃ t, exec (.ack p f) s = .next t ∧ t = s.kept { v with ports := t.ports } ∧ v.portsBut t p
             ∧ ((t.port p).rtx.get k.cls {}).held = (r.freeBelow lseq).held ∧ ((t.port p).rtx.get k.cls {}).nextSeq = r.nextSeq)
       ∧ (∀ f h k u, s.header? f = some h → h.typ = tLINK_RETRY → (h.word 0).field 63 56 = 3 → s.receive p f = .linkLocal k u → k.len = 16 →
         let v := u.qftCount p 0
         let r := (v.port p).rtx.get k.cls {}
         let lseq := (k.word 0).field 31 0
         v.retryOn p k.cls = true → r.accounts lseq = true → r.naks + 1 < 16 → r.replayed = none →
           ∃ t, exec (.nak p f) s = .next t
             ∧ (t.port p).rtx.get k.cls {} = { r with naks := r.naks + 1 }
             ∧ (t.port p).localTx = (v.port p).localTx.filter (fun x => !x.replays k.cls)
                 ++ [⟨v.linkFrame p tLINK_RETRY k.cls [4 * 2 ^ 56 + lseq % 2 ^ 32, 0], .replay k.cls lseq⟩]
             ∧ (t.port p).replays = (v.port p).replays.filter (fun e => e.1 != k.cls)
                 ++ (if (r.freeBelow lseq).held.isEmpty then [] else [(k.cls, (r.freeBelow lseq).held.map Prod.snd)]))
       ∧ (∀ c, let r := (s.port p).rrx.get c {}
         s.retryOn p c = true → 0 < r.unacked → (64 ≤ r.unacked ∨ ∃ d, r.ackDueAt = some d ∧ d ≤ s.local) →
           exec (.retryAckSend p c) s = .next ((s.setPort p { s.port p with
             rrx := (s.port p).rrx.set c { r with unacked := 0, ackDueAt := none } }).sendRetry p 2 c r.expected))
       ∧ (∀ c d, ((s.port p).rrx.get c {}).waiting = some d → s.retryOn p c = true → d + 4000 ≤ s.local →
           exec (.nakResendTimer p c) s = .next (s.nakClass p c))
       ∧ (∀ f h k u, s.header? f = some h → h.typ = tLINK_RETRY → (h.word 0).field 63 56 = 4 → s.receive p f = .linkLocal k u → k.len = 16 →
         let v := u.qftCount p 0
         let r := (v.port p).rrx.get k.cls {}
         v.retryOn p k.cls = true → r.waiting.isSome = true → (k.word 0).field 31 0 = r.expected →
           exec (.replay p f) s = .next (s.kept (v.setPort p { v.port p with rrx := (v.port p).rrx.set k.cls { r with waiting := none } }))))

/-- R370, R371: a PFC frame pauses each priority it enables and the port honours for its time in quanta, or releases it; a pause ends at its time; a
paused peer's XOFF is sent again, for the priorities it named, when half its time has passed. R371, R388: a write of PRT_PFC_THRESH with XON_CELLS non-zero and below XOFF_CELLS
is ignored; any other is stored, and the ports of the die compare with it at once. -/
def Obligations.PfcPausesAndThresholdsAgree : Prop :=
  (∀ (s : State) (p : Nat),
     let rx := s.fld .prtPortCtl (portIdx p) 61 54
     (∀ enable times, s.linkUp p = true →
       ∃ t, exec (.pfcFrameReceive p enable times) s = .next t ∧ t = { s with regs := t.regs, ports := t.ports } ∧ s.portsBut t p
         ∧ s.regsBut t [Reg.addr .prtCnt (portIdx p ++ [0]), Reg.addr .prtCnt (portIdx p ++ [1]), Reg.addr .prtCnt (portIdx p ++ [10])]
         ∧ (t.port p).link = (s.port p).link
         ∧ ∀ i, i < 8 → (t.port p).sched.paused.find? i =
             (if enable / 2 ^ i % 2 = 1 ∧ rx / 2 ^ i % 2 = 1 then
               (if nth times i % 65536 = 0 then none else some (s.local + s.quantaNs p (nth times i % 65536)))
              else (s.port p).sched.paused.find? i))
     ∧ (∀ i e, (s.port p).sched.paused.find? i = some e → e ≤ s.local →
       exec (.pfcPauseExpire p i) s = .next (s.setPort p { s.port p with sched := { (s.port p).sched with
         paused := (s.port p).sched.paused.erase i } }))
     ∧ (∀ a, (s.port p).sched.xoffAt = some a → a + s.quantaNs p 0xFFFF / 2 ≤ s.local → s.linkUp p = true →
       exec (.pfcXoffRepeat p) s = .next ((s.setPort p { s.port p with sched := { (s.port p).sched with xoffAt := some s.local } }).pushLocal p
         (s.pfcFrame p (s.port p).sched.xoffMask 0xFFFF) (.counted 11))))
  ∧ (∀ (s : State) (d : Nat) (v : Word), s.islandsUp = true → s.pins.pwrGood = true → d < 8 →
       let xoff := v.toNat / 2 ^ 45 % 2 ^ 19
       let xon := v.toNat / 2 ^ 26 % 2 ^ 19
       (0 < xon → xon < xoff → exec (.pfcThreshWrite d v) s = .next s)
       ∧ ((xon = 0 ∨ xoff ≤ xon) → exec (.pfcThreshWrite d v) s = .next ((s.setReg .prtPfcThresh [d]
           (applyWrite Reg.prtPfcThresh.fields (s.reg .prtPfcThresh [d]) v.toNat)).pfcWatch (d % 4))))

/-- R309 to R313, R317, R339: the next arrival of a hub die enters its queue with the charges of R312 and is counted, or is turned away; a whole
packet with a good tail may leave, one with a bad tail is discarded, or noted where it cuts through; R373, R381: a link-local frame goes out before
any packet, then the frames of a replay, else the scheduler serves. R26, R312: the next packet that left the mesh at a hub die is replicated, and each
recipient's copy is admitted there. -/
def Obligations.PacketsEnterAndLeaveTheHub : Prop :=
  ∀ s : State, s.flt.safe = false →
    (∀ h a, s.nextArrival h = some a → a.copies = [] →
      let u := (s.setHub h { s.hub h with arrive := (s.hub h).arrive.erase a }).drain h
      let q := { a.item with cut := a.cut }
      u.linkUp q.port = true → (q.tail = .none ∨ q.cut = true) →
        (∀ c v, u.admission h q = some (c, v) →
          exec (.hubAdmit h) s = .next (s.kept (((v.enqueue h q c).bufCount h q.cls 0).pfcWatch h)))
        ∧ (u.admission h q = none →
          exec (.hubAdmit h) s = .next (s.kept (u.turnAway h q (if q.inPort = 0x3FF then 2 else 1) 3))))
    ∧ (∀ h id tail q, (s.hub h).queue.filter (QItem.named id) = [q] → q.started = false →
        ((q.tailOf tail = .none ∨ q.cut = true) →
          exec (.packetTailArrive h id tail) s = .next (s.kept ((s.cellFault h q tail).setHub h { s.hub h with
            queue := (s.hub h).queue.map fun x => if x.id == q.id then { x with whole := true, tail := q.tailOf tail } else x })))
        ∧ (q.tailOf tail ≠ .none → q.cut = false → h < 4 → q.cls < 8 → ∃ t, exec (.packetTailArrive h id tail) s = .next t
            ∧ (t.hub h).queue = recharge q.port q.cls (s.fld .hubBufClass [h, q.cls] 63 54) ((s.hub h).queue.filter (fun x => x.id != q.id))
            ∧ t.sent = s.sent))
    ∧ (∀ p x rest, s.portFree p = true → (s.port p).localTx = x :: rest →
      ∃ t, exec (.transmitSelect p) s = .next t ∧ t = { s with regs := t.regs, ports := t.ports, sent := t.sent } ∧ s.portsBut t p
        ∧ t.sent = s.sent ++ [(p, x.frame)] ∧ (t.port p).localTx = rest ∧ (t.port p).sched.busyTo = s.local + s.txTime p x.frame.len)
    ∧ (∀ p c f fs rest, s.portFree p = true → (s.port p).localTx = [] → (s.port p).replays = (c, f :: fs) :: rest →
      ∃ t, exec (.transmitSelect p) s = .next t ∧ t = { s with regs := t.regs, ports := t.ports, sent := t.sent } ∧ s.portsBut t p
        ∧ t.sent = s.sent ++ [(p, f)] ∧ (t.port p).replays = (if fs.isEmpty then rest else (c, fs) :: rest)
        ∧ (t.port p).rtx = (s.port p).rtx ∧ (t.port p).sched.busyTo = s.local + s.txTime p f.len)
    ∧ (∀ p, s.portFree p = true → (s.port p).localTx = [] → (s.port p).replays = [] →
      let n := (List.range 4).foldl (fun n h => n + (s.hub h).queue.length) 0
      exec (.transmitSelect p) s = .next (s.kept
        (((List.range 8).foldl (fun (s : State) c => s.creditWait p c) (s.dropOversize p n)).serve p (n + 1))))
    ∧ (∀ h ties m rest, (s.hub h).meshOut = m :: rest →
      let r := (((s.setHub h { s.hub h with meshOut := rest }).tieCount m.ctx ties).drain h).copies h m
      let u : State := { r.2 with nextId := r.2.nextId + 1 }
      (r.1 = [] → exec (.hubReplicate h ties) s = .next (s.kept r.2))
      ∧ (∀ q, r.1 = [q] → exec (.hubReplicate h ties) s = .next (s.kept (u.admitItem h q).2))
      ∧ (∀ q q' qs, r.1 = q :: q' :: qs → exec (.hubReplicate h ties) s = .next (s.kept (u.admitCopies h r.2.nextId r.1))))

/-- R348: an arm of a list that is not armed is checked for an entry of no duration, a cycle above 2^34 ns, and a launch count not in the future, in
this order; a refused arm changes nothing but LAST_STATUS (Table 14.4); else the list is armed. -/
def Obligations.GateArmIsChecked : Prop :=
  ∀ (s : State) (p : Nat), s.islandsUp = true → s.pins.pwrGood = true → s.isPort p = true → (s.port p).gate.armed = false →
    let g := (s.port p).gate
    let actAt := s.reg .gateActAt [p]
    let answer (g' : Gate) : Out := .next (s.setPort p { s.port p with gate := g' })
    ((∃ i, i < min g.wait.n 1024 ∧ (g.wait.entryAt i).2 = 0) → exec (.gateArm p) s = answer { g with status := stBADDESC })
    ∧ ((∀ i, i < min g.wait.n 1024 → (g.wait.entryAt i).2 ≠ 0) →
        (2 ^ 34 < g.wait.cycleField → exec (.gateArm p) s = answer { g with status := stBADDESC })
        ∧ (g.wait.cycleField ≤ 2 ^ 34 → actAt ≤ s.now → exec (.gateArm p) s = answer { g with status := stRANGE })
        ∧ (g.wait.cycleField ≤ 2 ^ 34 → s.now < actAt →
            exec (.gateArm p) s = answer { g with armed := true, actAt := actAt, status := stOK }))

/-- R347, R350: an armed list starts at the end of the running list's cycle in progress at ACT_AT, or at ACT_AT when there is none, and the lists
change places; DISARM cancels an arm; the gates in force are those of the entry that the place in the cycle falls in. -/
def Obligations.GateListsChangePlaces : Prop :=
  ∀ (s : State) (p : Nat), s.isPort p = true →
    let g := (s.port p).gate
    (s.islandsUp = true → s.pins.pwrGood = true → g.armed = true →
      exec (.gateDisarm p) s = .next (s.setPort p { s.port p with gate := { g with armed := false } }))
    ∧ (∀ b, g.armed = true → b ≤ s.now →
        ((g.run.cycle = 0 ∧ b = g.actAt) ∨ (0 < g.run.cycle ∧ g.b0 ≤ g.actAt ∧ g.actAt < b ∧ b ≤ g.actAt + g.run.cycle
          ∧ (b - g.b0) % g.run.cycle = 0)) →
      ∃ t, exec (.gateListStart p) s = .next t ∧ t = { s with regs := t.regs, ports := t.ports } ∧ s.portsBut t p
        ∧ s.regsBut t [Reg.addr .gateCnt [p]] ∧ t.fld .gateCnt [p] 31 0 = (s.fld .gateCnt [p] 31 0 + 1) % 2 ^ 32
        ∧ (t.port p).gate.run = g.wait ∧ (t.port p).gate.wait = g.run ∧ (t.port p).gate.b0 = b ∧ (t.port p).gate.armed = false)
    ∧ (∀ i mask left, g.run.cycle ≠ 0 → g.b0 ≤ s.now → spanAt g.run.span ((s.now - g.b0) % g.run.cycle) = some (i, mask, left) →
      exec (.gateEntryChange p) s = .next (s.setPort p { s.port p with gate := { g with entry := i, mask := mask } }))

/-- R342, R343: a write of an enabled shaper's word at an unchanged mode first grows the level at the old rate and then cuts it to the new BURST,
keeping a debt; CLEAR forgives the debt; a debt that has grown back to 0 is taken up. R355 and Table 14.6: at a multiple of the period every queue
of every port is sampled, its depth in units of 32 cells and its head's delay in units of 64 ns; a clear sets the maxima to all ones and empties
the histograms. -/
def Obligations.ShapersAndSamplers : Prop :=
  (∀ (s : State) (p : Nat), s.isPort p = true → s.islandsUp = true → s.pins.pwrGood = true →
     let a := Reg.addr .schPortShape [p]
     let old := meterCfg (s.regs.get a 0)
     let now := (s.meters.get a {}).grow old 1 s.local
     old.enable = true →
     (exec (.shaperClear p none) s = .next { s with meters := s.meters.set a { now with level := max now.level 0 } })
     ∧ (∀ v : Word, p < 768 → (meterCfg v.toNat).enable = true → (meterCfg v.toNat).mode = old.mode → v.toNat / 2 ^ 61 % 2 = 0 →
       ∃ t, exec (.shaperConfigWrite a v) s = .next t ∧ t = { s with regs := t.regs, meters := t.meters } ∧ s.regsBut t [a]
         ∧ (t.meters.get a {}).level = min now.level (256 * (meterCfg v.toNat).burst : Nat) ∧ (t.meters.get a {}).at_ = s.local
         ∧ ∀ b, b ≠ a → t.meters.find? b = s.meters.find? b)
     ∧ ((s.meters.get a {}).level < 0 → 0 ≤ now.level →
       exec (.shaperDebtEnd p none) s = .next { s with meters := s.meters.set a now }))
  ∧ (∀ s : State,
       (s.now % (s.samplePeriod * 1000) = 0 → s.fwd.sampledAt ≠ some s.now →
         ∃ t, exec .queueSample s = .next t ∧ t = { s with regs := t.regs, fwd := { s.fwd with sampledAt := some s.now } }
           ∧ ∀ p c, s.isPort p = true → c < 8 →
             t.fld .smpLast [8 * p + c] 63 48 = (fullCharge (s.classQueue p c) + ((s.classQueue p c).map QItem.hdrmC).sum) / 32 % 2 ^ 16
             ∧ (∀ q, (List.range 4).findSome? (fun i => ((s.hub (((s.port p).sched.hubTurn.get c 0 + i) % 4)).sel p c).find?
                 fun q => !q.started) = some q → t.fld .smpLast [8 * p + c] 47 32 = min ((s.local - q.enqAt) / 64) 0xFFFE)
             ∧ t.fld .smpLast [8 * p + c] 31 0 = min (s.fld .smpLast [8 * p + c] 31 0 + 1) (2 ^ 32 - 1))
       ∧ (∀ p c, s.isPort p = true → c < 8 → s.islandsUp = true → s.pins.pwrGood = true →
         ∃ t, exec (.samplerClear p c) s = .next t ∧ t = { s with regs := t.regs }
           ∧ t.fld .smpMax [8 * p + c] 63 48 = 0xFFFF ∧ t.fld .smpMax [8 * p + c] 47 32 = 0xFFFF
           ∧ ∀ k, k < 8 → t.reg .smpDhist [8 * p + c, k] = 0 ∧ t.reg .smpThist [8 * p + c, k] = 0))

/-- R323, R324, R327: ALLOC makes the free buffer with the lowest index HELD by its owner (pools other than the cell pools), or finds none and is
counted; SHARE by the holder makes a buffer SHARED; the last free buffer goes to one of two requesters. R325 and R326: what a RELEASE does to a
FREE, a HELD and a SHARED buffer; a refused one changes no buffer, counts, and is kept in BPM_ERR_FIRST until that is cleared. A cell of a row
under test or isolated is not asked about here (Tables 18.6 and 18.7). -/
def Obligations.BuffersAreGrantedAndReleased : Prop :=
  (∀ (s : State) (p : Nat), s.flt.safe = false → 4 ≤ p →
     let q := s.pool p
     q.bufs.keys.Pairwise (· < ·) →
     (∀ owner i, i < q.cap → q.bufs.find? i = none → (∀ j, j < i → q.bufs.find? j ≠ none) →
       ∃ t, exec (.bpmAlloc p owner none) s = .next t ∧ t = { s with bpm := t.bpm } ∧ (∀ x, x ≠ p → t.pool x = s.pool x)
         ∧ (t.pool p).bufs = q.bufs.set i (.held owner) ∧ (t.pool p).cap = q.cap)
     ∧ (∀ owner, (∀ j, j < q.cap → q.bufs.find? j ≠ none) → exec (.bpmAlloc p owner none) s = .next (s.bump .bpmStat [p] 63 32))
     ∧ (∀ a b i, q.freeCount = 1 → i < q.cap → q.bufs.find? i = none → (∀ j, j < i → q.bufs.find? j ≠ none) →
       ∃ t, exec (.bpmAlloc p a (some b)) s = .next t ∧ t = { s with bpm := t.bpm, regs := t.regs } ∧ s.regsBut t [Reg.addr .bpmStat [p]]
         ∧ ((t.pool p).bufs = q.bufs.set i (.held a) ∨ (t.pool p).bufs = q.bufs.set i (.held b)))
     ∧ (∀ i owner n tag last, q.bufs.find? i = some (.held owner) → 2 ≤ n → n ≤ 65535 →
       exec (.bpmShare p i owner n tag last) s = .next (s.setPool p { q with bufs := q.bufs.set i (.shared n tag last false) })))
  ∧ (∀ (s : State) (p i owner tag : Nat),
       let q := s.pool p
       (q.bufs.find? i = some (.held owner) → s.rowOut p i = false →
         exec (.bpmRelease p i owner tag) s = .next (s.setPool p { q with bufs := q.bufs.erase i }))
       ∧ (∀ n last lr, q.bufs.find? i = some (.shared n tag last lr) → 2 ≤ n → ¬ (owner = last ∧ lr = true) →
         exec (.bpmRelease p i owner tag) s
           = .next (s.setPool p { q with bufs := q.bufs.set i (.shared (n - 1) tag last (lr || decide (owner = last))) }))
       ∧ (∀ last lr, q.bufs.find? i = some (.shared 1 tag last lr) → ¬ (owner = last ∧ lr = true) → (lr = true ∨ owner = last) →
           s.rowOut p i = false →
         exec (.bpmRelease p i owner tag) s = .next (s.setPool p { q with bufs := q.bufs.erase i }))
       ∧ (∀ kind hi lo,
           ((kind = 1 ∧ hi = 63 ∧ lo = 32 ∧ q.bufs.find? i = none)
             ∨ (kind = 2 ∧ hi = 31 ∧ lo = 16 ∧ (∃ o, q.bufs.find? i = some (.held o) ∧ o ≠ owner))
             ∨ (kind = 2 ∧ hi = 31 ∧ lo = 16 ∧ (∃ n g last lr, q.bufs.find? i = some (.shared n g last lr) ∧ g ≠ tag))
             ∨ (kind = 3 ∧ hi = 15 ∧ lo = 0 ∧ (∃ n, q.bufs.find? i = some (.shared n tag owner true)))
             ∨ (kind = 3 ∧ hi = 15 ∧ lo = 0 ∧ (∃ last, q.bufs.find? i = some (.shared 1 tag last false) ∧ owner ≠ last))) →
         ∃ t, exec (.bpmRelease p i owner tag) s = .next t ∧ t = { s with regs := t.regs, flt := t.flt }
           ∧ t.fld .bpmErr [p] hi lo = min (s.fld .bpmErr [p] hi lo + 1) (2 ^ (hi + 1 - lo) - 1)
           ∧ (s.fld .bpmErrFirst [] 63 63 = 1 → t.reg .bpmErrFirst [] = s.reg .bpmErrFirst [])
           ∧ (s.fld .bpmErrFirst [] 63 63 = 0 → t.reg .bpmErrFirst [] =
               2 ^ 63 + kind * 2 ^ 60 + p % 32 * 2 ^ 55 + i % 2 ^ 23 * 2 ^ 32 + owner % 65536 * 65536))
       ∧ (s.islandsUp = true → s.pins.pwrGood = true → exec .bpmErrFirstClear s = .next (s.setReg .bpmErrFirst [] 0)))

/-- R9, R518: what an address names lies at that address, as an instance the register's table has, and at a multiple of 8; an address from 0x1000_0000
upward names none. -/
def Obligations.AddressesNameWhatLiesThere : Prop :=
  (∀ a r is, locate a = some (r, is) →
      r.addr is = a ∧ a % 8 = 0 ∧ is.length = r.place.dims.length ∧ ∀ d ∈ r.place.dims.zip is, d.2 < d.1.2)
  ∧ (∀ a, 0x10000000 ≤ a → locate a = none)

/-- R519: an aligned 64-bit access at an address that names no register completes: a read returns 0, a write is ignored, and nothing is counted. The
read is stated through I3C, which changes no more than its own buffer (and the model's counter of free values). R9: an access that is narrower
than 64 bits or misaligned is counted and otherwise without effect, and a read of that kind returns all ones; the same on a write. -/
def Obligations.AccessesWithoutARegister : Prop :=
  (∀ (s : State) (a : Nat), a % 8 = 0 → locate a = none →
     s.readAddr a = 0
     ∧ (∀ v, exec (.registerWrite a 8 v) s = .next s)
     ∧ (∀ bs, bs.length = 7 → byteAt bs 0 = 1 → i3cAddr bs = a → s.islandsUp = true →
         exec (.i3cRead bs) s = .next { s with free := s.free + 1, i3c := { addr := some a, out := List.replicate 8 0 } }))
  ∧ (∀ (s : State) (a size : Nat), s.islandsUp = true → (size ≠ 8 ∨ a % 8 ≠ 0) →
       exec (.badRegisterAccess a size true) s = .next (s.bump .fltMgmtBadacc [] 63 0)
       ∧ exec (.badRegisterAccess a size false) s = .next { s.bump .fltMgmtBadacc [] 63 0 with busRead := some 0xFFFFFFFFFFFFFFFF }
       ∧ (∀ v, exec (.registerWrite a size v) s = .next (s.bump .fltMgmtBadacc [] 63 0))
       ∧ (∀ bs, bs.length = 7 → byteAt bs 0 = 1 → i3cAddr bs = a → a % 8 ≠ 0 →
           ∃ t, exec (.i3cRead bs) s = .next t ∧ t.i3c.out = List.replicate 8 0xFF ∧ t = { s.bump .fltMgmtBadacc [] 63 0 with i3c := t.i3c }))

/-- R12, R515, R518 and R520: a write of a register without a trigger stores its fields by their access codes, and nothing else, whether it comes over
PCIe or as an I3C private write of 15 bytes. -/
def Obligations.PlainRegistersAreStored : Prop :=
  ∀ (s : State) (r : Reg) (is : List Nat) (v : Word),
    r ∈ [Reg.timCfg, .pwrCap, .pwrClkLimit, .pwrScrubCfg, .pwrClass, .fltReact, .fltWdgCfg, .nvmArg0, .nvmArg1, .nvmArg2, .nvmBuf,
      .hubBufHdrm, .hubBufCtl, .imgArg0, .imgArg1, .imgArg2, .imgArg3, .poolArg0, .poolArg1, .poolRacewin, .fwdSwapAt, .fwdTblAddr,
      .fwdTblData, .fwdHashCfg, .fwdAdaptCfg, .schWeight, .schJob, .polCtxSel, .sampleCfg, .mirSel] →
    locate (r.addr is) = some (r, is) → s.regAnswers r is = true →
    exec (.registerWrite (r.addr is) 8 v) s = .next (s.setReg r is (applyWrite r.fields (s.reg r is) v.toNat))
    ∧ (∀ bs, bs.length = 15 → byteAt bs 0 = 2 → i3cAddr bs = r.addr is → r.addr is % 8 = 0 → beNat (bs.drop 7).reverse = v.toNat →
        exec (.i3cWrite bs) s = .next (s.setReg r is (applyWrite r.fields (s.reg r is) v.toNat)))

/-- R10 and Table 0.3: what a write leaves in each bit of a register: a read-write bit takes the value, a write-1-to-clear or -to-set bit is cleared
or set, every other bit and every reserved bit keeps its value. -/
def Obligations.AccessCodesGovernEveryBit : Prop :=
  ∀ (r : Reg) (old v i : Nat),
    (∀ f ∈ r.fields, f.lo ≤ i → i ≤ f.hi →
      (applyWrite r.fields old v).testBit i =
        (match f.acc with
         | .rw => v.testBit i
         | .rws => v.testBit i
         | .w1c => old.testBit i && !v.testBit i
         | .w1s => old.testBit i || v.testBit i
         | .ro => old.testBit i
         | .wo => old.testBit i))
    ∧ ((∀ f ∈ r.fields, i < f.lo ∨ f.hi < i) → (applyWrite r.fields old v).testBit i = old.testBit i)

/-- R520: while PWR_GOOD is low every register outside CTL, TIM, PWR, FLT and NVM reads 0 and ignores writes, and so do the rows that are writes of
such a register. -/
def Obligations.MainDomainIsDarkWithoutPower : Prop :=
  ∀ s : State, s.pins.pwrGood = false →
    (∀ a v, 0x500000 ≤ a → a % 8 = 0 → s.readAddr a = 0 ∧ exec (.registerWrite a 8 v) s = .next s)
    ∧ (∀ c ∈ [Instr.bpmErrFirstClear, .clearAll, .tableWrite, .tableRead, .tableDelete, .bankCopy, .swapArm, .swapDisarm],
        exec c s = .next s)
    ∧ (∀ p v, exec (.adminDown p) s = .next s ∧ exec (.retrain p) s = .next s ∧ exec (.gateArm p) s = .next s
        ∧ exec (.gateDisarm p) s = .next s ∧ exec (.slotSnapshot v) s = .next s ∧ exec (.pfcThreshWrite p v) s = .next s
        ∧ exec (.mirrorEnable p) s = .next s ∧ exec (.mirrorDisable p) s = .next s ∧ exec (.shaperConfigWrite p v) s = .next s)

/-- R112: MGMT is accepted only on a port whose binding marks it as a management port; from any other port it is answered with NACK NOT_MY_JOB,
whichever its OP, and counted in the port's PRT_QFT_NOTMYJOB (R116). -/
def Obligations.MgmtOnlyOnManagementPorts : Prop :=
  ∀ (s : State) (n : Nat) (f : Frame) (h k : Packet) (u : State),
    s.header? f = some h → s.serviceRx n f tMGMT = .pass k u → u.fld .prtPortCfg (portIdx n) 58 58 = 0 →
    ((h.word 0).field 63 56 = 2 → exec (.mgmtWrite (.port n) f) s = .next (s.kept ((u.qftCount n 9).nackAt n k stNOT_MY_JOB)))
    ∧ ((h.word 0).field 63 56 ≠ 2 → exec (.mgmtRead (.port n) f) s = .next (s.kept ((u.qftCount n 9).nackAt n k stNOT_MY_JOB)))

/-- R110, R111: on a management port a read is answered with its registers' words and a write with the words as they stand after it; a request with
NREG 0 or too few words is refused and writes nothing; a PROBE is answered, and a PROBE reply, like an ACK or a NACK to the device (R102), has no
effect of its own. -/
def Obligations.MgmtAndProbeAreAnswered : Prop :=
  ∀ (s : State) (n : Nat) (f : Frame) (h k : Packet) (u : State), s.header? f = some h →
    (s.serviceRx n f tMGMT = .pass k u → u.fld .prtPortCfg (portIdx n) 58 58 = 1 → (h.word 0).field 63 56 = mgmtOp k →
      (mgmtOp k = 1 → 0 < mgmtN k →
        let r := u.readRun k
        exec (.mgmtRead (.port n) f) s = .next (s.kept (r.2.originate (n / 96) (mgmtReply k r.2.keys.svcEp r.1))))
      ∧ (mgmtOp k = 2 → 0 < mgmtN k → 8 + 8 * mgmtN k ≤ k.len →
        let r := (u.fresh.writeRun k).readRun k
        exec (.mgmtWrite (.port n) f) s = .next (s.keptMem (r.2.originate (n / 96) (mgmtReply k r.2.keys.svcEp r.1))))
      ∧ (mgmtOp k = 2 → (mgmtN k = 0 ∨ k.len < 8 + 8 * mgmtN k) →
        exec (.mgmtWrite (.port n) f) s = .next (s.kept (u.nackAt n k stBADDESC))))
    ∧ (s.serviceRx n f tPROBE = .pass k u →
      ((h.word 0).bit 63 = false → exec (.probe (.port n) f) s = .next (s.kept (u.originate (n / 96) (probeAnswer k u.keys.svcEp u.now))))
      ∧ ((h.word 0).bit 63 = true → exec (.probeReplyReceive (.port n) f) s = .next (s.kept u)))
    ∧ ((h.typ = tACK ∨ h.typ = tNACK) → s.serviceRx n f h.typ = .pass k u → exec (.ackNackReceive n f) s = .next (s.kept u))

/-- R280, R282, R298, R309: a QFT frame that passes the checks, finds a member, conforms to the policers and fits the egress port waits at its hub die
with its hop count lowered by one, addressed as the member's next-hop record says, and its port die adds its cells to its own estimate (R289). R294 to R298: an IPv4 packet to the port's own MAC takes the
group of its longest prefix and leaves with its TTL lowered; a bridged frame with a known destination goes to its port alone. R380 and Table 15.8:
a receive error on a port that is up is counted by its kind, and every retry-active class that does not wait sends a NAK and waits. Table 18.5: the
64th uncorrectable codeword of a lane within 1 ms is reported as a LANE_CW_BURST. -/
def Obligations.FramesAreForwarded : Prop :=
  (∀ (s : State) (p : Nat) (f : Frame) (k : Packet) (u v w : State) (m : Member),
     s.recognise f ≠ .other → s.ownRow f = false → s.receive p f = .forward k u →
     (if f.fcsOk then u.qftCount p 0 else u).lookupQft (p / 96) k = .found m v → v.police p k.cls f.len none = (true, w) →
     let out := w.encapsulate w.activeBank m k.decTtl
     let h := p / 96 % 4
     out.len ≤ w.maxFrame m.port → w.domBusy (1492 + h) = false →
     ∃ t a, exec (.qftForward p f) s = .next t ∧ t = s.kept { w with hubs := t.hubs, nextId := w.nextId + 1, fwd := (w.sentToward (p / 96) m.port k.cls (cellsOf f.len)).fwd }
       ∧ (t.hub h).arrive = (w.hub h).arrive ++ [a] ∧ (∀ x, x ≠ h → t.hub x = w.hub x)
       ∧ a.copies = [] ∧ a.item.port = m.port ∧ a.item.cls = k.cls ∧ a.item.frame = out ∧ a.item.pkt = some k.decTtl
       ∧ a.item.cells = cellsOf f.len ∧ a.item.rcvd = some f ∧ a.item.tail = (if f.fcsOk then .none else .fcs))
  ∧ (∀ (s : State) (p : Nat) (f : Frame) (u : State), s.macTakes p f = false → s.receive p f = .plain u →
       let v := u.mirrorAt (p / 96) (seenIngress p f none (u.plainClass p f))
       let h := p / 96 % 4
       (∀ g i w, s.toSelf p f = true → f.tags.length ≤ 1 → f.etype = 0x0800 → v.keys.ip4.vals.contains (numAt f.body 16 4) = false →
           longestMatch 32 (numAt f.body 16 4) v.activeBank.v4 = some g → v.pinned v.activeBank g (v.ip4HashIn f.body) = some (i, false) →
           byteAt f.body 0 / 16 = 4 → 5 ≤ byteAt f.body 0 % 16 → onesSum (f.body.take (byteAt f.body 0 % 16 * 4)) = 0xFFFF →
           1 < byteAt f.body 8 →
           let cls := v.activeBank.dscpClass (byteAt f.body 1 / 4)
           v.police p cls f.len none = (true, w) →
           let m := v.activeBank.mem g i
           let out := w.routedFrame m cls f (decTtl4 f.body)
           out.len ≤ w.maxFrame m.port → w.domBusy (1492 + h) = false →
         ∃ t a, exec (.ipRoute p f) s = .next t ∧ (t.hub h).arrive = (w.hub h).arrive ++ [a]
           ∧ a.copies = [] ∧ a.item.port = m.port ∧ a.item.cls = cls ∧ a.item.frame = out ∧ a.item.pkt = none)
       ∧ (∀ e w, s.toSelf p f = false →
           let tv := match f.tags.head? with | some t => t % 4096 | none => 0
           let vid := if tv = 0 then v.keys.pvid.get p 1 else tv
           v.activeBank.inVlan vid p false = true → f.dmac / 2 ^ 40 % 2 = 0 →
           v.activeBank.bridge.find? (fun e => e.1 == vid && e.2.1 == f.dmac) = some e → e.2.2 / 2 ^ 63 = 0 →
           v.police p (v.plainClass p f) f.len none = (true, w) →
           let out := w.bridgedFrame f vid (e.2.2 % 4096)
           out.len ≤ w.maxFrame (e.2.2 % 4096) → w.domBusy (1492 + h) = false →
         ∃ t a, exec (.ethernetBridge p f) s = .next t ∧ (t.hub h).arrive = (w.hub h).arrive ++ [a]
           ∧ a.copies = [] ∧ a.item.port = e.2.2 % 4096 ∧ a.item.cls = v.plainClass p f ∧ a.item.frame = out))
  ∧ (∀ (s : State) (p : Nat) (kind : RxErr), s.linkUp p = true →
       (∀ n, kind = .corrected n → exec (.receiveError p kind) s = .next ((s.portCount p 7).portCount p 9 n))
       ∧ ((∀ n, kind ≠ .corrected n) →
       ∃ t, exec (.receiveError p kind) s = .next t ∧ t = { s with regs := t.regs, ports := t.ports, flt := t.flt } ∧ s.portsBut t p
         ∧ (t.port p).link = (s.port p).link ∧ (t.port p).rtx = (s.port p).rtx
         ∧ (∀ i, ((∃ lane, kind = .codeword lane) ∧ i = 8) ∨ (kind = .fcs ∧ i = 4) ∨ (kind = .runt ∧ i = 5) →
             t.fld .prtCnt (portIdx p ++ [i]) 63 0 = min (s.fld .prtCnt (portIdx p ++ [i]) 63 0 + 1) (2 ^ 64 - 1))
         ∧ ((∀ lane, kind ≠ .codeword lane) → t.flt = s.flt)
         ∧ (∀ lane, kind = .codeword lane → lane < s.lanes p →
             63 ≤ ((s.port p).cwLog.filter fun e => e.1 == lane && decide (s.local < e.2 + 1000000)).length → s.flt.queues.get (p / 96) [] = [] →
             t.flt.queues.get (p / 96) [] = [⟨p / 96, 0x01, p % 96 + lane, 0x001, 1, s.now, 0⟩])
         ∧ ∀ c, c < 8 → (s.port p).link.retryAct / 2 ^ c % 2 = 1 →
             ((t.port p).rrx.get c {}).waiting = some ((((s.port p).rrx.get c {}).waiting).getD s.local)
             ∧ ((t.port p).rrx.get c {}).expected = ((s.port p).rrx.get c {}).expected))

/-- R27, R30, R90, R118, R119: a one-part SETUP of KIND 1 to 3 that passes the receive checks and is neither a repeat nor held is judged by Table 5.4;
one admitted becomes the context with the number FREE longest, SETTING_UP, in the generation after that number's last one, and holds its members,
placement and tokens at once; one refused at step 2 to 8 is answered with a SETUP_ACK and makes no context. A SETUP whose parts do not all come in
10 ms is answered TIMEOUT and forgotten; R132: a deferred setup whose timeout has passed since it arrived is answered POWER_DEFER and leaves the
queue. -/
def Obligations.SetupReservesInOneStep : Prop :=
  (∀ (s v : State) (port : Nat) (f : Frame) (p : Packet),
    s.fresh.serviceRx port f tSETUP = .pass p v →
    let kind := (p.word 0).field 63 56
    let m : SetupMsg :=
      ⟨port, p, kind, (p.word 0).field 55 40, 1, (p.payload.drop 8).take 256, entriesOf ((p.payload.drop 8).drop 256), v.local⟩
    1 ≤ kind → kind ≤ 3 → (p.word 0).field 39 35 = 0 → (p.word 0).field 34 30 = 1 → v.asm? p.src m.setupId = none →
    v.repeated m = none → v.svc.deferq = [] → v.holdsFor kind [0, 1, 2, 3] = false →
    (partsOk m = true → v.svc.quar.contains (sha256 m.desc) = true →
      exec (.setup port f) s = .next (s.keptMem (v.refuseSetup m stQUARANTINED)))
    ∧ (partsOk m = true → v.svc.quar.contains (sha256 m.desc) = false →
      (fieldsOk m = false → exec (.setup port f) s = .next (s.keptMem (v.refuseSetup m stBADDESC)))
      ∧ (fieldsOk m = true → formatsOk kind m.desc = false →
          exec (.setup port f) s = .next (s.keptMem (v.refuseSetup m stUNSUPPORTED_FMT)))
      ∧ (fieldsOk m = true → formatsOk kind m.desc = true →
          (∀ st, v.membersOf m (v.portJob port) = .error st → exec (.setup port f) s = .next (s.keptMem (v.refuseSetup m st)))
          ∧ (∀ members, v.membersOf m (v.portJob port) = .ok members → v.regionCheck kind (v.portJob port) m.desc = stOK →
            (v.capacity m members = none → exec (.setup port f) s = .next (s.keptMem (v.refuseSetup m stNOSPACE)))
            ∧ (∀ pl n, v.capacity m members = some pl → v.nextCtx = some n → v.serviceUp kind = true →
                let cost := v.costOf (classFor kind m.desc) pl.tiles.length
                v.tokensShort cost = false →
                ∃ t c, exec (.setup port f) s = .next t ∧ t.ctx? n = some c ∧ c.state = .settingUp
                  ∧ c.gen = (v.svc.lastGen.get n 255 + 1) % 256 ∧ c.fix.members = members ∧ c.fix.tiles = pl.tiles ∧ c.fix.w = pl.w
                  ∧ c.fix.tokens = cost ∧ c.fix.convener = p.src ∧ v.ctxsBut t n)))))
  ∧ ∀ s : State, s.flt.safe = false →
      (∀ src id a, src < 2 ^ 20 → id < 2 ^ 16 → s.asm? src id = some a → a.at_ + 10000000 ≤ s.local →
        ∃ t, exec (.setupAssemblyTimeout src id) s = .next t ∧ t.asm? src id = none ∧ t.svc.ctxs = s.svc.ctxs
          ∧ t.svc.deferq = s.svc.deferq)
      ∧ (∀ id q, s.svc.deferq.find? (fun q => q.id == id) = some q →
          q.msg.at_ + (if q.msg.kind = 3 then s.cfg.jobTimeout else timeoutOf s.cfg.jobTimeout q.msg.desc) * 1000 ≤ s.local →
        ∃ t, exec (.deferredSetupExpire id) s = .next t ∧ t.svc.deferq = s.svc.deferq.filter (fun x => x.id != q.id)
          ∧ t.svc.ctxs = s.svc.ctxs)

/-- R27, R120, R133, R136, Table 5.5: the moves of a context. A SETTING_UP context whose generation is free to use becomes ARMED with its entries OPEN
(HELD under a quiesce or a search) and a SETUP_ACK; a TEARDOWN of its generation takes the entries away and drains it; with nothing left on the
service path its blocks are released, it enters QUARANTINE, and the TEARDOWN is ACKed; twice the age limit later its number is FREE; a gather
context starts at START_AT. -/
def Obligations.ContextsMoveThroughTheirStates : Prop :=
  ∀ (s : State) (n : Nat) (c : Ctx), s.flt.safe = false → s.ctx? n = some c →
     (c.state = .settingUp → c.holdFrom = none →
       exec (.setupTablesWritten n) s = .next (s.kept
         ((s.setCtx n { c with state := .armed, steer := s.openEntry n c, since := s.local }).ackSetup c.fix.setupPkt c.fix.setupId stOK n
           c.gen c.fix.w 0)))
     ∧ (∀ port f p v d, s.serviceRx port f tTEARDOWN = .pass p v → v.svc.holding = false → p.ctx = n → v.ctx? n = some d → p.gen = d.gen →
         (d.state = .armed ∨ d.state = .active ∨ d.state = .complete) →
       exec (.teardown port f) s = .next (s.kept (v.setCtx n { d with
         state := .draining, steer := .absent, tear := some (port, p), since := v.local, rearm := [], holdFrom := none, suspect := false
         units := d.units.map fun e => (e.1, { e.2 with live := false }) })))
     ∧ (∀ port p, c.state = .draining → c.lost = false → s.onPath n = false → c.tear = some (port, p) →
       ∃ t d, exec (.contextDrainEnd n) s = .next t ∧ t.ctx? n = some d ∧ s.ctxsBut t n ∧ d.state = .quarantine ∧ d.steer = .absent
         ∧ d.fix.blocks = [] ∧ d.fix.tokens = c.fix.tokens ∧ d.since = s.local
         ∧ t.svc.leftAt.find? (n * 256 + c.gen) = some (s.now, s.local))
     ∧ (c.state = .draining → c.lost = false → s.onPath n = false → c.tear = none →
       exec (.contextDrainEnd n) s = .next (s.kept (s.toQuarantine n c)))
     ∧ (c.state = .quarantine → s.twiceAgePassed c.since = true →
       exec (.contextQuarantineEnd n) s = .next (s.keptMem
         ({ s.fresh with svc := { s.svc with ctxs := s.svc.ctxs.erase n, freed := s.svc.freed ++ [n] } } : State).tryDeferred))
     ∧ (c.fix.kind = 3 → c.state = .armed → c.run.startAt ≤ s.now →
       exec (.gatherContextStart n) s = .next (s.setCtx n { c with state := .active, run := { c.run with start := some s.now } }))

/-- R135, R525, R120: a REARM is checked for its generation, its sender's rank, the quarantine list and the context's state, in this order; one that
passes all starts the next generation at once, or waits while that generation value may not be used again, and then starts it (log entry 112: even
where the context has become ACTIVE meanwhile, the model's choice). -/
def Obligations.RearmStartsTheNextGeneration : Prop :=
  (∀ (s v : State) (port : Nat) (f : Frame) (p : Packet) (c : Ctx),
    s.serviceRx port f tREARM = .pass p v → v.svc.holding = false → v.ctx? p.ctx = some c →
    let answer (x : State) : Out := .next (s.kept x)
    (p.gen ≠ c.gen → exec (.rearm port f) s = answer (v.nackTemond port p stSTALE_GEN))
    ∧ (p.gen = c.gen →
      (p.rank ≠ c.fix.convRank → exec (.rearm port f) s = answer (v.nackTemond port p stNOTMEMBER))
      ∧ (p.rank = c.fix.convRank →
        (v.svc.quar.contains (sha256 c.fix.desc) = true → exec (.rearm port f) s = answer (v.nackTemond port p stQUARANTINED))
        ∧ (v.svc.quar.contains (sha256 c.fix.desc) = false →
          (c.state ≠ .armed → c.completed = false → exec (.rearm port f) s = answer (v.nackTemond port p stRETRY))
          ∧ ((c.state = .armed ∨ c.completed = true) → v.holdsFor c.fix.kind c.fix.hubs = false → c.rearm = [] →
            (v.genHeld p.ctx ((c.gen + 1) % 256) = true →
              exec (.rearm port f) s = answer (v.setCtx p.ctx { c with
                rearm := [(port, p)], holdFrom := v.svc.leftAt.find? (p.ctx * 256 + (c.gen + 1) % 256) }))
            ∧ (v.genHeld p.ctx ((c.gen + 1) % 256) = false →
              ∃ t d, exec (.rearm port f) s = .next t ∧ t.ctx? p.ctx = some d ∧ v.ctxsBut t p.ctx ∧ d.state = .armed
                ∧ d.gen = (c.gen + 1) % 256 ∧ d.run.low = 0 ∧ d.run.fin = [] ∧ d.run.startAt = (p.word 0).toNat ∧ d.fix = c.fix))))))
  ∧ ∀ (s : State) (n : Nat) (c : Ctx) (g l : Nat), s.flt.safe = false → s.ctx? n = some c → c.holdFrom = some (g, l) →
      g + 2 * s.largestAgeSince l * 1000 ≤ s.now → c.run.completeDue = false →
      (∀ port p, c.state ≠ .settingUp → s.holdsFor c.fix.kind c.fix.hubs = false → c.rearm = [(port, p)] →
        ∃ t d, exec (.genReuseHoldEnd n) s = .next t ∧ t.ctx? n = some d ∧ s.ctxsBut t n ∧ d.gen = (c.gen + 1) % 256
          ∧ d.state = .armed ∧ d.holdFrom = none ∧ d.run.startAt = (p.word 0).toNat ∧ d.fix = c.fix)
      ∧ ((c.state = .settingUp ∨ (s.holdsFor c.fix.kind c.fix.hubs = false ∧ c.rearm = [])) →
        exec (.genReuseHoldEnd n) s = .next (s.setCtx n { c with holdFrom := none }))

/-- R276, R292, R293, Table 6.3 check 0, R156, R157: what a port die does with a CONTRIB, an ABORT and a RESEND that passed the receive checks: a
CONTRIB goes to its tile, unless the entry is held or closed, an ABORT to the home tile, unless it is held, or ends a gather context's generation;
a RESEND is split over the hub dies that retain what it names. -/
def Obligations.DataPacketsLeaveThePortDie : Prop :=
  ∀ (s t : State) (port : Nat) (f : Frame) (p : Packet) (c : Ctx), t.ctx? p.ctx = some c →
    let k := p.offset / max c.fix.c 1
    let tile (p : Packet) : Nat :=
      if p.typ = tCONTRIB ∧ p.offset % max c.fix.c 1 = 0 ∧ k < c.fix.n then c.fix.tileOf k else c.fix.home
    let flies (p : Packet) : State := { t with
      nextId := t.nextId + 1
      svc := { t.svc with flight := t.svc.flight ++ [⟨t.nextId, port, p.ctx, p, tile p, (t.islot (svcPart c.fix.kind)).pgen % 256⟩] } }
    (s.serviceRx port f tCONTRIB = .pass p t →
      (c.fix.kind = 3 → exec (.contrib port f) s = .next (s.kept ((t.ctxCount .ctxDrop p.ctx 63 48).nackAt port p stBADDESC)))
      ∧ (c.fix.kind ≠ 3 → c.steer = .held → exec (.contrib port f) s = .next (s.kept (t.bump .subDrop [] 63 0)))
      ∧ (c.fix.kind ≠ 3 → c.steer = .closed → exec (.contrib port f) s = .next (s.kept (t.ctxCount .ctxLate p.ctx 63 32)))
      ∧ (c.fix.kind ≠ 3 → c.steer = .open_ → exec (.contrib port f) s = .next (s.kept (flies p))))
    ∧ (s.serviceRx port f tABORT = .pass p t → c.steer = .held → exec (.abort port f) s = .next (s.kept (t.bump .subDrop [] 63 0)))
    ∧ (s.serviceRx port f tABORT = .pass p t → c.steer ≠ .held →
      (c.fix.kind = 3 → c.runs = false → exec (.abort port f) s = .next (s.kept t))
      ∧ (c.fix.kind ≠ 3 → exec (.abort port f) s = .next (s.kept (flies p)))
      ∧ (c.fix.kind = 3 → c.runs = true → ∃ u d, exec (.abort port f) s = .next u ∧ u.ctx? p.ctx = some d ∧ t.ctxsBut u p.ctx
          ∧ d.state = .complete ∧ d.endStatus = stMEMBER_ABORT))
    ∧ (s.serviceRx port f tRESEND = .pass p t →
      (c.state = .draining → exec (.resend port f) s = .next (s.kept (t.ctxCount .ctxLate p.ctx 63 32)))
      ∧ (c.state ≠ .draining → (c.fix.kind = 3 ∨ resendOk c.fix p = false) →
          exec (.resend port f) s = .next (s.kept (t.nackAt port p stRANGE)))
      ∧ (c.state ≠ .draining → c.fix.kind ≠ 3 → resendOk c.fix p = true →
          ∃ r, exec (.resend port f) s = .next (s.kept
              { t with nextId := t.nextId + 1, svc := { t.svc with resends := t.svc.resends ++ [r] } })
            ∧ r.id = t.nextId ∧ r.ctx = p.ctx ∧ r.pkt = p ∧ r.kept = [] ∧ r.rec_ = none ∧ (∀ q ∈ r.parts, q.answer = none)
            ∧ ∀ k ∈ resendChunks c.fix p, ∃ q ∈ r.parts, q.hub = resendHub c.fix k
                ∧ (if k < c.fix.n then k ∈ q.chunks else q.record = true)))

/-- R147, R148, R149, Table 6.3: a contribution at its tile is dropped, refused or accepted by the first check that holds; an accepted one sets its
rank's bit in the chunk's slot, is added, and is counted once; one that fills the bitmap of a KIND 1 chunk finalises it: the RESULT leaves, the
slot is freed and the release is on its way to the home tile. R256, R276, R278: one that a quiesced partition or a failed router holds up waits, and
one of an earlier load of the partition is dropped and counted. -/
def Obligations.ContributionsAreJudgedAtTheTile : Prop :=
  ∀ (s : State) (id ties : Nat) (g : Flight) (c : Ctx), s.flt.safe = false →
    s.svc.flight.find? (fun g => g.id == id && g.pkt.typ == tCONTRIB) = some g → s.ctx? g.ctx = some c →
    (∀ sram, s.flightFate g = .waits → exec (.contribTileArrival id ties sram) s = .next s)
    ∧ (∀ sram, s.flightFate g = .stale →
      exec (.contribTileArrival id ties sram) s = .next (s.kept ((s.land g).meshDrop g.tile g.header.1.toNat 47 32)))
    ∧ (s.flightFate g = .here →
    let p := g.pkt
    let k := p.offset / max c.fix.c 1
    let old := c.run.slots.get k {}
    let sl := c.fix.accept k p.rank old p.payload
    let rest := s.svc.flight.filter fun x => x.id != g.id
    (∀ r hi lo sram, s.judgeContribution c p = .drop r hi lo →
      ∃ t d, exec (.contribTileArrival id ties sram) s = .next t ∧ t.svc.flight = rest ∧ s.ctxsBut t g.ctx ∧ t.ctx? g.ctx = some d
        ∧ d.run.slots = c.run.slots ∧ d.state = c.state ∧ s.regsBut t [Reg.addr r [g.ctx]]
        ∧ t.fld r [g.ctx] hi lo = satAdd (hi + 1 - lo) (s.fld r [g.ctx] hi lo) 1)
    ∧ (∀ st hi lo sram, s.judgeContribution c p = .refuse st hi lo →
      ∃ t d, exec (.contribTileArrival id ties sram) s = .next t ∧ t.svc.flight = rest ∧ s.ctxsBut t g.ctx ∧ t.ctx? g.ctx = some d
        ∧ d.run.slots = c.run.slots ∧ d.state = c.state)
    ∧ (s.judgeContribution c p = .accept → c.fix.full sl = false →
      ∃ t d, exec (.contribTileArrival id ties .clean) s = .next t ∧ t.svc.flight = rest ∧ s.ctxsBut t g.ctx ∧ t.ctx? g.ctx = some d
        ∧ d.state = .active ∧ d.run.slots.find? k = some sl ∧ (∀ j, j ≠ k → d.run.slots.find? j = c.run.slots.find? j)
        ∧ t.fld .ctxRx [g.ctx] 63 0 = satAdd 64 (s.fld .ctxRx [g.ctx] 63 0) 1 ∧ t.hubs = s.hubs)
    ∧ (s.judgeContribution c p = .accept → c.fix.full sl = true → c.fix.kind = 1 →
      ∃ t d, exec (.contribTileArrival id ties .clean) s = .next t ∧ t.svc.flight = rest ∧ s.ctxsBut t g.ctx ∧ t.ctx? g.ctx = some d
        ∧ d.run.slots.find? k = none ∧ d.finalised k = true ∧ d.run.reports = c.run.reports ++ [k]
        ∧ d.run.inHash = Nat.xor c.run.inHash sl.hash
        ∧ (t.hub (exitHub (c.fix.tileOf k))).meshOut = (s.hub (exitHub (c.fix.tileOf k))).meshOut
            ++ [⟨g.ctx, c.gen, tRESULT, (c.fix.plainEnd k sl).1.fmt, 0, k * c.fix.c, some k, (c.fix.plainEnd k sl).1.payload,
                 c.fix.receiver k, none⟩]))

/-- R150, R151, R149, R155: a release at the home tile moves L and F on; a GRANT carries F, 2 µs after F first advanced or 50 µs after the last one;
the last release ends the generation, whose COMPLETE goes once every RESULT has left. -/
def Obligations.ReleasesAdvanceTheFrontier : Prop :=
  ∀ (s : State) (n : Nat) (c : Ctx), s.flt.safe = false → s.ctx? n = some c → s.paused c = false →
    let h := exitHub c.fix.home
    let grants (t : State) : Prop := s.ctxsBut t n ∧
      t.ctx? n = some { c with run := { c.run with grantSent := c.frontier, grantAt := s.local, grantDue := none } }
      ∧ (t.hub h).meshOut = (s.hub h).meshOut ++ [⟨n, c.gen, tGRANT, 0, 0, 0, none, natBytes 8 (c.frontier * 2 ^ 24), none, none⟩]
    (∀ k rest, c.run.reports = k :: rest → c.runs = true →
      let low := lowest (k :: c.run.rel).length c.run.low (k :: c.run.rel)
      ∃ t d, exec (.releaseReport n) s = .next t ∧ s.ctxsBut t n ∧ t.ctx? n = some d ∧ d.run.low = low ∧ d.run.reports = rest
        ∧ (low ≠ c.fix.n → d.state = c.state ∧ t.mem = s.mem)
        ∧ (low = c.fix.n → d.state = .complete ∧ d.run.finish = s.now ∧ d.run.completeDue = true
            ∧ d.endStatus = if c.run.poisoned = [] then stOK else stPOISON))
    ∧ (∀ a, c.run.grantDue = some a → a ≤ s.local → c.runs = true → ∃ t, exec (.grantDelayExpire n) s = .next t ∧ grants t)
    ∧ (c.state = .active → c.fix.w ≠ 0 → c.run.low < c.fix.n → c.run.grantAt + 50000 ≤ s.local →
      ∃ t, exec (.grantRepeat n) s = .next t ∧ grants t)
    ∧ (∀ r, c.run.completeDue = true → c.run.record = some r → s.resultsOut n c.gen = false →
      ∃ t, exec (.completeSend n) s = .next t ∧ s.ctxsBut t n
        ∧ t.ctx? n = some { c with run := { c.run with completeDue := false } }
        ∧ (t.hub h).meshOut = (s.hub h).meshOut ++ [⟨n, c.gen, tCOMPLETE, 0, 0, 0, none, r, none, none⟩])

/-- R134, R158, R159: at the timeout the entries of an ACTIVE context are closed; once what passed them has come to rest with a chunk unreleased, the
generation ends and its members get ABORT TIMEOUT with the missing ranks; a member's ABORT ends it for the others. -/
def Obligations.GenerationsEndByTimeoutOrAbort : Prop :=
  ∀ (s : State) (n : Nat) (c : Ctx), s.flt.safe = false → s.ctx? n = some c →
    let h := exitHub c.fix.home
    (∀ a, c.run.timerAt = some a → c.state = .active → a ≤ s.now → c.steer = .open_ →
      exec (.contextTimeout n) s = .next (s.setCtx n { c with steer := .closed, run := { c.run with closing := true, timerAt := none } }))
    ∧ (s.paused c = false → c.fix.kind ≠ 3 → c.state = .active → c.run.closing = true → s.firstFlight n tCONTRIB = none → c.run.reports = [] →
        (∀ e ∈ c.units, e.2.live = false) →
      ∃ t d, exec (.closureEnd n) s = .next t ∧ s.ctxsBut t n ∧ t.ctx? n = some d ∧ d.state = .complete ∧ d.endStatus = stTIMEOUT
        ∧ (t.hub h).meshOut = (s.hub h).meshOut ++ [⟨n, c.gen, tABORT, 0, 0, 0, none, abortPayload stTIMEOUT 0 c.missing, none, none⟩])
    ∧ (∀ g ties, s.firstFlight n tABORT = some g → s.flightFate g = .here →
      (c.fix.kind ≠ 3 → c.runs = true → g.pkt.gen = c.gen →
        ∃ t d, exec (.abortAtHome n ties) s = .next t ∧ s.ctxsBut t n ∧ t.ctx? n = some d ∧ d.state = .complete ∧ d.endStatus = stMEMBER_ABORT
          ∧ t.svc.flight = s.svc.flight.filter (fun x => x.id != g.id)
          ∧ (t.hub h).meshOut = (s.hub h).meshOut
              ++ [⟨n, c.gen, tABORT, 0, 0, 0, none, abortPayload stMEMBER_ABORT g.pkt.rank [], none, some g.pkt.rank⟩])
      ∧ ((c.runs = false ∨ g.pkt.gen ≠ c.gen) →
          exec (.abortAtHome n ties) s = .next (s.kept (((s.land g).tieCount n ties).ctxCount .ctxLate n 63 32))))

/-- R156, R157: a hub die passes its part of a RESEND, and holds its blocks, when it retains all of them in the current generation, else it fails it;
when all passed, every RESULT named goes out again to the one rank and is counted; when one failed, the RESEND is answered NACK RANGE and sends
nothing. R141: a write of SVC_SLOT_SEL takes a snapshot of the slot it names, which its registers report until the next write; nothing else
changes. -/
def Obligations.ResendsAndSlotSnapshots : Prop :=
  (∀ (s : State) (id : Nat) (r : Resend) (c : Ctx), s.flt.safe = false → s.resend? id = some r → s.ctx? r.ctx = some c →
     (∀ hub q, c.state ≠ .draining → r.parts.find? (fun q => q.hub == hub && q.answer.isNone) = some q →
       exec (.resendHubCheck id hub) s = .next (s.setResend { r with
         parts := r.parts.map fun y => if y.hub == hub then { y with answer := some (c.holdsPart r.pkt.gen q) } else y
         kept := r.kept ++ (if c.holdsPart r.pkt.gen q then q.chunks.filterMap fun k => (c.kept.find? k).map fun v => (k, v) else [])
         rec_ := if (c.holdsPart r.pkt.gen q && q.record) = true then c.run.record else r.rec_ }))
     ∧ ((∀ q ∈ r.parts, q.answer = some true) →
       ∃ t, exec (.resendGo id) s = .next t ∧ t.resend? id = none ∧ t.svc.ctxs = s.svc.ctxs
         ∧ (∀ e ∈ r.kept, (⟨r.ctx, r.pkt.gen, tRESULT, e.2.fmt, 0, e.1 * c.fix.c, some e.1, e.2.payload, some r.pkt.rank, none⟩ : MeshOut)
             ∈ (t.hub (exitHub (c.fix.tileOf e.1))).meshOut)
         ∧ (∀ b, r.parts.any ResendPart.record = true → r.rec_ = some b →
             (⟨r.ctx, r.pkt.gen, tCOMPLETE, 0, 0, 0, none, b, some r.pkt.rank, none⟩ : MeshOut) ∈ (t.hub (exitHub c.fix.home)).meshOut)
         ∧ t.fld .ctxDup [r.ctx] 31 0
             = satAdd 32 (s.fld .ctxDup [r.ctx] 31 0) (r.kept.length + if r.parts.any ResendPart.record then 1 else 0))
     ∧ ((∃ q ∈ r.parts, q.answer = some false) →
       exec (.resendDrop id) s = .next (s.kept ((s.dropResend id).nackAt r.port r.pkt stRANGE))))
  ∧ (∀ (s : State) (v : Word), s.islandsUp = true → s.pins.pwrGood = true →
       ∃ t, exec (.slotSnapshot v) s = .next t ∧ t = { s with regs := t.regs, svc := { s.svc with snap := s.slotWords v.toNat } }
         ∧ s.regsBut t [Reg.addr .slotSel []]
         ∧ (∀ n c k, n = v.toNat / 2 ^ 48 % 2 ^ 16 → k = v.toNat / 2 ^ 16 % 2 ^ 32 → s.ctx? n = some c → c.fix.kind ≠ 3 →
             c.state ≠ .settingUp → c.state ≠ .quarantine → k < c.frontier → c.finalised k = false → c.gen < 256 →
             c.fix.tileOf k < 21120 → c.fix.mcount ≤ 16384 →
           let w := nth t.svc.snap 0
           w / 2 ^ 63 = 1 ∧ w / 2 ^ 55 % 2 ^ 8 = c.gen ∧ w / 2 ^ 47 % 2 ^ 8 = c.fix.tileOf k % 220 ∧ w / 2 ^ 40 % 2 ^ 7 = c.fix.tileOf k / 220
             ∧ w / 2 ^ 25 % 2 ^ 15 = bitCount c.fix.mcount (c.run.slots.get k {}).bitmap))

/-- R174, R175, Table 7.5: a STEP goes to the home tile of an optimizer context; there it is dropped, answered with a NACK, acknowledged again, or
accepted, when its payload is kept, the first data starts the generation, and with no step open OPEN_PARAMS and then OPEN_STEP are written to the
span's header and nothing else in HBM. R176, R177, R185: a chunk's W, M, V and S[c] are staged into its slot as HBM holds them; an update unit
makes its writes whole and, where its generation still waits for it, its chunk is released; nothing else in HBM changes. -/
def Obligations.OptimizerStepsAndChunks : Prop :=
  ((∀ (s t : State) (port : Nat) (f : Frame) (p : Packet) (c : Ctx), s.serviceRx port f tSTEP = .pass p t → t.ctx? p.ctx = some c →
     (c.fix.kind = 1 → exec (.step port f) s = .next (s.kept ((t.ctxCount .ctxDrop p.ctx 15 0).nackAt port p stBADDESC)))
     ∧ (c.fix.kind = 2 → c.steer ≠ .held → exec (.step port f) s = .next (s.kept { t with
         nextId := t.nextId + 1
         svc := { t.svc with flight := t.svc.flight ++ [⟨t.nextId, port, p.ctx, p, c.fix.tileFor p, (t.islot (svcPart 2)).pgen % 256⟩] } })))
   ∧ ∀ (s : State) (n ties : Nat) (g : Flight) (c : Ctx), s.flt.safe = false → n < 65536 → s.firstFlight n tSTEP = some g → s.flightFate g = .here →
     let u := (s.fresh.land g).tieCount n ties
     u.ctx? n = some c →
     let hub := 8 + exitHub c.fix.home
     let p := g.pkt
     let sp := spanOf c.fix.desc
     let h := u.spanHdr c.fix
     let v := if u.stepReads c p then u.setCtx n { c with optHdr := (h.done, h.opn) } else u
     (u.judgeStep c p = .dropped → exec (.stepAtHome n ties) s = .next (s.keptMem (v.ctxCount .optStepRx n 31 16)))
     ∧ (∀ st, u.judgeStep c p = .nack st →
         exec (.stepAtHome n ties) s = .next (s.keptMem ((v.ctxCount .optStepRx n 47 32).nackFrom hub g.port p st)))
     ∧ (u.judgeStep c p = .again → exec (.stepAtHome n ties) s
         = .next (s.keptMem ((v.ctxCount .optStepRx n 63 48).originate hub (ackOf p s.keys.svcEp stOK))))
     ∧ (∀ r, u.judgeStep c p = .accepted → s.region? sp.region = some r → h.opn = 0 →
       ∃ t d, exec (.stepAtHome n ties) s = .next t ∧ t.ctx? n = some d ∧ s.ctxsBut t n ∧ d.state = .active ∧ d.opt.step = some p.payload
         ∧ t.mem = (((r.puts sp.region (sp.poff + 16) (p.payload.drop 8)) ++ r.puts sp.region (sp.poff + 8)
             (natBytes 8 (stepArgs p.payload).t)).foldl (fun m w => Memory.write m w.1 w.2) s.mem : Memory)
         ∧ t.fld .optStep [n] 63 16 = (stepArgs p.payload).t % 2 ^ 48))
  ∧ (∀ (s : State) (n k : Nat) (c : Ctx), s.flt.safe = false → s.ctx? n = some c →
       (∀ r, let sp := spanOf c.fix.desc
         let parts := c.fix.chunkParts k
         let sl := c.run.slots.get k {}
         s.region? sp.region = some r → c.fix.kind = 2 → c.state = .active → c.opt.step ≠ none → k < c.frontier → c.finalised k = false →
         sl.staged = none → s.paused c = false → s.stagingWaits sp.region r parts = false → c.fix.full sl = false →
         ∃ t d st, exec (.optimizerStateStaged n k .clean) s = .next t ∧ t = { s with svc := t.svc } ∧ s.ctxsBut t n ∧ t.ctx? n = some d
           ∧ d.run.slots.find? k = some { sl with staged := some st } ∧ (∀ j, j ≠ k → d.run.slots.find? j = c.run.slots.find? j)
           ∧ st.w = s.readRgn sp.region r (sp.poff + 4096 + 4 * (k * c.fix.c)) (4 * c.fix.elems k)
           ∧ st.m = s.readRgn sp.region r (sp.poff + sp.mOff + sp.mb * (k * c.fix.c)) (sp.mb * c.fix.elems k)
           ∧ st.s = beNat (s.readRgn sp.region r (sp.poff + sp.sOff + 8 * k) 8)
           ∧ st.bad = parts.any (fun q => s.rgnPoisoned sp.region r q.1 q.2))
       ∧ (∀ u, c.units.find? k = some u → s.paused c = false →
         ∃ t d, exec (.updateUnitDone n k) s = .next t ∧ t.ctx? n = some d ∧ s.ctxsBut t n
           ∧ t.mem = (u.writes.foldl (fun m w => Memory.write m w.1 w.2) s.mem : Memory) ∧ d.units = c.units.erase k
           ∧ (u.live = true → c.runs = true → u.gen = c.gen →
               d.run = c.run.take k u.fin ∧ (t.hub (exitHub (c.fix.tileOf k))).meshOut = (s.hub (exitHub (c.fix.tileOf k))).meshOut
                 ++ [⟨n, c.gen, tRESULT, u.out.fmt, 0, k * c.fix.c, some k, u.out.payload, c.fix.receiver k, none⟩])
           ∧ ((u.live = false ∨ c.runs = false ∨ u.gen ≠ c.gen) → d.run = c.run ∧ t.hubs = s.hubs)))

/-- R107, R200, R206, R210, Table 8.4: a pool packet past the receive checks needs an open stream where it is ordered, is refused for a bad operation
and then for its range, and else takes an entry at the hub die that homes its bytes; the four packet types enter alike. -/
def Obligations.PoolAccessesEnterAtTheirHome : Prop :=
  ∀ (s t : State) (port : Nat) (f : Frame) (p : Packet) (x : Region) (c : Instr) (typ : Nat),
    ((c = .poolRd port f ∧ typ = tPOOL_RD) ∨ (c = .poolWr port f ∧ typ = tPOOL_WR) ∨ (c = .poolAtom port f ∧ typ = tPOOL_ATOM)
      ∨ (c = .poolFence port f ∧ typ = tPOOL_FENCE)) →
    s.serviceRx port f typ = .pass p t → t.liveRegion p.ctx = some x →
    let answer (u : State) : Out := .next (s.kept u)
    let badOp : Prop := ordOf p = 3 ∨ (p.typ = tPOOL_ATOM ∧ (atomBytes ((p.word 0).field 63 56)).isNone = true)
    let stack := x.stackOf p.ctx (homeOff x p / pageBytes)
    let held : Option Nat :=
      if (t.stack stack).retrain then some stRETRY
      else if (t.touchesOpenSpan p.ctx p.offset (accessLen p) && p.typ != tPOOL_FENCE) = true then some stRETRY
      else if t.meetsPoison p (x.phys p.ctx p.offset) (accessLen p) then some stPOISON
      else none
    (t.isOrdered port x p = true → (t.stream? (port / 96) p.src p.ctx).isSome = false → p.typ ≠ tPOOL_FENCE →
      exec c s = answer (t.nackAt port p stRETRY 0))
    ∧ (t.isOrdered port x p = false → badOp → exec c s = answer ((t.bump .rgnErr [p.ctx] 31 16).nackPool port p stBADDESC))
    ∧ (t.isOrdered port x p = false → ¬ badOp → rangeOk x p = false →
      exec c s = answer ((t.bump .rgnErr [p.ctx] 31 16).nackPool port p stRANGE))
    ∧ (t.isOrdered port x p = false → ¬ badOp → rangeOk x p = true → t.entriesUsed (hubOfStack stack) < 16384 →
        (∀ q ∈ t.mp.reqs, q.id ≠ t.nextId) →
      (∀ st, held = some st → exec c s = answer
        ((({ t with nextId := t.nextId + 1 } : State).bump .rgnErr [p.ctx] (if st = stPOISON then 63 else 47) (if st = stPOISON then 48 else 32)).nackPool
          port p st))
      ∧ (held = none → ∃ u q, exec c s = .next u ∧ u = { s.kept t with nextId := t.nextId + 1, mp := u.mp } ∧ q ∈ u.mp.reqs ∧ q.id = t.nextId
        ∧ q.pkt = p ∧ q.region = p.ctx ∧ q.stack = stack ∧ q.sent = true ∧ q.served = false ∧ q.stream = false ∧ q.next = 0
        ∧ u.mp.reqs.length = t.mp.reqs.length + 1))
    ∧ (t.isOrdered port x p = true → (t.stream? (port / 96) p.src p.ctx).isSome = false → p.typ = tPOOL_FENCE →
        (t.mp.streams.filter fun y => y.die == port / 96).length < 2048 →
        (∀ q ∈ t.mp.reqs, ¬ (q.stream = true ∧ q.port / 96 = port / 96 ∧ q.region = p.ctx ∧ q.pkt.src = p.src)) → ¬ badOp → rangeOk x p = true →
        t.entriesUsed (hubOfStack stack) < 16384 → (t.stack stack).retrain = false →
      ∃ u, exec c s = .next u ∧ ⟨port / 96, p.src, p.ctx, (p.seq + 1) % 2 ^ 32, t.local, []⟩ ∈ u.mp.streams)

/-- R202 to R204, R214: an access its stack has chosen is performed line by line: a line read changes no byte of HBM, a line written takes its bytes
of the payload and an atomic its new value (R203), and no other byte changes; steps 5 to 7 of Table 8.4 refuse it before its first line. An access
behind another one of its stream, or behind one of its source that reached one of its lines first, is not performed before that one (R205, R206).
R203 and Table 4.8: the new value of each atomic operation, over the values the operand and the old value may have. -/
def Obligations.PoolAccessesActOnHbm : Prop :=
  (∀ (s : State) (id : Nat) (q : PReq) (x : Region) (tie : Bool), s.flt.safe = false → s.mops = [] →
     s.mp.reqs.find? (fun q => q.id == id) = some q → s.region? q.region = some x → q.served = true → s.reqWaits q = false →
     let p := q.pkt
     let c := q.part
     let a := x.phys q.region c.1
     let w := p.word 0
     (∀ st, q.next = 0 → q.stream = false → s.homeRefuses q x = some st →
       exec (.poolAccessPerform id .clean tie) s
         = .next (s.kept (s.refuseReq q st (if st = stPOISON then 63 else 47) (if st = stPOISON then 48 else 32))))
     ∧ ((q.next = 0 → s.homeRefuses q x = none) → (q.next = 0 ∨ p.typ = tPOOL_WR ∨ s.poisonedAt a c.2 = false) →
       ∃ t, exec (.poolAccessPerform id .clean tie) s = .next t
         ∧ (p.typ ≠ tPOOL_WR → p.typ ≠ tPOOL_ATOM → t.mem = s.mem)
         ∧ (p.typ = tPOOL_WR → s.bytesBut t a c.2
             ∧ ∀ i, i < c.2 → c.1 - p.offset + i < p.payload.length →
                 Memory.byte t.mem (a + i) = p.payload.getD (c.1 - p.offset + i) 0)
         ∧ (p.typ = tPOOL_ATOM → s.bytesBut t a c.2 ∧ Memory.read t.mem a c.2
             = natBytes c.2 (atomNew (w.field 63 56) (beNat (Memory.read s.mem a c.2)) (p.word 1).toNat (p.word 2).toNat))
         ∧ (accessLen p ≠ 0 → q.next + 1 < linesOf p.offset (accessLen p) →
             ∃ r ∈ t.mp.reqs, r.id = id ∧ r.pkt = p ∧ r.next = q.next + 1 ∧ r.got = q.got ++ Memory.read s.mem a c.2)
         ∧ ((accessLen p = 0 ∨ linesOf p.offset (accessLen p) ≤ q.next + 1) → ∀ r ∈ t.mp.reqs, r.id ≠ id)))
  ∧ (∀ (s : State) (id : Nat) (q r : PReq) (m : MemResult) (tie : Bool), s.mops = [] → s.mp.reqs.find? (fun q => q.id == id) = some q →
       r ∈ s.mp.reqs → r.id ≠ q.id → r.region = q.region → r.pkt.src = q.pkt.src →
       ((r.stream = true ∧ q.stream = true ∧ r.port / 96 = q.port / 96 ∧ r.id < q.id)
         ∨ (r.sent = true ∧ q.sent = true ∧ r.tagF < q.tagF ∧ accessLen r.pkt ≠ 0 ∧ accessLen q.pkt ≠ 0
             ∧ ∃ line, r.pkt.offset / 64 ≤ line ∧ line ≤ (r.pkt.offset + accessLen r.pkt - 1) / 64
               ∧ q.pkt.offset / 64 ≤ line ∧ line ≤ (q.pkt.offset + accessLen q.pkt - 1) / 64)) →
       exec (.poolAccessPerform id m tie) s = .next s)
  ∧ (∀ old operand compare : Nat,
       (old < 2 ^ 32 → atomNew 1 old operand compare = (old + operand) % 2 ^ 32 ∧ atomNew 3 old operand compare = operand % 2 ^ 32
         ∧ toSigned 32 (atomNew 6 old operand compare) = min (toSigned 32 old) (toSigned 32 operand)
         ∧ toSigned 32 (atomNew 8 old operand compare) = max (toSigned 32 old) (toSigned 32 operand))
       ∧ (old < 2 ^ 64 → atomNew 2 old operand compare = (old + operand) % 2 ^ 64 ∧ atomNew 4 old operand compare = operand % 2 ^ 64
         ∧ atomNew 5 old operand compare = (if old = compare then operand % 2 ^ 64 else old)
         ∧ toSigned 64 (atomNew 7 old operand compare) = min (toSigned 64 old) (toSigned 64 operand)
         ∧ toSigned 64 (atomNew 9 old operand compare) = max (toSigned 64 old) (toSigned 64 operand)))

/-- R202, R203, R208: a read whose last line is performed is answered with the bytes its lines held, an atomic with the old value, a write that asks for
it and a fence with an ACK; the answer leaves the port die the request entered on. -/
def Obligations.PoolAccessesAreAnswered : Prop :=
  ∀ (s : State) (id : Nat) (q : PReq) (x : Region) (tie : Bool), s.flt.safe = false → s.mops = [] →
    s.mp.reqs.find? (fun q => q.id == id) = some q → s.region? q.region = some x → q.served = true → s.reqWaits q = false → q.stream = false →
    q.dups = [] →
    let p := q.pkt
    let c := q.part
    let a := x.phys q.region c.1
    let old := q.got ++ (if accessLen p = 0 then [] else Memory.read s.mem a c.2)
    (q.next = 0 → s.homeRefuses q x = none) → (q.next = 0 ∨ p.typ = tPOOL_WR ∨ s.poisonedAt a c.2 = false) →
    (accessLen p = 0 ∨ linesOf p.offset (accessLen p) ≤ q.next + 1) →
    ∃ u, u = { s with regs := u.regs, mp := u.mp, mirror := u.mirror, bpm := u.bpm, mops := u.mops }
      ∧ (∃ gs : List Nat, s.regsBut u ([Reg.addr .rgnAcc [q.region], Reg.addr .rgnBchoice [q.region], Reg.addr .rgnTchoice [q.region]]
          ++ (List.range 4).map (fun h => Reg.addr .bpmStat [8 + h]) ++ gs.map fun g => Reg.addr .ctxLate [g]))
      ∧ ((p.typ = tPOOL_RD ∧ rdlen p ≠ 0) → exec (.poolAccessPerform id .clean tie) s = .next (s.keptMem (u.poolRsp q old)))
      ∧ (p.typ = tPOOL_ATOM → exec (.poolAccessPerform id .clean tie) s
          = .next (s.keptMem (u.poolRsp q (List.replicate (8 - old.length) 0 ++ old))))
      ∧ ((p.typ = tPOOL_FENCE ∨ (p.typ = tPOOL_RD ∧ rdlen p = 0) ∨ (p.typ = tPOOL_WR ∧ p.ackReq = true)) → exec (.poolAccessPerform id .clean tie) s
          = .next (s.keptMem (u.originate (q.port / 96) (ackOf p s.keys.svcEp stOK))))
      ∧ (p.typ = tPOOL_WR → p.ackReq = false → exec (.poolAccessPerform id .clean tie) s = .next (s.keptMem u))

/-- R189 to R198, Table 8.3: the region operation at the head of the queue is refused at the first check that fails; a CREATE makes a LIVE region with
the pages and the range it was given, a REKEY changes the key alone, a GROW appends pages, a DELETE starts the drain. -/
def Obligations.RegionOperationsAreJudgedInOrder : Prop :=
  ∀ (s : State) (o : RegOp), s.flt.safe = false → s.nextOp = some o →
    let row : Option Instr := if o.rop = 2 then some .regionDelete else if o.rop = 3 then some .regionRekey
      else if o.rop = 4 then some .regionGrow else some .regionCreate
    ∀ c, row = some c →
      (o.fieldsOk = false → exec c s = .next (s.kept (s.endOp o o.region stBADDESC)))
      ∧ (o.fieldsOk = true →
        (∀ st, o.rop ≠ 1 → s.regionChecks o = .error st → exec c s = .next (s.kept (s.endOp o o.region st)))
        ∧ (∀ st, o.rop = 1 → s.createRegion o = .error st → exec c s = .next (s.kept (s.endOp o o.region st)))
        ∧ (∀ r u, o.rop = 1 → s.createRegion o = .ok (r, u) → exec c s = .next (s.kept (u.endOp o r stOK))
            ∧ ∃ x, u.region? r = some x ∧ x.state = .live ∧ x.job = o.job ∧ x.key = o.key ∧ x.size = o.size ∧ x.stackSet = o.stackSet
                ∧ rangeFree (s.poolRanges r) (pagesFor o.size * pageBytes) x.base = true
                ∧ ∀ j, j ≠ r → u.region? j = s.region? j)
        ∧ (∀ x, s.regionChecks o = .ok x →
          (o.rop = 2 → exec c s = .next (({ s with mp := { s.mp with ops := s.mp.ops.drop 1 } } : State).setRegion o.region
              { x with state := .draining, since := s.local, answer := some o.from_ }))
          ∧ (o.rop = 3 → exec c s = .next (s.kept ((s.setRegion o.region { x with key := o.newKey }).endOp o o.region stOK)))
          ∧ (∀ st, o.rop = 4 → s.growRegion o x = .error st → exec c s = .next (s.kept (s.endOp o o.region st)))
          ∧ (∀ u, o.rop = 4 → s.growRegion o x = .ok u → exec c s = .next (s.kept (u.endOp o o.region stOK))
              ∧ ∃ y ps, u.region? o.region = some y ∧ y.size = o.size ∧ y.key = x.key ∧ y.pages = x.pages ++ ps)))

/-- R191, R193, R199, R206: a drained region's streams close and its pages go to be zeroed, and it enters QUARANTINE; twice the age limit later its
number is FREE; a zeroed page reads 0 in every byte, is clear of poison, and returns to its stack's free pages; an ordered stream idle for twice
the age limit closes. -/
def Obligations.RegionsDrainAndPagesAreZeroed : Prop :=
  ∀ s : State, s.flt.safe = false →
    (∀ r x, s.region? r = some x → x.state = .draining → (∀ q ∈ s.mp.reqs, q.region ≠ r) →
      ∃ t y, exec (.regionDrainEnd r) s = .next t ∧ t.region? r = some y ∧ y.state = .quarantine ∧ y.pages = [] ∧ y.since = s.local
        ∧ (∀ j, j ≠ r → t.region? j = s.region? j) ∧ (∀ z ∈ t.mp.streams, z.region ≠ r)
        ∧ ∀ k, k < x.pages.length → nth x.pages k ∈ (t.stack (x.stackOf r k)).zeroing)
    ∧ (∀ r x, s.region? r = some x → x.state = .quarantine → s.twiceAgePassed x.since = true →
      exec (.regionQuarantineEnd r) s
        = .next { s with mp := { s.mp with regions := s.mp.regions.erase r, freed := s.mp.freed ++ [r] } })
    ∧ (∀ stack page, page ∈ (s.stack stack).zeroing → s.stackOpen stack = true →
      let a := (stack * stackPages + page) * pageBytes
      ∃ t, exec (.pageZeroDone stack page) s = .next t ∧ s.bytesBut t a pageBytes
        ∧ (∀ x, a ≤ x → x < a + pageBytes → Memory.byte t.mem x = 0)
        ∧ (∀ l, a ≤ 64 * l → 64 * l < a + pageBytes → t.linePoisoned l = false)
        ∧ (t.stack stack).zeroing = (s.stack stack).zeroing.erase page
        ∧ (∀ o, (s.pool (16 + stack)).bufs.find? page = some (.held o) → s.rowOut (16 + stack) page = false →
            (t.pool (16 + stack)).bufs = (s.pool (16 + stack)).bufs.erase page))
    ∧ (∀ die src region y, s.stream? die src region = some y → s.twiceAgePassed y.at_ = true →
        (∀ q ∈ s.mp.reqs, ¬ (q.stream = true ∧ q.port / 96 = die ∧ q.pkt.src = src ∧ q.region = region)) →
      exec (.orderedStreamExpire die src region) s
        = .next { s with mp := { s.mp with streams := s.mp.streams.filter fun u => u != y } })

/-- R222, R223, Table 9.2: a gather request past the receive checks is answered at once where it carries no index, refused at the first check that
fails, and else takes an entry with one line read for each 64-byte line its rows touch. R205, R222, R224, R226, R228, R229: a line read brings its
bytes of the row as HBM holds them, after the writes of its source that came to the line first, or ends the request by checks 8 and 9; when every row is read a plain response ends with the packet that has LAST set and the entry is freed; the tile with
the last segment, the others done, sends the reduced row and frees it. -/
def Obligations.GathersEnterAndAreSent : Prop :=
  (∀ (s t : State) (port : Nat) (f : Frame) (p : Packet) (c : Ctx), s.serviceRx port f tGATHER_REQ = .pass p t → t.ctx? p.ctx = some c →
     let d := c.fix.desc
     let answer (u : State) : Out := .next (s.kept u)
     let refuse (st : Nat) : Out := answer ((t.gthCount p.ctx p.gen .ctxDrop 63 48).nackAt port p st)
     (c.fix.kind ≠ 3 → exec (.gatherReq port f) s = answer ((t.ctxCount .ctxDrop p.ctx 15 0).nackAt port p stBADDESC))
     ∧ (c.fix.kind = 3 → ¬ (c.steer = .held ∧ gfunc p ≠ 0) → (t.beforeStart c = true ∨ c.runs = false) →
         exec (.gatherReq port f) s = answer (t.ctxCount .ctxDrop p.ctx 15 0))
     ∧ (c.fix.kind = 3 → ¬ (c.steer = .held ∧ gfunc p ≠ 0) → t.beforeStart c = false → c.runs = true →
       (4 < gfunc p → exec (.gatherReq port f) s = refuse stBADDESC)
       ∧ (∀ st, gfunc p ≤ 4 → gatherFmtBad t.cfg.gatherTiles d p = some st → exec (.gatherReq port f) s = refuse st)
       ∧ (gfunc p ≤ 4 → gatherFmtBad t.cfg.gatherTiles d p = none →
         (p.len = 0 → exec (.gatherReq port f) s = answer ((t.gatherRsp (gatherHub port) p 0 true []).gthCount p.ctx p.gen .ctxRx 63 0))
         ∧ (∀ x, p.len ≠ 0 → t.liveRegion (gatherRegion c) = some x →
           (rowsInside d p x.size = false → exec (.gatherReq port f) s = refuse stRANGE)
           ∧ (rowsInside d p x.size = true → (t.mp.greqs.filter fun g => g.port / 96 == port / 96).length < 256 →
             ∃ u g, exec (.gatherReq port f) s = .next u ∧ u = { s.kept t with nextId := t.nextId + 1, mp := u.mp }
               ∧ u.mp.greqs = t.mp.greqs ++ [g] ∧ g.id = t.nextId ∧ g.ctx = p.ctx ∧ g.pkt = p ∧ g.sent = 0 ∧ g.segs = []
               ∧ g.lines.map (fun l => (l.row, l.off, l.lo, l.len, l.data, l.served))
                 = ((List.range (gindices p).length).flatMap fun k => rowLines k (rowOff d p (nth (gindices p) k)) (rowBytes d)).map
                     fun l => (l.row, l.off, l.lo, l.len, l.data, l.served))))))
  ∧ (∀ (s : State) (id : Nat) (g : GReq) (c : Ctx), s.flt.safe = false → s.greq? id = some g → s.ctx? g.ctx = some c →
       let bs := g.ready (gindices g.pkt).length 0
       let brought (b : List Byte) (y : GLine) : GLine := { y with data := some b }
       let full := bs.length = (gindices g.pkt).length * rowBytes c.fix.desc
       (∀ line l x ties, g.lines[line]? = some l → s.region? (gatherRegion c) = some x → l.bad = none → l.data = none → l.served = true →
           s.writeAhead g (gatherRegion c) l = false → s.lineRefuses (gatherRegion c) x l = none →
         ∃ t, exec (.gatherLineRead id line .clean ties) s = .next t ∧ t = { s with regs := t.regs, mp := t.mp }
           ∧ t.greq? id = some { g with lines := modNth (brought (s.readRgn (gatherRegion c) x (l.off + l.lo) l.len)) g.lines line })
       ∧ (∀ line l x m ties, g.lines[line]? = some l → s.region? (gatherRegion c) = some x → l.bad = none → l.data = none → l.served = true →
           (s.writeAhead g (gatherRegion c) l = true → exec (.gatherLineRead id line m ties) s = .next s)
           ∧ (∀ st, s.writeAhead g (gatherRegion c) l = false → s.lineRefuses (gatherRegion c) x l = some st →
               exec (.gatherLineRead id line m ties) s = .next (s.kept (s.gatherFail g st (if st = stPOISON then 31 else 47)
                 (if st = stPOISON then 16 else 32)))))
       ∧ (gfunc g.pkt = 0 → full →
         let rest := bs.drop g.sent
         let piece := gatherPiece g.pkt.fmt
         exec (.gatherPlainResponse id) s = .next (s.kept
           (((State.sendGather (gatherHub g.port) g.pkt piece (rest.length / piece + 1) g.sent rest s).dropGreq id).gthCount g.ctx g.pkt.gen
             .ctxRx 63 0)))
       ∧ (∀ seg ties, s.paused c = false → gfunc g.pkt ≠ 0 → full → seg ∉ g.segs →
         let v := s.gthCount g.ctx g.pkt.gen .ctxLate 31 0 ties
         (seg + 1 < gatherSegs c.fix.desc →
           exec (.gatherSegmentReduce id seg ties) s = .next (s.kept (v.setGreq { g with segs := g.segs ++ [seg] })))
         ∧ (seg + 1 = gatherSegs c.fix.desc → g.segs.length = seg →
           let e := gatherReduce c.fix.desc (gfunc g.pkt) g.pkt.fmt (pieces (rowBytes c.fix.desc) bs)
           let ts := s.gatherTilesList
           let piece := gatherPiece g.pkt.fmt
           let sent := State.sendGather (8 + exitHub (nth ts ((g.tile + seg) % max ts.length 1))) g.pkt piece (e.bytes.length / piece + 1) 0
             e.bytes v
           exec (.gatherSegmentReduce id seg ties) s = .next (s.kept
             (((((sent.dropGreq id).gthCount g.ctx g.pkt.gen .ctxRx 63 0)).gthCount g.ctx g.pkt.gen .ctxDup 63 32 e.sat).gthCount g.ctx g.pkt.gen
               .ctxDup 31 0 e.flush)))))

/-- R29, R352, R354, R414, R426, R427: a stack serves the waiting item with the smallest tag, then the lowest job, then the earliest; it sleeps after
1 ms without foreground work; a recalibration runs in a gap, or after 10 ms without one pre-empts for 2 µs; the scrubber reads the lines its pace
is behind by; the oldest read of a stream engine returns into its buffer, and the engine asks for no more than the buffer holds. -/
def Obligations.StacksServeAndKeepThemselves : Prop :=
  ∀ (s : State) (k : Nat), s.flt.safe = false →
    let x := s.stack k
    (∀ w, x.up = true → x.busyTo ≤ s.local → w ∈ s.waitingOn k → (∀ v ∈ s.waitingOn k, v = w ∨ w.before v = true ∧ v.before w = false) →
        w.tagF < 2 ^ 62 →
      ∃ t, exec (.stackServe k) s = .next t ∧ t = { s with mp := t.mp, regs := t.regs } ∧ s.regsBut t [Reg.addr .pwrMem [k]]
        ∧ (t.stack k).arb.v = w.tagF ∧ (t.stack k).lastUse = s.local ∧ (t.stack k).asleep = false
        ∧ (w.line = none → ∀ q ∈ t.mp.reqs, q.id = w.id → q.served = true)
        ∧ ∀ i, w.line = some i → ∀ g ∈ t.mp.greqs, g.id = w.id → ∀ l, g.lines[i]? = some l → l.served = true)
    ∧ (x.up = true → x.asleep = false → x.lastUse + 1000000 ≤ s.local → s.foreground k = false →
      exec (.stackSelfRefreshEnter k) s = .next (s.setStack k { x with asleep := true }))
    ∧ (x.up = true → x.asleep = false → (x.dueAt ≠ none ∨ s.fallsDue k = true) → s.foreground k = false → x.lastUse + 2000 ≤ s.local →
      ∃ t, exec (.recalDue k) s = .next t ∧ (t.stack k).recalAt = s.local ∧ (t.stack k).dueAt = none ∧ (t.stack k).busyTo = s.local + 2000
        ∧ t.fld .pwrMem [k] 60 45 = satAdd 16 (s.fld .pwrMem [k] 60 45) 1)
    ∧ (∀ a, x.up = true → x.asleep = false → x.dueAt = some a → a + 10000000 ≤ s.local →
      ∃ t, exec (.recalForced k) s = .next t ∧ (t.stack k).recalAt = s.local ∧ (t.stack k).dueAt = none ∧ (t.stack k).busyTo = s.local + 2000
        ∧ t.fld .pwrMem [k] 44 29 = satAdd 16 (s.fld .pwrMem [k] 44 29) 1)
    ∧ (x.up = true → x.asleep = false → x.dueAt = none → x.busyTo ≤ s.local → x.scrubPos < s.scrubDue k → x.scrubPos + 1 < stackLines →
      ∃ t, exec (.hbmScrubBurst k [.clean]) s = .next t ∧ (t.stack k).scrubPos = x.scrubPos + 1 ∧ (t.stack k).scrubAt = s.local
        ∧ t.mp.poison = s.mp.poison)
    ∧ (∀ h e m r off n rest y, h < 4 → e < 128 → (s.engine h e).out = (r, off, n) :: rest → s.region? r = some y →
      let g := s.engine h e
      (s.stackOpen (y.stackOf r (off / pageBytes)) = false → exec (.streamReadComplete h e m) s = .next s)
      ∧ (s.stackOpen (y.stackOf r (off / pageBytes)) = true →
        ∃ t, exec (.streamReadComplete h e .clean) s = .next t ∧ t = { s with fab := t.fab, mp := t.mp, regs := t.regs }
          ∧ (t.engine h e).buf = g.buf ++ s.readRgn r y off n ∧ (t.engine h e).slot = g.slot
          ∧ (s.engineRuns g = false → (t.engine h e).out = rest ∧ (t.engine h e).list = g.list)
          ∧ (g.level + g.asked ≤ streamBuffer → (t.engine h e).level + (t.engine h e).asked ≤ streamBuffer)))

/-- R306, R307, Table 12.10: an operation on the route tables is refused BADDESC, RETRY, NOSPACE or RANGE by the first check that fails and then
changes no table; else the inactive bank gets or loses the entry, or the data words get what the named bank holds. R301, R302, R304, R305: a copy
makes the inactive bank equal to the active one; an arm is refused RANGE for a count not in the future; at the swap count the banks change places,
and the bank that was active may be written again twice the age limit later. -/
def Obligations.TableOperationsAndBankSwap : Prop :=
  (∀ s : State, s.islandsUp = true → s.pins.pwrGood = true →
     let o := s.tblOp
     let b := s.fwd.bankOf s.idleBank
     let ends (st : Nat) : Out := .next (s.tblEnd st)
     (o.op = 1 →
       ((o.named = false ∨ o.valued s.isPort = false) → exec .tableWrite s = ends stBADDESC)
       ∧ (o.named = true → o.valued s.isPort = true →
         (s.bankWritable = false → exec .tableWrite s = ends stRETRY)
         ∧ (s.bankWritable = true → o.full b = true → exec .tableWrite s = ends stNOSPACE)
         ∧ (s.bankWritable = true → o.full b = false →
             exec .tableWrite s = .next (({ s with fwd := s.fwd.setBank s.idleBank (o.write b) } : State).tblEnd stOK))))
     ∧ (o.op = 2 →
       (o.named = false → exec .tableRead s = ends stBADDESC)
       ∧ (o.named = true → ∃ t, exec .tableRead s = .next t ∧ t = { s with regs := t.regs, fwd := t.fwd } ∧ t.fwd = (s.tblEnd stOK).fwd
           ∧ s.regsBut t ((List.range 4).map fun i => Reg.addr .fwdTblData [i])
           ∧ ∀ i, i < 4 → t.reg .fwdTblData [i] = nth (o.read (s.fwd.bankOf o.bank)) i))
     ∧ (o.op = 3 →
       ((o.named = false ∨ o.table < 4 ∨ 6 < o.table) → exec .tableDelete s = ends stBADDESC)
       ∧ (o.named = true → 4 ≤ o.table → o.table ≤ 6 →
         (s.bankWritable = false → exec .tableDelete s = ends stRETRY)
         ∧ (s.bankWritable = true → o.delete b = none → exec .tableDelete s = ends stRANGE)
         ∧ (∀ b', s.bankWritable = true → o.delete b = some b' →
             exec .tableDelete s = .next (({ s with fwd := s.fwd.setBank s.idleBank b' } : State).tblEnd stOK)))))
  ∧ (∀ s : State,
       (s.islandsUp = true → s.pins.pwrGood = true → s.fwd.busy = false →
         (s.bankWritable = true → exec .bankCopy s = .next { s with fwd := { s.fwd with busy := true } })
         ∧ (s.bankWritable = false → exec .bankCopy s = .next { s with fwd := { s.fwd with status := stRETRY } })
         ∧ (s.reg .fwdSwapAt [] ≤ s.now → exec .swapArm s = .next { s with fwd := { s.fwd with status := stRANGE } })
         ∧ (s.now < s.reg .fwdSwapAt [] →
             exec .swapArm s = .next { s with fwd := { s.fwd with armed := some (s.reg .fwdSwapAt []), status := stOK } })
         ∧ (s.fwd.armed ≠ none → exec .swapDisarm s = .next { s with fwd := { s.fwd with armed := none, status := stOK } }))
       ∧ (s.fwd.busy = true → s.fwd.active ≤ 1 →
         ∃ t, exec .bankCopyDone s = .next t ∧ t = { s with fwd := t.fwd } ∧ t.fwd.bankOf s.idleBank = s.activeBank
           ∧ t.activeBank = s.activeBank ∧ t.fwd.busy = false ∧ t.fwd.status = stOK)
       ∧ (∀ a, s.fwd.armed = some a → a ≤ s.now → s.fwd.active ≤ 1 →
         ∃ t, exec .bankSwap s = .next t ∧ t = { s with fwd := t.fwd } ∧ t.fwd.active = 1 - s.fwd.active
           ∧ t.activeBank = s.fwd.bankOf s.idleBank ∧ t.fwd.armed = none ∧ t.fwd.inactive = some s.local ∧ t.fwd.lastSwap = a
           ∧ t.fwd.swaps = (s.fwd.swaps + 1) % 2 ^ 32)
       ∧ (∀ a, s.fwd.inactive = some a → s.twiceAgePassed a = true →
         ∃ t, exec .bankWritable s = .next t ∧ t = { s with fwd := { s.fwd with inactive := none } } ∧ t.bankWritable = true))

/-- Table 12.11: what a write put into a bank a read of the same entry gives back, its reserved bits 0, and after a delete it gives 0; entries of the
other tables are as before. -/
def Obligations.TableWritesReadBack : Prop :=
  ∀ (s : State) (o : TblOp) (b : Bank), o.named = true → o.valued s.isPort = true →
    let back : List Nat := match o.table with
      | 1 => [o.d0 / 2 ^ 14 % 4 * 2 ^ 14 + o.d0 % 4096, 0, 0, 0]
      | 2 => [o.d0 / 2 ^ 24 * 2 ^ 24, 0, 0, 0]
      | 3 => [o.d0 / 2 ^ 61 * 2 ^ 61 + o.d0 % 2 ^ 60, o.d1, o.d2, 0]
      | 4 => [o.d0, o.d1 % 4096, 0, 0]
      | 5 => [o.d0, o.d1, o.d2, o.d3 % 4096]
      | 6 => [o.d0, o.d1 / 2 ^ 63 * 2 ^ 63 + o.d1 % 4096, 0, 0]
      | 7 => [o.d0, o.d1, o.d2, o.d3]
      | _ => [o.d0 % 8, 0, 0, 0]
    o.read (o.write b) = back
    ∧ (∀ q : TblOp, q.table ≠ o.table → q.read (o.write b) = q.read b)
    ∧ (∀ b', 4 ≤ o.table → o.table ≤ 6 → o.delete b = some b' →
        (o.table = 4 → getKey b'.v4 o.v4.1 o.v4.2 = none) ∧ (o.table = 5 → getKey b'.v6 o.v6.1 o.v6.2 = none)
        ∧ (o.table = 6 → getKey b'.bridge o.vidMac.1 o.vidMac.2 = none))

/-- R236, R247 to R249, R449: a micro-operation on a tile that is halted, retired, quiesced, under reset or in the safe state changes nothing; a
bundle past the image's last, and one the store cannot read, halt the tile and do nothing else to its registers and SRAM. -/
def Obligations.TilesThatDoNotRunAreUntouched : Prop :=
  (∀ (s : State) (c : Instr) (i : Issue), Instr.issue? c = some i →
    (∀ n p, s.partOf i.tile = some (n, p) → s.tileRuns i.tile n p = false) → exec c s = .next s)
  ∧ ∀ (s : State) (i : Issue) (n rm : Nat) (p : ImgSlot), i.x < 220 → s.partOf i.tile = some (n, p) →
    s.tileRuns i.tile n p = true → (s.tile i.tile).expects i.bundle slotS = true → (s.tile i.tile).held = false → (s.tile i.tile).slots = [] →
    let t := i.tile
    let x := s.tile t
    (i.fetch = .clean → s.storeUsed p ≤ i.bundle →
      exec (.setrm i rm) s = .next (s.setTile t { x with pc := i.bundle % 4096, waiting := false, halt := 1 }))
    ∧ (i.fetch = .uncorrectable →
      ∃ u, exec (.setrm i rm) s = .next u ∧ u.tile t = { x with pc := i.bundle % 4096, waiting := false, halt := 3 } ∧ s.tilesBut u t
        ∧ u.fld .tileSunc (tileIdx t) 63 0 = satAdd 64 (s.fld .tileSunc (tileIdx t) 63 0) 1)

/-- R235, R236: LOAD puts the bytes of SRAM at the start of a vector register, STORE the start of a vector register into SRAM and no other byte; an
address outside SRAM halts the tile with HALT 5, and a poisoned word a user image reads, before a store of part of it too, with HALT 2. R72: one
that a service image reads poisons its chunk. R235, R237: the scrubber reads the next word of a bank, and the position moves on; an uncorrectable
error is counted, and poisons the word it is in and touches no other tile. -/
def Obligations.LoadsStoresAndScrubbing : Prop :=
  (∀ (s : State) (i : Issue) (n : Nat) (p : ImgSlot) (vr addr size : Nat), s.Issues i slotM n p → accessSize size = true →
     let t := i.tile
     let u := s.issued i slotM
     let x := u.tile t
     let bs := x.vbytes vr size
     (addr + size ≤ sramBytes → (p.image.user && x.poisonIn addr size) = false →
       let v := if x.poisonIn addr size then u.poisonChunk i.ctx i.chunk else u
       exec (.load i vr addr size .clean) s = .next ((v.setTile t (x.setVbytes vr (Memory.read x.sram addr size))).bundleDone p i)
       ∧ (x.setVbytes vr (Memory.read x.sram addr size)).vbytes vr size = Memory.read x.sram addr size
       ∧ ∀ r, r < 32 → r ≠ vr % 32 → (x.setVbytes vr (Memory.read x.sram addr size)).vreg r = x.vreg r)
     ∧ (addr + size ≤ sramBytes → (p.image.user = true → ∀ w ∈ partWords addr bs.length, x.poison.contains w = false) →
       let y := x.storeBytes addr bs
       exec (.store i vr addr size .clean) s = .next ((u.setTile t y).bundleDone p i) ∧ y = { x with sram := y.sram, poison := y.poison }
         ∧ (x.poison = [] → y.poison = [] ∧ (∀ b, b < addr ∨ addr + size ≤ b → Memory.byte y.sram b = Memory.byte x.sram b)
             ∧ ∀ j, j < bs.length → Memory.byte y.sram (addr + j) = bs.getD j 0))
     ∧ (sramBytes < addr + size →
       ∃ v w, exec (.load i vr addr size .clean) s = .next v ∧ exec (.store i vr addr size .clean) s = .next w
         ∧ v.tile t = { x with halt := 5, waiting := false }
         ∧ (bs.length = size → w.tile t = { x with halt := 5, waiting := false }))
     ∧ (addr + size ≤ sramBytes → p.image.user = true →
       (x.poisonIn addr size = true →
         ∃ v, exec (.load i vr addr size .clean) s = .next v ∧ v.tile t = { x with halt := 2, waiting := false })
       ∧ ((∃ w ∈ partWords addr bs.length, x.poison.contains w = true) →
         ∃ v, exec (.store i vr addr size .clean) s = .next v ∧ v.tile t = { x with halt := 2, waiting := false })))
  ∧ (∀ (s : State) (x y bank : Nat), s.flt.safe = false → x < 220 → y < 96 → bank < 8 →
       let t := tileNo x y
       let k := (s.tile t).scrubs.get bank 0
       let moved : Tile := { s.tile t with scrubs := (s.tile t).scrubs.set bank ((k + 1) % 1024) }
       s.fab.retired.contains t = false →
       (∀ ws, (∀ w ∈ ws, w.1 = .clean) → exec (.tileScrubAccess x y bank ws) s = .next (s.setTile t moved))
       ∧ ∀ j, j < 4 → ∃ v, exec (.tileScrubAccess x y bank (List.replicate j (.clean, none) ++ [(.uncorrectable, none)])) s = .next v
         ∧ s.tilesBut v t ∧ (v.tile t).sram = (s.tile t).sram ∧ (v.tile t).scrubs = moved.scrubs
         ∧ (∀ a, a ∈ (v.tile t).poison ↔ a = (8 * k + bank) * 4 + j ∨ a ∈ (s.tile t).poison)
         ∧ v.fld .tileSunc (tileIdx t) 63 0 = satAdd 64 (s.fld .tileSunc (tileIdx t) 63 0) 1)

/-- R247, Table 10.5: what a scalar operation writes, where a branch and a loop go on, and what becomes of the sticky flags; SETRM, HALT and WAIT
change TRM, HALT and the wait alone, and an unmet WAIT delays its bundle (R248). R247, R249: after its last micro-operation a bundle gives way to
the next one, or to the one a branch named; one past the image's last halts the tile. -/
def Obligations.ScalarOperationsAndControl : Prop :=
  ∀ (s : State) (i : Issue) (n : Nat) (p : ImgSlot) (rd ra rb : Nat), s.Issues i slotS n p →
    let t := i.tile
    let u := s.issued i slotS
    let x := u.tile t
    let a := x.greg ra
    let b := x.greg rb
    let leaves (v : State) : Out := .next (v.bundleDone p i)
    let writes (op : SOp) (v : Word) : Prop := exec (.scalarOperation i op rd ra rb) s = leaves (u.setTile t (x.setGreg rd v))
    writes .add (a + b) ∧ writes .sub (a - b) ∧ writes .and (a &&& b) ∧ writes .or (a ||| b) ∧ writes .xor (a ^^^ b)
    ∧ (b.toNat < 64 → writes .shl (a <<< b.toNat) ∧ writes .shr (a >>> b.toNat) ∧ writes .sar (a.sshiftRight b.toNat))
    ∧ (∀ v, writes (.imm v) v) ∧ writes .readFlags (BitVec.ofNat 64 (s.tileFl t))
    ∧ (∀ nz target, exec (.scalarOperation i (.branch nz target) rd ra rb) s
        = leaves (if (a != 0) = nz then u.setTile t { x with next := some (target % 4096) } else u))
    ∧ (∀ l, exec (.scalarOperation i (.loopStart l) rd ra rb) s = leaves (u.setTile t { x with loops := x.loops.set (l % 4) a.toNat }))
    ∧ (∀ l target, let c := x.loops.get (l % 4) 0
        exec (.scalarOperation i (.loopEnd l target) rd ra rb) s = leaves (u.setTile t
          (if 1 < c then { x with loops := x.loops.set (l % 4) (c - 1), next := some (target % 4096) }
           else { x with loops := x.loops.set (l % 4) 0 })))
    ∧ (∃ v w, exec (.scalarOperation i .raiseFlags rd ra rb) s = .next v ∧ exec (.scalarOperation i .lowerFlags rd ra rb) s = .next w
        ∧ v.tileFl t = Nat.lor (s.tileFl t) (a.toNat % 32) ∧ w.tileFl t = Nat.land (s.tileFl t) (31 - a.toNat % 32)
        ∧ s.regsBut v [Reg.addr .tileFlags (tileIdx t)] ∧ s.regsBut w [Reg.addr .tileFlags (tileIdx t)])
    ∧ (∀ rm, rm ≤ 4 → exec (.setrm i rm) s = leaves (u.setTile t { x with trm := rm }))
    ∧ exec (.halt i) s = .next (u.setTile t { x with halt := 1 })
    ∧ (∀ on_, (s.waitMet t on_ = true → exec (.wait i on_) s = leaves u)
        ∧ (s.waitMet t on_ = false →
            exec (.wait i on_) s = .next (s.setTile t { s.tile t with pc := i.bundle % 4096, held := true, waiting := true })))
    ∧ ∀ v : State, (v.tile t).halt = 0 →
        (i.last = false → v.bundleDone p i = v)
        ∧ (i.last = true →
          let y := v.tile t
          let b := y.next.getD (y.pc + 1)
          ∃ z, v.bundleDone p i = v.setTile t z ∧ z = { y with pc := b % 4096, slots := [], next := none, halt := z.halt, waiting := z.waiting }
            ∧ (b < v.storeUsed p → z.halt = 0 ∧ z.waiting = y.waiting) ∧ (v.storeUsed p ≤ b → z.halt = 1))

/-- R248, R255 to R258, R260, R261, Table 11.1: SEND puts one packet with the header of Table 11.1 and the bytes of SRAM into its router's buffer,
delays its bundle until the channel's credits cover every flit, and its packet is dropped and counted where it leaves the partition or its header
is malformed; RECV takes the oldest packet's header. A packet that is first in a router's buffer goes along X and then Y, a multicast along its
line, into the next router's buffer where its credits cover every flit, or out of the mesh; at its tile with the partition's generation it enters
the receive queue that its header names, or waits while the queue is full; one of another partition or generation is dropped and counted; a
returned flit gives one credit back. -/
def Obligations.TilesSendReceiveAndDeliver : Prop :=
  (∀ (s : State) (i : Issue) (n : Nat) (p : ImgSlot), s.Issues i slotM n p →
     let t := i.tile
     let u := s.issued i slotM
     let x := u.tile t
     (∀ dst addr len vc queue tag user,
       let c := sendChannel dst vc
       let m0 := sendM0 p dst c len queue
       let pkt : MeshPkt := ⟨BitVec.ofNat 64 m0, BitVec.ofNat 64 (sendM1 i.x i.y n tag), user, Memory.read x.sram addr len⟩
       (s.holdMet t (.send c len) = false →
         exec (.send i dst addr len vc queue tag user .clean) s
           = .next (s.setTile t { s.tile t with pc := i.bundle % 4096, held := true, waiting := false }))
       ∧ (s.holdMet t (.send c len) = true →
         (sendInside p dst = false →
           exec (.send i dst addr len vc queue tag user .clean) s = .next (s.kept ((u.meshDrop t m0 63 48).bundleDone p i)))
         ∧ (sendInside p dst = true → addr + len ≤ sramBytes → x.poisonIn addr len = false →
           (headerOk pkt = true →
             exec (.send i dst addr len vc queue tag user .clean) s = .next ((u.meshPush (meshAt t 4 c) pkt).bundleDone p i))
           ∧ (headerOk pkt = false →
             exec (.send i dst addr len vc queue tag user .clean) s = .next (s.kept ((u.meshDrop t m0 31 16).bundleDone p i))))))
     ∧ (∀ dx dy len vc queue (q : MeshPkt), p.x0 + dx < 220 → p.y0 + dy < 96 → vc < 3 → len ≤ 4136 → queue < 16 →
         q.m0 = BitVec.ofNat 64 (sendM0 p (.tile dx dy) vc len queue) →
         mfield q 63 62 = 0 ∧ mfield q 61 60 = vc ∧ mfield q 59 52 = p.x0 + dx ∧ mfield q 51 45 = p.y0 + dy ∧ mfield q 28 16 = len
           ∧ mfield q 15 8 = p.pgen % 256 ∧ mfield q 7 0 = queue ∧ headerOk q = true)
     ∧ (∀ queue rd pkt rest, x.inbox.get queue [] = pkt :: rest → rd + 2 < 64 →
       ∃ v, exec (.recv i queue rd) s = .next ((u.setTile t v).bundleDone p i) ∧ v = { x with gregs := v.gregs, inbox := x.inbox.set queue rest }
         ∧ v.greg rd = pkt.m0 ∧ v.greg (rd + 1) = pkt.m1 ∧ v.greg (rd + 2) = pkt.m2
         ∧ ∀ r, r < 64 → r < rd ∨ rd + 2 < r → v.greg r = x.greg r))
  ∧ (∀ (s : State) (x y d vc : Nat) (feed : Option Feed) (ties : List Nat) (e : SramEcc) (p : MeshPkt) (rest : List MeshPkt),
       s.flt.safe = false → x < 220 → y < 96 → d < 5 → vc < 3 →
       let t := tileNo x y
       let b := meshAt t d vc
       let fed := match feed with | some f => s.feedMesh f | none => s
       let u := ties.foldl (fun (s : State) n => s.tieCount n 1) fed
       (fed.meshBuf b).pkts = p :: rest → u.fab.routers.contains t = false →
       let spart := p.m1.field 48 42
       (mfield p 63 62 = 0 →
         (unicastWay p x y = 4 →
           ((u.fab.retired.contains t = true ∨ u.partOf t = none) →
             exec (.meshDeliver x y d vc feed ties e) s = .next (s.kept ((u.meshDrop t p.m0.toNat 63 48).meshPop b)))
           ∧ (∀ n q, u.fab.retired.contains t = false → u.partOf t = some (n, q) →
             (spart ≠ n → spart ≠ 127 →
               exec (.meshDeliver x y d vc feed ties e) s = .next (s.kept ((u.meshDrop t p.m0.toNat 63 48).meshPop b)))
             ∧ ((spart = n ∨ spart = 127) → mfield p 15 8 ≠ q.pgen % 256 →
               exec (.meshDeliver x y d vc feed ties e) s = .next (s.kept ((u.meshDrop t p.m0.toNat 47 32).meshPop b)))
             ∧ (∀ z, (spart = n ∨ spart = 127) → mfield p 15 8 = q.pgen % 256 → u.queueIn t p e = some z →
               exec (.meshDeliver x y d vc feed ties e) s = .next (s.kept (z.meshPop b))
               ∧ (z.tile t).inbox.get (mfield p 7 0) [] = (u.tile t).inbox.get (mfield p 7 0) [] ++ [p] ∧ u.tilesBut z t)
             ∧ ((spart = n ∨ spart = 127) → mfield p 15 8 = q.pgen % 256 → u.queueIn t p e = none →
               exec (.meshDeliver x y d vc feed ties e) s = .next (s.kept u))))
         ∧ (unicastWay p x y ≠ 4 → beyond t (unicastWay p x y) vc = none →
           exec (.meshDeliver x y d vc feed ties e) s = .next (s.kept (u.meshPop b)))
         ∧ (∀ nb, unicastWay p x y ≠ 4 → beyond t (unicastWay p x y) vc = some nb →
           ((u.fab.routers.contains (meshTile nb) = true ∨ u.meshCredit nb < flits p.data.length) →
             exec (.meshDeliver x y d vc feed ties e) s = .next (s.kept u))
           ∧ (u.fab.routers.contains (meshTile nb) = false → flits p.data.length ≤ u.meshCredit nb →
             let v := (u.meshPop b).meshPush nb p
             exec (.meshDeliver x y d vc feed ties e) s
               = .next (s.kept (if (u.meshBuf nb).pkts = [] then State.meshRun (meshSpan - 1) v nb e else v)))))
       ∧ (∀ n q, mfield p 63 62 ≠ 0 → vc = 2 → onSegment p (linePlace p x y) = true → u.fab.retired.contains t = false →
           u.partOf t = some (n, q) → (spart = n ∨ spart = 127) → mfield p 15 8 = q.pgen % 256 →
         (u.queueIn t p e = none → exec (.meshMulticastDeliver x y d feed ties e) s = .next (s.kept u))
         ∧ (∀ z, u.queueIn t p e = some z →
           (linePlace p x y = mfield p 36 29 → exec (.meshMulticastDeliver x y d feed ties e) s = .next (s.kept (z.meshPop b)))
           ∧ (∀ nb, linePlace p x y ≠ mfield p 36 29 → beyond t (lineWay p (linePlace p x y)) vc = some nb →
             ((z.fab.routers.contains (meshTile nb) = true ∨ z.meshCredit nb < flits p.data.length) →
               exec (.meshMulticastDeliver x y d feed ties e) s = .next (s.kept u))
             ∧ (z.fab.routers.contains (meshTile nb) = false → flits p.data.length ≤ z.meshCredit nb →
               exec (.meshMulticastDeliver x y d feed ties e) s = .next (s.kept ((z.meshPop b).meshPush nb p)))))))
  ∧ ∀ (s : State) (x y d vc : Nat), s.flt.safe = false → x < 220 → y < 96 → d < 5 → vc < 3 →
      let b := meshAt (tileNo x y) d vc
      0 < (s.meshBuf b).owed →
      exec (.meshCreditReturn x y d vc) s = .next (s.setMeshBuf b { s.meshBuf b with owed := (s.meshBuf b).owed - 1 })

/-- R244, R245: a vector operation puts its result at the start of its destination register and adds its flags to the sticky ones; the integer lanes
add, subtract and combine bits modulo 2^64, and the sign operations change the sign bit alone and raise no flag. -/
def Obligations.VectorOperationsWriteTheirLanes : Prop :=
  ∀ (s : State) (i : Issue) (n : Nat) (p : ImgSlot) (op : VOp) (fmt : VFmt) (rd ra rb rc rm : Nat) (strict : Bool) (r : VRes),
    s.Issues i slotV n p →
    let t := i.tile
    let u := s.issued i slotV
    let x := u.tile t
    (vecEval x op fmt rm strict ra rb rc = some r →
      exec (.vectorOperation i op fmt rd ra rb rc rm strict) s = .next (s.kept
        ((((u.setTile t (x.setVbytes rd r.bytes)).raiseFl t r.flags).events t p.image.user i.ctx r.sat r.flush).bundleDone p i)))
    ∧ (x.dir rm ≤ 4 → ∀ o, (o = .intAdd ∨ o = .intSub ∨ o = .intAnd ∨ o = .intOr ∨ o = .intXor) →
      ∃ q, vecEval x o fmt rm strict ra rb rc = some q ∧ q.flags = 0 ∧ q.sat = 0 ∧ q.flush = 0
        ∧ q.bytes = (List.zipWith (fun a b => natBytes 8 (BitVec.toNat (
            let v : Word := BitVec.ofNat 64 a
            let w : Word := BitVec.ofNat 64 b
            if o = .intAdd then v + w else if o = .intSub then v - w else if o = .intAnd then v &&& w
            else if o = .intOr then v ||| w else v ^^^ w))) (x.elems ra 8 4) (x.elems rb 8 4)).flatten)
    ∧ ∀ a b c dir, a < 2 ^ 32 →
      floatElem .negate .b32 dir a b c = ⟨if a < 2 ^ 31 then a + 2 ^ 31 else a - 2 ^ 31, 0⟩
      ∧ floatElem .abs .b32 dir a b c = ⟨a % 2 ^ 31, 0⟩ ∧ floatElem .copy .b32 dir a b c = ⟨a, 0⟩

/-- R238 to R243: CUBE_MM updates the sixteen accumulators of its set from the rows it reads and counts its cycles; CUBE_LDC and CUBE_STC move a set
between SRAM and the cube, a poisoned set as poisoned words; the other sets stay. R55, R58, R59, R62, R66, R67, R246: LA_ADD adds each element of a
reduction input into its accumulator in SRAM, and LA_FIN rounds accumulators once into the output format and writes them; both count what they
saturate and flush. -/
def Obligations.CubeAndLongAdder : Prop :=
  (∀ (s : State) (i : Issue) (n : Nat) (p : ImgSlot) (set_ : Nat), s.Issues i slotC n p → set_ < 4 → i.ctx < 65536 →
     let t := i.tile
     let u := s.issued i slotC
     let x := u.tile t
     let zeros : List Nat := List.replicate 16 0
     (∀ addr, addr + 64 ≤ sramBytes → x.poisonIn addr 64 = false →
       exec (.cubeLdc i set_ addr .clean) s = .next ((u.setTile t { x with
         cube := x.cube.set set_ ((pieces 4 (Memory.read x.sram addr 64)).map beNat)
         cubeBad := x.cubeBad.filter fun c => c != set_ }).bundleDone p i))
     ∧ (∀ addr,
         let bs := (x.cube.get set_ zeros).flatMap (natBytes 4)
         addr + bs.length ≤ sramBytes → (p.image.user = true → ∀ w ∈ partWords addr bs.length, x.poison.contains w = false) →
         let y := x.storeBytes addr bs
       exec (.cubeStc i set_ addr .clean) s
         = .next ((u.setTile t (if x.cubeBad.contains set_ then y.poisonWords addr 64 else y)).bundleDone p i))
     ∧ (∀ aFmt bFmt fa fb aAddr aPitch bAddr bPitch depth int strict, Fmt.ofCode aFmt = some fa → Fmt.ofCode bFmt = some fb →
         fa.cubeInput = true → fb.cubeInput = true → (int = true → fa = .int8 ∧ fb = .int8) → x.poison = [] →
         let k := cubeK fa fb
         (∀ q ∈ rowPieces fa aAddr aPitch depth k ++ rowPieces fb bAddr bPitch depth k, q.1 + q.2 ≤ sramBytes) →
         let rows (f : Fmt) (addr pitch : Nat) : List XVal := (List.range 4).flatMap fun r =>
           cubeRow f depth k (Memory.read x.sram (addr + r * pitch + (cubeSpan f depth k).1) (cubeSpan f depth k).2)
         let cs := cubeMM int strict k (rows fa aAddr aPitch) (rows fb bAddr bPitch) (x.cube.get set_ zeros)
       ∃ v, exec (.cubeMm i aAddr aPitch aFmt bAddr bPitch bFmt depth set_ int strict true .clean) s = .next (v.bundleDone p i) ∧ s.tilesBut v t
         ∧ v.tile t = { x with cube := x.cube.set set_ (cs.map Conv.pat) }
         ∧ v.fld .tileCubecyc (tileIdx t) 63 0 = satAdd 64 (s.fld .tileCubecyc (tileIdx t) 63 0) (cubeCycles fa fb)))
  ∧ (∀ (s : State) (i : Issue) (n : Nat) (p : ImgSlot) (addr : Nat), s.Issues i slotM n p →
       let t := i.tile
       let u := s.issued i slotM
       let x := u.tile t
       (∀ wmode anchor fmt f w vr, Fmt.ofCode fmt = some f → f.reductionInput = true → windowOf wmode anchor f = some w →
           let es := laElems x f w vr
           let z := w.width / 8
           addr + z * es.length ≤ sramBytes → x.poison = [] →
           let r := List.zipWith (fun b v => Accum.add w (Accum.ofPattern w (beNat b)) v) (pieces z (Memory.read x.sram addr (z * es.length))) es
         exec (.laAdd i addr wmode anchor fmt vr .clean) s = .next (s.kept
           (((u.sramWrite t p.image.user addr (r.flatMap fun a => natBytes z (a.acc.pattern w)) .clean).events t p.image.user i.ctx
             (r.map Added.sat).sum (r.map Added.flush).sum).bundleDone p i)))
       ∧ (∀ wmode anchor src f w m divisor fmt g dst rm strict, Fmt.ofCode src = some f → windowOf wmode anchor f = some w →
           Fmt.ofCode fmt = some g → g.output = true → x.dir rm ≤ 4 →
           let z := w.width / 8
           addr + z * m ≤ sramBytes → x.poison = [] →
           let e := encodePayload g (x.dir rm) strict
             ((pieces z (Memory.read x.sram addr (z * m))).map fun b => (Accum.ofPattern w (beNat b)).value w divisor)
         exec (.laFin i addr wmode anchor src m divisor fmt dst rm strict .clean) s = .next (s.kept
           (((u.sramWrite t p.image.user dst e.bytes .clean).events t p.image.user i.ctx e.sat e.flush).bundleDone p i))))

/-- R271, R273, Table 11.5: a LOAD whose container cannot be read, or fails a check, finishes with that check's reason code and loads nothing; one
that passes takes its slot LOADING with its rectangle, its job and its tokens, and the next partition generation of the slot; its tiles are awake
when the time of R413 has passed. -/
def Obligations.ImageLoadsAreChecked : Prop :=
  ∀ s : State, s.flt.safe = false → s.imgBusy 1 = true → (s.fab.taken = false ∨ (s.islot s.imgSlotArg).state = .empty) → s.svc.holding = false →
    let k := s.imgSlotArg
    let job := s.imgArg 0 49 38
    let l : Load := ⟨k, job, s.imgArg 2 63 56, s.imgArg 2 55 49, s.imgArg 2 48 41, s.imgArg 2 40 34, s.imgArg 3 63 0⟩
    let box := s.containerAt (s.imgArg 0 37 22) (s.imgArg 0 21 6) (s.imgArg 1 63 0) job
    (box = none → exec .imageLoad s = .next (s.imgDone k 0x01))
    ∧ (∀ bs, box = some bs → l.w ≠ 0 → l.h ≠ 0 → s.loadReason bs l ≠ 0 → exec .imageLoad s = .next (s.imgDone k (s.loadReason bs l)))
    ∧ (∀ bs, box = some bs → l.w = 0 ∨ l.h = 0 → s.loadReason bs l = 0 ∨ 6 ≤ s.loadReason bs l → exec .imageLoad s = .next (s.imgDone k 0x06))
    ∧ (∀ bs, box = some bs → s.loadReason bs l ≠ 0 → s.loadReason bs l < 6 → exec .imageLoad s = .next (s.imgDone k (s.loadReason bs l)))
    ∧ (∀ bs i, box = some bs → l.w ≠ 0 → l.h ≠ 0 → s.loadReason bs l = 0 → parseImage bs = some i → i.hasTiles = true →
      ∃ t, exec .imageLoad s = .next t ∧ (t.islot k).state = .loading ∧ (t.islot k).image = i ∧ (t.islot k).job = job
        ∧ (t.islot k).x0 = l.x0 ∧ (t.islot k).y0 = l.y0 ∧ (t.islot k).w = l.w ∧ (t.islot k).h = l.h
        ∧ (t.islot k).tokens = s.imageCost i l ∧ (t.islot k).pgen = (s.fab.pgens.get k 0 + 1) % 256
        ∧ (t.islot k).actAt = (if l.actAt = 0 then none else some l.actAt) ∧ t.fab.taken = true
        ∧ ∀ j, j ≠ k → t.islot j = s.islot j)

/-- R270, R273, Table 11.7: a slot goes from LOADING to LOADED when its tiles are awake and its writing is complete, to RUNNING when it is activated
or at its ACT_AT, back to LOADED when it is stopped, and is EMPTY with its tiles cleared when it is unloaded; a command that the slot's state, or a
quiesce of it, does not allow finishes with reason 0x05. -/
def Obligations.ImageSlotsMoveThroughTheirStates : Prop :=
  ∀ (s : State) (k : Nat), s.flt.safe = false →
    let p := s.islot k
    let waits := s.imgBusy 1 && s.fab.taken && s.imgSlotArg == k
    let launched (t : State) : Prop := t = { s with fab := t.fab } ∧ t.islot k = { p with state := .running, actAt := none }
      ∧ (∀ j, j ≠ k → t.islot j = s.islot j) ∧ t.fab.tiles = s.fab.tiles
      ∧ ∀ n, (s.fab.engines.get n {}).slot ≠ some k → t.fab.engines.find? n = s.fab.engines.find? n
    (p.state = .loading → s.domBusy (1408 + k) = false → p.wakeAt ≤ s.local →
      exec (.imageLoadComplete k) s = .next (if waits then (s.setIslot k { p with state := .loaded }).imgDone k 0
        else s.setIslot k { p with state := .loaded }))
    ∧ (p.state = .loading → s.local < p.wakeAt → exec (.imageLoadComplete k) s = .next s)
    ∧ (∀ a, p.actAt = some a → p.state = .loaded → p.quiet = false → a ≤ s.now → ∃ t, exec (.imageLaunch k) s = .next t ∧ launched t)
    ∧ (s.svc.holding = false → s.imgSlotArg = k →
      (s.imgBusy 2 = true →
        ((p.state ≠ .loaded ∨ p.quiet = true) → exec .imageActivate s = .next (s.imgDone k 0x05))
        ∧ (p.state = .loaded → p.quiet = false → s.imgArg 3 63 0 = 0 →
            ∃ t, exec .imageActivate s = .next t ∧ launched t ∧ t.fab.cmdBusy = none ∧ t.fab.reason = 0)
        ∧ (p.state = .loaded → p.quiet = false → s.imgArg 3 63 0 ≠ 0 →
            exec .imageActivate s = .next ((s.setIslot k { p with actAt := some (s.imgArg 3 63 0) }).imgDone k 0)))
      ∧ (s.imgBusy 3 = true →
        ((k < 4 ∨ p.state ≠ .running ∨ p.quiet = true) → exec .imageStop s = .next (s.imgDone k 0x05))
        ∧ (4 ≤ k → p.state = .running → p.quiet = false →
            exec .imageStop s = .next ((s.setIslot k { p with state := .loaded, actAt := none }).imgDone k 0)))
      ∧ (s.imgBusy 4 = true →
        ((k < 4 ∨ p.state ≠ .loaded ∨ p.quiet = true) → exec .imageUnload s = .next (s.kept (s.imgDone k 0x05)))
        ∧ (4 ≤ k → p.state = .loaded → p.quiet = false → s.svc.deferq = [] → s.mops = [] →
            ∃ t, exec .imageUnload s = .next t ∧ t.islot k = {} ∧ (∀ j, j ≠ k → t.islot j = s.islot j) ∧ t.mem = s.mem
              ∧ (∀ j, p.covers j = true → t.tile j = {}) ∧ (∀ j, p.covers j = false → t.tile j = s.tile j)
              ∧ t.fab.cmdBusy = none ∧ t.fab.reason = 0)))

/-- R331 to R334: a session is enabled with its counts at 0 where its ring lies in the mirror region and meets no other; a full block, or one 10 µs
old, is written to the ring record by record, each at its place modulo the capacity, and its buffer returns; a record staged before the session
was enabled again keeps the place it had, and is not counted. -/
def Obligations.MirrorSessionsWriteTheirRing : Prop :=
  ∀ (s : State) (i : Nat),
    (i < 64 → s.islandsUp = true → s.pins.pwrGood = true →
      (s.ringOk i = true → ∃ m, exec (.mirrorEnable i) s = .next (s.setSess i m) ∧ m.enabled = true ∧ m.written = 0 ∧ m.overwritten = 0
          ∧ m.base = s.fld .mirSel [i] 47 32 * pageBytes ∧ m.capacity = s.fld .mirSel [i] 31 20 * pageBytes / 144
          ∧ m.staged.map (fun b => (b.die, b.buf, b.at_, b.recs.map StageRec.bytes))
              = (s.sess i).staged.map (fun b => (b.die, b.buf, b.at_, b.recs.map StageRec.bytes))
          ∧ ∀ b ∈ m.staged, ∀ r ∈ b.recs, r.place ≠ none)
      ∧ (s.ringOk i = false → exec (.mirrorEnable i) s = .next (s.setSess i { s.sess i with enabled := false }))
      ∧ exec (.mirrorDisable i) s = .next (s.setSess i { s.sess i with enabled := false }))
    ∧ (∀ die b rec_ x, s.flt.safe = false → s.mops = [] →
        (s.sess i).staged.find? (fun b => b.die == die && s.blockDue b) = some b → b.recs = [rec_] →
        s.mirrorRegion = some x → rec_.bytes.length = 144 →
        let off := rec_.place.getD ((s.sess i).base + 144 * ((s.sess i).written % max (s.sess i).capacity 1))
      ((s.blockStacks i b).all s.stackOpen = false → exec (.mirrorBlockWrite i die) s = .next s)
      ∧ ((s.blockStacks i b).all s.stackOpen = true →
        ∃ t, exec (.mirrorBlockWrite i die) s = .next t ∧ (t.sess i).staged = (s.sess i).staged.erase b
          ∧ (t.sess i).written = (if rec_.place = none then satAdd 64 (s.sess i).written 1 else (s.sess i).written)
          ∧ t.mem = ((x.puts s.mp.mirrorRgn off rec_.bytes).foldl (fun m w => Memory.write m w.1 w.2) s.mem : Memory)))

/-- R422, R424, R429: every 100 µs the registers of all sensors take their readings and MAX the hotter; a sensor that comes to read 105.0 °C or more
enters the safe state with THERM_N low. R416, R423: at each multiple of 1 ms SUPPLY is the cap times the thermal factor over 1.06, less the fixed
load, and the fabric clock's STEP rises by one while the heat or the cap demands it, and is at least MIN_STEP. R416: the thermal factor is 1
up to an average of 85.0 °C, one half from 95.0 °C on, and falls evenly between. R408, R409: MAIN54 outside 40.0 to 59.5 V switches the main
regulators off, with the stacks' contents, and enters the safe state; inside it is only read; the loss of AUX12 switches them off, no register
answers, and the log survives with every entry closed. -/
def Obligations.PowerAndHeat : Prop :=
  (∀ (s : State) (dieT stackT : List Reading), s.sensorsDue = true →
     ∃ t, exec (.sensorRead dieT stackT) s = .next t ∧ t.pow.readAt = some s.local ∧ t.mem = s.mem
       ∧ (∀ d, d < 20 → t.fld .pwrDieTemp [d] 63 52 = tempField (dieT.getD d none)
           ∧ t.fld .pwrDieTemp [d] 51 40 = hotter (s.fld .pwrDieTemp [d] 51 40) (tempField (dieT.getD d none)))
       ∧ (∀ k, k < 16 → t.fld .pwrStackTemp [k] 63 52 = tempField (stackT.getD k none))
       ∧ (∀ i v, (i, some v) ∈ sources dieT stackT → 840 ≤ v → i ∉ s.pow.crit → t.flt.safe = true ∧ t.pins.thermLow = true)
       ∧ (∀ i v, hottest (sources dieT stackT) = some (i, v) →
           (v < 840 → t.flt.safe = s.flt.safe ∧ t.pins = s.pins ∧ t.fld .pwrTemp [] 63 52 = tempField (some v)
               ∧ t.fld .pwrTemp [] 51 46 = i ∧ t.pow.crit = [])))
  ∧ (∀ (s : State) (inputW : Nat), s.islandsUp = true → s.now / 1000000 ≠ s.pow.evalAt → s.pow.tj ≠ [] → s.svc.deferq = [] →
       let w := if s.mainRuns = true then inputW else 0
       let a := s.tjSum
       let hot := 760 * (a.2 : Int) ≤ a.1
       ∃ t, exec (.powerEvaluation inputW) s = .next t ∧ t.mem = s.mem ∧ t.pow.evalAt = s.now / 1000000
         ∧ t.fld .pwrTokens [] 63 48 = supplyOf s.capW (thermalFactor a.1 a.2) (s.fld .pwrTokens [] 31 16) % 2 ^ 16
         ∧ t.fld .pwrStatus [] 63 50 = min w (2 ^ 14 - 1)
         ∧ ((hot ∨ s.capW < w) → t.clockStep = max (min 15 (s.clockStep + 1)) s.minStep)
         ∧ (¬ hot → w ≤ s.capW → s.clockStep < s.minStep → t.clockStep = s.minStep)
         ∧ (¬ hot → w ≤ s.capW → s.minStep ≤ s.clockStep → t.clockStep = s.clockStep ∨ t.clockStep + 1 = s.clockStep))
  ∧ (∀ (sum : Int) (n : Nat), 0 < n →
       let k := thermalFactor sum n
       (sum ≤ 680 * n → k.1 = k.2) ∧ (760 * n ≤ sum → 2 * k.1 = k.2)
       ∧ (680 * n < sum → sum < 760 * n → (k.1 : Int) * (160 * n) = k.2 * (840 * n - sum)))
  ∧ (∀ s : State,
       (∀ cv, s.islandsUp = true →
         ((s.mainRuns = false ∨ (4000 ≤ cv ∧ cv ≤ 5950)) →
           exec (.mainRange cv) s = .next (s.setFld .pwrInput [] 63 48 (min cv 0xFFFF)))
         ∧ (s.mainRuns = true → (cv < 4000 ∨ 5950 < cv) →
           ∃ t, exec (.mainRange cv) s = .next t ∧ t.pins.mainOn = false ∧ t.pins.pwrGood = false ∧ t.flt.safe = true
             ∧ (∀ k, k < 16 → (t.stack k).off = true) ∧ t.mem = s.mem))
       ∧ (∃ t, exec .auxLoss s = .next t ∧ t.islandsUp = false ∧ t.pins.mainOn = false ∧ t.pins.pwrGood = false ∧ t.nvm.active = s.nvm.active
           ∧ t.nvm.staging = s.nvm.staging ∧ t.nvm.golden = s.nvm.golden ∧ t.flt.nextSeq = s.flt.nextSeq ∧ t.flt.first = s.flt.first
           ∧ t.svc.ctxs = [] ∧ ∀ e ∈ t.flt.log, e.2.isOpen = false))

/-- R436 to R440, R442, R443, R449: the message at the head of a die's queue merges into the newest entry where it repeats that NOTE, and else is
logged with its reaction, an engine's or a router's fault joining the queue as it is found; FLT_FIRST takes the first at its threshold; reaction 5 enters the safe state, reaction 2 starts a test. R443, R445: a
test that passes with no second message ends with VERDICT 2 and joins the tracker for its window; a test of a row that fails ends with VERDICT 3
and the row is isolated; verdicts leave the tracker when their window ends. R275 to R278: a spare column that passes its test takes the column's
place; when the substitution is complete the quiesced partitions go on and the isolation is recorded. -/
def Obligations.FaultsAreLoggedAndTested : Prop :=
  (∀ (s : State) (die : Nat) (m : FaultMsg) (rest : List FaultMsg), s.flt.queues.get die [] = m :: rest → s.flt.holding.get die [] = [] →
     let n := s.flt.nextSeq
     (∀ k e, s.mergeInto m = some k → s.logAt k = some e →
       ∃ t, exec (.faultMessageTake die false none) s = .next t ∧ t.flt.queues.get die [] = rest ∧ t.flt.nextSeq = n
         ∧ t.logAt k = some { e with rep := min 0xFFFF (e.rep + 1) })
     ∧ (s.mergeInto m = none → (m.sev ≠ 0 ∨ s.notesOf m.die m.block < 1000) →
         let r := s.reactionOf m.kind m.sev
       (r = 1 ∨ r = 5 ∨ (r = 2 ∧ (s.flt.tests ++ s.flt.waiting).any (fun t => t.msg.sameUnit m) = false
           ∧ s.flt.tracker.any (fun v => v.msg.sameUnit m && decide (s.local < v.until_)) = false ∧ 3 ≤ unitClass m.kind)) →
       ∃ t e, exec (.faultMessageTake die false none) s = .next t ∧ t.flt.queues.get die [] = rest ∧ t.logAt n = some e ∧ e.msg = m
         ∧ e.reaction = r ∧ e.verdict = (if r = 2 then 1 else 0) ∧ e.isOpen = decide (2 ≤ m.sev) ∧ e.mirrored = false
         ∧ t.flt.nextSeq = (n + 1) % 2 ^ 32
         ∧ (s.flt.first = none → s.fld .fltFirstCtl [] 61 60 ≤ m.sev → t.flt.first = some e)
         ∧ (∀ f, s.flt.first = some f → t.flt.first = some f)
         ∧ (r = 5 → t.flt.safe = true)
         ∧ (r = 2 → (⟨n, m, false⟩ : SelfTest) ∈ t.flt.tests ++ t.flt.waiting)
         ∧ (r = 1 → t.flt.safe = s.flt.safe ∧ t.flt.tests = s.flt.tests)))
  ∧ (∀ (s : State) (die : Nat) (tie : Bool) (f : Found), s.pins.pwrGood = true →
       exec (.faultMessageTake die tie (some f)) s = exec (.faultMessageTake die tie none) (s.found die f)
       ∧ (8 ≤ die → die < 12 → s.flt.queues.get die [] = [] → ∀ e, e < 128 →
           (s.found die (.streamEngine e)).flt.queues.get die [] = [⟨die, 0x0B, e, 0x028, 1, s.now, 0⟩])
       ∧ (12 ≤ die → die < 20 → s.flt.queues.get die [] = [] → ∀ i, i < 2640 →
           (s.found die (.router i)).flt.queues.get die [] = [⟨die, 0x11, i, 0x036, 2, s.now, 0⟩]))
  ∧ (∀ s : State,
       exec .verdictExpire s
         = .next { s with flt := { s.flt with tracker := s.flt.tracker.filter fun v => decide (s.local < v.until_) } }
       ∧ ∀ seq t e, s.flt.tests.find? (fun t => t.seq == seq) = some t → s.rowBusy t.msg = false → s.flt.waiting = [] →
           s.logAt seq = some e →
         (t.again = false → unitClass t.msg.kind ≠ 2 → s.flt.tracker.length < 1024 →
           ∃ u, exec (.selftestDone seq .pass) s = .next u ∧ u.logAt seq = some { e with verdict := 2 }
             ∧ u.flt.tests = s.flt.tests.filter (fun x => x.seq != seq)
             ∧ u.flt.tracker = s.flt.tracker ++ [⟨t.msg, s.local + s.windowNs t.msg.kind⟩] ∧ u.flt.isol = s.flt.isol
             ∧ u.fld .fltSelftest [] 43 22 = satAdd 22 (s.fld .fltSelftest [] 43 22) 1)
         ∧ (unitClass t.msg.kind = 2 → seq % 4096 ≠ s.flt.nextSeq % 4096 → s.reactionOf 0x0FF 0 ≠ 4 →
           ∃ u, exec (.selftestDone seq .fail) s = .next u ∧ u.logAt seq = some { e with verdict := 3 }
             ∧ u.flt.tests = s.flt.tests.filter (fun x => x.seq != seq)
             ∧ u.flt.isol = s.flt.isol ++ [⟨t.msg.die, t.msg.block, t.msg.inst, t.msg.kind, t.msg.unit_, false⟩]
             ∧ u.flt.nextSeq = (s.flt.nextSeq + 1) % 2 ^ 32))
  ∧ (∀ (s : State) (u : Subst), s.flt.safe = false → s.fab.subst = some u →
       (u.passed = false → u.die < 8 → u.pcol < 64 →
         ∃ t, exec (.spareSelftestDone u.die .pass) s = .next t ∧ t.fab = { s.fab with subst := some { u with passed := true } }
           ∧ t.svc = s.svc ∧ t.fld .fabSpare [u.die] 63 63 = 1 ∧ t.fld .fabSpare [u.die] 62 57 = u.pcol)
       ∧ (u.passed = true → s.fab.substq = [] → s.reactionOf 0x0FF 0 ≠ 4 →
         ∃ t, exec (.substitutionComplete u.die) s = .next t ∧ t.fab.subst = none ∧ t.fab.retired = s.fab.retired
           ∧ (∀ k, k ∈ u.slots → (t.islot k).quiet = false ∨ (t.islot k).state = .empty)
           ∧ t.flt.isol = s.flt.isol ++ [⟨u.msg.die, u.msg.block, u.msg.inst, u.msg.kind, u.msg.unit_, false⟩]))

/-- R438, R439, R440, R446, R453: the page in hand of the log is written to flash and its entries marked MIRRORED; FLT_ACK closes the open entries up
to a sequence, a FATAL one not in the safe state; FLT_FIRST is cleared by writing 1; an isolation record is marked. R448, R449: FORCE_SAFE, a hang
of Temond, a failed control complex and a Truss link of the die with its retries exhausted each enter the safe state, in which every port is
DISABLED; a check-in is noted, ALIVE toggles while the check-ins are current, and a PLL that runs and is unlocked is reported. -/
def Obligations.LogAndSafeState : Prop :=
  (∀ s : State,
     (let from_ := s.unmirrored.1
      let n := s.unmirrored.2
      let k := min n (128 - from_ % 128)
      n ≠ 0 → s.flt.urgent = true → s.nvm.badB = false → from_ < 2 ^ 32 →
       ∃ t, exec .logMirrorWrite s = .next t ∧ t.flt.pageFrom = (from_ + k) % 2 ^ 32 ∧ t.flt.wroteAt = s.local
         ∧ t.flt.urgent = decide (k < n)
         ∧ ∀ i e, i < k → s.logAt ((from_ + i) % 2 ^ 32) = some e →
             t.logAt ((from_ + i) % 2 ^ 32) = some { e with mirrored := true }
             ∧ t.nvm.mlog.find? ((from_ + i) % 2 ^ 32 % 131072) = some (LogEntry.words { e with mirrored := true }))
     ∧ (s.islandsUp = true →
       (∀ a q e, s.logAt q = some e →
         ∃ t, exec (.fltAck a) s = .next t ∧ t = { s with flt := { s.flt with log := t.flt.log, openOld := t.flt.openOld } }
           ∧ t.logAt q = some { e with isOpen := e.isOpen
               && !(decide ((a + 2 ^ 32 - q) % 2 ^ 32 < 2 ^ 31) && !(e.msg.sev == 3 && s.flt.safe)) })
       ∧ exec .firstFaultClear s = .next { s with flt := { s.flt with first := none, tie := false } }
       ∧ ∀ i, exec (.isolationClear i) s
           = .next { s with flt := { s.flt with isol := modNth (fun r => { r with pending := true }) s.flt.isol i } }))
  ∧ (∀ s : State,
       let safeAfter (c : Instr) : Prop := ∃ t, exec c s = .next t ∧ t.flt.safe = true ∧ t.mem = s.mem ∧ t.sent.map Prod.fst = s.sent.map Prod.fst
         ∧ (s.flt.safe = true → t.sent = s.sent)
         ∧ (s.flt.safe = false → ∀ p, t.linkState p = .disabled ∨ s.ports.find? p = none)
       (s.islandsUp = true → safeAfter .forceSafe)
       ∧ (s.flt.fwSeen = true → s.flt.checkin + 500000 < s.local → safeAfter .firmwareHang)
       ∧ (s.complexUsed = true → safeAfter .complexFail) ∧ (s.complexUsed = false → exec .complexFail s = .next s)
       ∧ (∀ die link, s.pins.pwrGood = true → (die < 8 ∧ link < 4) ∨ (8 ≤ die ∧ die < 12 ∧ link < 8) →
           safeAfter (.trussLinkError die link false)
           ∧ exec (.trussLinkError die link true) s = .next (s.raise die 0x05 link 0x008 0 0))
       ∧ (∀ die link b, (die < 8 ∧ 4 ≤ link) ∨ 8 ≤ link ∨ 12 ≤ die → exec (.trussLinkError die link b) s = .next s)
       ∧ (s.temondRuns = true → s.svc.holding = false →
           exec .temondCheckin s = .next { s with flt := { s.flt with fwSeen := true, checkin := s.local } })
       ∧ (s.fwOk = true → s.flt.safe = false → s.flt.romLow = false → s.flt.aliveAt + 500000 ≤ s.local →
           exec .aliveToggle s = .next { s with flt := { s.flt with alive := !s.flt.alive, aliveAt := s.local } })
       ∧ (∀ die pll, 8 ≤ die → die < 20 → s.pins.pwrGood = true → die < 12 ∨ s.pllRuns (die - 12) = true →
           exec (.pllUnlock die pll) s = .next (s.raise die 0x1B pll 0x048 2 0))
       ∧ (∀ die pll, 12 ≤ die → s.pllRuns (die - 12) = false → exec (.pllUnlock die pll) s = .next s)
       ∧ (∀ die pll, die < 8 → s.pins.pwrGood = true → die ∉ s.pins.pllLost →
           ∃ t, exec (.pllUnlock die pll) s = .next t ∧ t.pins.pllLost = s.pins.pllLost ++ [die]
             ∧ ∀ q, q < 96 → s.isPort (96 * die + q) = true → t.linkState (96 * die + q) = .disabled))

/-- R455 to R458, R464 to R466: the watchdog of a port retrains it and sends NO_PROGRESS; that of a hub engine starts a search whose suspects are
held, and the one readmitted when it fires again is quarantined; the search goes on, and a stack that trained again serves with its other pages
zeroed. R467, R468, Table 19.5: what a warm reset and a cold start lose, and what they keep. -/
def Obligations.HangsAndModuleResets : Prop :=
  (∀ s : State,
     (∀ n, s.watched n = false → exec (.watchdogFire n) s = .next s)
     ∧ (∀ n, n < 768 → s.watched n = true → s.reactionOf 0x040 2 = 4 → s.reco.doms.find? n = none → s.reco.search = none →
         s.flt.tests = [] → s.flt.waiting = [] → (s.flt.queues.get (n / 96) []).length < 256 →
         ∃ t, exec (.watchdogFire n) s = .next t ∧ t.linkState n = s.anState n ∧ t.domBusy n = true ∧ t.mem = s.mem
           ∧ t.flt.queues.get (n / 96) [] = s.flt.queues.get (n / 96) [] ++ [⟨n / 96, 0x1C, n, 0x040, 2, s.now, 0⟩]
           ∧ t.fld .fltDom [n] 63 56 = (s.fld .fltDom [n] 63 56 + 1) % 256
           ∧ t.fld .fltDom [n] 55 32 = satAdd 24 (s.fld .fltDom [n] 55 32) 1)
     ∧ (∀ n, 768 ≤ n → n < 1408 → s.islandsUp = true → s.pins.pwrGood = true → s.flt.safe = false → s.reco.doms.find? n = none →
         s.reco.search = none → s.flt.tests = [] → s.flt.waiting = [] →
         ∃ t, exec (.domainGo n) s = .next t ∧ t.domBusy n = true
           ∧ t.reco.search = some ⟨n, s.suspectsOf n, none, s.local, s.local, []⟩
           ∧ ∀ k c, s.svc.ctxs.find? k = some c →
               (c.steer = .open_ → s.usesDomain c n = true →
                 t.svc.ctxs.find? k = some { c with steer := .held, suspect := c.state == .active })
               ∧ ((c.steer ≠ .open_ ∨ s.usesDomain c n = false) → t.svc.ctxs.find? k = some c))
     ∧ (∀ n q g c, 768 ≤ n → n < 1408 → s.watched n = true → s.reactionOf 0x040 2 = 4 → s.reco.doms.find? n = none →
         s.reco.search = some q → q.domain = n → q.current = some g → s.ctx? g = some c → s.svc.quar.length ≤ 256 →
         s.flt.tests = [] → s.flt.waiting = [] →
         ∃ t, exec (.watchdogFire n) s = .next t ∧ sha256 c.fix.desc ∈ t.svc.quar ∧ t.reco.search = some { q with current := none }
           ∧ t.fld .fltSearch [] 21 0 = satAdd 22 (s.fld .fltSearch [] 21 0) 1)
     ∧ (∀ n, 768 ≤ n → n < 1408 → s.domBusy n = true → s.flt.safe = false → s.svc.held = [] → s.reco.search = none →
         (∀ e ∈ s.svc.ctxs, e.2.lost = false) →
         exec (.domainResetDone n) s = .next (if (n - 768) % 160 < 128
           then (s.clearBusy n).streamIssue ((n - 768) / 160) ((n - 768) % 160) else s.clearBusy n))
     ∧ (∀ q n, s.reco.search = some q → q.current = some n → s.flt.safe = false → s.domBusy q.domain = false →
         (q.since + 2 * s.watchLimit q.domain ≤ s.local → q.left = [] → s.reco.later = [] →
           ∃ t, exec .suspectCleared s = .next t ∧ t.reco = { s.reco with search := none })
         ∧ (∀ c, s.ctx? n = some c → c.runs = true → s.local < q.since + 2 * s.watchLimit q.domain → exec .suspectCleared s = .next s))
     ∧ (∀ k, k < 16 → (s.stack k).retrain = true → s.flt.safe = false →
         (s.flt.queues.get (8 + k / 4) [] = [] →
           ∃ t, exec (.stackRetrainDone k .fail) s = .next t ∧ (t.stack k).retrain = true ∧ t.mem = s.mem
             ∧ t.flt.queues.get (8 + k / 4) [] = [⟨8 + k / 4, 0x0A, 32 * (k % 4), 0x022, 2, s.now, 0⟩])
         ∧ ∃ t, exec (.stackRetrainDone k .pass) s = .next t ∧ (t.stack k).retrain = false ∧ t.domBusy (1472 + k) = false
           ∧ ∀ a, Memory.byte t.mem a
               = if a / pageBytes / stackPages = k ∧ a / pageBytes % stackPages ∉ s.rgnPages k then blankByte else Memory.byte s.mem a))
  ∧ (∀ s : State,
       let lost (t : State) : Prop := t.stage = 0 ∧ t.ports = [] ∧ t.hubs = [] ∧ t.bpm = [] ∧ t.fwd = {} ∧ t.mp.regions = [] ∧ t.fab.slots = []
         ∧ t.fab.tiles = [] ∧ t.pins.pwrGood = false ∧ t.pins.mainOn = false ∧ t.pins.thermLow = false ∧ t.flt.safe = false
         ∧ t.flt.nextSeq = s.flt.nextSeq ∧ t.flt.first = s.flt.first ∧ t.nvm.active = s.nvm.active ∧ t.nvm.staging = s.nvm.staging
         ∧ t.nvm.golden = s.nvm.golden ∧ t.nvm.mlog = s.nvm.mlog ∧ t.nvm.dumps = s.nvm.dumps ∧ t.mem = s.mem
         ∧ (∀ d f, d < 8 → f ∈ [(63, 63), (62, 57), (56, 47)] → t.fld .fabSpare [d] f.1 f.2 = s.fld .fabSpare [d] f.1 f.2)
       (∀ c ∈ [Instr.warm, .resetNPulse],
         (s.islandsUp = false → exec c s = .next s)
         ∧ (s.islandsUp = true → ∃ t, exec c s = .next t ∧ lost t ∧ t.time = s.time ∧ t.svc.quar = s.svc.quar ∧ t.svc.lastGen = s.svc.lastGen
             ∧ t.keys = s.keys ∧ t.reco.genAll = s.reco.genAll + 1 ∧ t.nvm.reason = s.nvm.reason ∧ t.nvm.source = s.nvm.source
             ∧ (∀ a, a < 0x500000 → t.regs.find? a = (s.regs.find? a).map (restarted a))
             ∧ t.reg .ctlComplex [] = 0 ∧ t.fld .pwrTokens [] 31 16 = 0
             ∧ ∀ n c, s.ctx? n = some c → c.state ≠ .quarantine →
                 ∃ c', t.ctx? n = some c' ∧ c'.lost = true ∧ c'.state = .draining ∧ c'.steer = .absent ∧ c'.kept = [] ∧ c'.fix.blocks = []))
       ∧ (s.islandsUp = true → ∃ t, exec .cold s = .next t ∧ lost t ∧ t.time = {} ∧ t.svc = {} ∧ t.keys = {} ∧ t.reco = {}
           ∧ (∀ e ∈ t.flt.log, e.2.isOpen = false) ∧ (∀ r ∈ t.flt.isol, r.pending = false) ∧ t.islandsUp = true
           ∧ t.nvm.source = 0 ∧ t.nvm.stgHash = [] ∧ t.nvm.reason = 0 ∧ t.pins.sampledN = true)
       ∧ (s.islandsUp = false → exec .cold s = .next s)
       ∧ (s.pins.auxGood = true → ∃ t, exec .resetNHeld s = .next t ∧ lost t ∧ t.time = {} ∧ t.svc = {} ∧ t.islandsUp = false)
       ∧ (s.pins.auxGood = false → exec .resetNHeld s = .next s)
       ∧ (s.islandsUp = true → s.pins.pwrGood = true → exec .clearAll s = .next { s with svc := { s.svc with quar := [] } }))

/-- R20, R21, R482, R483: both complexes failing, RECOVERY_N low, a staged image, a valid active image that has not failed twice, the golden image,
and recovery mode, in this order; a staged image's copy becomes the active image. R482 to R484, Table 20.5: the steps of a start, each taken in
its stage alone: the staged copy, Temond, the main rails, training, the ports, READY, and the retries of service images that did not load. -/
def Obligations.StartSequence : Prop :=
  (∀ s : State, s.romWaits = true →
     (∀ a b, ∃ t, exec (.coldStart .fail .fail a b) s = .next t ∧ t.flt.romLow = true ∧ t.stage = 0 ∧ t.nvm = s.nvm ∧ t.reg .ctlComplex [] = 14)
     ∧ ∀ hd0 hd3 a b, hd0 = .pass ∨ hd3 = .pass → ∃ t, exec (.coldStart hd0 hd3 a b) s = .next t
       ∧ t.reg .ctlComplex [] = complexWord hd0 hd3 ∧ t.pins.auxGood = true ∧ t.pins.resetN = true ∧ t.mem = s.mem
       ∧ (a = .pass → b = .fail → s.flt.queues.get 8 [] = [] → t.flt.queues.get 8 [] = [⟨8, 0x19, 1, 0x050, 1, s.now, 0⟩])
       ∧ (s.pins.recoveryN = false → t.stage = 8 ∧ t.nvm.source = 2 ∧ t.nvm.boot = none)
       ∧ (s.pins.recoveryN = true →
           let staged := a = .pass ∧ 3 ≤ s.nvm.stg ∧ s.nvm.stg ≤ 5 ∧ ∃ e, s.partImage s.nvm.staging = .ok e
           (staged → t.stage = 2 ∧ t.nvm.copying = true)
           ∧ (¬ staged →
             (∀ e, a = .pass → s.partImage s.nvm.active = .ok e → 0 ∉ s.nvm.refused → s.nvm.bootFails < 2 →
               t.stage = 3 ∧ t.nvm.boot = some e ∧ t.nvm.source = 0 ∧ (b = .pass → t.nvm.bootFails = s.nvm.bootFails + 1))
             ∧ (a = .fail ∨ 0 ∈ s.nvm.refused ∨ 2 ≤ s.nvm.bootFails ∨ (∃ r, s.partImage s.nvm.active = .error r) →
                 (∀ e, b = .pass → s.goldenImage = .ok e → 1 ∉ s.nvm.refused →
                   t.stage = 3 ∧ t.nvm.boot = some e ∧ t.nvm.source = 1 ∧ t.nvm.fellback = true)
                 ∧ (b = .fail ∨ (∃ r, s.goldenImage = .error r) ∨ 1 ∈ s.nvm.refused →
                   t.stage = 8 ∧ t.nvm.source = 2 ∧ t.nvm.boot = none)))))
  ∧ (∀ s : State,
       ((s.stage ≠ 2 ∨ s.nvm.copying = false ∨ s.nvm.boot ≠ none) → exec .stagedCopyDone s = .next s)
       ∧ (∀ e, s.stage = 2 → s.nvm.copying = true → s.nvm.boot = none → s.partImage s.nvm.staging = .ok e → 0 ∉ s.nvm.refused →
           s.nvm.badA = false → s.nvm.badB = false →
           ∃ t, exec .stagedCopyDone s = .next t ∧ t.stage = 3 ∧ t.nvm.active = s.nvm.staging ∧ t.nvm.stg = 6 ∧ t.nvm.boot = some e
             ∧ t.nvm.bootFails = 1 ∧ t.nvm.copying = false)
       ∧ ((s.nvm.boot = none ∨ s.stage ≠ 3 ∨ s.flt.safe = true) → exec .temondStart s = .next s)
       ∧ (∀ e, s.nvm.boot = some e → s.stage = 3 → s.flt.safe = false →
           ∃ t, exec .temondStart s = .next t ∧ t.mem = s.mem
             ∧ (s.bootReason e = 0 → t.stage = 4 ∧ t.nvm.run = some e ∧ t.pins.mainOn = true ∧ t.flt.fwSeen = true ∧ t.flt.checkin = s.local)
             ∧ (s.bootReason e ≠ 0 → s.nvm.source = 1 → t.stage = 8 ∧ (s.nvm.badB = false → t.nvm.lastReason = s.bootReason e) ∧ t.nvm.boot = none))
       ∧ ((s.nvm.run = none ∨ s.stage ≠ 4 ∨ s.railsDue = false ∨ s.flt.safe = true) → exec .mainRailsGood s = .next s)
       ∧ (∀ e, s.nvm.run = some e → s.stage = 4 → s.railsDue = true → s.flt.safe = false →
           ∃ t, exec .mainRailsGood s = .next t ∧ t.pins = { s.pins with pwrGood := true } ∧ t.stage = 5
             ∧ t.fld .pwrTokens [] 31 16 = fixedW e.laneList.length % 65536)
       ∧ (∀ e, s.nvm.run = some e → s.stage = 5 → s.pins.pwrGood = true → s.nvm.trained = false → s.flt.safe = false → s.nvm.stopped = false →
           (∀ k, ∃ t, exec (.trainStageDone [k]) s = .next t ∧ t.nvm.stopped = true ∧ t.stage = 5 ∧ t.mem = s.mem)
           ∧ ∃ t, exec (.trainStageDone []) s = .next t ∧ t.nvm.trained = true ∧ t.fwd = { bank0 := e.bank } ∧ (∀ k, k < 16 → (t.stack k).off = false)
             ∧ t.keys.timeSrc = e.num "time.source" ∧ ∀ a, a < 16 * stackPages * pageBytes → Memory.byte t.mem a = blankByte)
       ∧ (∀ e, s.nvm.run = some e → s.stage = 5 → s.nvm.trained = true → s.pins.pwrGood = true → s.flt.safe = false →
           ∃ t, exec .fwdReady s = .next t ∧ t.stage = 6 ∧ t.mem = s.mem)
       ∧ (∀ e, s.nvm.run = some e → s.stage = 6 → s.pins.pwrGood = true → s.flt.safe = false →
           ∃ t, exec .ready s = .next t ∧ t.stage = 7 ∧ (s.nvm.badB = false → t.nvm.bootFails = 0) ∧ t.nvm.svcTry = s.local ∧ t.mem = s.mem)
       ∧ (∀ e, s.nvm.run = some e → s.isReady = true → s.nvm.svcTry + 1000000 ≤ s.local → s.svc.holding = false → s.flt.safe = false →
           ∃ t, exec .serviceImageRetry s = .next t ∧ t.nvm.svcTry = s.local ∧ t.isReady = true
             ∧ ∀ k, k < 4 → (s.islot k).state ≠ .empty → t.islot k = s.islot k))

/-- R489, R490, Table 20.8: GO starts the command of its OP, or ends it with the reason that refuses it, or, while one runs, does nothing. R476, R489,
R490, Table 20.8: what each command leaves when it completes: the buffer, the staging partition and its state, the golden image, the reason and
DONE_SEQ; a failed flash operation ends with reason 0x09, and flash B waits for a crash dump. -/
def Obligations.NvmCommands : Prop :=
  (∀ (s : State) (c : Instr) (op : Nat),
     (c, op) ∈ [(Instr.nvmRead, 1), (.eraseStaging, 2), (.nvmWrite, 3), (.copyFromRegion, 4), (.verify, 5), (.markPending, 6), (.activate, 7),
       (.cancel, 8), (.promote, 9)] →
     ((s.islandsUp = false ∨ s.fld .nvmArg0 [] 63 56 ≠ op ∨ s.nvm.cmd.isSome = true) → exec c s = .next s)
     ∧ (s.islandsUp = true → s.fld .nvmArg0 [] 63 56 = op → s.nvm.cmd = none →
         (s.nvmReason op = 0 → exec c s = .next { s with nvm := { s.nvm with
             cmd := some op, cmdWord := s.reg .nvmArg0 [], cmdArg1 := s.reg .nvmArg1 [], cmdArg2 := s.reg .nvmArg2 []
             actAt := if op = 7 then some s.actCount else s.nvm.actAt } })
         ∧ (s.nvmReason op ≠ 0 → exec c s = .next { s with nvm := { s.nvm with
             cmd := none, reason := s.nvmReason op, doneSeq := (s.nvm.doneSeq + 1) % 2 ^ 32 } })
         ∧ (allowedIn op s.nvm.stg = false → s.nvmReason op = 0x08)))
  ∧ (∀ (s : State) (op : Nat), s.nvm.cmd = some op → s.islandsUp = true →
       let ended (reason : Nat) (t : State) : Prop :=
         t.nvm.cmd = none ∧ t.nvm.reason = reason ∧ t.nvm.doneSeq = (s.nvm.doneSeq + 1) % 2 ^ 32 ∧ t.nvm.active = s.nvm.active ∧ t.mem = s.mem
       let does (ok : Bool) (P : State → Prop) : Prop := ∃ t, exec (.nvmCommandComplete ok) s = .next t ∧ P t
       (s.nvmDevice op = 1 → s.nvm.dumping ≠ [] → ∀ ok, exec (.nvmCommandComplete ok) s = .next s)
       ∧ ((s.nvmDevice op ≠ 1 ∨ s.nvm.dumping = []) → does false (ended 0x09)
         ∧ ((if s.nvmDevice op = 1 then s.nvm.badB else s.nvm.badA) = true → does true (ended 0x09)))
       ∧ ((s.nvmDevice op ≠ 1 ∨ s.nvm.dumping = []) → (if s.nvmDevice op = 1 then s.nvm.badB else s.nvm.badA) = false →
         (op = 1 → does true fun t => ended 0 t ∧ t.nvm.staging = s.nvm.staging
           ∧ ∀ i, i < 512 → t.reg .nvmBuf [i] = beNat (((s.flashPage s.nvmFlash s.nvmPage).1.drop (8 * i)).take 8).reverse)
         ∧ (op = 2 → does true fun t => ended 0 t ∧ t.nvm.staging = {} ∧ t.nvm.stg = 0)
         ∧ (op = 3 → s.pageErased = true → does true fun t => ended 0 t ∧ t.nvm.stg = 1
             ∧ t.nvm.staging = { s.nvm.staging with pages := s.nvm.staging.pages.set s.nvmPage s.nvmBuf })
         ∧ (op = 4 → s.regionBytes = none → does true fun t => ended 0x0A t ∧ t.nvm.staging = s.nvm.staging)
         ∧ (∀ bs, op = 4 → s.regionBytes = some bs → does true fun t => ended 0 t ∧ t.nvm.stg = 1 ∧ t.nvm.staging = partOfBytes bs)
         ∧ (∀ r, op = 5 → s.verifyStaged = .error r → does true fun t => ended r t ∧ t.nvm.stg = 1 ∧ t.nvm.staging = s.nvm.staging)
         ∧ (∀ e r, op = 5 → s.verifyStaged = .ok (e, r) → does true fun t => ended 0 t ∧ t.nvm.stg = 2 ∧ t.nvm.stgHash = e.hash
             ∧ t.nvm.staging = { s.nvm.staging with record := some r })
         ∧ (op = 6 → does true fun t => ended 0 t ∧ t.nvm.stg = 3)
         ∧ (op = 7 → does true fun t => ended 0 t ∧ t.nvm.stg = 4)
         ∧ (op = 8 → does true fun t => ended 0 t ∧ t.nvm.stg = 2 ∧ t.nvm.actAt = none)
         ∧ (op = 9 → s.nvm.active.recorded = none → does true fun t => ended 0x01 t ∧ t.nvm.golden = s.nvm.golden)
         ∧ (op = 9 → s.nvm.active.recorded ≠ none → does true fun t => ended 0 t ∧ t.nvm.golden = some s.nvm.active)))

/-- R492, R493: at ACT_AT Temond holds the control path and the new image waits for its check-in; the check-in makes that image the running one and
pauses the services whose image differs; each swap lets its service go on, and after the last the staged image is copied. R469, R470: the dump
under way is complete in the older slot with the next DSEQ and the count of its fault, and one that waits is next. -/
def Obligations.LiveActivationAndCrashDumps : Prop :=
  (∀ s : State,
     (∀ t, s.nvm.actAt = some t →
       ((s.nvm.stg ≠ 4 ∨ s.now < t ∨ s.quietNow = false ∨ s.isReady = false ∨ s.flt.safe = true) → exec .liveActivation s = .next s)
       ∧ (s.nvm.stg = 4 → t ≤ s.now → s.quietNow = true → s.isReady = true → s.flt.safe = false →
           ∃ u, exec .liveActivation s = .next u ∧ u.svc.holding = true ∧ u.nvm.actAt = none ∧ u.svc.ctxs = s.svc.ctxs
             ∧ (∀ e, s.partImage s.nvm.staging = .ok e → e.hash = s.nvm.stgHash → u.nvm.live = some { image := e, from_ := s.local })
             ∧ ((∃ r, s.partImage s.nvm.staging = .error r) → u.nvm.live = none)))
     ∧ (∀ l old, s.nvm.live = some l → s.nvm.run = some old → l.checked = false → s.flt.safe = false → s.local ≤ l.from_ + 50000000 →
         s.svc.held = [] →
         ∃ t, exec .newTemondCheckin s = .next t ∧ t.nvm.run = some l.image ∧ t.svc.holding = false ∧ t.flt.fwSeen = true
           ∧ t.flt.checkin = s.local ∧ t.mem = s.mem
           ∧ (pausing old l.image = [] → t.nvm.live = none ∧ t.nvm.stg = 5 ∧ t.nvm.copying = true)
           ∧ (pausing old l.image ≠ [] → t.nvm.stg = s.nvm.stg
               ∧ (∀ k ∈ pausing old l.image, (t.islot k).quiet = true ∨ (t.islot k).state = .empty)
               ∧ t.nvm.live = some { l with checked := true, slots := pausing old l.image, from_ := s.local }))
     ∧ (∀ l k, s.nvm.live = some l → l.checked = true → k ∈ l.slots → s.flt.safe = false → s.svc.held = [] →
         let g := if k ≤ 1 then [0, 1] else [k]
         let rest := l.slots.filter fun j => !g.contains j
         ∃ t, exec (.serviceSwapDone k) s = .next t ∧ t.mem = s.mem
           ∧ (rest = [] → t.nvm.live = none ∧ t.nvm.stg = 5 ∧ t.nvm.copying = true)
           ∧ (rest ≠ [] → t.nvm.live = some { l with slots := rest })
           ∧ ∀ j x, j ∈ g → (s.islot j).state ≠ .empty → s.svcImage l.image j = some x →
               t.islot j = { s.islot j with image := x.2, quiet := false })
     ∧ (s.nvm.copying = true → s.nvm.stg = 5 → s.isReady = true → s.flt.safe = false →
         exec .activeCopyDone s = .next { s with nvm := { s.nvm with active := s.nvm.staging, stg := 6, copying := false } })
     ∧ ((s.nvm.copying = false ∨ s.nvm.stg ≠ 5 ∨ s.isReady = false ∨ s.flt.safe = true) → exec .activeCopyDone s = .next s))
  ∧ (∀ s : State,
       ((s.nvm.dumping = [] ∨ s.islandsUp = false) → exec .crashDumpDone s = .next s)
       ∧ (∀ a rest, s.nvm.dumping = a :: rest → s.islandsUp = true →
           ∃ t d, exec .crashDumpDone s = .next t ∧ t.nvm.dumping = rest ∧ t.nvm.dumpSlot = some s.olderSlot
             ∧ t.nvm.dumps = s.nvm.dumps.set s.olderSlot d ∧ d.at_ = a ∧ d.done = s.now ∧ d.dseq = (s.nvm.dseq + 1) % 2 ^ 32
             ∧ d.ctxs = s.dumpCtxs ∧ d.regions = s.dumpRegions ∧ d.tiles = (s.haltOrder.take 384).map s.tileRecord
             ∧ d.omitted = s.haltOrder.length - 384 ∧ t.nvm.dseq = d.dseq ∧ t.flt = s.flt ∧ t.mem = s.mem))
end

