-- ==== Sys2Proof/Laws/Kept.lean ====
section
/-!
SUPPORT. What the next state of a command holds: field by field, in terms of the state its body reached.
-/

namespace Sys2Proof.Machine

variable (s t : State)

/-! ### `State.kept` -/

@[simp] theorem State.kept_pending : (s.kept t).pending = s.pending := rfl
@[simp] theorem State.kept_factory : (s.kept t).factory = s.factory := rfl
@[simp] theorem State.kept_mem : (s.kept t).mem = s.mem := rfl
@[simp] theorem State.kept_mops : (s.kept t).mops = s.mops := rfl
@[simp] theorem State.kept_time : (s.kept t).time = t.time := rfl
@[simp] theorem State.kept_regs : (s.kept t).regs = t.regs := rfl
@[simp] theorem State.kept_ageLog : (s.kept t).ageLog = t.ageLog := rfl
@[simp] theorem State.kept_ports : (s.kept t).ports = t.ports := rfl
@[simp] theorem State.kept_hubs : (s.kept t).hubs = t.hubs := rfl
@[simp] theorem State.kept_bpm : (s.kept t).bpm = t.bpm := rfl
@[simp] theorem State.kept_fwd : (s.kept t).fwd = t.fwd := rfl
@[simp] theorem State.kept_meters : (s.kept t).meters = t.meters := rfl
@[simp] theorem State.kept_mirror : (s.kept t).mirror = t.mirror := rfl
@[simp] theorem State.kept_cfg : (s.kept t).cfg = t.cfg := rfl
@[simp] theorem State.kept_svc : (s.kept t).svc = t.svc := rfl
@[simp] theorem State.kept_mp : (s.kept t).mp = t.mp := rfl
@[simp] theorem State.kept_fab : (s.kept t).fab = t.fab := rfl
@[simp] theorem State.kept_flt : (s.kept t).flt = t.flt := rfl
@[simp] theorem State.kept_reco : (s.kept t).reco = t.reco := rfl
@[simp] theorem State.kept_pow : (s.kept t).pow = t.pow := rfl
@[simp] theorem State.kept_nvm : (s.kept t).nvm = t.nvm := rfl
@[simp] theorem State.kept_keys : (s.kept t).keys = t.keys := rfl
@[simp] theorem State.kept_i3c : (s.kept t).i3c = t.i3c := rfl
@[simp] theorem State.kept_busRead : (s.kept t).busRead = t.busRead := rfl
@[simp] theorem State.kept_pins : (s.kept t).pins = t.pins := rfl
@[simp] theorem State.kept_sent : (s.kept t).sent = t.sent := rfl
@[simp] theorem State.kept_mgmtOut : (s.kept t).mgmtOut = t.mgmtOut := rfl
@[simp] theorem State.kept_nextId : (s.kept t).nextId = t.nextId := rfl
@[simp] theorem State.kept_free : (s.kept t).free = t.free := rfl
@[simp] theorem State.kept_ctx? (n : Nat) : (s.kept t).ctx? n = t.ctx? n := rfl
@[simp] theorem State.kept_port (p : Nat) : (s.kept t).port p = t.port p := rfl
@[simp] theorem State.kept_hub (h : Nat) : (s.kept t).hub h = t.hub h := rfl
@[simp] theorem State.kept_reg (r : Reg) (is : List Nat) : (s.kept t).reg r is = t.reg r is := rfl
@[simp] theorem State.kept_fld (r : Reg) (is : List Nat) (hi lo : Nat) : (s.kept t).fld r is hi lo = t.fld r is hi lo := rfl
@[simp] theorem State.kept_self : s.kept s = s := rfl

/-! ### `State.keptMem` and `State.fresh` -/

@[simp] theorem State.keptMem_pending : (s.keptMem t).pending = s.pending := rfl
@[simp] theorem State.keptMem_factory : (s.keptMem t).factory = s.factory := rfl
@[simp] theorem State.keptMem_mem : (s.keptMem t).mem = Memory.after s.mem t.mops := rfl
@[simp] theorem State.keptMem_mops : (s.keptMem t).mops = s.mops := rfl
@[simp] theorem State.keptMem_time : (s.keptMem t).time = t.time := rfl
@[simp] theorem State.keptMem_regs : (s.keptMem t).regs = t.regs := rfl
@[simp] theorem State.keptMem_ageLog : (s.keptMem t).ageLog = t.ageLog := rfl
@[simp] theorem State.keptMem_ports : (s.keptMem t).ports = t.ports := rfl
@[simp] theorem State.keptMem_hubs : (s.keptMem t).hubs = t.hubs := rfl
@[simp] theorem State.keptMem_bpm : (s.keptMem t).bpm = t.bpm := rfl
@[simp] theorem State.keptMem_fwd : (s.keptMem t).fwd = t.fwd := rfl
@[simp] theorem State.keptMem_meters : (s.keptMem t).meters = t.meters := rfl
@[simp] theorem State.keptMem_mirror : (s.keptMem t).mirror = t.mirror := rfl
@[simp] theorem State.keptMem_cfg : (s.keptMem t).cfg = t.cfg := rfl
@[simp] theorem State.keptMem_svc : (s.keptMem t).svc = t.svc := rfl
@[simp] theorem State.keptMem_mp : (s.keptMem t).mp = t.mp := rfl
@[simp] theorem State.keptMem_fab : (s.keptMem t).fab = t.fab := rfl
@[simp] theorem State.keptMem_flt : (s.keptMem t).flt = t.flt := rfl
@[simp] theorem State.keptMem_reco : (s.keptMem t).reco = t.reco := rfl
@[simp] theorem State.keptMem_pow : (s.keptMem t).pow = t.pow := rfl
@[simp] theorem State.keptMem_nvm : (s.keptMem t).nvm = t.nvm := rfl
@[simp] theorem State.keptMem_keys : (s.keptMem t).keys = t.keys := rfl
@[simp] theorem State.keptMem_i3c : (s.keptMem t).i3c = t.i3c := rfl
@[simp] theorem State.keptMem_busRead : (s.keptMem t).busRead = t.busRead := rfl
@[simp] theorem State.keptMem_pins : (s.keptMem t).pins = t.pins := rfl
@[simp] theorem State.keptMem_sent : (s.keptMem t).sent = t.sent := rfl
@[simp] theorem State.keptMem_mgmtOut : (s.keptMem t).mgmtOut = t.mgmtOut := rfl
@[simp] theorem State.keptMem_nextId : (s.keptMem t).nextId = t.nextId := rfl
@[simp] theorem State.keptMem_free : (s.keptMem t).free = t.free := rfl
@[simp] theorem State.keptMem_ctx? (n : Nat) : (s.keptMem t).ctx? n = t.ctx? n := rfl
@[simp] theorem State.keptMem_port (p : Nat) : (s.keptMem t).port p = t.port p := rfl
@[simp] theorem State.keptMem_hub (h : Nat) : (s.keptMem t).hub h = t.hub h := rfl
@[simp] theorem State.keptMem_reg (r : Reg) (is : List Nat) : (s.keptMem t).reg r is = t.reg r is := rfl
@[simp] theorem State.keptMem_fld (r : Reg) (is : List Nat) (hi lo : Nat) : (s.keptMem t).fld r is hi lo = t.fld r is hi lo := rfl

@[simp] theorem State.fresh_pending : s.fresh.pending = s.pending := rfl
@[simp] theorem State.fresh_factory : s.fresh.factory = s.factory := rfl
@[simp] theorem State.fresh_mem : s.fresh.mem = s.mem := rfl
@[simp] theorem State.fresh_mops : s.fresh.mops = [] := rfl
@[simp] theorem State.fresh_time : s.fresh.time = s.time := rfl
@[simp] theorem State.fresh_regs : s.fresh.regs = s.regs := rfl
@[simp] theorem State.fresh_ageLog : s.fresh.ageLog = s.ageLog := rfl
@[simp] theorem State.fresh_ports : s.fresh.ports = s.ports := rfl
@[simp] theorem State.fresh_hubs : s.fresh.hubs = s.hubs := rfl
@[simp] theorem State.fresh_bpm : s.fresh.bpm = s.bpm := rfl
@[simp] theorem State.fresh_fwd : s.fresh.fwd = s.fwd := rfl
@[simp] theorem State.fresh_meters : s.fresh.meters = s.meters := rfl
@[simp] theorem State.fresh_mirror : s.fresh.mirror = s.mirror := rfl
@[simp] theorem State.fresh_cfg : s.fresh.cfg = s.cfg := rfl
@[simp] theorem State.fresh_svc : s.fresh.svc = s.svc := rfl
@[simp] theorem State.fresh_mp : s.fresh.mp = s.mp := rfl
@[simp] theorem State.fresh_fab : s.fresh.fab = s.fab := rfl
@[simp] theorem State.fresh_flt : s.fresh.flt = s.flt := rfl
@[simp] theorem State.fresh_reco : s.fresh.reco = s.reco := rfl
@[simp] theorem State.fresh_pow : s.fresh.pow = s.pow := rfl
@[simp] theorem State.fresh_nvm : s.fresh.nvm = s.nvm := rfl
@[simp] theorem State.fresh_keys : s.fresh.keys = s.keys := rfl
@[simp] theorem State.fresh_i3c : s.fresh.i3c = s.i3c := rfl
@[simp] theorem State.fresh_busRead : s.fresh.busRead = s.busRead := rfl
@[simp] theorem State.fresh_pins : s.fresh.pins = s.pins := rfl
@[simp] theorem State.fresh_sent : s.fresh.sent = s.sent := rfl
@[simp] theorem State.fresh_mgmtOut : s.fresh.mgmtOut = s.mgmtOut := rfl
@[simp] theorem State.fresh_nextId : s.fresh.nextId = s.nextId := rfl
@[simp] theorem State.fresh_free : s.fresh.free = s.free := rfl

/-! ### The commits -/

theorem commit_kept : commit s t = .next (s.kept t) := rfl

theorem commitMem_kept (f : State → State) : commitMem s f = .next (s.keptMem (f s.fresh)) := rfl

/-- A command whose body is known answers the state it kept. -/
theorem commit_of {s b t : State} (h : b = t) : commit s b = .next (s.kept t) := by rw [h]; rfl

theorem commitMem_of {s t : State} {f : State → State} (h : f s.fresh = t) : commitMem s f = .next (s.keptMem t) := by rw [← h]; rfl

end Sys2Proof.Machine
end

