-- ==== Sys2Proof/Laws/Memory.lean ====
section
/-!
SUPPORT. HBM keeps its canonical form under every operation, and a byte reads as the last change left it.
-/

namespace Sys2Proof.Machine

/-- The canonical form, as one statement over the list: addresses rise pairwise, and no byte listed is blank. -/
theorem Memory.wf_iff (m : Memory) :
    m.wf = true ↔ m.Pairwise (fun c d => c.1 < d.1) ∧ ∀ c ∈ m, c.2 ≠ blankByte := by
  induction m with
  | nil => simp [Memory.wf]
  | cons c t ih =>
    cases t with
    | nil => simp [Memory.wf]
    | cons d u =>
      simp only [Memory.wf, Bool.and_eq_true, bne_iff_ne, ne_eq, decide_eq_true_eq, ih]
      constructor
      · rintro ⟨⟨h1, h2⟩, h3, h4⟩
        refine ⟨List.pairwise_cons.mpr ⟨?_, h3⟩, ?_⟩
        · intro e he
          rcases List.mem_cons.mp he with rfl | he
          · exact h2
          · exact lt_trans h2 ((List.pairwise_cons.mp h3).1 e he)
        · intro e he
          rcases List.mem_cons.mp he with rfl | he
          · exact h1
          · exact h4 e he
      · rintro ⟨h1, h2⟩
        have h3 := List.pairwise_cons.mp h1
        exact ⟨⟨h2 c (by simp), h3.1 d (by simp)⟩, h3.2, fun e he => h2 e (List.mem_cons_of_mem _ he)⟩

/-- Cells of a byte string: addresses within it, rising, and none blank. -/
theorem Memory.cellsAt_spec (bs : List Byte) (a : Nat) :
    (Memory.cellsAt a bs).Pairwise (fun c d => c.1 < d.1)
      ∧ ∀ c ∈ Memory.cellsAt a bs, a ≤ c.1 ∧ c.1 < a + bs.length ∧ c.2 ≠ blankByte := by
  induction bs generalizing a with
  | nil => simp [Memory.cellsAt]
  | cons b bs ih =>
    obtain ⟨h1, h2⟩ := ih (a + 1)
    by_cases hb : b = blankByte
    · simp only [Memory.cellsAt, hb, if_true]
      exact ⟨h1, fun c hc => by have := h2 c hc; simp only [List.length_cons]; exact ⟨by omega, by omega, this.2.2⟩⟩
    · simp only [Memory.cellsAt, hb, if_false]
      refine ⟨List.pairwise_cons.mpr ⟨fun c hc => by have := h2 c hc; simp only; omega, h1⟩, fun c hc => ?_⟩
      rcases List.mem_cons.mp hc with rfl | hc
      · simp [hb]
      · have := h2 c hc; simp only [List.length_cons]; exact ⟨by omega, by omega, this.2.2⟩

theorem Memory.write_wf (m : Memory) (a : Nat) (bs : List Byte) (h : m.wf = true) : (m.write a bs).wf = true := by
  rw [Memory.wf_iff] at h ⊢
  obtain ⟨hp, hb⟩ := h
  obtain ⟨hc, hr⟩ := Memory.cellsAt_spec bs a
  simp only [Memory.write]
  constructor
  · rw [List.pairwise_append, List.pairwise_append]
    refine ⟨⟨hp.filter _, hc, fun c h1 d h2 => ?_⟩, hp.filter _, fun c h1 d h2 => ?_⟩
    · have := hr d h2; simp at h1; omega
    · simp only [List.mem_filter, decide_eq_true_eq] at h2
      rcases List.mem_append.mp h1 with h1 | h1
      · simp at h1; omega
      · have := hr c h1; omega
  · intro c hm
    simp only [List.mem_append, List.mem_filter, decide_eq_true_eq] at hm
    rcases hm with (hm | hm) | hm
    · exact hb c hm.1
    · exact (hr c hm).2.2
    · exact hb c hm.1

theorem Memory.zero_wf (m : Memory) (a n : Nat) (h : m.wf = true) : (m.zero a n).wf = true := by
  rw [Memory.wf_iff] at h ⊢
  exact ⟨h.1.filter _, fun c hc => h.2 c (List.mem_of_mem_filter hc)⟩

theorem MemOp.on_wf (o : MemOp) (m : Memory) (h : m.wf = true) : (o.on m).wf = true := by
  cases o with
  | put a bs => exact Memory.write_wf m a bs h
  | clear a n => exact Memory.zero_wf m a n h

/-- Every list of changes keeps the canonical form. -/
theorem Memory.after_wf (m : Memory) (ops : List MemOp) (h : m.wf = true) : (m.after ops).wf = true := by
  induction ops generalizing m with
  | nil => exact h
  | cons o ops ih => exact ih (o.on m) (MemOp.on_wf o m h)

@[simp] theorem Memory.after_nil (m : Memory) : m.after [] = m := rfl

/-- A byte of a memory with another list before it that does not hold the address. -/
theorem Memory.find_filter_keep (m : Memory) (p : Host.Cell → Bool) (x : Nat) (h : ∀ c : Host.Cell, c.1 = x → p c = true) :
    (m.filter p).find? (fun c => c.1 == x) = m.find? fun c => c.1 == x := by
  induction m with
  | nil => rfl
  | cons c m ih =>
    by_cases hc : c.1 = x
    · simp [h c hc, hc]
    · by_cases hp : p c = true
      · simp [hp, hc, ih]
      · simp [hp, hc, ih]

/-- Zeroing leaves every byte outside its range alone. -/
theorem Memory.byte_zero_other (m : Memory) (a n x : Nat) (h : x < a ∨ a + n ≤ x) : (m.zero a n).byte x = m.byte x := by
  unfold Memory.byte Memory.zero
  rw [Memory.find_filter_keep]
  intro c hc; subst hc
  rcases h with h | h <;> simp [h]

/-- A byte inside a zeroed range reads blank. -/
theorem Memory.byte_zero_in (m : Memory) (a n x : Nat) (h : a ≤ x) (h' : x < a + n) : (m.zero a n).byte x = blankByte := by
  unfold Memory.byte Memory.zero
  have : (m.filter fun c => decide (c.1 < a) || decide (a + n ≤ c.1)).find? (fun c => c.1 == x) = none := by
    rw [List.find?_eq_none]
    intro c hc
    simp at hc ⊢
    omega
  rw [this]

/-- A write leaves every byte outside its range alone. -/
theorem Memory.byte_write_other (m : Memory) (a : Nat) (bs : List Byte) (x : Nat) (h : x < a ∨ a + bs.length ≤ x) :
    (m.write a bs).byte x = m.byte x := by
  have hc : (Memory.cellsAt a bs).find? (fun c => c.1 == x) = none := by
    rw [List.find?_eq_none]
    intro c hc
    have := (Memory.cellsAt_spec bs a).2 c hc
    simp; omega
  unfold Memory.byte Memory.write
  rw [List.find?_append, List.find?_append, hc]
  rcases h with h | h
  · rw [Memory.find_filter_keep m _ x (by intro c hc; subst hc; simp [h])]
    have : (m.filter fun c => decide (a + bs.length ≤ c.1)).find? (fun c => c.1 == x) = none := by
      rw [List.find?_eq_none]; intro c hc; simp at hc ⊢; omega
    rw [this]; simp
  · rw [Memory.find_filter_keep m (fun c => decide (a + bs.length ≤ c.1)) x (by intro c hc; subst hc; simp [h])]
    have : (m.filter fun c => decide (c.1 < a)).find? (fun c => c.1 == x) = none := by
      rw [List.find?_eq_none]; intro c hc; simp at hc ⊢; omega
    rw [this]; simp

/-- The cell of byte `i` of a byte string. -/
theorem Memory.cellsAt_find (bs : List Byte) (a i : Nat) (h : i < bs.length) :
    (Memory.cellsAt a bs).byte (a + i) = bs[i] := by
  unfold Memory.byte
  induction bs generalizing a i with
  | nil => simp at h
  | cons b bs ih =>
    cases i with
    | zero =>
      by_cases hb : b = blankByte
      · have hn : (Memory.cellsAt (a + 1) bs).find? (fun c => c.1 == a) = none := by
          rw [List.find?_eq_none]; intro c hc
          have := (Memory.cellsAt_spec bs (a + 1)).2 c hc
          simp; omega
        simp [Memory.cellsAt, hb, hn]
      · simp [Memory.cellsAt, hb]
    | succ i =>
      have hi : i < bs.length := by simpa using h
      have := ih (a + 1) i hi
      have he : a + 1 + i = a + (i + 1) := by omega
      rw [he] at this
      by_cases hb : b = blankByte
      · simpa [Memory.cellsAt, hb] using this
      · have hne : (a == a + (i + 1)) = false := by simp
        simp only [Memory.cellsAt, hb, if_false, List.find?_cons, hne, List.getElem_cons_succ]
        exact this

/-- A byte inside the range written reads the byte written. -/
theorem Memory.byte_write_in (m : Memory) (a : Nat) (bs : List Byte) (i : Nat) (h : i < bs.length) :
    (m.write a bs).byte (a + i) = bs[i] := by
  rw [← Memory.cellsAt_find bs a i h]
  unfold Memory.write Memory.byte
  have h1 : (m.filter fun c => decide (c.1 < a)).find? (fun c => c.1 == a + i) = none := by
    rw [List.find?_eq_none]; intro c hc; simp at hc ⊢; omega
  have h2 : (m.filter fun c => decide (a + bs.length ≤ c.1)).find? (fun c => c.1 == a + i) = none := by
    rw [List.find?_eq_none]; intro c hc; simp at hc ⊢; omega
  rw [List.find?_append, List.find?_append, h1, h2]
  simp

end Sys2Proof.Machine
end

