-- ==== Sys2Proof/Laws/Table.lean ====
section
/-!
SUPPORT. Reading a sparse table after it was written.
-/

namespace Sys2Proof.Machine

variable {α : Type}

@[simp] theorem Tbl.find?_nil (k : Nat) : Tbl.find? ([] : Tbl α) k = none := rfl

/-- The key written last reads the value written. -/
@[simp] theorem Tbl.find?_set_same (t : Tbl α) (k : Nat) (v : α) : Tbl.find? (Tbl.set t k v) k = some v := by
  induction t with
  | nil => simp [Tbl.set, Tbl.find?]
  | cons e t ih =>
    obtain ⟨a, w⟩ := e
    by_cases h1 : k < a
    · simp [Tbl.set, h1, Tbl.find?]
    · by_cases h2 : k = a
      · simp [Tbl.set, h2, Tbl.find?]
      · simp [Tbl.set, h1, h2, Tbl.find?, Ne.symm h2, ih]

/-- Every other key reads what it read before. -/
theorem Tbl.find?_set_other (t : Tbl α) {k j : Nat} (v : α) (h : j ≠ k) : Tbl.find? (Tbl.set t k v) j = Tbl.find? t j := by
  induction t with
  | nil => simp [Tbl.set, Tbl.find?, Ne.symm h]
  | cons e t ih =>
    obtain ⟨a, w⟩ := e
    by_cases h1 : k < a
    · simp [Tbl.set, h1, Tbl.find?, Ne.symm h]
    · by_cases h2 : k = a
      · subst h2; simp [Tbl.set, Tbl.find?, Ne.symm h]
      · simp only [Tbl.set, h1, h2, if_false, Tbl.find?, ih]

/-- The last write to a key stands. -/
@[simp] theorem Tbl.set_set (t : Tbl α) (k : Nat) (v w : α) : Tbl.set (Tbl.set t k v) k w = Tbl.set t k w := by
  induction t with
  | nil => simp [Tbl.set]
  | cons e t ih =>
    obtain ⟨a, u⟩ := e
    by_cases h1 : k < a
    · simp [Tbl.set, h1]
    · by_cases h2 : k = a
      · simp [Tbl.set, h2]
      · simp [Tbl.set, h1, h2, ih]

@[simp] theorem Tbl.get_set_same (t : Tbl α) (k : Nat) (v d : α) : (t.set k v).get k d = v := by simp [Tbl.get]

theorem Tbl.get_set_other (t : Tbl α) {k j : Nat} (v d : α) (h : j ≠ k) : (t.set k v).get j d = t.get j d := by
  simp [Tbl.get, Tbl.find?_set_other t v h]

end Sys2Proof.Machine
end

