-- ==== Sys2Proof/Laws/State.lean ====
section
/-!
SUPPORT. What each update of the state leaves in each field, true by unfolding; and the reads that go with the updates.
-/

namespace Sys2Proof.Machine

variable (s : State)

/-! ### `State.setReg` -/

@[simp] theorem State.setReg_pending (r : Reg) (is : List Nat) (v : Nat) : (s.setReg r is v).pending = s.pending := rfl
@[simp] theorem State.setReg_factory (r : Reg) (is : List Nat) (v : Nat) : (s.setReg r is v).factory = s.factory := rfl
@[simp] theorem State.setReg_mem (r : Reg) (is : List Nat) (v : Nat) : (s.setReg r is v).mem = s.mem := rfl
@[simp] theorem State.setReg_mops (r : Reg) (is : List Nat) (v : Nat) : (s.setReg r is v).mops = s.mops := rfl
@[simp] theorem State.setReg_time (r : Reg) (is : List Nat) (v : Nat) : (s.setReg r is v).time = s.time := rfl
@[simp] theorem State.setReg_regs (r : Reg) (is : List Nat) (v : Nat) : (s.setReg r is v).regs = s.regs.set (r.addr is) v := rfl
@[simp] theorem State.setReg_ageLog (r : Reg) (is : List Nat) (v : Nat) : (s.setReg r is v).ageLog = s.ageLog := rfl
@[simp] theorem State.setReg_ports (r : Reg) (is : List Nat) (v : Nat) : (s.setReg r is v).ports = s.ports := rfl
@[simp] theorem State.setReg_hubs (r : Reg) (is : List Nat) (v : Nat) : (s.setReg r is v).hubs = s.hubs := rfl
@[simp] theorem State.setReg_bpm (r : Reg) (is : List Nat) (v : Nat) : (s.setReg r is v).bpm = s.bpm := rfl
@[simp] theorem State.setReg_fwd (r : Reg) (is : List Nat) (v : Nat) : (s.setReg r is v).fwd = s.fwd := rfl
@[simp] theorem State.setReg_meters (r : Reg) (is : List Nat) (v : Nat) : (s.setReg r is v).meters = s.meters := rfl
@[simp] theorem State.setReg_mirror (r : Reg) (is : List Nat) (v : Nat) : (s.setReg r is v).mirror = s.mirror := rfl
@[simp] theorem State.setReg_cfg (r : Reg) (is : List Nat) (v : Nat) : (s.setReg r is v).cfg = s.cfg := rfl
@[simp] theorem State.setReg_svc (r : Reg) (is : List Nat) (v : Nat) : (s.setReg r is v).svc = s.svc := rfl
@[simp] theorem State.setReg_mp (r : Reg) (is : List Nat) (v : Nat) : (s.setReg r is v).mp = s.mp := rfl
@[simp] theorem State.setReg_fab (r : Reg) (is : List Nat) (v : Nat) : (s.setReg r is v).fab = s.fab := rfl
@[simp] theorem State.setReg_flt (r : Reg) (is : List Nat) (v : Nat) : (s.setReg r is v).flt = s.flt := rfl
@[simp] theorem State.setReg_reco (r : Reg) (is : List Nat) (v : Nat) : (s.setReg r is v).reco = s.reco := rfl
@[simp] theorem State.setReg_pow (r : Reg) (is : List Nat) (v : Nat) : (s.setReg r is v).pow = s.pow := rfl
@[simp] theorem State.setReg_nvm (r : Reg) (is : List Nat) (v : Nat) : (s.setReg r is v).nvm = s.nvm := rfl
@[simp] theorem State.setReg_keys (r : Reg) (is : List Nat) (v : Nat) : (s.setReg r is v).keys = s.keys := rfl
@[simp] theorem State.setReg_i3c (r : Reg) (is : List Nat) (v : Nat) : (s.setReg r is v).i3c = s.i3c := rfl
@[simp] theorem State.setReg_busRead (r : Reg) (is : List Nat) (v : Nat) : (s.setReg r is v).busRead = s.busRead := rfl
@[simp] theorem State.setReg_pins (r : Reg) (is : List Nat) (v : Nat) : (s.setReg r is v).pins = s.pins := rfl
@[simp] theorem State.setReg_sent (r : Reg) (is : List Nat) (v : Nat) : (s.setReg r is v).sent = s.sent := rfl
@[simp] theorem State.setReg_mgmtOut (r : Reg) (is : List Nat) (v : Nat) : (s.setReg r is v).mgmtOut = s.mgmtOut := rfl
@[simp] theorem State.setReg_nextId (r : Reg) (is : List Nat) (v : Nat) : (s.setReg r is v).nextId = s.nextId := rfl
@[simp] theorem State.setReg_free (r : Reg) (is : List Nat) (v : Nat) : (s.setReg r is v).free = s.free := rfl

/-! ### `State.setFld` -/

@[simp] theorem State.setFld_pending (r : Reg) (is : List Nat) (hi lo v : Nat) : (s.setFld r is hi lo v).pending = s.pending := rfl
@[simp] theorem State.setFld_factory (r : Reg) (is : List Nat) (hi lo v : Nat) : (s.setFld r is hi lo v).factory = s.factory := rfl
@[simp] theorem State.setFld_mem (r : Reg) (is : List Nat) (hi lo v : Nat) : (s.setFld r is hi lo v).mem = s.mem := rfl
@[simp] theorem State.setFld_mops (r : Reg) (is : List Nat) (hi lo v : Nat) : (s.setFld r is hi lo v).mops = s.mops := rfl
@[simp] theorem State.setFld_time (r : Reg) (is : List Nat) (hi lo v : Nat) : (s.setFld r is hi lo v).time = s.time := rfl
@[simp] theorem State.setFld_ageLog (r : Reg) (is : List Nat) (hi lo v : Nat) : (s.setFld r is hi lo v).ageLog = s.ageLog := rfl
@[simp] theorem State.setFld_ports (r : Reg) (is : List Nat) (hi lo v : Nat) : (s.setFld r is hi lo v).ports = s.ports := rfl
@[simp] theorem State.setFld_hubs (r : Reg) (is : List Nat) (hi lo v : Nat) : (s.setFld r is hi lo v).hubs = s.hubs := rfl
@[simp] theorem State.setFld_bpm (r : Reg) (is : List Nat) (hi lo v : Nat) : (s.setFld r is hi lo v).bpm = s.bpm := rfl
@[simp] theorem State.setFld_fwd (r : Reg) (is : List Nat) (hi lo v : Nat) : (s.setFld r is hi lo v).fwd = s.fwd := rfl
@[simp] theorem State.setFld_meters (r : Reg) (is : List Nat) (hi lo v : Nat) : (s.setFld r is hi lo v).meters = s.meters := rfl
@[simp] theorem State.setFld_mirror (r : Reg) (is : List Nat) (hi lo v : Nat) : (s.setFld r is hi lo v).mirror = s.mirror := rfl
@[simp] theorem State.setFld_cfg (r : Reg) (is : List Nat) (hi lo v : Nat) : (s.setFld r is hi lo v).cfg = s.cfg := rfl
@[simp] theorem State.setFld_svc (r : Reg) (is : List Nat) (hi lo v : Nat) : (s.setFld r is hi lo v).svc = s.svc := rfl
@[simp] theorem State.setFld_mp (r : Reg) (is : List Nat) (hi lo v : Nat) : (s.setFld r is hi lo v).mp = s.mp := rfl
@[simp] theorem State.setFld_fab (r : Reg) (is : List Nat) (hi lo v : Nat) : (s.setFld r is hi lo v).fab = s.fab := rfl
@[simp] theorem State.setFld_flt (r : Reg) (is : List Nat) (hi lo v : Nat) : (s.setFld r is hi lo v).flt = s.flt := rfl
@[simp] theorem State.setFld_reco (r : Reg) (is : List Nat) (hi lo v : Nat) : (s.setFld r is hi lo v).reco = s.reco := rfl
@[simp] theorem State.setFld_pow (r : Reg) (is : List Nat) (hi lo v : Nat) : (s.setFld r is hi lo v).pow = s.pow := rfl
@[simp] theorem State.setFld_nvm (r : Reg) (is : List Nat) (hi lo v : Nat) : (s.setFld r is hi lo v).nvm = s.nvm := rfl
@[simp] theorem State.setFld_keys (r : Reg) (is : List Nat) (hi lo v : Nat) : (s.setFld r is hi lo v).keys = s.keys := rfl
@[simp] theorem State.setFld_i3c (r : Reg) (is : List Nat) (hi lo v : Nat) : (s.setFld r is hi lo v).i3c = s.i3c := rfl
@[simp] theorem State.setFld_busRead (r : Reg) (is : List Nat) (hi lo v : Nat) : (s.setFld r is hi lo v).busRead = s.busRead := rfl
@[simp] theorem State.setFld_pins (r : Reg) (is : List Nat) (hi lo v : Nat) : (s.setFld r is hi lo v).pins = s.pins := rfl
@[simp] theorem State.setFld_sent (r : Reg) (is : List Nat) (hi lo v : Nat) : (s.setFld r is hi lo v).sent = s.sent := rfl
@[simp] theorem State.setFld_mgmtOut (r : Reg) (is : List Nat) (hi lo v : Nat) : (s.setFld r is hi lo v).mgmtOut = s.mgmtOut := rfl
@[simp] theorem State.setFld_nextId (r : Reg) (is : List Nat) (hi lo v : Nat) : (s.setFld r is hi lo v).nextId = s.nextId := rfl
@[simp] theorem State.setFld_free (r : Reg) (is : List Nat) (hi lo v : Nat) : (s.setFld r is hi lo v).free = s.free := rfl

/-! ### `State.bump` -/

@[simp] theorem State.bump_pending (r : Reg) (is : List Nat) (hi lo n : Nat) : (s.bump r is hi lo n).pending = s.pending := rfl
@[simp] theorem State.bump_factory (r : Reg) (is : List Nat) (hi lo n : Nat) : (s.bump r is hi lo n).factory = s.factory := rfl
@[simp] theorem State.bump_mem (r : Reg) (is : List Nat) (hi lo n : Nat) : (s.bump r is hi lo n).mem = s.mem := rfl
@[simp] theorem State.bump_mops (r : Reg) (is : List Nat) (hi lo n : Nat) : (s.bump r is hi lo n).mops = s.mops := rfl
@[simp] theorem State.bump_time (r : Reg) (is : List Nat) (hi lo n : Nat) : (s.bump r is hi lo n).time = s.time := rfl
@[simp] theorem State.bump_ageLog (r : Reg) (is : List Nat) (hi lo n : Nat) : (s.bump r is hi lo n).ageLog = s.ageLog := rfl
@[simp] theorem State.bump_ports (r : Reg) (is : List Nat) (hi lo n : Nat) : (s.bump r is hi lo n).ports = s.ports := rfl
@[simp] theorem State.bump_hubs (r : Reg) (is : List Nat) (hi lo n : Nat) : (s.bump r is hi lo n).hubs = s.hubs := rfl
@[simp] theorem State.bump_bpm (r : Reg) (is : List Nat) (hi lo n : Nat) : (s.bump r is hi lo n).bpm = s.bpm := rfl
@[simp] theorem State.bump_fwd (r : Reg) (is : List Nat) (hi lo n : Nat) : (s.bump r is hi lo n).fwd = s.fwd := rfl
@[simp] theorem State.bump_meters (r : Reg) (is : List Nat) (hi lo n : Nat) : (s.bump r is hi lo n).meters = s.meters := rfl
@[simp] theorem State.bump_mirror (r : Reg) (is : List Nat) (hi lo n : Nat) : (s.bump r is hi lo n).mirror = s.mirror := rfl
@[simp] theorem State.bump_cfg (r : Reg) (is : List Nat) (hi lo n : Nat) : (s.bump r is hi lo n).cfg = s.cfg := rfl
@[simp] theorem State.bump_svc (r : Reg) (is : List Nat) (hi lo n : Nat) : (s.bump r is hi lo n).svc = s.svc := rfl
@[simp] theorem State.bump_mp (r : Reg) (is : List Nat) (hi lo n : Nat) : (s.bump r is hi lo n).mp = s.mp := rfl
@[simp] theorem State.bump_fab (r : Reg) (is : List Nat) (hi lo n : Nat) : (s.bump r is hi lo n).fab = s.fab := rfl
@[simp] theorem State.bump_flt (r : Reg) (is : List Nat) (hi lo n : Nat) : (s.bump r is hi lo n).flt = s.flt := rfl
@[simp] theorem State.bump_reco (r : Reg) (is : List Nat) (hi lo n : Nat) : (s.bump r is hi lo n).reco = s.reco := rfl
@[simp] theorem State.bump_pow (r : Reg) (is : List Nat) (hi lo n : Nat) : (s.bump r is hi lo n).pow = s.pow := rfl
@[simp] theorem State.bump_nvm (r : Reg) (is : List Nat) (hi lo n : Nat) : (s.bump r is hi lo n).nvm = s.nvm := rfl
@[simp] theorem State.bump_keys (r : Reg) (is : List Nat) (hi lo n : Nat) : (s.bump r is hi lo n).keys = s.keys := rfl
@[simp] theorem State.bump_i3c (r : Reg) (is : List Nat) (hi lo n : Nat) : (s.bump r is hi lo n).i3c = s.i3c := rfl
@[simp] theorem State.bump_busRead (r : Reg) (is : List Nat) (hi lo n : Nat) : (s.bump r is hi lo n).busRead = s.busRead := rfl
@[simp] theorem State.bump_pins (r : Reg) (is : List Nat) (hi lo n : Nat) : (s.bump r is hi lo n).pins = s.pins := rfl
@[simp] theorem State.bump_sent (r : Reg) (is : List Nat) (hi lo n : Nat) : (s.bump r is hi lo n).sent = s.sent := rfl
@[simp] theorem State.bump_mgmtOut (r : Reg) (is : List Nat) (hi lo n : Nat) : (s.bump r is hi lo n).mgmtOut = s.mgmtOut := rfl
@[simp] theorem State.bump_nextId (r : Reg) (is : List Nat) (hi lo n : Nat) : (s.bump r is hi lo n).nextId = s.nextId := rfl
@[simp] theorem State.bump_free (r : Reg) (is : List Nat) (hi lo n : Nat) : (s.bump r is hi lo n).free = s.free := rfl

/-! ### `State.bumpMod` -/

@[simp] theorem State.bumpMod_pending (r : Reg) (is : List Nat) (hi lo n : Nat) : (s.bumpMod r is hi lo n).pending = s.pending := rfl
@[simp] theorem State.bumpMod_factory (r : Reg) (is : List Nat) (hi lo n : Nat) : (s.bumpMod r is hi lo n).factory = s.factory := rfl
@[simp] theorem State.bumpMod_mem (r : Reg) (is : List Nat) (hi lo n : Nat) : (s.bumpMod r is hi lo n).mem = s.mem := rfl
@[simp] theorem State.bumpMod_mops (r : Reg) (is : List Nat) (hi lo n : Nat) : (s.bumpMod r is hi lo n).mops = s.mops := rfl
@[simp] theorem State.bumpMod_time (r : Reg) (is : List Nat) (hi lo n : Nat) : (s.bumpMod r is hi lo n).time = s.time := rfl
@[simp] theorem State.bumpMod_ageLog (r : Reg) (is : List Nat) (hi lo n : Nat) : (s.bumpMod r is hi lo n).ageLog = s.ageLog := rfl
@[simp] theorem State.bumpMod_ports (r : Reg) (is : List Nat) (hi lo n : Nat) : (s.bumpMod r is hi lo n).ports = s.ports := rfl
@[simp] theorem State.bumpMod_hubs (r : Reg) (is : List Nat) (hi lo n : Nat) : (s.bumpMod r is hi lo n).hubs = s.hubs := rfl
@[simp] theorem State.bumpMod_bpm (r : Reg) (is : List Nat) (hi lo n : Nat) : (s.bumpMod r is hi lo n).bpm = s.bpm := rfl
@[simp] theorem State.bumpMod_fwd (r : Reg) (is : List Nat) (hi lo n : Nat) : (s.bumpMod r is hi lo n).fwd = s.fwd := rfl
@[simp] theorem State.bumpMod_meters (r : Reg) (is : List Nat) (hi lo n : Nat) : (s.bumpMod r is hi lo n).meters = s.meters := rfl
@[simp] theorem State.bumpMod_mirror (r : Reg) (is : List Nat) (hi lo n : Nat) : (s.bumpMod r is hi lo n).mirror = s.mirror := rfl
@[simp] theorem State.bumpMod_cfg (r : Reg) (is : List Nat) (hi lo n : Nat) : (s.bumpMod r is hi lo n).cfg = s.cfg := rfl
@[simp] theorem State.bumpMod_svc (r : Reg) (is : List Nat) (hi lo n : Nat) : (s.bumpMod r is hi lo n).svc = s.svc := rfl
@[simp] theorem State.bumpMod_mp (r : Reg) (is : List Nat) (hi lo n : Nat) : (s.bumpMod r is hi lo n).mp = s.mp := rfl
@[simp] theorem State.bumpMod_fab (r : Reg) (is : List Nat) (hi lo n : Nat) : (s.bumpMod r is hi lo n).fab = s.fab := rfl
@[simp] theorem State.bumpMod_flt (r : Reg) (is : List Nat) (hi lo n : Nat) : (s.bumpMod r is hi lo n).flt = s.flt := rfl
@[simp] theorem State.bumpMod_reco (r : Reg) (is : List Nat) (hi lo n : Nat) : (s.bumpMod r is hi lo n).reco = s.reco := rfl
@[simp] theorem State.bumpMod_pow (r : Reg) (is : List Nat) (hi lo n : Nat) : (s.bumpMod r is hi lo n).pow = s.pow := rfl
@[simp] theorem State.bumpMod_nvm (r : Reg) (is : List Nat) (hi lo n : Nat) : (s.bumpMod r is hi lo n).nvm = s.nvm := rfl
@[simp] theorem State.bumpMod_keys (r : Reg) (is : List Nat) (hi lo n : Nat) : (s.bumpMod r is hi lo n).keys = s.keys := rfl
@[simp] theorem State.bumpMod_i3c (r : Reg) (is : List Nat) (hi lo n : Nat) : (s.bumpMod r is hi lo n).i3c = s.i3c := rfl
@[simp] theorem State.bumpMod_busRead (r : Reg) (is : List Nat) (hi lo n : Nat) : (s.bumpMod r is hi lo n).busRead = s.busRead := rfl
@[simp] theorem State.bumpMod_pins (r : Reg) (is : List Nat) (hi lo n : Nat) : (s.bumpMod r is hi lo n).pins = s.pins := rfl
@[simp] theorem State.bumpMod_sent (r : Reg) (is : List Nat) (hi lo n : Nat) : (s.bumpMod r is hi lo n).sent = s.sent := rfl
@[simp] theorem State.bumpMod_mgmtOut (r : Reg) (is : List Nat) (hi lo n : Nat) : (s.bumpMod r is hi lo n).mgmtOut = s.mgmtOut := rfl
@[simp] theorem State.bumpMod_nextId (r : Reg) (is : List Nat) (hi lo n : Nat) : (s.bumpMod r is hi lo n).nextId = s.nextId := rfl
@[simp] theorem State.bumpMod_free (r : Reg) (is : List Nat) (hi lo n : Nat) : (s.bumpMod r is hi lo n).free = s.free := rfl

/-! ### `State.setPort` -/

@[simp] theorem State.setPort_pending (p : Nat) (q : PortSt) : (s.setPort p q).pending = s.pending := rfl
@[simp] theorem State.setPort_factory (p : Nat) (q : PortSt) : (s.setPort p q).factory = s.factory := rfl
@[simp] theorem State.setPort_mem (p : Nat) (q : PortSt) : (s.setPort p q).mem = s.mem := rfl
@[simp] theorem State.setPort_mops (p : Nat) (q : PortSt) : (s.setPort p q).mops = s.mops := rfl
@[simp] theorem State.setPort_time (p : Nat) (q : PortSt) : (s.setPort p q).time = s.time := rfl
@[simp] theorem State.setPort_regs (p : Nat) (q : PortSt) : (s.setPort p q).regs = s.regs := rfl
@[simp] theorem State.setPort_ageLog (p : Nat) (q : PortSt) : (s.setPort p q).ageLog = s.ageLog := rfl
@[simp] theorem State.setPort_ports (p : Nat) (q : PortSt) : (s.setPort p q).ports = s.ports.set p q := rfl
@[simp] theorem State.setPort_hubs (p : Nat) (q : PortSt) : (s.setPort p q).hubs = s.hubs := rfl
@[simp] theorem State.setPort_bpm (p : Nat) (q : PortSt) : (s.setPort p q).bpm = s.bpm := rfl
@[simp] theorem State.setPort_fwd (p : Nat) (q : PortSt) : (s.setPort p q).fwd = s.fwd := rfl
@[simp] theorem State.setPort_meters (p : Nat) (q : PortSt) : (s.setPort p q).meters = s.meters := rfl
@[simp] theorem State.setPort_mirror (p : Nat) (q : PortSt) : (s.setPort p q).mirror = s.mirror := rfl
@[simp] theorem State.setPort_cfg (p : Nat) (q : PortSt) : (s.setPort p q).cfg = s.cfg := rfl
@[simp] theorem State.setPort_svc (p : Nat) (q : PortSt) : (s.setPort p q).svc = s.svc := rfl
@[simp] theorem State.setPort_mp (p : Nat) (q : PortSt) : (s.setPort p q).mp = s.mp := rfl
@[simp] theorem State.setPort_fab (p : Nat) (q : PortSt) : (s.setPort p q).fab = s.fab := rfl
@[simp] theorem State.setPort_flt (p : Nat) (q : PortSt) : (s.setPort p q).flt = s.flt := rfl
@[simp] theorem State.setPort_reco (p : Nat) (q : PortSt) : (s.setPort p q).reco = s.reco := rfl
@[simp] theorem State.setPort_pow (p : Nat) (q : PortSt) : (s.setPort p q).pow = s.pow := rfl
@[simp] theorem State.setPort_nvm (p : Nat) (q : PortSt) : (s.setPort p q).nvm = s.nvm := rfl
@[simp] theorem State.setPort_keys (p : Nat) (q : PortSt) : (s.setPort p q).keys = s.keys := rfl
@[simp] theorem State.setPort_i3c (p : Nat) (q : PortSt) : (s.setPort p q).i3c = s.i3c := rfl
@[simp] theorem State.setPort_busRead (p : Nat) (q : PortSt) : (s.setPort p q).busRead = s.busRead := rfl
@[simp] theorem State.setPort_pins (p : Nat) (q : PortSt) : (s.setPort p q).pins = s.pins := rfl
@[simp] theorem State.setPort_sent (p : Nat) (q : PortSt) : (s.setPort p q).sent = s.sent := rfl
@[simp] theorem State.setPort_mgmtOut (p : Nat) (q : PortSt) : (s.setPort p q).mgmtOut = s.mgmtOut := rfl
@[simp] theorem State.setPort_nextId (p : Nat) (q : PortSt) : (s.setPort p q).nextId = s.nextId := rfl
@[simp] theorem State.setPort_free (p : Nat) (q : PortSt) : (s.setPort p q).free = s.free := rfl

/-! ### `State.setHub` -/

@[simp] theorem State.setHub_pending (h : Nat) (u : Hub) : (s.setHub h u).pending = s.pending := rfl
@[simp] theorem State.setHub_factory (h : Nat) (u : Hub) : (s.setHub h u).factory = s.factory := rfl
@[simp] theorem State.setHub_mem (h : Nat) (u : Hub) : (s.setHub h u).mem = s.mem := rfl
@[simp] theorem State.setHub_mops (h : Nat) (u : Hub) : (s.setHub h u).mops = s.mops := rfl
@[simp] theorem State.setHub_time (h : Nat) (u : Hub) : (s.setHub h u).time = s.time := rfl
@[simp] theorem State.setHub_regs (h : Nat) (u : Hub) : (s.setHub h u).regs = s.regs := rfl
@[simp] theorem State.setHub_ageLog (h : Nat) (u : Hub) : (s.setHub h u).ageLog = s.ageLog := rfl
@[simp] theorem State.setHub_ports (h : Nat) (u : Hub) : (s.setHub h u).ports = s.ports := rfl
@[simp] theorem State.setHub_hubs (h : Nat) (u : Hub) : (s.setHub h u).hubs = s.hubs.set h u := rfl
@[simp] theorem State.setHub_bpm (h : Nat) (u : Hub) : (s.setHub h u).bpm = s.bpm := rfl
@[simp] theorem State.setHub_fwd (h : Nat) (u : Hub) : (s.setHub h u).fwd = s.fwd := rfl
@[simp] theorem State.setHub_meters (h : Nat) (u : Hub) : (s.setHub h u).meters = s.meters := rfl
@[simp] theorem State.setHub_mirror (h : Nat) (u : Hub) : (s.setHub h u).mirror = s.mirror := rfl
@[simp] theorem State.setHub_cfg (h : Nat) (u : Hub) : (s.setHub h u).cfg = s.cfg := rfl
@[simp] theorem State.setHub_svc (h : Nat) (u : Hub) : (s.setHub h u).svc = s.svc := rfl
@[simp] theorem State.setHub_mp (h : Nat) (u : Hub) : (s.setHub h u).mp = s.mp := rfl
@[simp] theorem State.setHub_fab (h : Nat) (u : Hub) : (s.setHub h u).fab = s.fab := rfl
@[simp] theorem State.setHub_flt (h : Nat) (u : Hub) : (s.setHub h u).flt = s.flt := rfl
@[simp] theorem State.setHub_reco (h : Nat) (u : Hub) : (s.setHub h u).reco = s.reco := rfl
@[simp] theorem State.setHub_pow (h : Nat) (u : Hub) : (s.setHub h u).pow = s.pow := rfl
@[simp] theorem State.setHub_nvm (h : Nat) (u : Hub) : (s.setHub h u).nvm = s.nvm := rfl
@[simp] theorem State.setHub_keys (h : Nat) (u : Hub) : (s.setHub h u).keys = s.keys := rfl
@[simp] theorem State.setHub_i3c (h : Nat) (u : Hub) : (s.setHub h u).i3c = s.i3c := rfl
@[simp] theorem State.setHub_busRead (h : Nat) (u : Hub) : (s.setHub h u).busRead = s.busRead := rfl
@[simp] theorem State.setHub_pins (h : Nat) (u : Hub) : (s.setHub h u).pins = s.pins := rfl
@[simp] theorem State.setHub_sent (h : Nat) (u : Hub) : (s.setHub h u).sent = s.sent := rfl
@[simp] theorem State.setHub_mgmtOut (h : Nat) (u : Hub) : (s.setHub h u).mgmtOut = s.mgmtOut := rfl
@[simp] theorem State.setHub_nextId (h : Nat) (u : Hub) : (s.setHub h u).nextId = s.nextId := rfl
@[simp] theorem State.setHub_free (h : Nat) (u : Hub) : (s.setHub h u).free = s.free := rfl

/-! ### `State.setPool` -/

@[simp] theorem State.setPool_pending (p : Nat) (b : BpmPool) : (s.setPool p b).pending = s.pending := rfl
@[simp] theorem State.setPool_factory (p : Nat) (b : BpmPool) : (s.setPool p b).factory = s.factory := rfl
@[simp] theorem State.setPool_mem (p : Nat) (b : BpmPool) : (s.setPool p b).mem = s.mem := rfl
@[simp] theorem State.setPool_mops (p : Nat) (b : BpmPool) : (s.setPool p b).mops = s.mops := rfl
@[simp] theorem State.setPool_time (p : Nat) (b : BpmPool) : (s.setPool p b).time = s.time := rfl
@[simp] theorem State.setPool_regs (p : Nat) (b : BpmPool) : (s.setPool p b).regs = s.regs := rfl
@[simp] theorem State.setPool_ageLog (p : Nat) (b : BpmPool) : (s.setPool p b).ageLog = s.ageLog := rfl
@[simp] theorem State.setPool_ports (p : Nat) (b : BpmPool) : (s.setPool p b).ports = s.ports := rfl
@[simp] theorem State.setPool_hubs (p : Nat) (b : BpmPool) : (s.setPool p b).hubs = s.hubs := rfl
@[simp] theorem State.setPool_bpm (p : Nat) (b : BpmPool) : (s.setPool p b).bpm = s.bpm.set p b := rfl
@[simp] theorem State.setPool_fwd (p : Nat) (b : BpmPool) : (s.setPool p b).fwd = s.fwd := rfl
@[simp] theorem State.setPool_meters (p : Nat) (b : BpmPool) : (s.setPool p b).meters = s.meters := rfl
@[simp] theorem State.setPool_mirror (p : Nat) (b : BpmPool) : (s.setPool p b).mirror = s.mirror := rfl
@[simp] theorem State.setPool_cfg (p : Nat) (b : BpmPool) : (s.setPool p b).cfg = s.cfg := rfl
@[simp] theorem State.setPool_svc (p : Nat) (b : BpmPool) : (s.setPool p b).svc = s.svc := rfl
@[simp] theorem State.setPool_mp (p : Nat) (b : BpmPool) : (s.setPool p b).mp = s.mp := rfl
@[simp] theorem State.setPool_fab (p : Nat) (b : BpmPool) : (s.setPool p b).fab = s.fab := rfl
@[simp] theorem State.setPool_flt (p : Nat) (b : BpmPool) : (s.setPool p b).flt = s.flt := rfl
@[simp] theorem State.setPool_reco (p : Nat) (b : BpmPool) : (s.setPool p b).reco = s.reco := rfl
@[simp] theorem State.setPool_pow (p : Nat) (b : BpmPool) : (s.setPool p b).pow = s.pow := rfl
@[simp] theorem State.setPool_nvm (p : Nat) (b : BpmPool) : (s.setPool p b).nvm = s.nvm := rfl
@[simp] theorem State.setPool_keys (p : Nat) (b : BpmPool) : (s.setPool p b).keys = s.keys := rfl
@[simp] theorem State.setPool_i3c (p : Nat) (b : BpmPool) : (s.setPool p b).i3c = s.i3c := rfl
@[simp] theorem State.setPool_busRead (p : Nat) (b : BpmPool) : (s.setPool p b).busRead = s.busRead := rfl
@[simp] theorem State.setPool_pins (p : Nat) (b : BpmPool) : (s.setPool p b).pins = s.pins := rfl
@[simp] theorem State.setPool_sent (p : Nat) (b : BpmPool) : (s.setPool p b).sent = s.sent := rfl
@[simp] theorem State.setPool_mgmtOut (p : Nat) (b : BpmPool) : (s.setPool p b).mgmtOut = s.mgmtOut := rfl
@[simp] theorem State.setPool_nextId (p : Nat) (b : BpmPool) : (s.setPool p b).nextId = s.nextId := rfl
@[simp] theorem State.setPool_free (p : Nat) (b : BpmPool) : (s.setPool p b).free = s.free := rfl

/-! ### `State.setSess` -/

@[simp] theorem State.setSess_pending (i : Nat) (m : MirSess) : (s.setSess i m).pending = s.pending := rfl
@[simp] theorem State.setSess_factory (i : Nat) (m : MirSess) : (s.setSess i m).factory = s.factory := rfl
@[simp] theorem State.setSess_mem (i : Nat) (m : MirSess) : (s.setSess i m).mem = s.mem := rfl
@[simp] theorem State.setSess_mops (i : Nat) (m : MirSess) : (s.setSess i m).mops = s.mops := rfl
@[simp] theorem State.setSess_time (i : Nat) (m : MirSess) : (s.setSess i m).time = s.time := rfl
@[simp] theorem State.setSess_regs (i : Nat) (m : MirSess) : (s.setSess i m).regs = s.regs := rfl
@[simp] theorem State.setSess_ageLog (i : Nat) (m : MirSess) : (s.setSess i m).ageLog = s.ageLog := rfl
@[simp] theorem State.setSess_ports (i : Nat) (m : MirSess) : (s.setSess i m).ports = s.ports := rfl
@[simp] theorem State.setSess_hubs (i : Nat) (m : MirSess) : (s.setSess i m).hubs = s.hubs := rfl
@[simp] theorem State.setSess_bpm (i : Nat) (m : MirSess) : (s.setSess i m).bpm = s.bpm := rfl
@[simp] theorem State.setSess_fwd (i : Nat) (m : MirSess) : (s.setSess i m).fwd = s.fwd := rfl
@[simp] theorem State.setSess_meters (i : Nat) (m : MirSess) : (s.setSess i m).meters = s.meters := rfl
@[simp] theorem State.setSess_mirror (i : Nat) (m : MirSess) : (s.setSess i m).mirror = s.mirror.set i m := rfl
@[simp] theorem State.setSess_cfg (i : Nat) (m : MirSess) : (s.setSess i m).cfg = s.cfg := rfl
@[simp] theorem State.setSess_svc (i : Nat) (m : MirSess) : (s.setSess i m).svc = s.svc := rfl
@[simp] theorem State.setSess_mp (i : Nat) (m : MirSess) : (s.setSess i m).mp = s.mp := rfl
@[simp] theorem State.setSess_fab (i : Nat) (m : MirSess) : (s.setSess i m).fab = s.fab := rfl
@[simp] theorem State.setSess_flt (i : Nat) (m : MirSess) : (s.setSess i m).flt = s.flt := rfl
@[simp] theorem State.setSess_reco (i : Nat) (m : MirSess) : (s.setSess i m).reco = s.reco := rfl
@[simp] theorem State.setSess_pow (i : Nat) (m : MirSess) : (s.setSess i m).pow = s.pow := rfl
@[simp] theorem State.setSess_nvm (i : Nat) (m : MirSess) : (s.setSess i m).nvm = s.nvm := rfl
@[simp] theorem State.setSess_keys (i : Nat) (m : MirSess) : (s.setSess i m).keys = s.keys := rfl
@[simp] theorem State.setSess_i3c (i : Nat) (m : MirSess) : (s.setSess i m).i3c = s.i3c := rfl
@[simp] theorem State.setSess_busRead (i : Nat) (m : MirSess) : (s.setSess i m).busRead = s.busRead := rfl
@[simp] theorem State.setSess_pins (i : Nat) (m : MirSess) : (s.setSess i m).pins = s.pins := rfl
@[simp] theorem State.setSess_sent (i : Nat) (m : MirSess) : (s.setSess i m).sent = s.sent := rfl
@[simp] theorem State.setSess_mgmtOut (i : Nat) (m : MirSess) : (s.setSess i m).mgmtOut = s.mgmtOut := rfl
@[simp] theorem State.setSess_nextId (i : Nat) (m : MirSess) : (s.setSess i m).nextId = s.nextId := rfl
@[simp] theorem State.setSess_free (i : Nat) (m : MirSess) : (s.setSess i m).free = s.free := rfl

/-! ### `State.setCtx` -/

@[simp] theorem State.setCtx_pending (n : Nat) (c : Ctx) : (s.setCtx n c).pending = s.pending := rfl
@[simp] theorem State.setCtx_factory (n : Nat) (c : Ctx) : (s.setCtx n c).factory = s.factory := rfl
@[simp] theorem State.setCtx_mem (n : Nat) (c : Ctx) : (s.setCtx n c).mem = s.mem := rfl
@[simp] theorem State.setCtx_mops (n : Nat) (c : Ctx) : (s.setCtx n c).mops = s.mops := rfl
@[simp] theorem State.setCtx_time (n : Nat) (c : Ctx) : (s.setCtx n c).time = s.time := rfl
@[simp] theorem State.setCtx_regs (n : Nat) (c : Ctx) : (s.setCtx n c).regs = s.regs := rfl
@[simp] theorem State.setCtx_ageLog (n : Nat) (c : Ctx) : (s.setCtx n c).ageLog = s.ageLog := rfl
@[simp] theorem State.setCtx_ports (n : Nat) (c : Ctx) : (s.setCtx n c).ports = s.ports := rfl
@[simp] theorem State.setCtx_hubs (n : Nat) (c : Ctx) : (s.setCtx n c).hubs = s.hubs := rfl
@[simp] theorem State.setCtx_bpm (n : Nat) (c : Ctx) : (s.setCtx n c).bpm = s.bpm := rfl
@[simp] theorem State.setCtx_fwd (n : Nat) (c : Ctx) : (s.setCtx n c).fwd = s.fwd := rfl
@[simp] theorem State.setCtx_meters (n : Nat) (c : Ctx) : (s.setCtx n c).meters = s.meters := rfl
@[simp] theorem State.setCtx_mirror (n : Nat) (c : Ctx) : (s.setCtx n c).mirror = s.mirror := rfl
@[simp] theorem State.setCtx_cfg (n : Nat) (c : Ctx) : (s.setCtx n c).cfg = s.cfg := rfl
@[simp] theorem State.setCtx_svc (n : Nat) (c : Ctx) : (s.setCtx n c).svc = { s.svc with ctxs := s.svc.ctxs.set n c } := rfl
@[simp] theorem State.setCtx_mp (n : Nat) (c : Ctx) : (s.setCtx n c).mp = s.mp := rfl
@[simp] theorem State.setCtx_fab (n : Nat) (c : Ctx) : (s.setCtx n c).fab = s.fab := rfl
@[simp] theorem State.setCtx_flt (n : Nat) (c : Ctx) : (s.setCtx n c).flt = s.flt := rfl
@[simp] theorem State.setCtx_reco (n : Nat) (c : Ctx) : (s.setCtx n c).reco = s.reco := rfl
@[simp] theorem State.setCtx_pow (n : Nat) (c : Ctx) : (s.setCtx n c).pow = s.pow := rfl
@[simp] theorem State.setCtx_nvm (n : Nat) (c : Ctx) : (s.setCtx n c).nvm = s.nvm := rfl
@[simp] theorem State.setCtx_keys (n : Nat) (c : Ctx) : (s.setCtx n c).keys = s.keys := rfl
@[simp] theorem State.setCtx_i3c (n : Nat) (c : Ctx) : (s.setCtx n c).i3c = s.i3c := rfl
@[simp] theorem State.setCtx_busRead (n : Nat) (c : Ctx) : (s.setCtx n c).busRead = s.busRead := rfl
@[simp] theorem State.setCtx_pins (n : Nat) (c : Ctx) : (s.setCtx n c).pins = s.pins := rfl
@[simp] theorem State.setCtx_sent (n : Nat) (c : Ctx) : (s.setCtx n c).sent = s.sent := rfl
@[simp] theorem State.setCtx_mgmtOut (n : Nat) (c : Ctx) : (s.setCtx n c).mgmtOut = s.mgmtOut := rfl
@[simp] theorem State.setCtx_nextId (n : Nat) (c : Ctx) : (s.setCtx n c).nextId = s.nextId := rfl
@[simp] theorem State.setCtx_free (n : Nat) (c : Ctx) : (s.setCtx n c).free = s.free := rfl

/-! ### `State.setRegion` -/

@[simp] theorem State.setRegion_pending (r : Nat) (x : Region) : (s.setRegion r x).pending = s.pending := rfl
@[simp] theorem State.setRegion_factory (r : Nat) (x : Region) : (s.setRegion r x).factory = s.factory := rfl
@[simp] theorem State.setRegion_mem (r : Nat) (x : Region) : (s.setRegion r x).mem = s.mem := rfl
@[simp] theorem State.setRegion_mops (r : Nat) (x : Region) : (s.setRegion r x).mops = s.mops := rfl
@[simp] theorem State.setRegion_time (r : Nat) (x : Region) : (s.setRegion r x).time = s.time := rfl
@[simp] theorem State.setRegion_regs (r : Nat) (x : Region) : (s.setRegion r x).regs = s.regs := rfl
@[simp] theorem State.setRegion_ageLog (r : Nat) (x : Region) : (s.setRegion r x).ageLog = s.ageLog := rfl
@[simp] theorem State.setRegion_ports (r : Nat) (x : Region) : (s.setRegion r x).ports = s.ports := rfl
@[simp] theorem State.setRegion_hubs (r : Nat) (x : Region) : (s.setRegion r x).hubs = s.hubs := rfl
@[simp] theorem State.setRegion_bpm (r : Nat) (x : Region) : (s.setRegion r x).bpm = s.bpm := rfl
@[simp] theorem State.setRegion_fwd (r : Nat) (x : Region) : (s.setRegion r x).fwd = s.fwd := rfl
@[simp] theorem State.setRegion_meters (r : Nat) (x : Region) : (s.setRegion r x).meters = s.meters := rfl
@[simp] theorem State.setRegion_mirror (r : Nat) (x : Region) : (s.setRegion r x).mirror = s.mirror := rfl
@[simp] theorem State.setRegion_cfg (r : Nat) (x : Region) : (s.setRegion r x).cfg = s.cfg := rfl
@[simp] theorem State.setRegion_svc (r : Nat) (x : Region) : (s.setRegion r x).svc = s.svc := rfl
@[simp] theorem State.setRegion_mp (r : Nat) (x : Region) : (s.setRegion r x).mp = { s.mp with regions := s.mp.regions.set r x } := rfl
@[simp] theorem State.setRegion_fab (r : Nat) (x : Region) : (s.setRegion r x).fab = s.fab := rfl
@[simp] theorem State.setRegion_flt (r : Nat) (x : Region) : (s.setRegion r x).flt = s.flt := rfl
@[simp] theorem State.setRegion_reco (r : Nat) (x : Region) : (s.setRegion r x).reco = s.reco := rfl
@[simp] theorem State.setRegion_pow (r : Nat) (x : Region) : (s.setRegion r x).pow = s.pow := rfl
@[simp] theorem State.setRegion_nvm (r : Nat) (x : Region) : (s.setRegion r x).nvm = s.nvm := rfl
@[simp] theorem State.setRegion_keys (r : Nat) (x : Region) : (s.setRegion r x).keys = s.keys := rfl
@[simp] theorem State.setRegion_i3c (r : Nat) (x : Region) : (s.setRegion r x).i3c = s.i3c := rfl
@[simp] theorem State.setRegion_busRead (r : Nat) (x : Region) : (s.setRegion r x).busRead = s.busRead := rfl
@[simp] theorem State.setRegion_pins (r : Nat) (x : Region) : (s.setRegion r x).pins = s.pins := rfl
@[simp] theorem State.setRegion_sent (r : Nat) (x : Region) : (s.setRegion r x).sent = s.sent := rfl
@[simp] theorem State.setRegion_mgmtOut (r : Nat) (x : Region) : (s.setRegion r x).mgmtOut = s.mgmtOut := rfl
@[simp] theorem State.setRegion_nextId (r : Nat) (x : Region) : (s.setRegion r x).nextId = s.nextId := rfl
@[simp] theorem State.setRegion_free (r : Nat) (x : Region) : (s.setRegion r x).free = s.free := rfl

/-! ### `State.setStack` -/

@[simp] theorem State.setStack_pending (k : Nat) (x : StackSt) : (s.setStack k x).pending = s.pending := rfl
@[simp] theorem State.setStack_factory (k : Nat) (x : StackSt) : (s.setStack k x).factory = s.factory := rfl
@[simp] theorem State.setStack_mem (k : Nat) (x : StackSt) : (s.setStack k x).mem = s.mem := rfl
@[simp] theorem State.setStack_mops (k : Nat) (x : StackSt) : (s.setStack k x).mops = s.mops := rfl
@[simp] theorem State.setStack_time (k : Nat) (x : StackSt) : (s.setStack k x).time = s.time := rfl
@[simp] theorem State.setStack_regs (k : Nat) (x : StackSt) : (s.setStack k x).regs = s.regs := rfl
@[simp] theorem State.setStack_ageLog (k : Nat) (x : StackSt) : (s.setStack k x).ageLog = s.ageLog := rfl
@[simp] theorem State.setStack_ports (k : Nat) (x : StackSt) : (s.setStack k x).ports = s.ports := rfl
@[simp] theorem State.setStack_hubs (k : Nat) (x : StackSt) : (s.setStack k x).hubs = s.hubs := rfl
@[simp] theorem State.setStack_bpm (k : Nat) (x : StackSt) : (s.setStack k x).bpm = s.bpm := rfl
@[simp] theorem State.setStack_fwd (k : Nat) (x : StackSt) : (s.setStack k x).fwd = s.fwd := rfl
@[simp] theorem State.setStack_meters (k : Nat) (x : StackSt) : (s.setStack k x).meters = s.meters := rfl
@[simp] theorem State.setStack_mirror (k : Nat) (x : StackSt) : (s.setStack k x).mirror = s.mirror := rfl
@[simp] theorem State.setStack_cfg (k : Nat) (x : StackSt) : (s.setStack k x).cfg = s.cfg := rfl
@[simp] theorem State.setStack_svc (k : Nat) (x : StackSt) : (s.setStack k x).svc = s.svc := rfl
@[simp] theorem State.setStack_mp (k : Nat) (x : StackSt) : (s.setStack k x).mp = { s.mp with hbm := s.mp.hbm.set k x } := rfl
@[simp] theorem State.setStack_fab (k : Nat) (x : StackSt) : (s.setStack k x).fab = s.fab := rfl
@[simp] theorem State.setStack_flt (k : Nat) (x : StackSt) : (s.setStack k x).flt = s.flt := rfl
@[simp] theorem State.setStack_reco (k : Nat) (x : StackSt) : (s.setStack k x).reco = s.reco := rfl
@[simp] theorem State.setStack_pow (k : Nat) (x : StackSt) : (s.setStack k x).pow = s.pow := rfl
@[simp] theorem State.setStack_nvm (k : Nat) (x : StackSt) : (s.setStack k x).nvm = s.nvm := rfl
@[simp] theorem State.setStack_keys (k : Nat) (x : StackSt) : (s.setStack k x).keys = s.keys := rfl
@[simp] theorem State.setStack_i3c (k : Nat) (x : StackSt) : (s.setStack k x).i3c = s.i3c := rfl
@[simp] theorem State.setStack_busRead (k : Nat) (x : StackSt) : (s.setStack k x).busRead = s.busRead := rfl
@[simp] theorem State.setStack_pins (k : Nat) (x : StackSt) : (s.setStack k x).pins = s.pins := rfl
@[simp] theorem State.setStack_sent (k : Nat) (x : StackSt) : (s.setStack k x).sent = s.sent := rfl
@[simp] theorem State.setStack_mgmtOut (k : Nat) (x : StackSt) : (s.setStack k x).mgmtOut = s.mgmtOut := rfl
@[simp] theorem State.setStack_nextId (k : Nat) (x : StackSt) : (s.setStack k x).nextId = s.nextId := rfl
@[simp] theorem State.setStack_free (k : Nat) (x : StackSt) : (s.setStack k x).free = s.free := rfl

/-! ### `State.setTile` -/

@[simp] theorem State.setTile_pending (t : Nat) (x : Tile) : (s.setTile t x).pending = s.pending := rfl
@[simp] theorem State.setTile_factory (t : Nat) (x : Tile) : (s.setTile t x).factory = s.factory := rfl
@[simp] theorem State.setTile_mem (t : Nat) (x : Tile) : (s.setTile t x).mem = s.mem := rfl
@[simp] theorem State.setTile_mops (t : Nat) (x : Tile) : (s.setTile t x).mops = s.mops := rfl
@[simp] theorem State.setTile_time (t : Nat) (x : Tile) : (s.setTile t x).time = s.time := rfl
@[simp] theorem State.setTile_regs (t : Nat) (x : Tile) : (s.setTile t x).regs = s.regs := rfl
@[simp] theorem State.setTile_ageLog (t : Nat) (x : Tile) : (s.setTile t x).ageLog = s.ageLog := rfl
@[simp] theorem State.setTile_ports (t : Nat) (x : Tile) : (s.setTile t x).ports = s.ports := rfl
@[simp] theorem State.setTile_hubs (t : Nat) (x : Tile) : (s.setTile t x).hubs = s.hubs := rfl
@[simp] theorem State.setTile_bpm (t : Nat) (x : Tile) : (s.setTile t x).bpm = s.bpm := rfl
@[simp] theorem State.setTile_fwd (t : Nat) (x : Tile) : (s.setTile t x).fwd = s.fwd := rfl
@[simp] theorem State.setTile_meters (t : Nat) (x : Tile) : (s.setTile t x).meters = s.meters := rfl
@[simp] theorem State.setTile_mirror (t : Nat) (x : Tile) : (s.setTile t x).mirror = s.mirror := rfl
@[simp] theorem State.setTile_cfg (t : Nat) (x : Tile) : (s.setTile t x).cfg = s.cfg := rfl
@[simp] theorem State.setTile_svc (t : Nat) (x : Tile) : (s.setTile t x).svc = s.svc := rfl
@[simp] theorem State.setTile_mp (t : Nat) (x : Tile) : (s.setTile t x).mp = s.mp := rfl
@[simp] theorem State.setTile_fab (t : Nat) (x : Tile) : (s.setTile t x).fab = { s.fab with tiles := s.fab.tiles.set t x } := rfl
@[simp] theorem State.setTile_flt (t : Nat) (x : Tile) : (s.setTile t x).flt = s.flt := rfl
@[simp] theorem State.setTile_reco (t : Nat) (x : Tile) : (s.setTile t x).reco = s.reco := rfl
@[simp] theorem State.setTile_pow (t : Nat) (x : Tile) : (s.setTile t x).pow = s.pow := rfl
@[simp] theorem State.setTile_nvm (t : Nat) (x : Tile) : (s.setTile t x).nvm = s.nvm := rfl
@[simp] theorem State.setTile_keys (t : Nat) (x : Tile) : (s.setTile t x).keys = s.keys := rfl
@[simp] theorem State.setTile_i3c (t : Nat) (x : Tile) : (s.setTile t x).i3c = s.i3c := rfl
@[simp] theorem State.setTile_busRead (t : Nat) (x : Tile) : (s.setTile t x).busRead = s.busRead := rfl
@[simp] theorem State.setTile_pins (t : Nat) (x : Tile) : (s.setTile t x).pins = s.pins := rfl
@[simp] theorem State.setTile_sent (t : Nat) (x : Tile) : (s.setTile t x).sent = s.sent := rfl
@[simp] theorem State.setTile_mgmtOut (t : Nat) (x : Tile) : (s.setTile t x).mgmtOut = s.mgmtOut := rfl
@[simp] theorem State.setTile_nextId (t : Nat) (x : Tile) : (s.setTile t x).nextId = s.nextId := rfl
@[simp] theorem State.setTile_free (t : Nat) (x : Tile) : (s.setTile t x).free = s.free := rfl

/-! ### `State.setIslot` -/

@[simp] theorem State.setIslot_pending (n : Nat) (x : ImgSlot) : (s.setIslot n x).pending = s.pending := rfl
@[simp] theorem State.setIslot_factory (n : Nat) (x : ImgSlot) : (s.setIslot n x).factory = s.factory := rfl
@[simp] theorem State.setIslot_mem (n : Nat) (x : ImgSlot) : (s.setIslot n x).mem = s.mem := rfl
@[simp] theorem State.setIslot_mops (n : Nat) (x : ImgSlot) : (s.setIslot n x).mops = s.mops := rfl
@[simp] theorem State.setIslot_time (n : Nat) (x : ImgSlot) : (s.setIslot n x).time = s.time := rfl
@[simp] theorem State.setIslot_regs (n : Nat) (x : ImgSlot) : (s.setIslot n x).regs = s.regs := rfl
@[simp] theorem State.setIslot_ageLog (n : Nat) (x : ImgSlot) : (s.setIslot n x).ageLog = s.ageLog := rfl
@[simp] theorem State.setIslot_ports (n : Nat) (x : ImgSlot) : (s.setIslot n x).ports = s.ports := rfl
@[simp] theorem State.setIslot_hubs (n : Nat) (x : ImgSlot) : (s.setIslot n x).hubs = s.hubs := rfl
@[simp] theorem State.setIslot_bpm (n : Nat) (x : ImgSlot) : (s.setIslot n x).bpm = s.bpm := rfl
@[simp] theorem State.setIslot_fwd (n : Nat) (x : ImgSlot) : (s.setIslot n x).fwd = s.fwd := rfl
@[simp] theorem State.setIslot_meters (n : Nat) (x : ImgSlot) : (s.setIslot n x).meters = s.meters := rfl
@[simp] theorem State.setIslot_mirror (n : Nat) (x : ImgSlot) : (s.setIslot n x).mirror = s.mirror := rfl
@[simp] theorem State.setIslot_cfg (n : Nat) (x : ImgSlot) : (s.setIslot n x).cfg = s.cfg := rfl
@[simp] theorem State.setIslot_svc (n : Nat) (x : ImgSlot) : (s.setIslot n x).svc = s.svc := rfl
@[simp] theorem State.setIslot_mp (n : Nat) (x : ImgSlot) : (s.setIslot n x).mp = s.mp := rfl
@[simp] theorem State.setIslot_fab (n : Nat) (x : ImgSlot) : (s.setIslot n x).fab = { s.fab with slots := s.fab.slots.set n x } := rfl
@[simp] theorem State.setIslot_flt (n : Nat) (x : ImgSlot) : (s.setIslot n x).flt = s.flt := rfl
@[simp] theorem State.setIslot_reco (n : Nat) (x : ImgSlot) : (s.setIslot n x).reco = s.reco := rfl
@[simp] theorem State.setIslot_pow (n : Nat) (x : ImgSlot) : (s.setIslot n x).pow = s.pow := rfl
@[simp] theorem State.setIslot_nvm (n : Nat) (x : ImgSlot) : (s.setIslot n x).nvm = s.nvm := rfl
@[simp] theorem State.setIslot_keys (n : Nat) (x : ImgSlot) : (s.setIslot n x).keys = s.keys := rfl
@[simp] theorem State.setIslot_i3c (n : Nat) (x : ImgSlot) : (s.setIslot n x).i3c = s.i3c := rfl
@[simp] theorem State.setIslot_busRead (n : Nat) (x : ImgSlot) : (s.setIslot n x).busRead = s.busRead := rfl
@[simp] theorem State.setIslot_pins (n : Nat) (x : ImgSlot) : (s.setIslot n x).pins = s.pins := rfl
@[simp] theorem State.setIslot_sent (n : Nat) (x : ImgSlot) : (s.setIslot n x).sent = s.sent := rfl
@[simp] theorem State.setIslot_mgmtOut (n : Nat) (x : ImgSlot) : (s.setIslot n x).mgmtOut = s.mgmtOut := rfl
@[simp] theorem State.setIslot_nextId (n : Nat) (x : ImgSlot) : (s.setIslot n x).nextId = s.nextId := rfl
@[simp] theorem State.setIslot_free (n : Nat) (x : ImgSlot) : (s.setIslot n x).free = s.free := rfl

/-! ### `State.setEngine` -/

@[simp] theorem State.setEngine_pending (hub e : Nat) (x : StreamEng) : (s.setEngine hub e x).pending = s.pending := rfl
@[simp] theorem State.setEngine_factory (hub e : Nat) (x : StreamEng) : (s.setEngine hub e x).factory = s.factory := rfl
@[simp] theorem State.setEngine_mem (hub e : Nat) (x : StreamEng) : (s.setEngine hub e x).mem = s.mem := rfl
@[simp] theorem State.setEngine_mops (hub e : Nat) (x : StreamEng) : (s.setEngine hub e x).mops = s.mops := rfl
@[simp] theorem State.setEngine_time (hub e : Nat) (x : StreamEng) : (s.setEngine hub e x).time = s.time := rfl
@[simp] theorem State.setEngine_regs (hub e : Nat) (x : StreamEng) : (s.setEngine hub e x).regs = s.regs := rfl
@[simp] theorem State.setEngine_ageLog (hub e : Nat) (x : StreamEng) : (s.setEngine hub e x).ageLog = s.ageLog := rfl
@[simp] theorem State.setEngine_ports (hub e : Nat) (x : StreamEng) : (s.setEngine hub e x).ports = s.ports := rfl
@[simp] theorem State.setEngine_hubs (hub e : Nat) (x : StreamEng) : (s.setEngine hub e x).hubs = s.hubs := rfl
@[simp] theorem State.setEngine_bpm (hub e : Nat) (x : StreamEng) : (s.setEngine hub e x).bpm = s.bpm := rfl
@[simp] theorem State.setEngine_fwd (hub e : Nat) (x : StreamEng) : (s.setEngine hub e x).fwd = s.fwd := rfl
@[simp] theorem State.setEngine_meters (hub e : Nat) (x : StreamEng) : (s.setEngine hub e x).meters = s.meters := rfl
@[simp] theorem State.setEngine_mirror (hub e : Nat) (x : StreamEng) : (s.setEngine hub e x).mirror = s.mirror := rfl
@[simp] theorem State.setEngine_cfg (hub e : Nat) (x : StreamEng) : (s.setEngine hub e x).cfg = s.cfg := rfl
@[simp] theorem State.setEngine_svc (hub e : Nat) (x : StreamEng) : (s.setEngine hub e x).svc = s.svc := rfl
@[simp] theorem State.setEngine_mp (hub e : Nat) (x : StreamEng) : (s.setEngine hub e x).mp = s.mp := rfl
@[simp] theorem State.setEngine_fab (hub e : Nat) (x : StreamEng) : (s.setEngine hub e x).fab = { s.fab with engines := s.fab.engines.set (128 * hub + e) x } := rfl
@[simp] theorem State.setEngine_flt (hub e : Nat) (x : StreamEng) : (s.setEngine hub e x).flt = s.flt := rfl
@[simp] theorem State.setEngine_reco (hub e : Nat) (x : StreamEng) : (s.setEngine hub e x).reco = s.reco := rfl
@[simp] theorem State.setEngine_pow (hub e : Nat) (x : StreamEng) : (s.setEngine hub e x).pow = s.pow := rfl
@[simp] theorem State.setEngine_nvm (hub e : Nat) (x : StreamEng) : (s.setEngine hub e x).nvm = s.nvm := rfl
@[simp] theorem State.setEngine_keys (hub e : Nat) (x : StreamEng) : (s.setEngine hub e x).keys = s.keys := rfl
@[simp] theorem State.setEngine_i3c (hub e : Nat) (x : StreamEng) : (s.setEngine hub e x).i3c = s.i3c := rfl
@[simp] theorem State.setEngine_busRead (hub e : Nat) (x : StreamEng) : (s.setEngine hub e x).busRead = s.busRead := rfl
@[simp] theorem State.setEngine_pins (hub e : Nat) (x : StreamEng) : (s.setEngine hub e x).pins = s.pins := rfl
@[simp] theorem State.setEngine_sent (hub e : Nat) (x : StreamEng) : (s.setEngine hub e x).sent = s.sent := rfl
@[simp] theorem State.setEngine_mgmtOut (hub e : Nat) (x : StreamEng) : (s.setEngine hub e x).mgmtOut = s.mgmtOut := rfl
@[simp] theorem State.setEngine_nextId (hub e : Nat) (x : StreamEng) : (s.setEngine hub e x).nextId = s.nextId := rfl
@[simp] theorem State.setEngine_free (hub e : Nat) (x : StreamEng) : (s.setEngine hub e x).free = s.free := rfl

/-! ### `State.setMeshBuf` -/

@[simp] theorem State.setMeshBuf_pending (b : Nat) (x : MeshBuf) : (s.setMeshBuf b x).pending = s.pending := rfl
@[simp] theorem State.setMeshBuf_factory (b : Nat) (x : MeshBuf) : (s.setMeshBuf b x).factory = s.factory := rfl
@[simp] theorem State.setMeshBuf_mem (b : Nat) (x : MeshBuf) : (s.setMeshBuf b x).mem = s.mem := rfl
@[simp] theorem State.setMeshBuf_mops (b : Nat) (x : MeshBuf) : (s.setMeshBuf b x).mops = s.mops := rfl
@[simp] theorem State.setMeshBuf_time (b : Nat) (x : MeshBuf) : (s.setMeshBuf b x).time = s.time := rfl
@[simp] theorem State.setMeshBuf_regs (b : Nat) (x : MeshBuf) : (s.setMeshBuf b x).regs = s.regs := rfl
@[simp] theorem State.setMeshBuf_ageLog (b : Nat) (x : MeshBuf) : (s.setMeshBuf b x).ageLog = s.ageLog := rfl
@[simp] theorem State.setMeshBuf_ports (b : Nat) (x : MeshBuf) : (s.setMeshBuf b x).ports = s.ports := rfl
@[simp] theorem State.setMeshBuf_hubs (b : Nat) (x : MeshBuf) : (s.setMeshBuf b x).hubs = s.hubs := rfl
@[simp] theorem State.setMeshBuf_bpm (b : Nat) (x : MeshBuf) : (s.setMeshBuf b x).bpm = s.bpm := rfl
@[simp] theorem State.setMeshBuf_fwd (b : Nat) (x : MeshBuf) : (s.setMeshBuf b x).fwd = s.fwd := rfl
@[simp] theorem State.setMeshBuf_meters (b : Nat) (x : MeshBuf) : (s.setMeshBuf b x).meters = s.meters := rfl
@[simp] theorem State.setMeshBuf_mirror (b : Nat) (x : MeshBuf) : (s.setMeshBuf b x).mirror = s.mirror := rfl
@[simp] theorem State.setMeshBuf_cfg (b : Nat) (x : MeshBuf) : (s.setMeshBuf b x).cfg = s.cfg := rfl
@[simp] theorem State.setMeshBuf_svc (b : Nat) (x : MeshBuf) : (s.setMeshBuf b x).svc = s.svc := rfl
@[simp] theorem State.setMeshBuf_mp (b : Nat) (x : MeshBuf) : (s.setMeshBuf b x).mp = s.mp := rfl
@[simp] theorem State.setMeshBuf_fab (b : Nat) (x : MeshBuf) : (s.setMeshBuf b x).fab = { s.fab with mesh := s.fab.mesh.set b x } := rfl
@[simp] theorem State.setMeshBuf_flt (b : Nat) (x : MeshBuf) : (s.setMeshBuf b x).flt = s.flt := rfl
@[simp] theorem State.setMeshBuf_reco (b : Nat) (x : MeshBuf) : (s.setMeshBuf b x).reco = s.reco := rfl
@[simp] theorem State.setMeshBuf_pow (b : Nat) (x : MeshBuf) : (s.setMeshBuf b x).pow = s.pow := rfl
@[simp] theorem State.setMeshBuf_nvm (b : Nat) (x : MeshBuf) : (s.setMeshBuf b x).nvm = s.nvm := rfl
@[simp] theorem State.setMeshBuf_keys (b : Nat) (x : MeshBuf) : (s.setMeshBuf b x).keys = s.keys := rfl
@[simp] theorem State.setMeshBuf_i3c (b : Nat) (x : MeshBuf) : (s.setMeshBuf b x).i3c = s.i3c := rfl
@[simp] theorem State.setMeshBuf_busRead (b : Nat) (x : MeshBuf) : (s.setMeshBuf b x).busRead = s.busRead := rfl
@[simp] theorem State.setMeshBuf_pins (b : Nat) (x : MeshBuf) : (s.setMeshBuf b x).pins = s.pins := rfl
@[simp] theorem State.setMeshBuf_sent (b : Nat) (x : MeshBuf) : (s.setMeshBuf b x).sent = s.sent := rfl
@[simp] theorem State.setMeshBuf_mgmtOut (b : Nat) (x : MeshBuf) : (s.setMeshBuf b x).mgmtOut = s.mgmtOut := rfl
@[simp] theorem State.setMeshBuf_nextId (b : Nat) (x : MeshBuf) : (s.setMeshBuf b x).nextId = s.nextId := rfl
@[simp] theorem State.setMeshBuf_free (b : Nat) (x : MeshBuf) : (s.setMeshBuf b x).free = s.free := rfl

/-! ### `State.tickFree` -/

@[simp] theorem State.tickFree_pending : (s.tickFree).pending = s.pending := rfl
@[simp] theorem State.tickFree_factory : (s.tickFree).factory = s.factory := rfl
@[simp] theorem State.tickFree_mem : (s.tickFree).mem = s.mem := rfl
@[simp] theorem State.tickFree_mops : (s.tickFree).mops = s.mops := rfl
@[simp] theorem State.tickFree_time : (s.tickFree).time = s.time := rfl
@[simp] theorem State.tickFree_regs : (s.tickFree).regs = s.regs := rfl
@[simp] theorem State.tickFree_ageLog : (s.tickFree).ageLog = s.ageLog := rfl
@[simp] theorem State.tickFree_ports : (s.tickFree).ports = s.ports := rfl
@[simp] theorem State.tickFree_hubs : (s.tickFree).hubs = s.hubs := rfl
@[simp] theorem State.tickFree_bpm : (s.tickFree).bpm = s.bpm := rfl
@[simp] theorem State.tickFree_fwd : (s.tickFree).fwd = s.fwd := rfl
@[simp] theorem State.tickFree_meters : (s.tickFree).meters = s.meters := rfl
@[simp] theorem State.tickFree_mirror : (s.tickFree).mirror = s.mirror := rfl
@[simp] theorem State.tickFree_cfg : (s.tickFree).cfg = s.cfg := rfl
@[simp] theorem State.tickFree_svc : (s.tickFree).svc = s.svc := rfl
@[simp] theorem State.tickFree_mp : (s.tickFree).mp = s.mp := rfl
@[simp] theorem State.tickFree_fab : (s.tickFree).fab = s.fab := rfl
@[simp] theorem State.tickFree_flt : (s.tickFree).flt = s.flt := rfl
@[simp] theorem State.tickFree_reco : (s.tickFree).reco = s.reco := rfl
@[simp] theorem State.tickFree_pow : (s.tickFree).pow = s.pow := rfl
@[simp] theorem State.tickFree_nvm : (s.tickFree).nvm = s.nvm := rfl
@[simp] theorem State.tickFree_keys : (s.tickFree).keys = s.keys := rfl
@[simp] theorem State.tickFree_i3c : (s.tickFree).i3c = s.i3c := rfl
@[simp] theorem State.tickFree_busRead : (s.tickFree).busRead = s.busRead := rfl
@[simp] theorem State.tickFree_pins : (s.tickFree).pins = s.pins := rfl
@[simp] theorem State.tickFree_sent : (s.tickFree).sent = s.sent := rfl
@[simp] theorem State.tickFree_mgmtOut : (s.tickFree).mgmtOut = s.mgmtOut := rfl
@[simp] theorem State.tickFree_nextId : (s.tickFree).nextId = s.nextId := rfl
@[simp] theorem State.tickFree_free : (s.tickFree).free = s.free + 1 := rfl

/-! ### `State.memOp` -/

@[simp] theorem State.memOp_pending (o : MemOp) : (s.memOp o).pending = s.pending := rfl
@[simp] theorem State.memOp_factory (o : MemOp) : (s.memOp o).factory = s.factory := rfl
@[simp] theorem State.memOp_mem (o : MemOp) : (s.memOp o).mem = s.mem := rfl
@[simp] theorem State.memOp_mops (o : MemOp) : (s.memOp o).mops = s.mops ++ [o] := rfl
@[simp] theorem State.memOp_time (o : MemOp) : (s.memOp o).time = s.time := rfl
@[simp] theorem State.memOp_regs (o : MemOp) : (s.memOp o).regs = s.regs := rfl
@[simp] theorem State.memOp_ageLog (o : MemOp) : (s.memOp o).ageLog = s.ageLog := rfl
@[simp] theorem State.memOp_ports (o : MemOp) : (s.memOp o).ports = s.ports := rfl
@[simp] theorem State.memOp_hubs (o : MemOp) : (s.memOp o).hubs = s.hubs := rfl
@[simp] theorem State.memOp_bpm (o : MemOp) : (s.memOp o).bpm = s.bpm := rfl
@[simp] theorem State.memOp_fwd (o : MemOp) : (s.memOp o).fwd = s.fwd := rfl
@[simp] theorem State.memOp_meters (o : MemOp) : (s.memOp o).meters = s.meters := rfl
@[simp] theorem State.memOp_mirror (o : MemOp) : (s.memOp o).mirror = s.mirror := rfl
@[simp] theorem State.memOp_cfg (o : MemOp) : (s.memOp o).cfg = s.cfg := rfl
@[simp] theorem State.memOp_svc (o : MemOp) : (s.memOp o).svc = s.svc := rfl
@[simp] theorem State.memOp_mp (o : MemOp) : (s.memOp o).mp = s.mp := rfl
@[simp] theorem State.memOp_fab (o : MemOp) : (s.memOp o).fab = s.fab := rfl
@[simp] theorem State.memOp_flt (o : MemOp) : (s.memOp o).flt = s.flt := rfl
@[simp] theorem State.memOp_reco (o : MemOp) : (s.memOp o).reco = s.reco := rfl
@[simp] theorem State.memOp_pow (o : MemOp) : (s.memOp o).pow = s.pow := rfl
@[simp] theorem State.memOp_nvm (o : MemOp) : (s.memOp o).nvm = s.nvm := rfl
@[simp] theorem State.memOp_keys (o : MemOp) : (s.memOp o).keys = s.keys := rfl
@[simp] theorem State.memOp_i3c (o : MemOp) : (s.memOp o).i3c = s.i3c := rfl
@[simp] theorem State.memOp_busRead (o : MemOp) : (s.memOp o).busRead = s.busRead := rfl
@[simp] theorem State.memOp_pins (o : MemOp) : (s.memOp o).pins = s.pins := rfl
@[simp] theorem State.memOp_sent (o : MemOp) : (s.memOp o).sent = s.sent := rfl
@[simp] theorem State.memOp_mgmtOut (o : MemOp) : (s.memOp o).mgmtOut = s.mgmtOut := rfl
@[simp] theorem State.memOp_nextId (o : MemOp) : (s.memOp o).nextId = s.nextId := rfl
@[simp] theorem State.memOp_free (o : MemOp) : (s.memOp o).free = s.free := rfl

/-! ### Reads after updates -/

@[simp] theorem State.reg_setReg_same (r : Reg) (is : List Nat) (v : Nat) : (s.setReg r is v).reg r is = v := by simp [State.reg]

theorem State.reg_setReg_other (r q : Reg) (is js : List Nat) (v : Nat) (h : q.addr js ≠ r.addr is) :
    (s.setReg r is v).reg q js = s.reg q js := by simp [State.reg, Tbl.get_set_other, h]

@[simp] theorem State.port_setPort_same (p : Nat) (q : PortSt) : (s.setPort p q).port p = q := by simp [State.port]

theorem State.port_setPort_other (p x : Nat) (q : PortSt) (h : x ≠ p) : (s.setPort p q).port x = s.port x := by
  simp [State.port, Tbl.get_set_other, h]

@[simp] theorem State.hub_setHub_same (h : Nat) (u : Hub) : (s.setHub h u).hub h = u := by simp [State.hub]

@[simp] theorem State.sess_setSess_same (i : Nat) (m : MirSess) : (s.setSess i m).sess i = m := by simp [State.sess]

@[simp] theorem State.pool_setPool_same (p : Nat) (b : BpmPool) : (s.setPool p b).pool p = b := by simp [State.pool]

@[simp] theorem State.ctx?_setCtx_same (n : Nat) (c : Ctx) : (s.setCtx n c).ctx? n = some c := by simp [State.ctx?]

theorem State.ctx?_setCtx_other (n m : Nat) (c : Ctx) (h : m ≠ n) : (s.setCtx n c).ctx? m = s.ctx? m := by
  simp [State.ctx?, Tbl.find?_set_other, h]

@[simp] theorem State.region?_setRegion_same (r : Nat) (x : Region) : (s.setRegion r x).region? r = some x := by simp [State.region?]

@[simp] theorem State.stack_setStack_same (k : Nat) (x : StackSt) : (s.setStack k x).stack k = x := by simp [State.stack]

@[simp] theorem State.tile_setTile_same (t : Nat) (x : Tile) : (s.setTile t x).tile t = x := by simp [State.tile]

@[simp] theorem State.islot_setIslot_same (n : Nat) (x : ImgSlot) : (s.setIslot n x).islot n = x := by simp [State.islot]

end Sys2Proof.Machine
end

