-- ==== Sys2Proof/Laws/Words.lean ====
section
/-!
SUPPORT. Reading a field of a word after a field was written.
-/

namespace Sys2Proof

/-- A word with a field replaced, by its three parts. -/
theorem Nat.withField_parts (n hi lo v : Nat) :
    Nat.withField n hi lo v
      = n % 2 ^ lo + 2 ^ lo * (v % 2 ^ (hi + 1 - lo) + 2 ^ (hi + 1 - lo) * (n / 2 ^ lo / 2 ^ (hi + 1 - lo))) := by
  unfold Nat.withField
  generalize hw : 2 ^ (hi + 1 - lo) = w
  generalize hl : 2 ^ lo = l
  have h1 := Nat.div_add_mod n l
  have h2 := Nat.div_add_mod (n / l) w
  generalize n / l % w = f at *
  generalize n / l / w = q at *
  generalize n % l = r at *
  have h3 : n = l * (w * q) + f * l + r := by rw [← h1, ← h2]; ring
  generalize v % w = x
  have h4 : n - f * l = l * (w * q) + r := by omega
  rw [h4]; ring

/-- The field written reads the value written, cut to its width. -/
theorem Nat.field_withField_same (n hi lo v : Nat) :
    Nat.withField n hi lo v / 2 ^ lo % 2 ^ (hi + 1 - lo) = v % 2 ^ (hi + 1 - lo) := by
  rw [Nat.withField_parts]
  have hl : 0 < 2 ^ lo := Nat.two_pow_pos lo
  rw [Nat.add_mul_div_left _ _ hl, Nat.div_eq_of_lt (Nat.mod_lt _ hl), Nat.zero_add, Nat.add_mul_mod_self_left, Nat.mod_mod]

/-- A field below the one written reads what it read before. -/
theorem Nat.field_withField_below (n hi lo v h l : Nat) (hh : h < lo) :
    Nat.withField n hi lo v / 2 ^ l % 2 ^ (h + 1 - l) = n / 2 ^ l % 2 ^ (h + 1 - l) := by
  by_cases hlh : h < l
  · have : h + 1 - l = 0 := by omega
    simp [this, Nat.mod_one]
  have e : 2 ^ lo = 2 ^ l * (2 ^ (h + 1 - l) * 2 ^ (lo - (h + 1))) := by
    rw [← pow_add, ← pow_add]; congr 1; omega
  have key : ∀ m : Nat, m / 2 ^ l % 2 ^ (h + 1 - l) = m % 2 ^ lo / 2 ^ l % 2 ^ (h + 1 - l) := by
    intro m
    rw [e, Nat.mod_mul_right_div_self, Nat.mod_mul_right_mod]
  rw [key, key n, Nat.withField_parts, Nat.add_mul_mod_self_left, Nat.mod_mod]

/-- A field above the one written reads what it read before. -/
theorem Nat.field_withField_above (n hi lo v h l : Nat) (hl : hi < l) (hlo : lo ≤ hi) :
    Nat.withField n hi lo v / 2 ^ l % 2 ^ (h + 1 - l) = n / 2 ^ l % 2 ^ (h + 1 - l) := by
  have e : 2 ^ l = 2 ^ lo * (2 ^ (hi + 1 - lo) * 2 ^ (l - (hi + 1))) := by
    rw [← pow_add, ← pow_add]; congr 1; omega
  have hp : 0 < 2 ^ lo := Nat.two_pow_pos lo
  have hw : 0 < 2 ^ (hi + 1 - lo) := Nat.two_pow_pos _
  congr 1
  rw [e, ← Nat.div_div_eq_div_mul, ← Nat.div_div_eq_div_mul, ← Nat.div_div_eq_div_mul, ← Nat.div_div_eq_div_mul, Nat.withField_parts,
    Nat.add_mul_div_left _ _ hp, Nat.div_eq_of_lt (Nat.mod_lt _ hp), Nat.zero_add, Nat.add_mul_div_left _ _ hw,
    Nat.div_eq_of_lt (Nat.mod_lt _ hw), Nat.zero_add]

end Sys2Proof
end

