-- ==== Sys2Proof/Laws/Ops.lean ====
section
/-!
SUPPORT. What a command can do, said once: every command commits a body, with or without changes of HBM; and what each commit leaves alone.
-/

namespace Sys2Proof.Machine

/-! ### The two commits -/

/-- A command without HBM writes answers next; the queue, the factory's values, HBM and the pending changes stay. -/
theorem commit_next (s b : State) :
    commit s b = .next { b with pending := s.pending, factory := s.factory, mem := s.mem, mops := s.mops } := rfl

/-- A command with HBM writes answers next; the queue, the factory's values and the pending changes stay. -/
theorem commitMem_next (s : State) (f : State → State) :
    commitMem s f = .next { f { s with mops := [] } with
      pending := s.pending, factory := s.factory, mem := Memory.after s.mem (f { s with mops := [] }).mops, mops := s.mops } := rfl

/-- A command whose body changes nothing leaves the state as it is. -/
@[simp] theorem commit_self (s : State) : commit s s = .next s := rfl

@[simp] theorem commitMem_self (s : State) : (commitMem s fun t => t) = .next s := rfl

/-! ### Bodies under a condition -/

theorem State.unlessSafe_safe (s : State) (f : State → State) (h : s.flt.safe = true) : s.unlessSafe f = s := by simp [State.unlessSafe, h]

theorem State.unlessSafe_runs (s : State) (f : State → State) (h : s.flt.safe = false) : s.unlessSafe f = f s := by simp [State.unlessSafe, h]

theorem State.ifMain_up (s : State) (f : State → State) (h : s.islandsUp = true) (h' : s.pins.pwrGood = true) : s.ifMain f = f s := by
  simp [State.ifMain, h, h']

theorem State.ifMain_down (s : State) (f : State → State) (h : s.pins.pwrGood = false) : s.ifMain f = s := by simp [State.ifMain, h]

theorem State.ifIslands_up (s : State) (f : State → State) (h : s.islandsUp = true) : s.ifIslands f = f s := by simp [State.ifIslands, h]

theorem State.ifIslands_down (s : State) (f : State → State) (h : s.islandsUp = false) : s.ifIslands f = s := by simp [State.ifIslands, h]

/-! ### Fields of registers -/

/-- A field reads what was last written to it, cut to its width. -/
theorem State.fld_setFld_same (s : State) (r : Reg) (is : List Nat) (hi lo v : Nat) :
    (s.setFld r is hi lo v).fld r is hi lo = v % 2 ^ (hi + 1 - lo) := by
  simp only [State.fld, State.setFld, State.reg_setReg_same]
  exact Nat.field_withField_same _ _ _ _

/-- A field above or below the one written reads what it read before. -/
theorem State.fld_setFld_above (s : State) (r : Reg) (is : List Nat) (hi lo v h l : Nat) (hl : hi < l) (hlo : lo ≤ hi) :
    (s.setFld r is hi lo v).fld r is h l = s.fld r is h l := by
  simp only [State.fld, State.setFld, State.reg_setReg_same]
  exact Nat.field_withField_above _ _ _ _ _ _ hl hlo

theorem State.fld_setFld_below (s : State) (r : Reg) (is : List Nat) (hi lo v h l : Nat) (hh : h < lo) :
    (s.setFld r is hi lo v).fld r is h l = s.fld r is h l := by
  simp only [State.fld, State.setFld, State.reg_setReg_same]
  exact Nat.field_withField_below _ _ _ _ _ _ hh

/-- A field of another register instance reads what it read before. -/
theorem State.fld_setReg_other (s : State) (r q : Reg) (is js : List Nat) (v h l : Nat) (hne : q.addr js ≠ r.addr is) :
    (s.setReg r is v).fld q js h l = s.fld q js h l := by simp only [State.fld, State.reg_setReg_other _ _ _ _ _ _ hne]

theorem State.fld_setFld_other (s : State) (r q : Reg) (is js : List Nat) (hi lo v h l : Nat) (hne : q.addr js ≠ r.addr is) :
    (s.setFld r is hi lo v).fld q js h l = s.fld q js h l := by
  simp only [State.fld, State.setFld, State.reg_setReg_other _ _ _ _ _ _ hne]

/-- A counter after it counted. -/
theorem State.fld_bump_same (s : State) (r : Reg) (is : List Nat) (hi lo n : Nat) :
    (s.bump r is hi lo n).fld r is hi lo = satAdd (hi + 1 - lo) (s.fld r is hi lo) n % 2 ^ (hi + 1 - lo) := by
  simp only [State.bump, State.fld_setFld_same]

theorem State.fld_bump_other (s : State) (r q : Reg) (is js : List Nat) (hi lo n h l : Nat) (hne : q.addr js ≠ r.addr is) :
    (s.bump r is hi lo n).fld q js h l = s.fld q js h l := by simp only [State.bump, State.fld_setFld_other _ _ _ _ _ _ _ _ _ _ hne]

/-- A register write touches its own address alone. -/
theorem State.regsBut_setReg (s : State) (r : Reg) (is : List Nat) (v : Nat) : s.regsBut (s.setReg r is v) [r.addr is] := by
  intro a ha
  simp only [State.setReg_regs]
  exact Tbl.find?_set_other _ _ (by simpa using ha)

/-! ### Addresses of the port registers -/

theorem addr_prtPortCfg (p : Nat) : Reg.addr .prtPortCfg (portIdx p) = 0x1000000 + 0x100000 * (p / 96) + 0x100 * (p % 96) := by
  simp [Reg.addr, Reg.place, portIdx]; omega

theorem addr_prtPortCtl (p : Nat) : Reg.addr .prtPortCtl (portIdx p) = 0x1000008 + 0x100000 * (p / 96) + 0x100 * (p % 96) := by
  simp [Reg.addr, Reg.place, portIdx]; omega

theorem addr_prtCnt (p i : Nat) : Reg.addr .prtCnt (portIdx p ++ [i]) = 0x1040000 + 0x100000 * (p / 96) + 0x100 * (p % 96) + 8 * i := by
  simp [Reg.addr, Reg.place, portIdx]; omega

theorem addr_prtQft (p i : Nat) : Reg.addr .prtQft (portIdx p ++ [i]) = 0x1080000 + 0x100000 * (p / 96) + 0x100 * (p % 96) + 8 * i := by
  simp [Reg.addr, Reg.place, portIdx]; omega

/-- The link counters leave a port's settings alone. -/
theorem State.cfg_portCount (s : State) (p i n h l : Nat) :
    (s.portCount p i n).fld .prtPortCfg (portIdx p) h l = s.fld .prtPortCfg (portIdx p) h l := by
  apply State.fld_bump_other; rw [addr_prtPortCfg, addr_prtCnt]; omega

theorem State.ctl_portCount (s : State) (p i n h l : Nat) :
    (s.portCount p i n).fld .prtPortCtl (portIdx p) h l = s.fld .prtPortCtl (portIdx p) h l := by
  apply State.fld_bump_other; rw [addr_prtPortCtl, addr_prtCnt]; omega

/-! ### Every command -/

/-- An outcome is one of the two commits. -/
def Commits (s : State) (o : Out) : Prop := (∃ b, o = commit s b) ∨ ∃ f, o = commitMem s f

theorem commits_commit (s b : State) : Commits s (commit s b) := .inl ⟨b, rfl⟩

theorem commits_commitMem (s : State) (f : State → State) : Commits s (commitMem s f) := .inr ⟨f, rfl⟩

/-- Every command is one of the two commits. -/
theorem exec_commits (c : Instr) (s : State) : Commits s (exec c s) := by
  cases c <;> first
    | exact commits_commit s _
    | (dsimp only [exec, execContextQuarantineEnd, execDomainResetDone, execImageUnload, execMirrorBlockWrite,
        execNewTemondCheckin, execPageZeroDone, execPowerEvaluation, execReleaseReport, execServiceSwapDone,
        execSetup, execStackRetrainDone, execStepAtHome, execTrainStageDone, execUpdateUnitDone]
       exact commits_commitMem s _)

end Sys2Proof.Machine
end

