-- ==== Sys2Proof/Laws/Answer.lean ====
section
/-!
SUPPORT. What an answer of the device can change: the counters, the forwarding estimates, the hub dies' arrivals and the numbering, and
nothing else.
-/

namespace Sys2Proof.Machine

/-- The cells of a packet sent change the forwarding core's own copies only. -/
theorem State.sentToward_only (s : State) (die port cls cells : Nat) :
    s.sentToward die port cls cells = { s with fwd := (s.sentToward die port cls cells).fwd } := by
  unfold State.sentToward
  dsimp only
  split <;> rfl

/-- A lookup changes counters and the forwarding core's own copies only. -/
theorem State.lookupQft_found (s : State) (die : Nat) (p : Packet) (m : Member) (t : State)
    (h : s.lookupQft die p = .found m t) : t = { s with regs := t.regs, fwd := t.fwd } := by
  unfold State.lookupQft at h
  dsimp only at h
  split at h
  · cases h
  · split at h
    · split at h
      · cases h
      · cases h; rfl
    · split at h
      · cases h
      · cases h; split <;> rfl

theorem State.lookupQft_drop (s : State) (die : Nat) (p : Packet) (t : State)
    (h : s.lookupQft die p = .drop t) : t = { s with regs := t.regs, fwd := t.fwd } := by
  unfold State.lookupQft at h
  dsimp only at h
  split at h
  · cases h; rfl
  · split at h
    · split at h
      · cases h; rfl
      · cases h
    · split at h
      · cases h; rfl
      · cases h

/-- A packet the device originates changes counters, the forwarding core's copies, the hub dies and the numbering only. -/
theorem State.originate_only (s : State) (die : Nat) (p : Packet) (note : Nat) :
    let t := s.originate die p note
    t = { s with regs := t.regs, fwd := t.fwd, hubs := t.hubs, nextId := t.nextId } := by
  intro t
  show s.originate die p note = _
  unfold t State.originate
  dsimp only
  split
  · rename_i u h
    have := State.lookupQft_drop _ _ _ _ h
    generalize u = v at *
    rw [this]
  · rename_i m u h
    have := State.lookupQft_found _ _ _ _ _ h
    generalize u = v at *
    rw [this]

section
variable (s : State) (die : Nat) (p : Packet) (note : Nat)

@[simp] theorem State.originate_svc : (s.originate die p note).svc = s.svc := by rw [State.originate_only]
@[simp] theorem State.originate_mp : (s.originate die p note).mp = s.mp := by rw [State.originate_only]
@[simp] theorem State.originate_fab : (s.originate die p note).fab = s.fab := by rw [State.originate_only]
@[simp] theorem State.originate_mem : (s.originate die p note).mem = s.mem := by rw [State.originate_only]
@[simp] theorem State.originate_mops : (s.originate die p note).mops = s.mops := by rw [State.originate_only]
@[simp] theorem State.originate_time : (s.originate die p note).time = s.time := by rw [State.originate_only]
@[simp] theorem State.originate_ports : (s.originate die p note).ports = s.ports := by rw [State.originate_only]
@[simp] theorem State.originate_bpm : (s.originate die p note).bpm = s.bpm := by rw [State.originate_only]
@[simp] theorem State.originate_flt : (s.originate die p note).flt = s.flt := by rw [State.originate_only]
@[simp] theorem State.originate_cfg : (s.originate die p note).cfg = s.cfg := by rw [State.originate_only]
@[simp] theorem State.originate_keys : (s.originate die p note).keys = s.keys := by rw [State.originate_only]
@[simp] theorem State.originate_pins : (s.originate die p note).pins = s.pins := by rw [State.originate_only]
@[simp] theorem State.originate_sent : (s.originate die p note).sent = s.sent := by rw [State.originate_only]
@[simp] theorem State.originate_nvm : (s.originate die p note).nvm = s.nvm := by rw [State.originate_only]
@[simp] theorem State.originate_pow : (s.originate die p note).pow = s.pow := by rw [State.originate_only]
@[simp] theorem State.originate_reco : (s.originate die p note).reco = s.reco := by rw [State.originate_only]
end

end Sys2Proof.Machine
end

