-- ==== Sys2Proof/Tests/Slice0.lean ====
section
/-!
SUPPORT. Tests of the model on small states: an ill-formed command for every check of WellFormed, and, for each statement, states and operands
that meet the hypotheses of its clauses. Expected values are those of the spec's tables or follow from them by hand.
-/

set_option Elab.async false

namespace Sys2Proof.Tests
open Sys2Proof Sys2Proof.Machine

/-! ### Small states -/

/-- Both supplies are good and the main rails run; 10 s have passed. -/
def tOn : State := { pins := { mainOn := true, pwrGood := true }, time := { localNs := 10000000000, count := 5000000 } }

/-- The same in the safe state. -/
def tSafe : State := { tOn with flt := { safe := true } }

/-- Port `p` is configured: SPEED 1, frames up to 9,216 bytes, the other bits of its word `w`. -/
def tCfg (s : State) (p w : Nat) : State := s.setReg .prtPortCfg (portIdx p) (2 ^ 61 + 9216 * 2 ^ 32 + w)

/-- Port `p` of a state is configured and holds link `l`. -/
def tPort (p : Nat) (l : Link) : State := (tCfg tOn p 0).setLink p l

/-- Port 0 is configured and its link is in a state. -/
def tLink (st : LinkState) : State := tPort 0 { state := st }

/-- Port 0 is UP with classes 4 and 6 both retry- and credit-active. -/
def tRetry : State := tPort 0 { state := .up, negotiated := true, retryAct := 80, creditRx := 80, creditTx := 80 }

/-- A QFT frame with both checks right. -/
def tFrame (h : Hdr) (payload : List Byte) : Frame :=
  let p := h.packet payload
  let b := (Packet.sealed { p with w0 := p.w0.setField 47 42 9 }).bytes
  ⟨true, 1, 2, [], 0x88B5, b ++ List.replicate (46 - b.length) 0⟩

/-- READY, the service endpoint has number 5, port 0 is up and bound to job 0. -/
def tReady : State := { (tLink .up).setReg .ctlStart [] (7 * 2 ^ 60) with keys := { svcEp := 5 } }

/-- The packet and the state after the receive checks of a service row on port 0, where the frame passes them. -/
def tRx (s : State) (f : Frame) (t : Nat) : Option (Packet × State) := match s.serviceRx 0 f t with | .pass k u => some (k, u) | .done _ => none

/-- The packet and state of a link-local frame on port 0. -/
def tLocal (s : State) (f : Frame) : Option (Packet × State) := match s.receive 0 f with | .linkLocal k u => some (k, u) | _ => none

/-- The state after a step, where it goes on. -/
def tAfter (c : Instr) (s : State) : Option State := match exec c s with | .next t => some t | _ => none

/-- A page of bytes. -/
def tBytes (n : Nat) : List Byte := List.replicate n 1

/-- An issue on tile (0, 0). -/
def tIssue : Issue := { x := 0, y := 0, bundle := 1, ctx := 0, fetch := .clean }

/-- A plain frame. -/
def tPlain : Frame := ⟨true, 1, 2, [], 0x1234, List.replicate 50 0⟩

/-! ### Well-formedness: each check refuses a term -/

theorem test_wf_addr : Instr.wf (.registerWrite (2 ^ 48) 8 0) = false := by decide
theorem test_wf_size : Instr.wf (.badRegisterAccess 0 0 true) = false := by decide
theorem test_wf_port : Instr.wf (.retrain 768) = false := by decide
theorem test_wf_ingress : Instr.wf (.probe (.port 768) tPlain) = false := by decide
theorem test_wf_frame : Instr.wf (.qftForward 0 { tPlain with tags := [1, 2, 3] }) = false := by decide
theorem test_wf_mac : Instr.wf (.qftForward 0 { tPlain with dmac := 2 ^ 48 }) = false := by decide
theorem test_wf_i3c_read : Instr.wf (.i3cRead [1]) = false := by decide
theorem test_wf_i3c_write : Instr.wf (.i3cWrite [2]) = false := by decide
theorem test_wf_ptp_time : Instr.wf (.ptpMessage 0 tPlain true true (2 ^ 64)) = false := by decide
theorem test_wf_pfc : Instr.wf (.pfcFrameReceive 0 0 [1, 2]) = false := by decide
theorem test_wf_class : Instr.wf (.pfcPauseExpire 0 8) = false := by decide
theorem test_wf_shaper_class : Instr.wf (.shaperClear 0 (some 8)) = false := by decide
theorem test_wf_hub : Instr.wf (.hubAdmit 4) = false := by decide
theorem test_wf_pool : Instr.wf (.bpmAlloc 32 0 none) = false := by decide
theorem test_wf_session : Instr.wf (.mirrorEnable 64) = false := by decide
theorem test_wf_die : Instr.wf (.faultMessageTake 20 false none) = false := by decide
theorem test_wf_setup_src : Instr.wf (.setupAssemblyTimeout (2 ^ 20) 0) = false := by decide
theorem test_wf_number : Instr.wf (.releaseReport 0) = false := by decide
theorem test_wf_stream : Instr.wf (.orderedStreamExpire 8 0 1) = false := by decide
theorem test_wf_region : Instr.wf (.regionDrainEnd 4097) = false := by decide
theorem test_wf_page : Instr.wf (.pageZeroDone 0 36864) = false := by decide
theorem test_wf_engine : Instr.wf (.streamReadComplete 0 128 .clean) = false := by decide
theorem test_wf_stack : Instr.wf (.stackServe 16) = false := by decide
theorem test_wf_tile : Instr.wf (.meshCreditReturn 220 0 0 0) = false := by decide
theorem test_wf_vc : Instr.wf (.meshCreditReturn 0 0 0 3) = false := by decide
theorem test_wf_bundle : Instr.wf (.halt { tIssue with bundle := 4096 }) = false := by decide
theorem test_wf_sram : Instr.wf (.load tIssue 0 262144 4 .clean) = false := by decide
theorem test_wf_width : Instr.wf (.load tIssue 0 0 5 .clean) = false := by decide
theorem test_wf_set : Instr.wf (.cubeStc tIssue 4 0 .clean) = false := by decide
theorem test_wf_vreg : Instr.wf (.store tIssue 32 0 4 .clean) = false := by decide
theorem test_wf_greg : Instr.wf (.recv tIssue 0 64) = false := by decide
theorem test_wf_queue : Instr.wf (.recv tIssue 16 0) = false := by decide
theorem test_wf_rm : Instr.wf (.setrm tIssue 5) = false := by decide
theorem test_wf_wait : Instr.wf (.wait tIssue (.receiveQueue 16)) = false := by decide
theorem test_wf_wmode : Instr.wf (.laAdd tIssue 0 4 0 0 0 .clean) = false := by decide
theorem test_wf_send : Instr.wf (.send tIssue (.edge 4 0) 0 0 0 0 0 0 .clean) = false := by decide
theorem test_wf_send_length : Instr.wf (.send tIssue (.tile 0 0) 0 8192 0 0 0 0 .clean) = false := by decide
theorem test_wf_hold : Instr.wf (.halt { tIssue with holds := [.send 3 0] }) = false := by decide
theorem test_wf_input : Instr.wf (.meshDeliver 0 0 5 0 none [] .clean) = false := by decide
theorem test_wf_line_input : Instr.wf (.meshMulticastDeliver 0 0 5 none [] .clean) = false := by decide
theorem test_wf_scrub_words : Instr.wf (.tileScrubAccess 0 0 0 (List.replicate 5 (.clean, none))) = false := by decide
theorem test_wf_found : Instr.wf (.faultMessageTake 12 false (some (.streamEngine 0))) = false := by decide
theorem test_wf_truss_link : Instr.wf (.trussLinkError 7 4 true) = false ∧ Instr.wf (.trussLinkError 8 8 true) = false := by decide
theorem test_wf_train : Instr.wf (.trainStageDone [16]) = false := by decide
theorem test_wf_mesh : Instr.wf (.meshDeliver 0 0 0 0 (some ⟨0, 0, .tile 0 0, 0, 4137, 0, 0⟩) [] .clean) = false := by decide
theorem test_wf_slot : Instr.wf (.imageLaunch 64) = false := by decide
theorem test_wf_fabric_die : Instr.wf (.substitutionComplete 8) = false := by decide
theorem test_wf_shaper_addr : Instr.wf (.shaperConfigWrite (2 ^ 28) 0) = false := by decide
theorem test_wf_watts : Instr.wf (.powerEvaluation (2 ^ 14)) = false := by decide
theorem test_wf_sensors : Instr.wf (.sensorRead [] []) = false := by decide
theorem test_wf_volts : Instr.wf (.mainRange (2 ^ 16)) = false := by decide
theorem test_wf_seq : Instr.wf (.fltAck (2 ^ 32)) = false := by decide
theorem test_wf_isolation : Instr.wf (.isolationClear 1024) = false := by decide
theorem test_wf_watchdog : Instr.wf (.watchdogFire 1488) = false := by decide
theorem test_wf_domain : Instr.wf (.domainResetDone 1497) = false := by decide
theorem test_wf_domain_field : Instr.wf (.domainGo 2048) = false := by decide
theorem test_wf_pll : Instr.wf (.pllUnlock 20 0) = false := by decide
theorem test_wf_good : Instr.wf (.load tIssue 31 262143 32 .clean) = true := by decide

/-! ### The machine -/

theorem witness_StepRunsFrontCommand : ({ tOn with pending := [.warm, .cold] } : State).pending = .warm :: [.cold] := by decide

theorem witness_InvariantKeptByEveryStep :
    ∃ t, State.Inv { tOn with pending := [.resync], mem := [(3, 7)] } ∧ step { tOn with pending := [.resync], mem := [(3, 7)] } = .next t :=
  ⟨_, ⟨by decide, rfl⟩, rfl⟩

theorem witness_CommandsKeepWhatIsNotTheirs : Instr.writesHbm .warm = false ∧ Memory.wf ([(3, 7), (9, 1)] : Memory) = true := by decide

theorem witness_SafeStateStopsTheDatapath : Instr.heldBySafe .imageLoad = true ∧ tSafe.flt.safe = true := by decide

/-- Two FP32 contributions, 1.0 and 2.0. -/
theorem witness_SumsDoNotDependOnOrder :
    List.Perm [XVal.fin false 1 1, .fin false 2 1, .nan] [.nan, .fin false 2 1, .fin false 1 1]
      ∧ (decodePayload .fp32 [0x3F, 0x80, 0, 0]).length = (decodePayload .fp32 [0x40, 0, 0, 0]).length := by decide +kernel

/-! ### Time -/

theorem witness_TimeAdvancesAndEpochWordsAreKept : State.islandsUp { pins := { auxGood := false } } = false ∧ tOn.islandsUp = true ∧ tOn.pending = [] := by decide

theorem witness_TimeAdvancesAndEpochWordsAreKept_epochs : epochOk (epochWord 0) = true ∧ epochOk (epochWord 0 + 1) = false
    ∧ (tOn.setReg .timCfg [] (2 ^ 47)).fld .timCfg [] 47 47 = 1
    ∧ ({ tOn with time := { count := 2 ^ 20 } } : State).now % 2 ^ 20 = 0
    ∧ ({ tOn with time := { count := 2 ^ 20 } } : State).time.outAt ≠ some ({ tOn with time := { count := 2 ^ 20 } } : State).now
    ∧ ({ tOn with time := { count := 2 ^ 20, outAt := some (2 ^ 20) } } : State).time.outAt = some (2 ^ 20) := by decide +kernel

/-- A pulse once sent at a count is not sent again at it. -/
theorem test_one_pulse_a_count :
    ((tAfter .syncOutPulse (({ tOn with time := { count := 2 ^ 20 } } : State).setReg .timCfg [] (2 ^ 47))).bind (tAfter .syncOutPulse)).map
      (fun t => t.time.outLog.length) = some 1 := by decide +kernel

/-- A LOCKED count 5 ns behind its source, at a nanosecond that corrects it. -/
def tSlew (slew : Int) : State := { tOn with time := { localNs := 9999, count := 5000000, lock := .locked, slew := slew } }

theorem witness_TimeAdvancesAndEpochWordsAreKept_slew : (tSlew 5).time.lock = .locked ∧ ((tSlew 5).time.localNs + 1) % 10000 = 0
    ∧ ((tSlew 5).time.count + 1) % 2 ^ 20 ≠ 0 ∧ 0 < (tSlew 5).time.slew ∧ (tSlew (-5)).time.slew < 0 ∧ (tSlew 0).time.slew = 0 := by decide

/-- A device that follows SYNC_IN, in a lock state, with an epoch word that names the multiple after `prev`. -/
def tSync (l : LockState) (count : Nat) : State :=
  { tOn with keys := { timeSrc := 1 }, time := { tOn.time with lock := l, count := count, word := some (BitVec.ofNat 64 (4 * 2 ^ 20)), prev := some 3,
                                                               pulseAt := some 0, misses := 2 } }

theorem witness_ComparisonsMoveTheLock :
    (tSync .acquiring 0).time.prev.map (· + 1) = some (Word.field (BitVec.ofNat 64 (4 * 2 ^ 20)) 63 20)
      ∧ (tSync .acquiring 0).time.behind = false ∧ (tSync .locked (4 * 2 ^ 20 - 1000)).time.count + 1000 = 4 * 2 ^ 20
      ∧ (0 + 2 ^ 20 < (tSync .locked 0).local) ∧ 4 ≤ (tSync .locked 0).time.misses + 2
      ∧ ({ tSync .holdover 0 with keys := { timeSrc := 2 } } : State).time.misses < 10000000000 / max (tSync .holdover 0).ptpInterval 1 := by
  decide +kernel

/-- A step into LOCKED at count 4 × 2^20 passes no launch, or passes the swap armed at count 9, which it takes. -/
theorem witness_ComparisonsMoveTheLock_launches : ({ tSync .acquiring 0 with time := { count := 4 * 2 ^ 20 } } : State).launchesDue = []
    ∧ ({ tSync .acquiring 0 with time := { count := 4 * 2 ^ 20 }, fwd := { armed := some 9 } } : State).launchesDue = [(9, .bank)] := by decide

theorem test_step_takes_launches : (tAfter .syncPulse { tSync .acquiring 0 with fwd := { armed := some 9 } }).map (fun t => (t.time.lock, t.fwd.active))
    = some (.locked, 1) := by decide +kernel

/-- A device that follows PTP has seen 15 intervals in a row, and one more, at an error of 50 ns against the last. -/
theorem test_ptp_locks : (tAfter (.ptpMessage 0 { tPlain with etype := 0x88F7 } true true 5000050)
      { tCfg (tLink .up) 0 (2 ^ 30) with keys := { timeSrc := 2 }
                                         time := { tOn.time with lock := .acquiring, base := some 0, good := 15, lastAt := 9000000000 } }).map
    (fun t => (t.time.lock, t.time.count)) = some (.locked, 5000050) := by decide +kernel

theorem witness_ComparisonsMoveTheLock_messages : (tCfg (tLink .up) 0 (2 ^ 30)).linkUp 0 = true
    ∧ (tCfg (tLink .up) 0 (2 ^ 30)).takesPtp 0 { tPlain with etype := 0x88F7 } = true ∧ 64 ≤ Frame.len tPlain
    ∧ Frame.len tPlain ≤ (tCfg (tLink .up) 0 (2 ^ 30)).maxFrame 0 := by decide +kernel

/-! ### Links -/

theorem witness_LinkStartMoves : (tLink .disabled).isPort 0 = true ∧ (tLink .disabled).linkState 0 = .disabled
    ∧ (tLink .disabled).fld .prtPortCtl (portIdx 0) 63 63 = 0 ∧ (tLink .disabled).portHeld 0 = false
    ∧ (tLink .an).linkState 0 = .an ∧ (tLink .training).linkState 0 = .training ∧ (tLink .align).linkState 0 = .align
    ∧ ((tLink .training).port 0).link.since + 1000000000 ≤ (tLink .training).local := by decide +kernel

theorem witness_LinkStartMoves_failed : 0 < (tLink .training).lanes 0 ∧ 1 / 2 ^ 0 % 2 = 1 ∧ ((tLink .training).port 0).trainFails.get 0 0 < 2
    ∧ (tLink .disabled).pins.pwrGood = true ∧ (tLink .disabled).flt.safe = false := by decide +kernel

theorem witness_LinkFaultsAndLoss : ((tLink .hold).port 0).link.since + 10000000 ≤ (tLink .hold).local
    ∧ ((tPort 0 { state := .fault, since := 9950000001 }).port 0).link.since + 50000000 > (tPort 0 { state := .fault }).local
    ∧ ((tPort 0 { state := .fault, since := 9950000000 }).port 0).link.since + 50000000 ≤ (tPort 0 { state := .fault }).local
    ∧ (tLink .up).linkState 0 = .up ∧ (tLink .up).islandsUp = true ∧ (tLink .up).pins.pwrGood = true := by decide +kernel

theorem test_link_up : (tAfter (.holdExpire 0) (tLink .hold)).map (·.linkState 0) = some .up := by decide +kernel
theorem test_hold_not_yet : (tAfter (.holdExpire 0) (tPort 0 { state := .hold, since := 9990000001 })).map (·.linkState 0) = some .hold := by
  decide +kernel

theorem witness_LookupCopiesAndNegotiation :
    ({ tOn with fwd := { reports := [(0, true, 10000000000)] } } : State).fwd.reports.find?
        (fun r => r.1 == 0 && decide (r.2.2 ≤ tOn.local)) = some (0, true, 10000000000)
      ∧ tOn.fwd.estAt + 512 ≤ tOn.local ∧ (∀ k ∈ (tLink .up).ports.keys, k < 768) := by decide

/-- A HELLO: LINK_RETRY of OP 1. -/
def tHello : Frame := tFrame { typ := tLINK_RETRY, cls := 7, dst := 0, src := 0 } (natBytes 8 (2 ^ 56 + 80 * 2 ^ 48) ++ natBytes 8 0)

/-- A LINK_RETRY of an OP for class 4 with an LSEQ. -/
def tRetryFrame (op lseq : Nat) : Frame :=
  tFrame { typ := tLINK_RETRY, cls := 4, dst := 0, src := 0 } (natBytes 8 (op * 2 ^ 56 + lseq) ++ natBytes 8 0)

theorem witness_LookupCopiesAndNegotiation_negotiation : ((tLink .up).port 0).link.helloAt = none ∧ ((tLink .up).port 0).link.helloGot = false
    ∧ (tLocal (tLink .up) tHello).any (fun e => e.1.len == 16 && !(e.2.port 0).link.negotiated) = true
    ∧ ((tLink .up).port 0).link.since + 1000000 ≤ (tLink .up).local := by decide +kernel

/-- Class 4 holds two frames, numbered 7 and 8. -/
def tHeld : State := tRetry.setPort 0 { tRetry.port 0 with rtx := [(4, { nextSeq := 9, held := [(7, tPlain), (8, tPlain)] })]
                                                           rrx := [(4, { expected := 3, waiting := some 0, unacked := 64 })] }

theorem witness_CreditAndRetryRunPerClass :
    (tLocal tHeld (tRetryFrame 2 8)).any (fun e => e.1.len == 16
        && (e.2.qftCount 0 0).retryOn 0 e.1.cls && (((e.2.qftCount 0 0).port 0).rtx.get e.1.cls {}).accounts 8) = true
      ∧ (tLocal tHeld (tRetryFrame 3 7)).isSome = true ∧ ((tHeld.port 0).rtx.get 4 {}).accounts 7 = true
      ∧ (tLocal tHeld (tRetryFrame 4 3)).isSome = true ∧ ((tHeld.port 0).rrx.get 4 {}).waiting = some 0 ∧ tHeld.retryOn 0 4 = true
      ∧ (tLocal tHeld (tFrame { typ := tLINK_CREDIT, cls := 4, dst := 0, src := 0 } (natBytes 8 (9 * 2 ^ 32)))).any
          (fun e => e.1.len == 8) = true
      ∧ ((tRetry.port 0).crx.get 4 {}).due tRetry.local = true ∧ tRetry.linkUp 0 = true
      ∧ (tRetry.port 0).link.creditRx / 2 ^ 4 % 2 = 1 := by decide +kernel

/-- An ACK of LSEQ 8 frees frame 7 alone. -/
theorem test_ack_frees : (tAfter (.ack 0 (tRetryFrame 2 8)) tHeld).map (fun t => ((t.port 0).rtx.get 4 {}).held) = some [(8, tPlain)] := by
  decide +kernel

/-! ### The switch core -/

/-- Port 0 is up and paused for priority 4, and it paused its peer 10 s ago. -/
def tPaused : State := (tLink .up).setPort 0 { (tLink .up).port 0 with sched := { paused := [(4, 9)], xoffAt := some 0 } }

theorem witness_PfcPausesAndThresholdsAgree : tPaused.linkUp 0 = true ∧ (tPaused.port 0).sched.paused.find? 4 = some 9 ∧ 9 ≤ tPaused.local
    ∧ 0 + tPaused.quantaNs 0 0xFFFF / 2 ≤ tPaused.local ∧ tPaused.pins.pwrGood = true ∧ tPaused.islandsUp = true
    ∧ (5 * 2 ^ 45 + 4 * 2 ^ 26) / 2 ^ 26 % 2 ^ 19 < (5 * 2 ^ 45 + 4 * 2 ^ 26) / 2 ^ 45 % 2 ^ 19 := by decide +kernel

/-- A packet of one cell for port 0. -/
def tItem (s : State) : QItem := s.mkItem ⟨0, 1, 0, 0⟩ 0 1 tPlain none 1 false 0

/-- A hub die with an arrival, and a queued packet. -/
def tHub : State := (tLink .up).setHub 0 { arrive := [⟨tItem (tLink .up), false, [], 0⟩], queue := [{ tItem (tLink .up) with id := 3 }] }

theorem witness_PacketsEnterAndLeaveTheHub : tHub.flt.safe = false ∧ tHub.nextArrival 0 = some ⟨tItem (tLink .up), false, [], 0⟩
    ∧ tHub.linkUp 0 = true ∧ ((tHub.setHub 0 { tHub.hub 0 with arrive := [] }).drain 0).linkUp 0 = true
    ∧ ((tHub.setHub 0 { tHub.hub 0 with arrive := [] }).admission 0 (tItem (tLink .up))).isSome = true
    ∧ ((tHub.setHub 0 { shared := 0 }).admission 0 { tItem (tLink .up) with cells := 100 }) = none
    ∧ (tHub.hub 0).queue.filter (QItem.named 3) = [{ tItem (tLink .up) with id := 3 }]
    ∧ ({ tItem (tLink .up) with id := 3 } : QItem).tailOf .none = .none ∧ ({ tItem (tLink .up) with id := 3 } : QItem).tailOf .fcs = .fcs
    ∧ tHub.portFree 0 = true ∧ (tHub.port 0).localTx = [] ∧ (tHub.port 0).replays = []
    ∧ (tHub.setPort 0 { tHub.port 0 with localTx := [⟨tPlain, .plain⟩] }).portFree 0 = true
    ∧ (tHub.setPort 0 { tHub.port 0 with replays := [(4, [tPlain])] }).portFree 0 = true := by decide +kernel

/-- Two arrivals of two inputs in one cycle: one of them is next, and of two cycles the earlier one's. -/
theorem test_arrivals_in_turn :
    ({ tHub with hubs := [(0, { arrive := [⟨{ tItem tOn with inPort := 0 }, false, [], 0⟩, ⟨{ tItem tOn with inPort := 96 }, false, [], 10⟩] })] } : State).nextArrival 0
      = some ⟨{ tItem tOn with inPort := 0 }, false, [], 0⟩ := by decide +kernel

/-- Port 0's waiting gate list: two entries, the second with duration `d`, and a cycle. -/
def tGate (d cycle actAt : Nat) (armed : Bool) : State :=
  let wait : GateList := { pend := 2 * 2 ^ 53 + cycle * 2 ^ 18, entries := [(0, 5 * 2 ^ 32), (1, d * 2 ^ 32)] }
  let run : GateList := { pend := 2 ^ 53 + 7 * 2 ^ 18, entries := [(0, 5 * 2 ^ 32)] }
  let g : Gate := { armed := armed, wait := wait, run := run, b0 := 3, actAt := 4999993 }
  ((tLink .up).setPort 0 { (tLink .up).port 0 with gate := g }).setReg .gateActAt [0] actAt

theorem witness_GateArmIsChecked : ((tGate 0 9 0 false).port 0).gate.wait.n = 2 ∧ (((tGate 0 9 0 false).port 0).gate.wait.entryAt 1).2 = 0
    ∧ (∀ i, i < 2 → (((tGate 1 (2 ^ 34) 0 false).port 0).gate.wait.entryAt i).2 ≠ 0)
    ∧ ((tGate 1 (2 ^ 34) 0 false).port 0).gate.wait.cycleField = 2 ^ 34
    ∧ ((tGate 1 (2 ^ 34 + 1) 0 false).port 0).gate.wait.cycleField = 2 ^ 34 + 1
    ∧ (tGate 1 9 5000000 false).reg .gateActAt [0] = (tGate 1 9 5000000 false).now
    ∧ (tGate 1 9 5000001 false).isPort 0 = true := by decide +kernel

theorem test_gate_order : (tAfter (.gateArm 0) (tGate 0 (2 ^ 34 + 1) 0 false)).map (fun t => (t.port 0).gate.status) = some stBADDESC
    ∧ (tAfter (.gateArm 0) (tGate 1 9 5000000 false)).map (fun t => (t.port 0).gate.status) = some stRANGE
    ∧ (tAfter (.gateArm 0) (tGate 1 9 5000001 false)).map (fun t => (t.port 0).gate.armed) = some true := by decide +kernel

theorem witness_GateListsChangePlaces : ((tGate 1 9 0 true).port 0).gate.armed = true ∧ ((tGate 1 9 0 true).port 0).gate.run.cycle = 7
    ∧ (4999998 - 3) % 7 = 0 ∧ 4999993 < 4999998 ∧ 4999998 ≤ 4999993 + 7 ∧ 4999998 ≤ (tGate 1 9 0 true).now
    ∧ (spanAt ((tGate 1 9 0 true).port 0).gate.run.span ((5000000 - 3) % 7)).isSome = true
    ∧ (GateList.cycle {}) = 0 := by decide +kernel

/-- Port 0's shaper is enabled, and its level is a debt. -/
def tShape : State :=
  { (tLink .up).setReg .schPortShape [0] (2 ^ 63 + 10 * 2 ^ 30 + 4 * 2 ^ 6) with meters := [(Reg.addr .schPortShape [0], { level := -5 })] }

theorem witness_ShapersAndSamplers : (meterCfg (tShape.regs.get (Reg.addr .schPortShape [0]) 0)).enable = true ∧ tShape.isPort 0 = true
    ∧ 0 ≤ (Meter.grow { level := -5 } (meterCfg (2 ^ 63 + 10 * 2 ^ 30 + 4 * 2 ^ 6)) 1 tShape.local).level
    ∧ (tShape.meters.get (Reg.addr .schPortShape [0]) {}).level < 0 := by decide +kernel

theorem witness_ShapersAndSamplers_samplers : ({ tLink .up with time := { count := 128000 } } : State).now % ((tLink .up).samplePeriod * 1000) = 0
    ∧ (tHub.setHub 0 { tHub.hub 0 with queue := [{ tItem tOn with whole := true }] }).head 0 0 ≠ none := by decide +kernel

/-- Pool 4 has three buffers: one HELD by 7, one SHARED by two under tag 9, one free. -/
def tPool : State := tOn.setPool 4 { cap := 3, bufs := [(0, .held 7), (1, .shared 2 9 5 false)] }

theorem witness_BuffersAreGrantedAndReleased : (tPool.pool 4).bufs.find? 2 = none ∧ (∀ j, j < 2 → (tPool.pool 4).bufs.find? j ≠ none)
    ∧ (tPool.pool 4).freeCount = 1 ∧ (tPool.pool 4).bufs.find? 0 = some (.held 7)
    ∧ (tPool.pool 4).bufs.keys.Pairwise (· < ·)
    ∧ ∀ j, j < 2 → ((tPool.setPool 4 { cap := 2, bufs := (tPool.pool 4).bufs }).pool 4).bufs.find? j ≠ none := by decide +kernel

theorem witness_BuffersAreGrantedAndReleased_released : tPool.rowOut 4 0 = false ∧ (tPool.pool 4).bufs.find? 1 = some (.shared 2 9 5 false)
    ∧ ((tPool.setPool 4 { cap := 3, bufs := [(1, .shared 1 9 5 true)] }).pool 4).bufs.find? 1 = some (.shared 1 9 5 true)
    ∧ ((tPool.setPool 4 { cap := 3, bufs := [(1, .shared 1 9 5 false)] }).pool 4).bufs.find? 1 = some (.shared 1 9 5 false)
    ∧ tPool.fld .bpmErrFirst [] 63 63 = 0 ∧ (tPool.setReg .bpmErrFirst [] (2 ^ 63)).fld .bpmErrFirst [] 63 63 = 1 := by decide +kernel

theorem test_alloc_then_full : (tAfter (.bpmAlloc 4 8 none) tPool).map (fun t => (t.pool 4).bufs.find? 2) = some (some (.held 8)) := by
  decide +kernel

/-! ### Registers and forwarding -/

theorem witness_AddressesNameWhatLiesThere : locate 0x40 = some (.ctlStart, []) ∧ (locate (Reg.addr .prtPortCfg [7, 95])) = some (.prtPortCfg, [7, 95]) := by
  decide +kernel

theorem witness_AccessesWithoutARegister : locate 0xFFF8 = none ∧ 0xFFF8 % 8 = 0 ∧ byteAt (1 :: natBytes 6 0xFFF8) 0 = 1
    ∧ i3cAddr (1 :: natBytes 6 0xFFF8) = 0xFFF8 ∧ i3cAddr (1 :: natBytes 6 0x41) = 0x41 := by decide +kernel

theorem test_unaligned_read : (tAfter (.registerWrite 0x41 8 5) tOn).map (fun t => t.fld .fltMgmtBadacc [] 63 0) = some 1
    ∧ (tAfter (.badRegisterAccess 0x40 4 false) tOn).map (·.busRead) = some (some 0xFFFFFFFFFFFFFFFF) := by decide +kernel

theorem witness_PlainRegistersAreStored : locate (Reg.addr .pwrCap []) = some (.pwrCap, []) ∧ tOn.regAnswers .pwrCap [] = true
    ∧ locate (Reg.addr .schJob [4095]) = some (.schJob, [4095]) ∧ tOn.regAnswers .schJob [4095] = true
    ∧ i3cAddr (2 :: natBytes 6 (Reg.addr .pwrCap []) ++ tBytes 8) = Reg.addr .pwrCap [] := by decide +kernel

theorem test_pwr_cap : (tAfter (.registerWrite (Reg.addr .pwrCap []) 8 (BitVec.ofNat 64 (3000 * 2 ^ 51))) tOn).map (·.capW) = some 3000 := by
  decide +kernel

theorem witness_AccessCodesGovernEveryBit : (⟨63, 51, .rw, 5600⟩ : RegField) ∈ Reg.pwrCap.fields ∨ Reg.pwrCap.fields.length = 1 := by
  decide +kernel

theorem witness_MainDomainIsDarkWithoutPower : State.reset.pins.pwrGood = false ∧ 0x500000 % 8 = 0 := by decide

/-- A MGMT read of one register, at an address. -/
def tMgmt (op addr : Nat) (more : List Byte) : Frame :=
  tFrame { typ := tMGMT, cls := 7, dst := 5, src := 9 } (natBytes 8 (op * 2 ^ 56 + 2 ^ 48 + addr) ++ more)

/-- Port 0 is a management port. -/
def tMgmtPort : State := tCfg tReady 0 (2 ^ 58)

theorem witness_MgmtOnlyOnManagementPorts : (tRx tReady (tMgmt 1 0x40 []) tMGMT).any (fun e => e.2.fld .prtPortCfg (portIdx 0) 58 58 == 0) = true
    ∧ (tRx tReady (tMgmt 2 0x40 (tBytes 8)) tMGMT).isSome = true := by decide +kernel

/-- A PROBE with bit 63 of its first word as given. -/
def tProbe (reply : Nat) : Frame := tFrame { typ := tPROBE, cls := 7, dst := 5, src := 9 } (natBytes 8 (reply * 2 ^ 63) ++ List.replicate 24 0)

theorem witness_MgmtAndProbeAreAnswered : (tRx tMgmtPort (tMgmt 1 0x40 []) tMGMT).any (fun e => e.2.fld .prtPortCfg (portIdx 0) 58 58 == 1
      && mgmtOp e.1 == 1 && decide (0 < mgmtN e.1)) = true
    ∧ (tRx tMgmtPort (tMgmt 2 0x40 (tBytes 8)) tMGMT).any (fun e => mgmtOp e.1 == 2 && decide (8 + 8 * mgmtN e.1 ≤ e.1.len)) = true
    ∧ (tRx tMgmtPort (tMgmt 2 0x40 []) tMGMT).any (fun e => decide (e.1.len < 8 + 8 * mgmtN e.1)) = true
    ∧ (tRx tReady (tProbe 0) tPROBE).isSome = true ∧ (tRx tReady (tProbe 1) tPROBE).isSome = true := by decide +kernel

/-- Endpoint 7 is behind group 3, whose one member is port 0. -/
def tRoute : State :=
  { tReady with fwd := { bank0 := { endpoint := [(7, 2 ^ 15 + 3)], member := [(192, 2 ^ 46)], nhr := [(0, [9, 0, 0])],
                                    v4 := [(0x0A000000, 8, 3)], bridge := [(1, 0x020000000001, 0)],
                                    vlan := [(8, [1, 0, 0, 0])] }
                         live := [(0, true)] } }

/-- A QFT packet for endpoint 7. -/
def tFor7 : Frame := tFrame { typ := tRESULT, cls := 1, dst := 7, src := 9 } (tBytes 4)

theorem witness_FramesAreForwarded : tRoute.ownRow tFor7 = false
    ∧ (match tRoute.receive 0 tFor7 with
       | .forward k u => (match (u.qftCount 0 0).lookupQft 0 k with
         | .found m v => m.port == 0 && (v.police 0 k.cls tFor7.len none).1
             && decide ((v.encapsulate v.activeBank m k.decTtl).len ≤ v.maxFrame m.port)
         | .drop _ => false)
       | _ => false) = true := by decide +kernel

theorem test_qft_forward_queues : (tAfter (.qftForward 0 tFor7) tRoute).map (fun t => (t.hub 0).arrive.map (·.item.port)) = some [0] := by
  decide +kernel

/-- An IPv4 packet of 20 header bytes to 10.0.0.1, its checksum right. -/
def tIp : List Byte :=
  let h (ck : Nat) : List Byte := [0x45, 0, 0, 50, 0, 0, 0, 0, 64, 6] ++ natBytes 2 ck ++ [10, 0, 0, 9, 10, 0, 0, 1]
  h (inetSum (h 0)) ++ List.replicate 30 0

theorem witness_FramesAreForwarded_ordinary : longestMatch 32 (numAt tIp 16 4) tRoute.activeBank.v4 = some 3
    ∧ (tRoute.pinned tRoute.activeBank 3 (tRoute.ip4HashIn tIp)) = some (0, false) ∧ onesSum (tIp.take 20) = 0xFFFF ∧ 1 < byteAt tIp 8
    ∧ (match tRoute.receive 0 ⟨true, 0, 2, [], 0x0800, tIp⟩ with | .plain _ => true | _ => false) = true
    ∧ tRoute.toSelf 0 ⟨true, 0, 2, [], 0x0800, tIp⟩ = true
    ∧ tRoute.toSelf 0 { tPlain with dmac := 0x020000000001 } = false ∧ tRoute.activeBank.inVlan 1 0 false = true
    ∧ (tRoute.activeBank.bridge.find? fun e => e.1 == 1 && e.2.1 == 0x020000000001) = some (1, 0x020000000001, 0) := by decide +kernel

theorem witness_FramesAreForwarded_errors : (tHeld.port 0).link.retryAct / 2 ^ 4 % 2 = 1 ∧ tHeld.linkUp 0 = true := by decide +kernel

/-- Lane 0 has had 63 uncorrectable codewords within the millisecond. -/
def tBurst : State := (tLink .up).setPort 0 { (tLink .up).port 0 with cwLog := List.replicate 63 (0, (tLink .up).local) }

theorem witness_FramesAreForwarded_burst : tBurst.linkUp 0 = true ∧ 0 < tBurst.lanes 0 ∧ tBurst.flt.queues.get 0 [] = []
    ∧ 63 ≤ ((tBurst.port 0).cwLog.filter fun e => e.1 == 0 && decide (tBurst.local < e.2 + 1000000)).length := by decide +kernel

/-! ### Contexts and the data phase -/

/-- A descriptor from its words that are not 0. -/
def tDesc (ws : Tbl Nat) : List Byte := (List.range 32).flatMap fun i => natBytes 8 (ws.get i 0)

/-- A KIND and descriptor with members, on tile 0. -/
def tFix (kind : Nat) (ws : Tbl Nat) (members : List Nat) : CtxFix :=
  { kind := kind, job := 0, desc := tDesc ws, convener := 9, setupId := 1, setupPkt := ({ typ := tSETUP, cls := 0, dst := 5, src := 9 } : Hdr).packet []
    gen0 := 0, port := 0, members := members, mlist := 0, c := 1, n := 1, k := 1, w := 0, slotKib := 1, tiles := [0], tokens := 3
    blocks := [(4, 0)] }

/-- A barrier of two members, endpoints 9 and 10. -/
def tBarrier : CtxFix := tFix 1 [(0, 6 * 2 ^ 56 + 2 * 2 ^ 11)] [9, 10]

/-- READY, with context 2 in a state. -/
def tCtx (x : CtxFix) (st : CtxSt) (run : Run) : State := tReady.setCtx 2 { fix := x, gen := 4, state := st, steer := .open_, run := run }

/-- A packet to context 2 in generation 4. -/
def tTo (typ cls rank : Nat) (payload : List Byte) (gen : Nat := 4) (fmt : Nat := 0) : Hdr × List Byte :=
  ({ typ := typ, cls := cls, dst := 5, src := 9, ctx := 2, gen := gen, fmt := fmt, rank := rank }, payload)

def tToF (x : Hdr × List Byte) : Frame := tFrame x.1 x.2

/-- A SETUP of a barrier with one member. -/
def tSetup : Frame := tFrame { typ := tSETUP, cls := 0, dst := 5, src := 9 }
  (natBytes 8 (2 ^ 56 + 3 * 2 ^ 40 + 2 ^ 30) ++ tDesc [(0, 6 * 2 ^ 56 + 2 ^ 11)] ++ natBytes 4 9)

/-- READY with a small collective partition that runs, supply and retention blocks. -/
def tAdmit : State :=
  let s := (tReady.setIslot 0 { state := .running }).setReg .pwrTokens [] (5000 * 2 ^ 48)
  { s with cfg := { accKib := 16, rect := (0, 0, 2, 2) }, bpm := (List.range 4).map fun h => (4 + h, ({ cap := 4 } : BpmPool)) }

/-- The setup as Temond judges it, after the receive checks. -/
def tMsg (p : Packet) (at_ : Nat) : SetupMsg :=
  ⟨0, p, (p.word 0).field 63 56, (p.word 0).field 55 40, 1, (p.payload.drop 8).take 256, entriesOf ((p.payload.drop 8).drop 256), at_⟩

set_option maxRecDepth 100000 in
theorem witness_SetupReservesInOneStep :
    (tRx tAdmit.fresh tSetup tSETUP).any (fun e =>
      let m := tMsg e.1 e.2.local
      m.kind == 1 && (e.1.word 0).field 39 35 == 0 && (e.1.word 0).field 34 30 == 1 && (e.2.asm? 9 3).isNone && e.2.svc.deferq.isEmpty
        && !e.2.holdsFor 1 [0, 1, 2, 3] && partsOk m && fieldsOk m && formatsOk 1 m.desc && e.2.regionCheck 1 0 m.desc == stOK
        && (match e.2.membersOf m (e.2.portJob 0) with | .ok ms => (e.2.capacity m ms).isSome | .error _ => false)
        && e.2.nextCtx == some 1 && e.2.serviceUp 1) = true := by decide +kernel

set_option maxRecDepth 100000 in
theorem witness_SetupReservesInOneStep_unrepeated : (tRx tAdmit.fresh tSetup tSETUP).any (fun e => (e.2.repeated (tMsg e.1 e.2.local)).isNone
    && !e.2.tokensShort (e.2.costOf (classFor 1 (tMsg e.1 e.2.local).desc) 1)) = true := by decide +kernel

/-- A deferred setup that came at time 0. -/
def tDeferred : Deferred := ⟨4, tMsg (({ typ := tSETUP, cls := 0, dst := 5, src := 9 } : Hdr).packet (natBytes 8 0)) 0, 0, 0, []⟩

theorem witness_SetupReservesInOneStep_waits :
    ({ tReady with svc := { asms := [⟨9, 3, 0, 1, 2, [], none, 0⟩] } } : State).asm? 9 3 = some ⟨9, 3, 0, 1, 2, [], none, 0⟩
      ∧ 0 + 10000000 ≤ tReady.local
      ∧ ({ tReady with svc := { deferq := [tDeferred] } } : State).svc.deferq.find? (fun q => q.id == 4) = some tDeferred
      ∧ tDeferred.msg.at_ + timeoutOf tReady.cfg.jobTimeout tDeferred.msg.desc * 1000 ≤ tReady.local ∧ tDeferred.msg.kind ≠ 3 := by decide +kernel

theorem witness_ContextsMoveThroughTheirStates : (tCtx tBarrier .settingUp {}).ctx? 2 = some { fix := tBarrier, gen := 4, state := .settingUp, steer := .open_ }
    ∧ (tRx (tCtx tBarrier .complete {}) (tToF (tTo tTEARDOWN 0 0 [])) tTEARDOWN).any (fun e => e.1.ctx == 2 && e.1.gen == 4) = true
    ∧ (tCtx tBarrier .draining {}).onPath 2 = false ∧ (tCtx tBarrier .quarantine {}).twiceAgePassed 0 = true
    ∧ (tCtx (tFix 3 [] [9]) .armed {}).flt.safe = false ∧ 0 ≤ (tCtx (tFix 3 [] [9]) .armed {}).now := by decide +kernel

/-- A draining context whose TEARDOWN is known, or not; one whose generation value is free to use; a gather whose START_AT has come. -/
theorem witness_ContextsMoveThroughTheirStates_clauses :
    ((tReady.setCtx 2 { fix := tBarrier, gen := 4, state := .draining, steer := .absent, tear := some (0, (tTo tTEARDOWN 0 0 []).1.packet []) }).ctx?
        2).any (fun c => c.tear.isSome && !c.lost) = true
      ∧ ((tCtx tBarrier .draining {}).ctx? 2).any (fun c => c.tear.isNone && !c.lost) = true
      ∧ ((tCtx tBarrier .settingUp {}).ctx? 2).any (fun c => c.holdFrom.isNone) = true
      ∧ ((tCtx (tFix 3 [] [9]) .armed {}).ctx? 2).any (fun c => c.fix.kind == 3 && decide (c.run.startAt ≤ tReady.now)) = true := by decide +kernel

theorem witness_MgmtAndProbeAreAnswered_ack : (tRx (tCtx tBarrier .armed {}) (tToF (tTo tACK 0 0 (natBytes 8 0))) tACK).isSome = true := by decide +kernel

/-- Endpoints 9 and 10 have routes to port 0. -/
def tMembers (st : CtxSt) : State :=
  { tCtx tBarrier st {} with fwd := { tRoute.fwd with bank0 := { tRoute.fwd.bank0 with endpoint := [(9, 2 ^ 15 + 3), (10, 2 ^ 15 + 3)] } } }

/-- A RESULT of context 2 leaves the mesh at hub die 0 for one rank or for all. -/
def tLeaves (s : State) (only : Option Nat) : State := s.setHub 0 { s.hub 0 with meshOut := [⟨2, 4, tRESULT, 0, 0, 0, none, tBytes 4, only, none⟩] }

/-- How many copies of it are made, where no member has a route, and where both have one. -/
def tCopies (s : State) (only : Option Nat) : Nat :=
  match ((tLeaves s only).hub 0).meshOut with
  | m :: rest => ((((tLeaves s only).setHub 0 { (tLeaves s only).hub 0 with meshOut := rest }).tieCount m.ctx 0).drain 0 |>.copies 0 m).1.length
  | [] => 99

theorem witness_PacketsEnterAndLeaveTheHub_copies : tCopies (tCtx tBarrier .active {}) none = 0 ∧ tCopies (tMembers .active) (some 1) = 1
    ∧ tCopies (tMembers .active) none = 2 ∧ (tLeaves (tMembers .active) none).flt.safe = false := by decide +kernel

theorem test_replicate : (tAfter (.hubReplicate 0 0) (tLeaves (tMembers .active) none)).map (fun t => (t.hub 0).queue.map (·.port)) = some [0, 0] := by
  decide +kernel

/-- The REARM's rank and generation. -/
def tRearm (rank gen : Nat) : Frame := tToF (tTo tREARM 0 rank (natBytes 8 0) gen)

theorem witness_RearmStartsTheNextGeneration :
    (tRx (tCtx tBarrier .complete {}) (tRearm 0 4) tREARM).any (fun e => e.1.gen == 4 && e.1.rank == tBarrier.convRank
        && !e.2.genHeld 2 5 && !e.2.holdsFor 1 tBarrier.hubs) = true
      ∧ (tRx (tCtx { tBarrier with members := [10, 9] } .active {}) (tRearm 1 4) tREARM).any (fun e => e.1.rank == 1) = true
      ∧ ({ tCtx tBarrier .complete {} with svc := { (tCtx tBarrier .complete {}).svc with leftAt := [(2 * 256 + 5, (4999999, 9999999999))] } } :
          State).genHeld 2 5 = true
      ∧ 4999999 + 2 * tReady.largestAgeSince 9999999999 * 1000 ≤ 4999999 + 8000000 := by decide +kernel

/-- A context whose next generation value was left at count 0, with a REARM that waits, or none. -/
def tHold (rearm : List (Nat × Packet)) : State :=
  { tReady with time := { tReady.time with count := 10000000000 } }.setCtx 2
    { fix := tBarrier, gen := 4, state := .complete, steer := .open_, holdFrom := some (0, 9999999999), rearm := rearm }

theorem witness_RearmStartsTheNextGeneration_hold :
    0 + 2 * (tHold []).largestAgeSince 9999999999 * 1000 ≤ (tHold []).now
      ∧ ((tHold [(0, (tTo tREARM 0 0 (natBytes 8 0)).1.packet (natBytes 8 0))]).ctx? 2).any (fun c =>
          c.rearm.length == 1 && !c.run.completeDue && !(tHold []).holdsFor c.fix.kind c.fix.hubs) = true
      ∧ ((tHold []).ctx? 2).any (fun c => c.rearm.isEmpty) = true := by decide +kernel

/-- A contribution to the barrier. -/
def tContrib (rank : Nat) : Hdr × List Byte := tTo tCONTRIB 3 rank (natBytes 8 1) 4 0x0A

theorem witness_DataPacketsLeaveThePortDie : (tRx (tCtx tBarrier .armed {}) (tToF (tContrib 0)) tCONTRIB).isSome = true
    ∧ (tRx (tCtx tBarrier .armed {}) (tToF (tTo tABORT 0 0 (natBytes 8 0))) tABORT).isSome = true
    ∧ (tRx (tReady.setCtx 2 { fix := tBarrier, gen := 4, state := .armed, steer := .held }) (tToF (tTo tABORT 0 0 (natBytes 8 0))) tABORT).isSome = true
    ∧ (tRx (tCtx (tFix 3 [] [9]) .active {}) (tToF (tTo tABORT 0 0 (natBytes 8 0))) tABORT).any
        (fun e => (e.2.ctx? 2).any fun c => c.fix.kind == 3 && c.runs) = true
    ∧ (tRx (tCtx (tFix 3 [] [9]) .complete {}) (tToF (tTo tABORT 0 0 (natBytes 8 0))) tABORT).any
        (fun e => (e.2.ctx? 2).any fun c => c.fix.kind == 3 && !c.runs) = true
    ∧ (tRx (tCtx tBarrier .armed {}) (tToF (tTo tRESEND 0 0 (natBytes 8 1))) tRESEND).any (fun e => resendOk tBarrier e.1) = true
    ∧ (tRx (tCtx tBarrier .armed {}) (tToF (tTo tRESEND 0 0 (natBytes 8 257))) tRESEND).any (fun e => !resendOk tBarrier e.1) = true
    ∧ (tCtx (tFix 3 [] [9]) .active {}).ctx? 2 = some { fix := tFix 3 [] [9], gen := 4, state := .active, steer := .open_ } := by decide +kernel

/-- A packet of a header and payload on its way to context 2 on tile 0, sent to a generation of the partition. -/
def tFly (x : Hdr × List Byte) (pgen : Nat) : Flight := ⟨7, 0, 2, x.1.packet x.2, 0, pgen⟩

/-- That packet is on its way. -/
def tFlight (s : State) (x : Hdr × List Byte) (pgen : Nat := 0) : State := { s with svc := { s.svc with flight := [tFly x pgen] } }

/-- The slot holds the contributions of a bitmap. -/
def tSlot (bitmap : Nat) : Run := { slots := [(0, { bitmap := bitmap })] }

/-- Context 2 as those states hold it. -/
def tC (run : Run) (st : CtxSt) : Ctx := { fix := tBarrier, gen := 4, state := st, steer := .open_, run := run }

theorem witness_ContributionsAreJudgedAtTheTile :
    (tCtx tBarrier .active (tSlot 0)).judgeContribution (tC (tSlot 0) .active) ((tContrib 0).1.packet (tContrib 0).2) = .accept
      ∧ tBarrier.full (tBarrier.accept 0 0 {} (natBytes 8 1)) = false
      ∧ tBarrier.full (tBarrier.accept 0 1 { bitmap := 1 } (natBytes 8 1)) = true
      ∧ (tCtx tBarrier .active (tSlot 1)).judgeContribution (tC (tSlot 1) .active) ((tContrib 0).1.packet (tContrib 0).2) = .drop .ctxDup 63 32
      ∧ (tCtx tBarrier .active {}).judgeContribution (tC {} .active) ((tContrib 2).1.packet (tContrib 2).2) = .refuse stRANGE 15 0
      ∧ (tFlight (tCtx tBarrier .active {}) (tContrib 0)).svc.flight.find? (fun g => g.id == 7 && g.pkt.typ == tCONTRIB)
          = some (tFly (tContrib 0) 0) := by decide +kernel

/-- A contribution reaches its tile, is of another load of the partition, or is held up by a failed router and by a quiesce. -/
theorem witness_ContributionsAreJudgedAtTheTile_fates :
    (tFlight (tCtx tBarrier .active {}) (tContrib 0)).flightFate (tFly (tContrib 0) 0) = .here
      ∧ (tFlight (tCtx tBarrier .active {}) (tContrib 0) 1).flightFate (tFly (tContrib 0) 1) = .stale
      ∧ ({ tFlight (tCtx tBarrier .active {}) (tContrib 0) with fab := { routers := [0] } } : State).flightFate (tFly (tContrib 0) 0) = .waits
      ∧ ({ tFlight (tCtx tBarrier .active {}) (tContrib 0) with fab := { slots := [(0, { state := .running, quiet := true, w := 1, h := 1 })] } } :
          State).flightFate (tFly (tContrib 0) 0) = .waits := by decide +kernel

/-- The barrier's last contribution finalises its chunk (here with no retention block, whose stack is a free value). -/
theorem test_barrier_finalises :
    (tAfter (.contribTileArrival 7 0 .clean) (tFlight (tCtx { tBarrier with blocks := [] } .active (tSlot 1)) (tContrib 1))).map (fun t => (t.ctx? 2).map (·.run.reports))
      = some (some [0]) := by decide +kernel

theorem witness_ReleasesAdvanceTheFrontier : (tC { reports := [0] } .active).runs = true ∧ lowest 1 0 [0] = 1
    ∧ (tCtx tBarrier .active { reports := [0] }).paused (tC { reports := [0] } .active) = false
    ∧ (tC { grantDue := some 10000000000 } .active).run.grantDue = some tReady.local
    ∧ ({ tBarrier with w := 4, n := 8 } : CtxFix).w ≠ 0 ∧ 0 + 50000 ≤ tReady.local
    ∧ (tCtx tBarrier .complete { completeDue := true, record := some [] }).resultsOut 2 4 = false := by decide +kernel

/-- The last release completes the generation. -/
theorem test_release_completes : (tAfter (.releaseReport 2) (tCtx tBarrier .active { reports := [0] })).map (fun t => (t.ctx? 2).map (·.state))
    = some (some .complete) := by decide +kernel

theorem witness_GenerationsEndByTimeoutOrAbort : 4999999 ≤ (tCtx tBarrier .active { timerAt := some 4999999 }).now
    ∧ (tCtx tBarrier .active { closing := true }).paused (tC { closing := true } .active) = false
    ∧ (tFlight (tCtx tBarrier .active {}) (tTo tABORT 0 0 (natBytes 8 0))).flightFate (tFly (tTo tABORT 0 0 (natBytes 8 0)) 0) = .here
    ∧ (tCtx tBarrier .active { closing := true }).firstFlight 2 tCONTRIB = none
    ∧ ((tFlight (tCtx tBarrier .active {}) (tTo tABORT 0 0 (natBytes 8 0))).firstFlight 2 tABORT).isSome = true
    ∧ (tC {} .complete).runs = false := by decide +kernel

/-- A RESEND whose one part waits, has passed, or has failed. -/
def tResend (a : Option Bool) : Resend := ⟨3, 0, 2, (tTo tRESEND 0 0 []).1.packet (natBytes 8 1), [⟨0, [0], false, a⟩], [], none⟩

theorem witness_ResendsAndSlotSnapshots : (tC {} .active).holdsPart 4 ⟨0, [0], false, none⟩ = false
    ∧ ({ tReady with svc := { resends := [tResend none] } } : State).resend? 3 = some (tResend none)
    ∧ (tResend none).parts.find? (fun q => q.hub == 0 && q.answer.isNone) = some ⟨0, [0], false, none⟩
    ∧ (∀ q ∈ (tResend (some true)).parts, q.answer = some true) ∧ (∃ q ∈ (tResend (some false)).parts, q.answer = some false) := by decide

theorem witness_ResendsAndSlotSnapshots_snapshot : 0 < (tC {} .active).frontier ∧ (tC {} .active).finalised 0 = false ∧ tBarrier.tileOf 0 < 21120
    ∧ tBarrier.mcount ≤ 16384 ∧ (2 * 2 ^ 48 : Nat) / 2 ^ 48 % 2 ^ 16 = 2 := by decide +kernel

/-! ### Optimizer, pool, gathers, stacks and tables -/

/-- Region 1 of job 0, key 0, all permissions, 8 KiB in one page at the bottom of stack 0. -/
def tRegion : Region := { job := 0, key := 0, perm := 7, orddef := 0, size := 8192, stackSet := [0], base := 0, pages := [0] }

/-- A state with region 1. -/
def tWith (s : State) (x : Region) : State := { s with mp := { s.mp with regions := [(1, x)] } }

/-- A STEP payload: T, learning rate 1.0, the other parameters 0. -/
def tArgs (n : Nat) : List Byte := natBytes 8 n ++ natBytes 4 0x3F800000 ++ List.replicate 20 0

/-- An optimizer context of one member and 8 elements in one chunk, bound to region 1. -/
def tOpt : CtxFix := { tFix 2 [(0, 6 * 2 ^ 56 + 2 ^ 46 + 2 ^ 11), (1, 8), (13, 2 ^ 48)] [9] with c := 8 }

/-- Context 2 is an optimizer context with that region; its generation holds a step or none. -/
def tOptCtx (st : CtxSt) (step : Option (List Byte)) : State :=
  tWith (tReady.setCtx 2 { fix := tOpt, gen := 4, state := st, steer := .open_, opt := { step := step } }) tRegion

/-- A STEP from the convener's rank. -/
def tStep (n rank : Nat) : Hdr × List Byte := tTo tSTEP 0 rank (tArgs n)

set_option maxRecDepth 100000 in
theorem witness_OptimizerStepsAndChunks_arrival : (tRx (tCtx tBarrier .active {}) (tToF (tStep 1 0)) tSTEP).isSome = true
    ∧ (tRx (tOptCtx .armed none) (tToF (tStep 1 0)) tSTEP).any (fun e => (e.2.ctx? 2).any fun c => c.fix.kind == 2 && c.steer == .open_) = true := by
  decide +kernel

/-- What the home tile says of a STEP. -/
def tVerdict (s : State) (x : Hdr × List Byte) : Option StepVerdict :=
  let u := ((tFlight s x).fresh.land (tFly x 0)).tieCount 2 0
  (u.ctx? 2).map fun c => u.judgeStep c (x.1.packet x.2)

theorem witness_OptimizerStepsAndChunks_verdicts : tVerdict (tOptCtx .armed none) (tStep 1 tOpt.convRank) = some .accepted
    ∧ tVerdict (tOptCtx .armed none) (tStep 2 tOpt.convRank) = some (.nack stRANGE)
    ∧ tVerdict (tOptCtx .active (some (tArgs 1))) (tStep 1 tOpt.convRank) = some .again
    ∧ tVerdict (tOptCtx .complete none) (tStep 1 tOpt.convRank) = some .dropped
    ∧ ((tOptCtx .armed none).fresh.spanHdr tOpt).opn = 0 ∧ (tOptCtx .armed none).region? 1 = some tRegion
    ∧ (spanOf tOpt.desc).region = 1
    ∧ (tFlight (tOptCtx .armed none) (tStep 1 tOpt.convRank)).firstFlight 2 tSTEP = some (tFly (tStep 1 tOpt.convRank) 0)
    ∧ (tFlight (tOptCtx .armed none) (tStep 1 tOpt.convRank)).flightFate (tFly (tStep 1 tOpt.convRank) 0) = .here := by decide +kernel

/-- An accepted STEP stores T in OPEN_STEP, 8 bytes into the span. -/
theorem test_open_step : (tAfter (.stepAtHome 2 0) (tFlight (tOptCtx .armed none) (tStep 1 tOpt.convRank))).map (fun t => Memory.read t.mem 8 8)
    = some (natBytes 8 1) := by decide +kernel

/-- An update unit of chunk 0. -/
def tUnit (live : Bool) : Unit_ := ⟨4, [(4096, tBytes 4)], ⟨0, tBytes 4⟩, {}, live⟩

theorem witness_OptimizerStepsAndChunks : ((tOptCtx .active (some (tArgs 1))).ctx? 2).any (fun c => 0 < c.frontier && !c.finalised 0
      && !(tOptCtx .active (some (tArgs 1))).paused c && c.run.slots.get 0 {} == {} && c.fix.full {} == false && !c.fix.chunkParts 0 == [] && c.runs) = true
    ∧ (tOptCtx .active (some (tArgs 1))).stagingWaits 1 tRegion (tOpt.chunkParts 0) = false
    ∧ (tUnit true).live = true ∧ (tUnit true).gen = 4 ∧ (tUnit false).live = false := by decide +kernel

/-- A pool packet of endpoint 9 to region 1: word 0 and ORD. -/
def tAccess (typ cls ord off : Nat) (payload : List Byte) (seq : Nat := 0) : Frame :=
  tFrame { typ := typ, cls := cls, dst := 5, src := 9, ctx := 1, rank := ord * 2 ^ 12, offset := off, seq := seq } payload

/-- A POOL_RD of `n` bytes. -/
def tRd (ord off n : Nat) : Frame := tAccess tPOOL_RD 2 ord off (natBytes 8 (n * 2 ^ 51))

/-- READY with region 1. -/
def tPoolS : State := tWith tReady tRegion

theorem witness_PoolAccessesEnterAtTheirHome :
    (tRx tPoolS (tRd 2 0 8) tPOOL_RD).any (fun e => e.2.isOrdered 0 tRegion e.1 && (e.2.stream? 0 9 1).isNone) = true
      ∧ (tRx tPoolS (tRd 3 0 8) tPOOL_RD).any (fun e => !e.2.isOrdered 0 tRegion e.1 && ordOf e.1 == 3) = true
      ∧ (tRx tPoolS (tRd 1 8192 1) tPOOL_RD).any (fun e => !e.2.isOrdered 0 tRegion e.1 && !rangeOk tRegion e.1) = true
      ∧ (tRx tPoolS (tRd 1 8184 8) tPOOL_RD).any (fun e => rangeOk tRegion e.1 && decide (e.2.entriesUsed 0 < 16384)) = true
      ∧ (tRx tPoolS (tAccess tPOOL_WR 2 1 0 (tBytes 8)) tPOOL_WR).any (fun e => rangeOk tRegion e.1) = true
      ∧ (tRx tPoolS (tAccess tPOOL_ATOM 2 1 8 (natBytes 8 (2 ^ 56) ++ List.replicate 16 0)) tPOOL_ATOM).any (fun e => rangeOk tRegion e.1) = true
      ∧ (tRx tPoolS (tAccess tPOOL_FENCE 2 2 0 []) tPOOL_FENCE).any (fun e => rangeOk tRegion e.1
            && (e.2.mp.streams.filter fun y => y.die == 0).length == 0 && e.2.mp.reqs.isEmpty && !(e.2.stack 0).retrain) = true := by decide +kernel

/-- An access to a stack that retrains, and one that meets poison, are held from entering. -/
theorem witness_PoolAccessesEnterAtTheirHome_held :
    (tRx { tPoolS with mp := { tPoolS.mp with hbm := [(0, { retrain := true })] } } (tRd 1 0 8) tPOOL_RD).any
        (fun e => (e.2.stack (tRegion.stackOf 1 0)).retrain) = true
      ∧ (tRx { tPoolS with mp := { tPoolS.mp with poison := [(0, 1)] } } (tRd 1 0 8) tPOOL_RD).any
        (fun e => !(e.2.stack (tRegion.stackOf 1 0)).retrain && !e.2.touchesOpenSpan 1 0 8 && e.2.meetsPoison e.1 (tRegion.phys 1 0) 8) = true
      ∧ (tRx tPoolS (tRd 1 0 8) tPOOL_RD).any (fun e => !(e.2.stack (tRegion.stackOf 1 0)).retrain && !e.2.touchesOpenSpan 1 0 8
          && !e.2.meetsPoison e.1 (tRegion.phys 1 0) 8) = true := by decide +kernel

/-- A pool request that its stack has chosen. -/
def tReq (typ off : Nat) (payload : List Byte) : PReq :=
  { id := 7, port := 0, pkt := ({ typ := typ, cls := 2, dst := 5, src := 9, ctx := 1, rank := 2 ^ 12, offset := off } : Hdr).packet payload
    region := 1, stack := 0, stream := false, sent := true, served := true, tagF := 0, behind := [], dups := [], head := [] }

/-- Region 1 and that request. -/
def tReqS (q : PReq) : State := { tPoolS with mp := { tPoolS.mp with reqs := [q] } }

/-- The same with the line at offset 0 poisoned. -/
def tPoisoned (q : PReq) : State := { tReqS q with mp := { (tReqS q).mp with poison := [(0, 1)] } }

/-- The hypotheses of the statements about an access performed. -/
def tServed (s : State) (q : PReq) : Bool :=
  !s.flt.safe && s.mops.isEmpty && s.mp.reqs.find? (fun q => q.id == 7) == some q && s.region? q.region == some tRegion && q.served
    && !s.reqWaits q

theorem witness_PoolAccessesActOnHbm :
    tServed (tReqS (tReq tPOOL_WR 64 (tBytes 8))) (tReq tPOOL_WR 64 (tBytes 8)) = true
      ∧ (tReqS (tReq tPOOL_WR 64 (tBytes 8))).homeRefuses (tReq tPOOL_WR 64 (tBytes 8)) tRegion = none
      ∧ tServed (tPoisoned (tReq tPOOL_RD 0 (natBytes 8 (8 * 2 ^ 51)))) (tReq tPOOL_RD 0 (natBytes 8 (8 * 2 ^ 51))) = true
      ∧ (tPoisoned (tReq tPOOL_RD 0 (natBytes 8 (8 * 2 ^ 51)))).homeRefuses (tReq tPOOL_RD 0 (natBytes 8 (8 * 2 ^ 51))) tRegion = some stPOISON
      ∧ linesOf 32 64 = 2 ∧ linesOf 0 64 = 1 ∧ (tReqS (tReq tPOOL_RD 32 (natBytes 8 (64 * 2 ^ 51)))).poisonedAt (tRegion.phys 1 32) 32 = false
      ∧ accessLen (tReq tPOOL_RD 32 (natBytes 8 (64 * 2 ^ 51))).pkt = 64
      ∧ accessLen (tReq tPOOL_ATOM 8 (natBytes 8 (2 ^ 56) ++ List.replicate 16 0)).pkt = 4
      ∧ PReq.before { tReq tPOOL_WR 64 (tBytes 8) with id := 6 } { tReq tPOOL_WR 68 (tBytes 8) with tagF := 1 } = true
      ∧ PReq.before { tReq tPOOL_WR 0 (tBytes 8) with id := 6, stream := true } { tReq tPOOL_WR 64 (tBytes 8) with stream := true } = true
      ∧ (0xFFFFFFFF : Nat) < 2 ^ 32 ∧ (2 ^ 64 - 1 : Nat) < 2 ^ 64 := by decide +kernel

theorem test_pool_write : (tAfter (.poolAccessPerform 7 .clean false) (tReqS (tReq tPOOL_WR 64 (tBytes 8)))).map (fun t => Memory.read t.mem 62 4)
    = some [0, 0, 1, 1] := by decide +kernel

theorem test_atom_add : atomNew 1 0xFFFFFFFF 1 0 = 0 ∧ atomNew 6 0xFFFFFFFF 0 0 = 0xFFFFFFFF ∧ atomNew 8 0xFFFFFFFF 0 0 = 0 := by decide +kernel

theorem witness_PoolAccessesAreAnswered :
    tServed (tReqS (tReq tPOOL_RD 0 (natBytes 8 (8 * 2 ^ 51)))) (tReq tPOOL_RD 0 (natBytes 8 (8 * 2 ^ 51))) = true
      ∧ (tReq tPOOL_RD 0 (natBytes 8 (8 * 2 ^ 51))).stream = false ∧ (tReq tPOOL_RD 0 (natBytes 8 (8 * 2 ^ 51))).dups = []
      ∧ rdlen (tReq tPOOL_RD 0 (natBytes 8 (8 * 2 ^ 51))).pkt = 8 ∧ (tReq tPOOL_WR 64 (tBytes 8)).pkt.ackReq = false
      ∧ tServed (tReqS (tReq tPOOL_FENCE 0 [])) (tReq tPOOL_FENCE 0 []) = true := by decide +kernel

/-- A region operation of the registers: ROP, region, new key; SIZE in pages of 4 KiB. -/
def tOp (rop region size : Nat) : RegOp := ⟨rop * 2 ^ 56 + region * 2 ^ 40 + 77 * 2 ^ 8, size * 2 ^ 32, 0, none⟩

/-- Region 1, stacks with room, and that operation at the head of the queue. -/
def tOpS (rop region size : Nat) : State :=
  { tPoolS with mp := { tPoolS.mp with ops := [tOp rop region size] }, bpm := (List.range 16).map fun k => (16 + k, ({ cap := 4 } : BpmPool)) }

theorem witness_RegionOperationsAreJudgedInOrder :
    (tOpS 1 0 1).nextOp = some (tOp 1 0 1) ∧ (tOp 1 0 1).fieldsOk = true ∧ (tOp 1 0 0).fieldsOk = false ∧ (tOp 2 0 0).fieldsOk = false
      ∧ (match (tOpS 1 0 1).createRegion (tOp 1 0 1) with | .ok (r, _) => r == 2 | .error _ => false) = true
      ∧ (match (tOpS 1 1 1).createRegion (tOp 1 1 1) with | .error st => st == stNOSPACE | .ok _ => false) = true
      ∧ (match (tOpS 2 1 0).regionChecks (tOp 2 1 0) with | .ok x => x == tRegion | .error _ => false) = true
      ∧ (match (tOpS 3 2 0).regionChecks (tOp 3 2 0) with | .error st => st == stRANGE | .ok _ => false) = true
      ∧ (match (tOpS 4 1 1024).growRegion (tOp 4 1 1024) tRegion with | .ok t => (t.region? 1).any (fun y => y.pages.length == 2) | .error _ => false) = true
      ∧ (tOp 3 1 0).newKey = 77 := by decide +kernel

theorem test_region_create : (tAfter .regionCreate (tOpS 1 0 513)).map (fun t => (t.region? 2).map (fun x => (x.base, x.size, x.pages.length)))
    = some (some (2097152, 2101248, 2)) := by decide +kernel

/-- Region 1 drains or waits in QUARANTINE since time 0; stack 0 is on, zeroes its page 3 and is idle. -/
def tDrain (st : RgnSt) : State :=
  let s := tWith tReady { tRegion with state := st }
  { s with mp := { s.mp with hbm := [(0, { off := false, zeroing := [3] })], streams := [⟨0, 9, 1, 4, 0, []⟩] } }

theorem witness_RegionsDrainAndPagesAreZeroed :
    (tDrain .draining).region? 1 = some { tRegion with state := .draining } ∧ (tDrain .draining).mp.reqs = []
      ∧ (tDrain .quarantine).twiceAgePassed 0 = true ∧ 3 ∈ ((tDrain .draining).stack 0).zeroing ∧ (tDrain .draining).stackOpen 0 = true
      ∧ (tDrain .draining).stream? 0 9 1 = some ⟨0, 9, 1, 4, 0, []⟩ := by decide +kernel

/-- A gather context on region 1 with rows of 16 bytes; FMT_IN as given. -/
def tGather (fin : Nat) : CtxFix := tFix 3 [(0, fin * 2 ^ 46), (12, 2 ^ 48 + 16 * 2 ^ 19)] [9]

/-- READY with that context ACTIVE and region 1. -/
def tGatherS (fin : Nat) : State :=
  let s := tWith (tReady.setCtx 2 { fix := tGather fin, gen := 4, state := .active, steer := .open_ }) tRegion
  { s with cfg := { s.cfg with gatherTiles := 1 } }

/-- A GATHER_REQ: FUNC, FMT and indices. -/
def tGreq (func fmt : Nat) (is : List Nat) (cls : Nat := 2) : Frame := tToF (tTo tGATHER_REQ cls (func * 2048) (is.flatMap (natBytes 4)) 4 fmt)

theorem witness_GathersEnterAndAreSent_entry :
    (tRx (tCtx tBarrier .active {}) (tGreq 0 0 [0]) tGATHER_REQ).isSome = true
      ∧ (tRx (tGatherS 1) (tGreq 0 0 [0, 1]) tGATHER_REQ).any (fun e => (e.2.ctx? 2).any (fun c => c.fix.kind == 3 && c.runs && !e.2.beforeStart c)
            && gfunc e.1 == 0 && e.1.len == 8 && rowsInside (tGather 1).desc e.1 8192 && e.2.liveRegion 1 == some tRegion
            && (gatherFmtBad 1 (tGather 1).desc e.1).isNone) = true
      ∧ (tRx (tGatherS 1) (tGreq 5 1 [0]) tGATHER_REQ).any (fun e => decide (4 < gfunc e.1)) = true
      ∧ (tRx (tGatherS 0) (tGreq 1 1 [0]) tGATHER_REQ).any (fun e => gatherFmtBad 1 (tGather 0).desc e.1 == some stUNSUPPORTED_FMT) = true
      ∧ (tRx (tGatherS 1) (tGreq 0 0 [0x7FFFFFFF]) tGATHER_REQ).any (fun e => !rowsInside (tGather 1).desc e.1 8192) = true := by decide +kernel

/-- The line of a gather request of one row of 16 bytes. -/
def tLine (data : Option (List Byte)) : GLine := { row := 0, off := 0, lo := 0, len := 16, data := data, tagF := 1, served := true }

/-- A gather request of one row, its one line read or not. -/
def tGreqOf (func : Nat) (data : Option (List Byte)) : GReq :=
  ⟨7, 0, 2, ({ typ := tGATHER_REQ, cls := 2, dst := 5, src := 9, ctx := 2, gen := 4, fmt := 1, rank := func * 2048 } : Hdr).packet (natBytes 4 0),
   [tLine data], 0, [], 0⟩

/-- That request, its line not read, and a write of the requester to the line. -/
def tGreqS (reqs : List PReq) (poison : List (Nat × Nat)) : State :=
  { tGatherS 1 with mp := { (tGatherS 1).mp with greqs := [tGreqOf 0 none], reqs := reqs, poison := poison } }

theorem witness_GathersEnterAndAreSent :
    (tGreqS [] []).greq? 7 = some (tGreqOf 0 none) ∧ (tGreqS [] []).writeAhead (tGreqOf 0 none) 1 (tLine none) = false
      ∧ (tGreqS [] []).lineRefuses 1 tRegion (tLine none) = none ∧ (tGreqS [] [(0, 1)]).lineRefuses 1 tRegion (tLine none) = some stPOISON
      ∧ (tGreqS [tReq tPOOL_WR 0 (tBytes 8)] []).writeAhead (tGreqOf 0 none) 1 (tLine none) = true
      ∧ ((tGreqS [] []).ctx? 2).any (fun c => !(tGreqS [] []).paused c && gatherRegion c == 1) = true
      ∧ gatherSegs (tFix 3 [(0, 2 ^ 46), (12, 2 ^ 48 + 2048 * 2 ^ 19)] [9]).desc = 2
      ∧ ((tGreqOf 0 (some (tBytes 16))).ready 1 0).length = (gindices (tGreqOf 0 none).pkt).length * rowBytes (tGather 1).desc
      ∧ gfunc (tGreqOf 0 none).pkt = 0 ∧ gfunc (tGreqOf 1 none).pkt = 1 ∧ gatherSegs (tGather 1).desc = 1 ∧ (tGreqOf 1 none).segs = [] := by decide +kernel

/-- Stack 0 is on, with an unserved request, or with none. -/
def tStack (qs : List PReq) (x : StackSt) : State := { tPoolS with mp := { tPoolS.mp with reqs := qs, hbm := [(0, { x with off := false })] } }

theorem witness_StacksServeAndKeepThemselves :
    (tStack [{ tReq tPOOL_WR 64 (tBytes 8) with served := false }] {}).waitingOn 0 = [⟨0, 0, 7, none⟩]
      ∧ (tStack [] {}).foreground 0 = false ∧ ((tStack [] {}).stack 0).up = true ∧ 0 + 1000000 ≤ tPoolS.local ∧ (tStack [] {}).fallsDue 0 = true
      ∧ (tStack [] {}).stackOpen 0 = true ∧ (tStack [] { busyTo := 10000000001 }).stackOpen 0 = false
      ∧ ((tStack [] { dueAt := some 0 }).stack 0).dueAt = some 0 ∧ 0 + 10000000 ≤ tPoolS.local ∧ 0 < (tStack [] {}).scrubDue 0 ∧ 0 + 1 < stackLines
      ∧ tRegion.stackOf 1 (0 / pageBytes) = 0 ∧ ({ out := [(1, 0, 64)] } : StreamEng).asked = 64 ∧ 65472 + 64 = streamBuffer
      ∧ (({ tStack [] {} with fab := { engines := [(0, { out := [(1, 0, 64)] })] } } : State).engine 0 0).out = [(1, 0, 64)]
      ∧ (tStack [] {}).engineRuns { out := [(1, 0, 64)] } = false := by decide +kernel

theorem test_recal_forced : (tAfter (.recalForced 0) (tStack [] { dueAt := some 0 })).map (fun t => t.fld .pwrMem [0] 44 29) = some 1 := by
  decide +kernel

/-- The table registers name an operation: TABLE, OP, INDEX and the first data word. -/
def tTbl (table op index d0 : Nat) (s : State := tReady) : State :=
  (s.setReg .fwdTblAddr [] (table * 2 ^ 60 + op * 2 ^ 56 + index * 2 ^ 32)).setReg .fwdTblData [0] d0

/-- The inactive bank may not be written yet. -/
def tLocked (s : State) : State := { s with fwd := { s.fwd with inactive := some s.time.localNs } }

theorem witness_TableOperationsAndBankSwap :
    (tTbl 1 1 7 3).tblOp = ⟨1, 1, 7, 0, 3, 0, 0, 0⟩ ∧ (tTbl 1 1 7 3).islandsUp = true ∧ (tTbl 1 1 7 3).pins.pwrGood = true
      ∧ (tTbl 1 1 7 3).tblOp.named = true ∧ (tTbl 1 1 7 3).tblOp.valued (tTbl 1 1 7 3).isPort = true
      ∧ (tTbl 1 1 0 3).tblOp.valued (tTbl 1 1 0 3).isPort = false
      ∧ (tTbl 3 1 16384 0).tblOp.named = false ∧ (tTbl 1 1 7 3).bankWritable = true ∧ (tLocked (tTbl 1 1 7 3)).bankWritable = false
      ∧ (tTbl 4 3 0 0).tblOp.delete {} = none ∧ ((tTbl 4 3 0 0).tblOp.delete { v4 := [(0, 0, 5)] }) = some {}
      ∧ tReady.fwd.busy = false ∧ tReady.reg .fwdSwapAt [] ≤ tReady.now ∧ tReady.now < (tReady.setReg .fwdSwapAt [] 9999999).reg .fwdSwapAt []
      ∧ tReady.fwd.active ≤ 1 ∧ tReady.twiceAgePassed 0 = true := by decide +kernel

theorem test_table_write : (tAfter .tableWrite (tTbl 1 1 7 0xFFFFFFFF)).map (fun t => t.fwd.bank1.endpoint.get 7 0) = some 0xCFFF := by decide +kernel

theorem witness_TableWritesReadBack :
    (⟨5, 1, 0, 0, 0, 0, 0, 9⟩ : TblOp).named = true ∧ (⟨5, 1, 0, 0, 0, 0, 0, 9⟩ : TblOp).valued tReady.isPort = true
      ∧ (⟨8, 1, 71, 0, 6, 0, 0, 0⟩ : TblOp).named = true ∧ (⟨8, 1, 71, 0, 6, 0, 0, 0⟩ : TblOp).valued tReady.isPort = true
      ∧ (⟨2, 1, 262143, 0, 767 * 2 ^ 54, 0, 0, 0⟩ : TblOp).valued tReady.isPort = true
      ∧ (⟨4, 3, 0, 0, 0, 0, 0, 0⟩ : TblOp).delete { v4 := [(0, 0, 5)] } = some {} := by decide +kernel

/-! ### Tiles and images -/

/-- A partition of 2 by 2 tiles at the origin, with a user image of 8 bundles, generation 3. -/
def tPart : ImgSlot := { state := .running, image := { user := true, uops := 8 }, pgen := 3, w := 2, h := 2 }

/-- That partition in slot 4; its tile (0, 0). -/
def tTile (x : Tile) : State := { tOn with fab := { slots := [(4, tPart)], tiles := [(0, x)] } }

/-- A micro-operation of slot `k` of bundle 1 issues on the tile. -/
theorem tile_issues (k : Nat) (hk : k < 4) : (tTile {}).Issues tIssue k 4 tPart := by
  match k, hk with
  | 0, _ => exact ⟨by decide, by decide, by decide, by decide, by decide, by decide, by decide⟩
  | 1, _ => exact ⟨by decide, by decide, by decide, by decide, by decide, by decide, by decide⟩
  | 2, _ => exact ⟨by decide, by decide, by decide, by decide, by decide, by decide, by decide⟩
  | 3, _ => exact ⟨by decide, by decide, by decide, by decide, by decide, by decide, by decide⟩

theorem witness_TilesThatDoNotRunAreUntouched : (tTile { halt := 1 }).tileRuns 0 4 tPart = false
    ∧ (Instr.issue? (.halt tIssue) = some tIssue) ∧ (tTile {}).storeUsed tPart = 8 ∧ (tTile {}).tileRuns 0 4 tPart = true
    ∧ (tTile {}).partOf 0 = some (4, tPart) ∧ ((tTile {}).tile 0).expects 8 slotS = true ∧ ((tTile {}).tile 0).held = false
    ∧ (Instr.issue? (.setrm { tIssue with bundle := 8, fetch := .uncorrectable } 0)).isSome = true := by decide +kernel

theorem test_bundle_past_the_last : (tAfter (.setrm { tIssue with bundle := 8 } 2) (tTile {})).map (fun t => ((t.tile 0).halt, (t.tile 0).trm)) = some (1, 0) := by
  decide +kernel

theorem witness_LoadsStoresAndScrubbing : (tTile {}).Issues tIssue slotM 4 tPart ∧ (tTile { poison := [1] }).Issues tIssue slotM 4 tPart :=
  ⟨tile_issues 3 (by decide), by decide, by decide, by decide, by decide, by decide, by decide, by decide⟩

theorem witness_LoadsStoresAndScrubbing_clauses : accessSize 32 = true ∧ sramBytes - 4 + 4 ≤ sramBytes ∧ sramBytes < sramBytes - 3 + 4
    ∧ ({ poison := [1] } : Tile).poisonIn 8 4 = true ∧ ({ poison := [1] } : Tile).poisonIn 0 8 = false
    ∧ partWords 8 4 = [1] ∧ partWords 8 8 = [] ∧ tPart.image.user = true ∧ (tTile {}).fab.retired = [] := by decide +kernel

theorem test_load_past_the_end : (tAfter (.load tIssue 0 (sramBytes - 3) 4 .clean) (tTile {})).map (fun t => (t.tile 0).halt) = some 5 := by
  decide +kernel

theorem witness_ScalarOperationsAndControl_issues : (tTile {}).Issues tIssue slotS 4 tPart := tile_issues 0 (by decide)

theorem witness_ScalarOperationsAndControl : (tTile {}).waitMet 0 (.credit 0) = true ∧ (tTile {}).waitMet 0 (.receiveQueue 0) = false
    ∧ 1 + 1 < (tTile {}).storeUsed tPart ∧ (tTile {}).storeUsed tPart ≤ 7 + 1 ∧ ((5 : Word) <<< (63 : Nat)) = 0x8000000000000000#64 ∧ (63 : Word).toNat < 64 := by
  decide +kernel

theorem test_sar : (tAfter (.scalarOperation tIssue .sar 1 2 3) (tTile { gregs := [(2, 0x8000000000000000#64), (3, 63#64)] })).map
    (fun t => (t.tile 0).greg 1) = some 0xFFFFFFFFFFFFFFFF#64 := by decide +kernel

/-- A packet to tile (x, y) for queue 0, of that partition generation, from a tile of partition `n`. -/
def tMesh (x y gen : Nat) (n : Nat := 4) : MeshPkt :=
  ⟨BitVec.ofNat 64 (x * 2 ^ 52 + y * 2 ^ 45 + 4 * 2 ^ 16 + gen * 2 ^ 8), BitVec.ofNat 64 (n * 2 ^ 42), 0, tBytes 4⟩

/-- A multicast along row 0 from tile (0, 0) to tiles 0 and 1. -/
def tRow : MeshPkt := ⟨BitVec.ofNat 64 (2 ^ 62 + 2 * 2 ^ 60 + 1 * 2 ^ 29 + 4 * 2 ^ 16 + 3 * 2 ^ 8), BitVec.ofNat 64 (4 * 2 ^ 42), 0, tBytes 4⟩

/-- A tile with receive queue 0 of 64 bytes, or of none. -/
def tQueue (n : Nat) : Tile := { queues := [(0, ⟨0x100, n, 0⟩)] }

/-- That tile, with a packet first in one input buffer of a router and the credits of another buffer gone. -/
def tBuf (x : Tile) (b : Nat) (p : MeshPkt) (gone : List Nat := []) : State :=
  { tTile x with fab := { (tTile x).fab with mesh := (b, ({ pkts := [p] } : MeshBuf)) :: gone.map fun g => (g, ({ owed := 65 } : MeshBuf)) } }

theorem witness_TilesSendReceiveAndDeliver_issues : (tTile {}).Issues tIssue slotM 4 tPart := tile_issues 3 (by decide)

theorem witness_TilesSendReceiveAndDeliver :
    (tTile {}).holdMet 0 (.send 0 40) = true ∧ (tTile {}).holdMet 0 (.send 2 4137) = true ∧ flits 4136 = (tTile {}).tileCredit 0 2
      ∧ (tBuf {} 0 (tMesh 0 0 3) [meshAt 0 4 0]).holdMet 0 (.send 0 0) = false
      ∧ sendInside tPart (.tile 1 1) = true ∧ sendInside tPart (.tile 2 0) = false ∧ headerOk (tMesh 0 0 3) = true
      ∧ headerOk ⟨BitVec.ofNat 64 (sendM0 tPart (.tile 0 0) 0 4137 0), 0, 0, []⟩ = false ∧ tPart.x0 + 1 < 220
      ∧ ({ inbox := [(0, [tMesh 0 0 3])] } : Tile).inbox.get 0 [] = [tMesh 0 0 3] := by decide +kernel

theorem witness_TilesSendReceiveAndDeliver_unicast :
    ((tBuf {} 0 (tMesh 0 0 3)).meshBuf (meshAt (tileNo 0 0) 0 0)).pkts = [tMesh 0 0 3] ∧ unicastWay (tMesh 0 0 3) 0 0 = 4
      ∧ (tBuf {} 0 (tMesh 0 0 3)).partOf 0 = some (4, tPart) ∧ (tBuf {} 0 (tMesh 0 0 3)).partOf 5 = none
      ∧ (tMesh 0 0 3).m1.field 48 42 = 4 ∧ (tMesh 0 0 3 5).m1.field 48 42 = 5 ∧ mfield (tMesh 0 0 3) 15 8 = tPart.pgen % 256
      ∧ mfield (tMesh 0 0 4) 15 8 ≠ tPart.pgen % 256 ∧ ((tTile (tQueue 28)).queueIn 0 (tMesh 0 0 3) .clean).isSome = true
      ∧ (tTile (tQueue 27)).queueIn 0 (tMesh 0 0 3) .clean = none
      ∧ unicastWay (tMesh 0xFE 0 3) 0 0 = 3 ∧ beyond 0 3 0 = none ∧ unicastWay (tMesh 1 0 3) 0 0 = 1 ∧ beyond 0 1 0 = some (meshAt 1 3 0)
      ∧ (tTile {}).meshCredit (meshAt 1 3 0) = 65 ∧ (tBuf {} 0 (tMesh 1 0 3) [meshAt 1 3 0]).meshCredit (meshAt 1 3 0) < flits 4 := by decide +kernel

theorem witness_TilesSendReceiveAndDeliver_multicast : headerOk tRow = true ∧ mfield tRow 63 62 ≠ 0 ∧ onSegment tRow (linePlace tRow 0 0) = true
    ∧ ((tBuf {} (meshAt 0 4 2) tRow).meshBuf (meshAt (tileNo 0 0) 4 2)).pkts = [tRow] ∧ linePlace tRow 1 0 = mfield tRow 36 29
    ∧ linePlace tRow 0 0 ≠ mfield tRow 36 29 ∧ beyond (tileNo 0 0) (lineWay tRow (linePlace tRow 0 0)) 2 = some (meshAt 1 3 2)
    ∧ ((tTile (tQueue 28)).queueIn 0 tRow .clean).any (fun z => decide (flits 4 ≤ z.meshCredit (meshAt 1 3 2))) = true
    ∧ (tTile (tQueue 27)).queueIn 0 tRow .clean = none
    ∧ 0 < ((tBuf {} 0 (tMesh 0 0 3) [meshAt 0 4 0]).meshBuf (meshAt 0 4 0)).owed := by decide +kernel

theorem test_send : (tAfter (.send tIssue (.tile 1 0) 0 4 0 0 0 7 .clean) (tTile {})).map
    (fun t => ((t.meshBuf (meshAt 0 4 0)).pkts.map fun q => q.m0 == (tMesh 1 0 3).m0, t.tileCredit 0 0)) = some ([true], 64) := by decide +kernel

theorem witness_VectorOperationsWriteTheirLanes_issues : (tTile {}).Issues tIssue slotV 4 tPart := tile_issues 2 (by decide)

theorem witness_VectorOperationsWriteTheirLanes : (vecEval {} .negate .b32 0 false 0 0 0).isSome = true
    ∧ ({ trm := 4 } : Tile).dir 7 ≤ 4 ∧ (0x7FFFFFFF : Nat) < 2 ^ 32 := by decide +kernel

/-- Integer lanes wrap: lane 0 of the sum of 2^64 − 1 and 1. -/
theorem test_int_add_wraps : (vecEval { vregs := [(1, List.replicate 8 255), (2, natBytes 8 1)] } .intAdd .b64 0 false 1 2 0).map (fun r => r.bytes.take 8)
    = some (natBytes 8 0) := by decide +kernel

theorem witness_CubeAndLongAdder_issues : (tTile {}).Issues tIssue slotC 4 tPart ∧ (tTile {}).Issues tIssue slotM 4 tPart :=
  ⟨tile_issues 1 (by decide), tile_issues 3 (by decide)⟩

theorem witness_CubeAndLongAdder : Fmt.ofCode 3 ≠ none ∧ (Fmt.ofCode 3).map Fmt.cubeInput = some true
    ∧ (∀ q ∈ rowPieces .fp16 0x100 8 0 (cubeK .fp16 .fp16), q.1 + q.2 ≤ sramBytes) ∧ partWords 64 64 = []
    ∧ (Fmt.ofCode 3).map Fmt.reductionInput = some true ∧ (Fmt.ofCode 3).map Fmt.output = some true
    ∧ sramBytes - 64 + 64 ≤ sramBytes ∧ windowOf 0 0 .fp16 = some .full ∧ (windowOf 3 0 .fp16).isNone = true
    ∧ (laElems {} .fp16 .full 0).length = 4 := by decide +kernel

/-- CUBE_MM of two zero operands leaves the zeros of its set and takes one cycle. -/
theorem test_cube_counts : (tAfter (.cubeMm tIssue 0 8 3 64 8 3 0 0 false false true .clean) (tTile {})).map
    (fun t => (t.fld .tileCubecyc (tileIdx 0) 63 0, ((t.tile 0).cube.get 0 []).length)) = some (cubeCycles .fp16 .fp16, 16) := by decide +kernel

/-- READY; an image command runs on slot 4 with its four argument words. -/
def tImg (op a0 a1 a2 a3 : Nat) (st : ImgSt) : State :=
  let s := tReady
  { s with fab := { cmdBusy := some op, cmdArgs := [4 * 2 ^ 50 + a0, a1, a2, a3], slots := [(4, { tPart with state := st })] } }

/-- A LOAD of the container at the start of region 1, onto 1 by 1 tiles; no bytes there are a container. -/
def tLoad : State := tWith (tImg 1 (2 ^ 22) 0 (2 ^ 41 + 2 ^ 34) 0 .empty) tRegion

theorem witness_ImageLoadsAreChecked : (tImg 1 0 0 0 0 .empty).imgBusy 1 = true ∧ tLoad.imgSlotArg = 4 ∧ tLoad.fab.taken = false
    ∧ (tLoad.islot 4).state = .empty ∧ tLoad.svc.holding = false ∧ (tImg 1 0 0 0 0 .empty).containerAt 0 0 0 0 = none ∧ tLoad.containerAt 1 0 0 0 = some []
    ∧ tLoad.loadReason [] ⟨4, 0, 0, 0, 1, 1, 0⟩ = 1 ∧ tLoad.imgArg 2 48 41 = 1 ∧ tLoad.imgArg 2 40 34 = 1 := by decide +kernel

theorem test_load_without_a_region : (tAfter .imageLoad (tImg 1 0 0 0 0 .empty)).map (fun t => t.fab.reason) = some 1 := by decide +kernel

theorem witness_ImageSlotsMoveThroughTheirStates : ((tImg 1 0 0 0 0 .loading).islot 4).state = .loading
    ∧ (tImg 1 0 0 0 0 .loading).domBusy 1412 = false ∧ (tImg 1 0 0 0 0 .loading).imgBusy 1 = true ∧ (tImg 1 0 0 0 0 .loading).imgSlotArg = 4
    ∧ (tImg 2 0 0 0 0 .loaded).imgBusy 2 = true ∧ (tImg 2 0 0 0 0 .loaded).imgArg 3 63 0 = 0 ∧ (tImg 2 0 0 0 9 .loaded).imgArg 3 63 0 = 9
    ∧ (tImg 3 0 0 0 0 .running).imgBusy 3 = true ∧ (tImg 4 0 0 0 0 .loaded).imgBusy 4 = true
    ∧ (tImg 4 0 0 0 0 .loaded).svc.deferq = [] ∧ (tImg 4 0 0 0 0 .loaded).mops = [] ∧ 0 ≤ tReady.now
    ∧ ((tImg 1 0 0 0 0 .loading).islot 4).wakeAt ≤ (tImg 1 0 0 0 0 .loading).local ∧ ((tImg 2 0 0 0 0 .loaded).islot 4).quiet = false
    ∧ (tImg 2 0 0 0 0 .loaded).svc.holding = false ∧ tReady.local < 10000000001 := by decide +kernel

theorem test_image_stop : (tAfter .imageStop (tImg 3 0 0 0 0 .running)).map (fun t => ((t.islot 4).state, t.fab.reason)) = some (.loaded, 0) := by
  decide +kernel

/-! ### Mirroring, power, faults and recovery -/

/-- READY with region 1 as the mirror region of 2 pages; session 0's ring takes the pages given. -/
def tMirror (first n : Nat) : State :=
  let s := tWith tReady { tRegion with size := 2 * pageBytes, pages := [0, 1] }
  ({ s with mp := { s.mp with mirrorRgn := 1 } } : State).setReg .mirSel [0] (first * 2 ^ 32 + n * 2 ^ 20)

/-- A block of one full record of port die 3, 10 µs old. -/
def tBlock : StageBlock := ⟨3, 0, 0, [⟨none, tBytes 144⟩]⟩

/-- Session 0 with that block; its ring's stack is off. -/
def tStaged : State := (tMirror 0 1).setSess 0 { enabled := true, capacity := 14563, staged := [tBlock] }

/-- The same with the stack on. -/
def tStagedOn : State := { tStaged with mp := { tStaged.mp with hbm := [(0, { off := false })] } }

theorem witness_MirrorSessionsWriteTheirRing : (tMirror 0 2).ringOk 0 = true ∧ (tMirror 1 2).ringOk 0 = false ∧ (tMirror 0 0).ringOk 0 = false
    ∧ tStaged.flt.safe = false ∧ tStaged.mops = [] ∧ tStaged.mirrorRegion.isSome = true ∧ (tBytes 144).length = 144
    ∧ (tStaged.sess 0).staged.find? (fun b => b.die == 3 && tStaged.blockDue b) = some tBlock
    ∧ (tStaged.blockStacks 0 tBlock).all tStaged.stackOpen = false ∧ (tStagedOn.blockStacks 0 tBlock).all tStagedOn.stackOpen = true
    ∧ (tStagedOn.sess 0).staged.find? (fun b => b.die == 3 && tStagedOn.blockDue b) = some tBlock := by decide +kernel

theorem test_mirror_ring : (tAfter (.mirrorEnable 0) (tMirror 0 1)).map (fun t => (t.sess 0).capacity) = some 14563 := by decide +kernel

/-- Readings of all dies and stacks. -/
def tTemps (n : Nat) (v : Int) : List Reading := List.replicate n (some v)

/-- Readings of that value for the last 1 ms, at a count of 10 s, at a STEP. -/
def tHeat (v : Int) (k : Nat) : State := { tReady with pow := { tj := [v], stepAt := 0 } }.setFld .pwrStatus [] 49 46 k

theorem witness_PowerAndHeat : tOn.sensorsDue = true ∧ hottest (sources (tTemps 20 839) (tTemps 16 700)) = some (0, 839)
    ∧ hottest (sources (tTemps 20 700) (tTemps 16 840)) = some (32, 840) ∧ tOn.pins.thermLow = false
    ∧ (tHeat 760 0).islandsUp = true ∧ (tHeat 760 0).now / 1000000 ≠ (tHeat 760 0).pow.evalAt ∧ (tHeat 760 0).pow.tj ≠ []
    ∧ (tHeat 760 0).svc.deferq = [] ∧ 760 * ((tHeat 760 0).tjSum.2 : Int) ≤ (tHeat 760 0).tjSum.1
    ∧ ¬ 760 * ((tHeat 759 0).tjSum.2 : Int) ≤ (tHeat 759 0).tjSum.1 ∧ thermalFactor 720 1 = (120, 160)
    ∧ tOn.islandsUp = true ∧ tOn.mainRuns = true ∧ State.reset.mainRuns = false ∧ 0 ∉ tOn.pow.crit := by decide +kernel

theorem test_sensor_105 : (tAfter (.sensorRead (tTemps 20 840) (tTemps 16 0)) tOn).map (fun t => (t.flt.safe, t.pins.thermLow)) = some (true, true)
    ∧ (tAfter (.sensorRead (tTemps 20 839) (tTemps 16 0)) tOn).map (fun t => (t.flt.safe, t.pins.thermLow)) = some (false, false) := by decide +kernel

theorem test_main_range : (tAfter (.mainRange 5951) tOn).map (fun t => t.flt.safe) = some true
    ∧ (tAfter (.mainRange 4000) tOn).map (fun t => t.flt.safe) = some false := by decide +kernel

/-- A message of die 8: kind and severity. -/
def tMsgOf (kind sev : Nat) : FaultMsg := ⟨8, 0x0A, 0, kind, sev, 5000000, 0⟩

/-- That message at the head of its die's queue; the log's last entry, if any, in force. -/
def tFault (m : FaultMsg) (last : Option FaultMsg) : State :=
  let s := { tOn with flt := { queues := [(m.die, [m])], nextSeq := 1 } }
  match last with
  | some l => { s with flt := { s.flt with log := [(0, ⟨l, 0, 1, 0, false, false, 0⟩)] } }
  | none => s

theorem witness_FaultsAreLoggedAndTested_taken :
    (tFault (tMsgOf 0x020 0) (some (tMsgOf 0x020 0))).mergeInto (tMsgOf 0x020 0) = some 0
      ∧ (tFault (tMsgOf 0x020 0) (some (tMsgOf 0x020 0))).logAt 0 = some ⟨tMsgOf 0x020 0, 0, 1, 0, false, false, 0⟩
      ∧ (tFault (tMsgOf 0x021 1) none).mergeInto (tMsgOf 0x021 1) = none ∧ (tFault (tMsgOf 0x021 1) none).reactionOf 0x021 1 = 2
      ∧ 3 ≤ unitClass 0x021 ∧ (tFault (tMsgOf 0x060 3) none).reactionOf 0x060 3 = 5 ∧ (tFault (tMsgOf 0x020 0) none).reactionOf 0x020 0 = 1
      ∧ (tFault (tMsgOf 0x020 0) none).notesOf 8 0x0A < 1000 ∧ (tFault (tMsgOf 0x021 1) none).flt.holding.get 8 [] = []
      ∧ (tFault (tMsgOf 0x021 1) none).fld .fltFirstCtl [] 61 60 ≤ 1 := by decide +kernel

/-- A test of entry 0 runs on the unit of a message. -/
def tTest (m : FaultMsg) : State :=
  { tOn with flt := { tests := [⟨0, m, false⟩], log := [(0, ⟨m, 0, 2, 1, false, false, 0⟩)], nextSeq := 1 } }

/-- A test on a row of cells of hub die 0, all of them withheld. -/
def tRowTest : State := { tTest (tMsgOf 0x011 0) with bpm := [(0, { cap := 64, bufs := (List.range 16).map fun i => (i, Buf.withheld) })] }

/-- A substitution on die 0 that holds slot 4. -/
def tSubst (passed : Bool) : State :=
  { tReady with fab := { slots := [(4, { tPart with quiet := true })], subst := some ⟨0, 3, 3, 0, [4], passed, ⟨12, 0x10, 3, 0x031, 1, 0, 0⟩⟩ } }

theorem witness_FaultsAreLoggedAndTested : (tTest (tMsgOf 0x021 1)).flt.tests.find? (fun t => t.seq == 0) = some ⟨0, tMsgOf 0x021 1, false⟩
    ∧ (tTest (tMsgOf 0x021 1)).rowBusy (tMsgOf 0x021 1) = false ∧ (tTest (tMsgOf 0x021 1)).logAt 0 = some ⟨tMsgOf 0x021 1, 0, 2, 1, false, false, 0⟩
    ∧ unitClass 0x021 ≠ 2 ∧ unitClass 0x011 = 2 ∧ tRowTest.rowBusy (tMsgOf 0x011 0) = false
    ∧ 0 % 4096 ≠ tRowTest.flt.nextSeq % 4096 ∧ (tSubst false).fab.subst ≠ none ∧ (tSubst true).fab.substq = [] := by decide +kernel

theorem witness_FaultsAreLoggedAndTested_found : tOn.pins.pwrGood = true ∧ tOn.flt.queues.get 8 [] = [] ∧ tOn.flt.queues.get 19 [] = []
    ∧ tRowTest.reactionOf 0x0FF 0 ≠ 4 ∧ (tSubst true).reactionOf 0x0FF 0 ≠ 4 := by decide +kernel

theorem test_selftest_pass : (tAfter (.selftestDone 0 .pass) (tTest (tMsgOf 0x021 1))).map (fun t => (t.logAt 0).map (·.verdict)) = some (some 2) := by
  decide +kernel

/-- Ten entries wait for the mirror, or none, from sequence 120 on. -/
def tLog (n : Nat) : State :=
  let e (i : Nat) : Nat × LogEntry := (120 + i, ⟨tMsgOf 0x020 2, 120 + i, 1, 0, true, false, 0⟩)
  { tOn with flt := { log := (List.range n).map e, nextSeq := 120 + n, pageFrom := 120, urgent := true } }

/-- Temond runs; its last check-in was long ago or now. -/
def tFw (at_ : Nat) : State := (({ tReady with flt := { fwSeen := true, checkin := at_, log := (tLog 1).flt.log } } : State))

theorem witness_LogAndSafeState : (tLog 10).unmirrored = (120, 10) ∧ (tLog 10).nvm.badB = false ∧ (tLog 10).flt.urgent = true ∧ (tLog 10).logAt 127 = some ⟨tMsgOf 0x020 2, 127, 1, 0, true, false, 0⟩
    ∧ (tLog 10).islandsUp = true ∧ (tFw 0).flt.fwSeen = true ∧ 0 + 500000 < (tFw 0).local ∧ (tFw 0).temondRuns = true
    ∧ (tFw 0).pins.pwrGood = true ∧ (tFw 0).svc.holding = false ∧ (tFw 10000000000).fwOk = true ∧ (tFw 10000000000).flt.romLow = false
    ∧ (tFw 10000000000).flt.aliveAt + 500000 ≤ (tFw 10000000000).local ∧ (tFw 0).flt.safe = false ∧ (tFw 0).pins.pllLost = []
    ∧ (tFw 0).complexUsed = true ∧ State.reset.complexUsed = false ∧ (tFw 0).pllRuns 0 = false
    ∧ (tTile {}).pllRuns 0 = true ∧ (tTile {}).pins.pwrGood = true := by decide +kernel

/-- Eight entries fill the page that began at 120; the next page starts at 128. -/
theorem test_log_page : (tAfter .logMirrorWrite (tLog 10)).map (fun t => t.flt.pageFrom) = some 128 := by decide +kernel

theorem test_force_safe : (tAfter .forceSafe tReady).map (fun t => (t.flt.safe, t.linkState 0)) = some (true, .disabled) := by decide +kernel

/-- Domain `n` is under reset, or a search goes on in it with context 2 readmitted. -/
def tBusy (n : Nat) : State := { tReady with reco := { doms := [(n, { since := some 0 })] } }

def tSearch (left : List Nat) : State :=
  let s := tCtx (tFix 2 [] [9]) .active {}
  { s with reco := { search := some ⟨768, left, some 2, 0, 0, []⟩ } }

theorem witness_HangsAndModuleResets : tReady.watched 5 = false ∧ tReady.watched 0 = true ∧ tReady.reactionOf 0x040 2 = 4
    ∧ tReady.reco.doms.find? 0 = none ∧ tReady.reco.search = none ∧ tReady.flt.tests = [] ∧ tReady.flt.waiting = []
    ∧ (tReady.flt.queues.get 0 []).length < 256 ∧ tReady.islandsUp = true ∧ tReady.watched 768 = true ∧ tReady.watched 1407 = true
    ∧ (tSearch []).reco.search = some ⟨768, [], some 2, 0, 0, []⟩ ∧ ((tSearch []).ctx? 2).isSome = true
    ∧ (tBusy 768).domBusy 768 = true ∧ (tBusy 768).svc.held = [] ∧ (tBusy 768).svc.ctxs = []
    ∧ 0 + 2 * (tSearch []).watchLimit 768 ≤ (tSearch []).local ∧ (tSearch []).domBusy 768 = false
    ∧ (({ tReady with mp := { tReady.mp with hbm := [(3, { off := false, retrain := true })] } } : State).stack 3).retrain = true
    ∧ (tBusy 768).reco.search = none ∧ tReady.flt.queues.get 8 [] = [] ∧ tReady.flt.queues.get 11 [] = []
    ∧ State.reset.islandsUp = true ∧ State.reset.pins.auxGood = true := by decide +kernel

theorem test_warm_keeps_time : (tAfter .warm tReady).map (fun t => (t.time, t.stage)) = some (tReady.time, 0)
    ∧ (tAfter .cold tReady).map (fun t => (t.time, t.keys.svcEp)) = some ({}, 0) := by decide +kernel

/-! ### Start, flash and crash dumps -/

/-- Aux power only, before the ROM's run. -/
def tRom : State := { time := { localNs := 1 } }

/-- An image under way at a stage. -/
def tStage (k : Nat) (e : Eudel) : State :=
  ({ tOn with time := { tOn.time with localNs := 10000000000 }, nvm := { boot := some e, run := some e, source := 1 } } : State).setReg .ctlStart [] (k * 2 ^ 60)

theorem witness_StartSequence : tRom.romWaits = true ∧ (({ tRom with pins := { tRom.pins with recoveryN := false } } : State)).pins.recoveryN = false
    ∧ tRom.partImage tRom.nvm.active = .error 1 ∧ tRom.goldenImage = .ok factoryEudel ∧ 1 ∉ tRom.nvm.refused
    ∧ (({ tRom with nvm := { golden := some {} } } : State)).goldenImage = .error 1
    ∧ (tStage 3 {}).nvm.boot = some {} ∧ (tStage 3 {}).stage = 3 ∧ (tStage 3 {}).bootReason {} = 0
    ∧ ({ tStage 4 {} with pins := { tOn.pins with pwrGood := false } } : State).railsDue = true ∧ (tStage 4 {}).stage = 4
    ∧ (tStage 5 {}).stage = 5 ∧ (tStage 5 {}).nvm.trained = false ∧ (tStage 6 {}).stage = 6 ∧ (tStage 7 {}).isReady = true
    ∧ (tStage 7 {}).nvm.svcTry + 1000000 ≤ (tStage 7 {}).local ∧ (tStage 6 {}).flt.safe = false := by
  refine ⟨?_, ?_, ?_, rfl, ?_, ?_, ?_, ?_, ?_, ?_, ?_, ?_, ?_, ?_, ?_, ?_, ?_⟩ <;> decide +kernel

theorem witness_StartSequence_flash : tRom.flt.queues.get 8 [] = [] ∧ tRom.nvm.badA = false ∧ tRom.nvm.badB = false
    ∧ (tStage 5 {}).nvm.stopped = false ∧ (tStage 3 {}).nvm.badB = false ∧ (tStage 6 {}).nvm.badB = false
    ∧ (({ tStage 2 {} with nvm := { copying := true } } : State)).stage = 2 := by decide +kernel

theorem test_both_complexes_fail : (tAfter (.coldStart .fail .fail .pass .pass) tRom).map (fun t => (t.flt.romLow, t.stage)) = some (true, 0) := by decide +kernel

/-- The NVM command registers hold an operation; the staging partition is in a state. -/
def tNvm (op stg : Nat) : State := ({ tReady with nvm := { stg := stg } } : State).setReg .nvmArg0 [] (op * 2 ^ 56)

/-- That command runs. -/
def tNvmRun (op : Nat) : State := { tReady with nvm := { cmd := some op, cmdWord := op * 2 ^ 56 } }

theorem witness_NvmCommands : (tNvm 1 0).islandsUp = true ∧ (tNvm 1 0).fld .nvmArg0 [] 63 56 = 1 ∧ (tNvm 1 0).nvm.cmd = none
    ∧ (tNvm 1 0).nvmReason 1 = 0 ∧ allowedIn 3 2 = false ∧ (tNvm 3 2).nvmReason 3 = 8 ∧ (tNvm 9 0).fld .nvmArg0 [] 63 56 = 9
    ∧ (tNvmRun 3).pageErased = true ∧ (tNvmRun 4).regionBytes = none ∧ (tNvmRun 5).verifyStaged = .error 1
    ∧ (tNvmRun 9).nvm.active.recorded = none ∧ (tNvmRun 9).nvmDevice 9 = 1 ∧ (tNvmRun 1).nvmDevice 1 = 0 ∧ (tNvmRun 1).nvm.dumping = []
    ∧ (tNvmRun 1).nvm.badA = false ∧ (tNvmRun 9).nvm.badB = false
    ∧ (({ tNvmRun 9 with nvm := { (tNvmRun 9).nvm with badB := true, dumping := [5] } } : State)).nvmDevice 9 = 1 := by decide +kernel

theorem test_erase_in_wrong_state : (tAfter .eraseStaging (tNvm 2 4)).map (fun t => (t.nvm.reason, t.nvm.doneSeq)) = some (8, 1) := by decide +kernel

/-- A live activation at ACT_AT 0 with the staging partition erased; one that awaits the new Temond's check-in; one whose slot 2 is paused. -/
def tAct : State := { tReady with nvm := { stg := 4, actAt := some 0 } }

def tLive (checked : Bool) (slots : List Nat) : State :=
  { tReady with nvm := { stg := 4, run := some {}, live := some ⟨{}, checked, slots, 10000000000⟩ } }

theorem witness_LiveActivationAndCrashDumps : tAct.nvm.actAt = some 0 ∧ 0 ≤ tAct.now ∧ tAct.quietNow = true ∧ tAct.isReady = true
    ∧ tAct.partImage tAct.nvm.staging = .error 1 ∧ (tLive false []).svc.held = [] ∧ pausing {} {} = []
    ∧ pausing {} { entries := [⟨keyBytes (svcKeys.getD 0 ""), 0, false, [1]⟩] } = [0, 1]
    ∧ (tLive true [2]).nvm.live = some ⟨{}, true, [2], 10000000000⟩ ∧ tReady.nvm.copying = false
    ∧ ({ tReady with nvm := { dumping := [5] } } : State).nvm.dumping = [5] := by decide +kernel

theorem test_crash_dump : (tAfter .crashDumpDone { tOn with nvm := { dumping := [5] } }).map
    (fun t => (t.nvm.dumping, (t.nvm.dumps.find? 0).map (·.dseq))) = some ([], some 1) := by decide +kernel

/-! ### Signed images

The keys and signatures were made by hand from FIPS 186-5: for the Eudel image r = s = z, so that the point R is the sum of the base point and the
key. What Knagen's own sections hold the spec does not give (log entries 53 and 63), so the checks on them are premises. -/

/-- An Eudel image of one entry, `firmware.temond`, up to its signature block. -/
def tEudelHead : List Byte :=
  natBytes 4 0x4555444C ++ [0, 1, 1, 0] ++ natBytes 8 304 ++ natBytes 4 1 ++ List.replicate 44 0
    ++ natBytes 2 15 ++ [0, 0] ++ natBytes 4 1 ++ keyBytes "firmware.temond" ++ [0, 1, 0, 0, 0, 0, 0, 0, 0]

/-- The signer's public key. -/
def tSigner : List Byte :=
  4 :: natBytes 48 0xd1e1a457a3603d65dcaa6326b0577a0dc48e04c91edf74c22a5fcde33a48b5ef9cbd133c21ec8d66ab94b804f90b8db5
    ++ natBytes 48 0xb476536b9cb2dcfdd5a1a4d5e4d8a47e8a1a64753f5e17c72674f822f36f6d965976edc53b8e19a7675f8ce99836f7b3

/-- Both halves of the signature, the hash of the image's bytes. -/
def tSignature : List Byte := natBytes 48 0x6bb83c00e91ba064eb3ace2b1f332b1fe34d439654467507c31720e8749e01c579c958c19c00f6360f67dc0e0113c78b

def tEudel : List Byte := tEudelHead ++ natBytes 8 1 ++ tSigner ++ List.replicate 7 0 ++ tSignature ++ tSignature

/-- A partition that holds it, with its record. -/
def tFlash : Part := { pages := [(0, tEudel)], record := some ⟨304, sha256 tEudel⟩ }

set_option maxRecDepth 100000 in
theorem test_eudel_signature : eudelSigned tEudel = some tSigner := by decide +kernel

set_option maxRecDepth 100000 in
theorem test_flash_record : tFlash.recorded = some tEudel := by decide +kernel

/-- The entries of the image, and its compatibility level against the device's. -/
theorem test_eudel_entries : eudelEntries tEudel = some [⟨keyBytes "firmware.temond", 0, false, [1]⟩] ∧ tRom.compat = 1
    ∧ at_ tEudel 6 1 = 1 ∧ tRom.nvm.owners = [] := by decide +kernel

/-- A partition whose image is valid, for the clauses of StartSequence, NvmCommands and LiveActivationAndCrashDumps on one. -/
theorem witness_ValidImage (h : Config.temondOk [1] 1 = true) : ∃ e, tRom.partImage tFlash = .ok e := by
  have hf : ∀ (c q : Nat) (k : List Byte) (o : Option (List Byte)),
      (⟨c, q, [⟨keyBytes "firmware.temond", 0, false, [1]⟩], k, o⟩ : Eudel).find "firmware.temond" = some [1] := by
    intro c q k o
    simp [Eudel.find]
  have hk : tRom.keyAccepted tSigner = true := by simp [State.keyAccepted, test_eudel_entries.2.2.2]
  refine ⟨⟨1, at_ tEudel 24 8, [⟨keyBytes "firmware.temond", 0, false, [1]⟩], sha256 (tEudel.take (at_ tEudel 8 8 - 208)),
    if Config.romKeys.contains tSigner then none else some tSigner⟩, ?_⟩
  simp only [State.partImage, test_flash_record, State.checkImage, test_eudel_entries.1, test_eudel_signature, test_eudel_entries.2.1,
    test_eudel_entries.2.2.1, hf, hk, h]
  simp

/-- A user image of one bundle, signed. -/
def tBox : List Byte :=
  natBytes 4 0x5A46494D ++ [0, 1, 1, 1] ++ natBytes 4 9 ++ natBytes 4 1 ++ natBytes 4 0 ++ natBytes 4 2 ++ natBytes 8 424
    ++ natBytes 8 0x8c2eb3e0b8d6cc2a ++ List.replicate 88 0
    ++ natBytes 4 1 ++ natBytes 4 0 ++ natBytes 4 192 ++ natBytes 4 64 ++ natBytes 4 2 ++ natBytes 4 0 ++ natBytes 4 256 ++ natBytes 4 64
    ++ List.replicate 32 0 ++ (List.replicate 10 0 ++ natBytes 2 1 ++ List.replicate 16 0 ++ [1] ++ List.replicate 35 0) ++ List.replicate 64 0
    ++ natBytes 8 1 ++ natBytes 48 g384.1
    ++ natBytes 48 0x9c5dcdf7be549fa356235534a62390773c3edd5efed3d448a4bc8ca3021a78bea8382190823f297c501abe1ddb7bbf54

/-- The key of its signature: the base point, whose private key is 1. -/
def tBoxKey : List Byte := 4 :: natBytes 48 g384.1 ++ natBytes 48 g384.2

/-- The image it holds. -/
def tBoxImage : Image := { user := true, imageId := 9, imageVer := 1, uops := 1, streams := [0, 0, 0, 0], logical := tBox.take 320 }

/-- The LOAD of that container from region 1 into slot 4, with tokens. -/
def tLoadBox : State :=
  ({ tLoad with mem := Memory.write [] 0 tBox, cfg := { tLoad.cfg with userKeys := [(tBoxKey, 0)] } } : State).setReg .pwrTokens [] (5000 * 2 ^ 48)

theorem test_box_parses : parseImage tBox = some tBoxImage ∧ tBoxImage.hasTiles = true ∧ tLoadBox.containerAt 1 0 0 0 = some tBox
    ∧ compatReason 0 tBox tBoxImage = 3 ∧ tLoadBox.compat = 1 ∧ at_ tBox 6 1 = 1 ∧ tLoadBox.tilesOk tBoxImage ⟨4, 0, 0, 0, 1, 1, 0⟩ = true
    ∧ (tLoadBox.islot 4).state = .empty ∧ tLoadBox.accShare = 0 ∧ tLoadBox.regionsOk tBoxImage 0 = true
    ∧ tLoadBox.meshOk tBoxImage ⟨4, 0, 0, 0, 1, 1, 0⟩ = true ∧ tLoadBox.streamsOk tBoxImage = true
    ∧ tLoadBox.tokensShort (tLoadBox.imageCost tBoxImage ⟨4, 0, 0, 0, 1, 1, 0⟩) = false
    ∧ tLoadBox.tilesOk tBoxImage ⟨4, 0, 0, 0, 0, 1, 0⟩ = false := by decide +kernel

/-- A container that every check passes, where its programs do, and the tiles fail in a rectangle of no width. Its signature verifies, which is a premise because the kernel takes minutes over it. -/
theorem witness_ContainerPasses (hp : Config.imageProgramsOk tBox = true) (hs : containerSigned tBox tBoxKey = true) :
    tLoadBox.loadReason tBox ⟨4, 0, 0, 0, 1, 1, 0⟩ = 0 ∧ tLoadBox.loadReason tBox ⟨4, 0, 0, 0, 0, 1, 0⟩ = 6 := by
  obtain ⟨h1, -, -, -, h2, h3, h4, h5, -, h7, h8, h9, h10, h11⟩ := test_box_parses
  have hu : tBoxImage.user = true := rfl
  have hg : tLoadBox.imageSigned true 0 tBox = true := by
    have hc : tLoadBox.cfg.userKeys = [(tBoxKey, 0)] := rfl
    simp [State.imageSigned, hc, hs]
  have h6 : tLoadBox.sramOk tBoxImage tBoxImage.logical = true := by simp [State.sramOk, State.hostSlot, tBoxImage]
  have hx : tBoxImage.extends_ = 0 := rfl
  have hn : tBoxImage.uops = 1 := rfl
  simp [State.loadReason, h1, hu, hg, h2, compatReason, h3, hn, hp, State.placeReason, h5, hx, h4, h6, h7, h8, h9, h10, h11]

end Sys2Proof.Tests
end

section
/-!
PROOFS. The access codes of Table 0.3, bit by bit (O22).
-/

namespace Sys2Proof

/-! ### Bits of a word -/

/-- What two numbers share and what the first has alone make up the first. -/
theorem Nat.land_add_ldiff (m n : Nat) : Nat.land m n + Nat.ldiff m n = m := by
  change (m &&& n) + Nat.ldiff m n = m
  induction m using Nat.binaryRec generalizing n with
  | zero => simp [Nat.ldiff]
  | bit b m ih =>
    cases n using Nat.bitCasesOn with
    | bit c n =>
      have := ih n
      rw [Nat.land_bit, Nat.ldiff_bit]
      cases b <;> cases c <;> simp [Nat.bit_val] <;> omega

/-- Taking away the bits shared with `n` clears the bits of `n`. -/
theorem Nat.testBit_sub_land (m n i : Nat) : (m - Nat.land m n).testBit i = (m.testBit i && !n.testBit i) := by
  have h : m - Nat.land m n = Nat.ldiff m n := Nat.sub_eq_of_eq_add' (Nat.land_add_ldiff m n).symm
  rw [h, Nat.testBit_ldiff]

/-- A bit of a field cut out of a number. -/
theorem Nat.testBit_field (n lo w j : Nat) : (n / 2 ^ lo % 2 ^ w).testBit j = (decide (j < w) && n.testBit (j + lo)) := by
  rw [Nat.testBit_mod_two_pow, Nat.testBit_div_two_pow]

/-- A bit inside the field written is a bit of the value. -/
theorem Nat.testBit_withField_inside (n v : Nat) {hi lo i : Nat} (hl : lo ≤ i) (hh : i ≤ hi) :
    (Nat.withField n hi lo v).testBit i = v.testBit (i - lo) := by
  have hw : i - lo < hi + 1 - lo := by omega
  rw [Nat.withField_parts, add_comm, Nat.testBit_two_pow_mul_add _ (Nat.mod_lt _ (Nat.two_pow_pos lo)), if_neg (by omega),
    add_comm, Nat.testBit_two_pow_mul_add _ (Nat.mod_lt _ (Nat.two_pow_pos _)), if_pos hw, Nat.testBit_mod_two_pow]
  simp [hw]

/-- A bit outside the field written keeps its value. -/
theorem Nat.testBit_withField_outside (n v : Nat) {hi lo i : Nat} (hf : lo ≤ hi) (h : i < lo ∨ hi < i) :
    (Nat.withField n hi lo v).testBit i = n.testBit i := by
  rw [Nat.withField_parts, add_comm, Nat.testBit_two_pow_mul_add _ (Nat.mod_lt _ (Nat.two_pow_pos lo))]
  rcases h with h | h
  · simp [h, Nat.testBit_mod_two_pow]
  · rw [if_neg (by omega), add_comm, Nat.testBit_two_pow_mul_add _ (Nat.mod_lt _ (Nat.two_pow_pos _)), if_neg (by omega),
      Nat.testBit_div_two_pow, Nat.testBit_div_two_pow]
    congr 1; omega

namespace Machine

/-! ### Access codes -/

/-- What a write leaves in a bit with an access code (Table 0.3), from the bit before and the bit of the value. -/
def Access.bitAfter : Access → Bool → Bool → Bool
  | .rw, _, v => v
  | .rws, _, v => v
  | .w1c, o, v => o && !v
  | .w1s, o, v => o || v
  | .ro, o, _ => o
  | .wo, o, _ => o

/-- Fields are written one after another. -/
theorem applyWrite_cons (f : RegField) (fs : List RegField) (old v : Nat) :
    applyWrite (f :: fs) old v = applyWrite fs (applyWrite [f] old v) v := rfl

/-- A field's write leaves in each of its bits what its access code says. -/
theorem testBit_applyWrite_inside (f : RegField) (old v : Nat) {i : Nat} (hl : f.lo ≤ i) (hh : i ≤ f.hi) :
    (applyWrite [f] old v).testBit i = f.acc.bitAfter (old.testBit i) (v.testBit i) := by
  obtain ⟨hi, lo, acc, reset⟩ := f
  dsimp only at hl hh
  have hw : i - lo < hi + 1 - lo := by omega
  have hb : ∀ n : Nat, (n / 2 ^ lo % 2 ^ (hi + 1 - lo)).testBit (i - lo) = n.testBit i := fun n => by
    rw [Nat.testBit_field, Nat.sub_add_cancel hl, decide_eq_true hw, Bool.true_and]
  cases acc with
  | rw => exact (Nat.testBit_withField_inside _ _ hl hh).trans (hb v)
  | rws => exact (Nat.testBit_withField_inside _ _ hl hh).trans (hb v)
  | w1c =>
    refine (Nat.testBit_withField_inside _ _ hl hh).trans ?_
    rw [Nat.testBit_sub_land, hb, hb]; rfl
  | w1s =>
    refine (Nat.testBit_withField_inside _ _ hl hh).trans ((Nat.testBit_or _ _ _).trans ?_)
    rw [hb, hb]; rfl
  | ro => rfl
  | wo => rfl

/-- A field's write leaves the bits outside the field alone. -/
theorem testBit_applyWrite_outside (f : RegField) (old v : Nat) {i : Nat} (hf : f.lo ≤ f.hi) (h : i < f.lo ∨ f.hi < i) :
    (applyWrite [f] old v).testBit i = old.testBit i := by
  obtain ⟨hi, lo, acc, reset⟩ := f
  cases acc with
  | rw | rws | w1c | w1s => exact Nat.testBit_withField_outside _ _ hf h
  | ro | wo => rfl

/-- Fields as the tables list them: each from its high bit down to its low bit, and one below the other. -/
def fieldsDescend (fs : List RegField) : Prop := fs.Pairwise (fun f g => g.hi < f.lo) ∧ ∀ f ∈ fs, f.lo ≤ f.hi

theorem Reg.fields_descend (r : Reg) : fieldsDescend r.fields := by
  unfold fieldsDescend
  cases r <;> decide

/-- A bit that no field names keeps its value (R10). -/
theorem testBit_applyWrite_reserved (fs : List RegField) (old v : Nat) {i : Nat} (hd : ∀ f ∈ fs, f.lo ≤ f.hi)
    (h : ∀ f ∈ fs, i < f.lo ∨ f.hi < i) : (applyWrite fs old v).testBit i = old.testBit i := by
  induction fs generalizing old with
  | nil => rfl
  | cons f fs ih =>
    rw [List.forall_mem_cons] at hd h
    rw [applyWrite_cons, ih _ hd.2 h.2, testBit_applyWrite_outside f old v hd.1 h.1]

/-- A bit of a field follows the field's access code, whatever the other fields are. -/
theorem testBit_applyWrite_field (fs : List RegField) (old v : Nat) {f : RegField} {i : Nat} (hd : fieldsDescend fs)
    (hf : f ∈ fs) (hl : f.lo ≤ i) (hh : i ≤ f.hi) :
    (applyWrite fs old v).testBit i = f.acc.bitAfter (old.testBit i) (v.testBit i) := by
  obtain ⟨hp, hw⟩ := hd
  induction fs generalizing old with
  | nil => cases hf
  | cons g fs ih =>
    obtain ⟨hg, hps⟩ := List.pairwise_cons.mp hp
    obtain ⟨hwg, hws⟩ := List.forall_mem_cons.mp hw
    rw [applyWrite_cons]
    rcases List.mem_cons.mp hf with rfl | hfs
    · rw [testBit_applyWrite_reserved fs _ v hws fun k hk => .inr ((hg k hk).trans_le hl), testBit_applyWrite_inside f old v hl hh]
    · rw [ih _ hfs hps hws, testBit_applyWrite_outside g old v hwg (.inl (hh.trans_lt (hg f hfs)))]

end Machine
end Sys2Proof

open Sys2Proof Sys2Proof.Machine

/-- Settles O22: the fields of a register lie apart, so each bit is decided by the one field it lies in, or by none. -/
theorem accessCodesGovernEveryBit : Obligations.AccessCodesGovernEveryBit := by
  intro r old v i
  obtain ⟨hp, hw⟩ := r.fields_descend
  refine ⟨fun f hf hl hh => ?_, testBit_applyWrite_reserved _ _ _ hw⟩
  rw [testBit_applyWrite_field _ _ _ ⟨hp, hw⟩ hf hl hh]
  cases f.acc <;> rfl
end

section
/-!
PROOFS. Addresses and what lies at them (O19), and writes of registers without a trigger (O21).
-/

namespace Sys2Proof.Machine

/-! ### Addresses -/

/-- How far a copy of a register lies from its first (Tables 23.1 to 23.5). -/
def offsetOf (ds : List (Nat × Nat)) (is : List Nat) : Nat := ((ds.zip is).map fun p => p.1.1 * p.2).sum

/-- Indices that name a copy of a register: one for each repetition, each within its count. -/
def IndicesOk (ds : List (Nat × Nat)) (is : List Nat) : Prop := is.length = ds.length ∧ ∀ d ∈ ds.zip is, d.2 < d.1.2

theorem offsetOf_cons (d : Nat × Nat) (ds : List (Nat × Nat)) (i : Nat) (is : List Nat) :
    offsetOf (d :: ds) (i :: is) = d.1 * i + offsetOf ds is := rfl

theorem Reg.addr_offsetOf (r : Reg) (is : List Nat) : r.addr is = r.place.base + offsetOf r.place.dims is := rfl

/-- The indices found for an offset are in range and add up to it. -/
theorem placeIndex_some {ds : List (Nat × Nat)} {off : Nat} {is : List Nat} (h : placeIndex ds off = some is) :
    offsetOf ds is = off ∧ IndicesOk ds is := by
  induction ds generalizing off is with
  | nil =>
    simp only [placeIndex, Option.ite_none_right_eq_some, Option.some.injEq] at h
    obtain ⟨rfl, rfl⟩ := h
    exact ⟨rfl, rfl, by simp⟩
  | cons d ds ih =>
    obtain ⟨stride, count⟩ := d
    simp only [placeIndex] at h
    split at h
    · next hc =>
      split at h
      · next js hj =>
        obtain rfl : off / stride :: js = is := Option.some.inj h
        obtain ⟨hoff, hlen, hlt⟩ := ih hj
        refine ⟨?_, ?_, ?_⟩
        · rw [offsetOf_cons, hoff, Nat.div_add_mod]
        · simp [hlen]
        · simpa using ⟨hc, fun a b c hm => hlt ((a, b), c) hm⟩
      · cases h
    · cases h

/-- What an address names lies there, with its indices in range. -/
theorem locate_some {a : Nat} {r : Reg} {is : List Nat} (h : locate a = some (r, is)) :
    r.addr is = a ∧ IndicesOk r.place.dims is := by
  obtain ⟨q, -, hq⟩ := List.exists_of_findSome?_eq_some h
  obtain ⟨js, hj, he⟩ := Option.map_eq_some_iff.mp hq
  obtain ⟨rfl, rfl⟩ := Prod.mk.inj he
  unfold Reg.indexAt at hj
  split at hj
  · cases hj
  · next hb =>
    obtain ⟨hoff, hok⟩ := placeIndex_some hj
    exact ⟨by rw [Reg.addr_offsetOf, hoff]; omega, hok⟩

/-- Strides that are multiples of 8 place every copy at a multiple of 8 from the first. -/
theorem offsetOf_mod_eight (ds : List (Nat × Nat)) (is : List Nat) (h : ∀ d ∈ ds, d.1 % 8 = 0) : offsetOf ds is % 8 = 0 := by
  induction ds generalizing is with
  | nil => rfl
  | cons d ds ih =>
    obtain ⟨hd, hds⟩ := List.forall_mem_cons.mp h
    cases is with
    | nil => rfl
    | cons i is => rw [offsetOf_cons, Nat.add_mod, Nat.mul_mod, hd, ih is hds, Nat.zero_mul]

/-- A copy lies within the room of its register's repetitions. -/
theorem offsetOf_le {ds : List (Nat × Nat)} {is : List Nat} (h : IndicesOk ds is) :
    offsetOf ds is ≤ (ds.map fun d => d.1 * d.2).sum := by
  induction ds generalizing is with
  | nil => exact Nat.le_refl 0
  | cons d ds ih =>
    cases is with
    | nil => exact Nat.zero_le _
    | cons i is =>
      obtain ⟨hlen, hlt⟩ := h
      obtain ⟨hi, his⟩ := List.forall_mem_cons.mp hlt
      exact Nat.add_le_add (Nat.mul_le_mul_left _ hi.le) (ih ⟨Nat.succ.inj hlen, his⟩)

/-- Every register starts at a multiple of 8 and repeats at multiples of 8 (R9). -/
theorem Reg.place_aligned (r : Reg) : r.place.base % 8 = 0 ∧ ∀ d ∈ r.place.dims, d.1 % 8 = 0 := by
  cases r <;> decide

/-- Every register's repetitions end below the top of the register space (R518). -/
theorem Reg.place_below (r : Reg) : r.place.base + (r.place.dims.map fun d => d.1 * d.2).sum < 0x10000000 := by
  cases r <;> decide

theorem Reg.addr_aligned (r : Reg) (is : List Nat) : r.addr is % 8 = 0 := by
  obtain ⟨hb, hd⟩ := r.place_aligned
  rw [Reg.addr_offsetOf, Nat.add_mod, hb, offsetOf_mod_eight _ is hd]

theorem Reg.addr_below {r : Reg} {is : List Nat} (h : IndicesOk r.place.dims is) : r.addr is < 0x10000000 := by
  have := r.place_below
  have := offsetOf_le h
  rw [Reg.addr_offsetOf]
  omega

/-! ### Writes of registers without a trigger -/

/-- The registers whose write triggers nothing. -/
def plainRegs : List Reg :=
  [.timCfg, .pwrCap, .pwrClkLimit, .pwrScrubCfg, .pwrClass, .fltReact, .fltWdgCfg, .nvmArg0, .nvmArg1, .nvmArg2, .nvmBuf, .hubBufHdrm,
    .hubBufCtl, .imgArg0, .imgArg1, .imgArg2, .imgArg3, .poolArg0, .poolArg1, .poolRacewin, .fwdSwapAt, .fwdTblAddr, .fwdTblData,
    .fwdHashCfg, .fwdAdaptCfg, .schWeight, .schJob, .polCtxSel, .sampleCfg, .mirSel]

/-- A register that answers belongs to a device whose always-on islands run (R520). -/
theorem State.islandsUp_of_regAnswers {s : State} {r : Reg} {is : List Nat} (h : s.regAnswers r is = true) : s.islandsUp = true := by
  simp only [State.regAnswers, Bool.and_eq_true] at h
  exact h.1.1.1.1

/-- Both halves of the register space store a register without a trigger. -/
theorem State.writeBlock_plain (s : State) {r : Reg} (is : List Nat) (v : Nat) (h : r ∈ plainRegs) :
    s.writeOn r is v = s.storeReg r is v ∧ s.writeMain r is v = s.storeReg r is v := by
  unfold plainRegs at h
  fin_cases h <;> exact ⟨rfl, rfl⟩

theorem State.writeReg_plain {s : State} {r : Reg} {is : List Nat} (v : Nat) (h : r ∈ plainRegs) (ha : s.regAnswers r is = true) :
    s.writeReg r is v = s.storeReg r is v := by
  obtain ⟨hon, hmain⟩ := s.writeBlock_plain is v h
  rw [State.writeReg, if_pos ha, hon, hmain, ite_self]

/-- An aligned access of 64 bits writes the register its address names. -/
theorem State.busWriteAt_locate (s : State) {r : Reg} {is : List Nat} (v : Nat) (hl : locate (r.addr is) = some (r, is)) :
    s.busWriteAt (r.addr is) 8 v = s.writeReg r is v := by
  simp [State.busWriteAt, accessOk, Reg.addr_aligned, State.writeAddr, hl]

/-- A command of the always-on islands that stores a register and changes no HBM answers that state. -/
theorem commitMem_ifIslands_setReg {s : State} {f : State → State} {r : Reg} {is : List Nat} {v : Nat} (hup : s.islandsUp = true)
    (h : f s.fresh = s.fresh.setReg r is v) : (commitMem s fun t => t.ifIslands f) = .next (s.setReg r is v) :=
  commitMem_of ((State.ifIslands_up s.fresh f hup).trans h)

end Sys2Proof.Machine

open Sys2Proof Sys2Proof.Machine

/-- Settles O19: the indices found for an offset add up to it, and every base and stride of the register map is a multiple of 8 below the top. -/
theorem addressesNameWhatLiesThere : Obligations.AddressesNameWhatLiesThere := by
  refine ⟨fun a r is h => ?_, fun a ha => ?_⟩
  · obtain ⟨rfl, hok⟩ := locate_some h
    exact ⟨rfl, r.addr_aligned is, hok⟩
  · refine Option.eq_none_iff_forall_ne_some.mpr fun ⟨r, is⟩ h => ?_
    obtain ⟨rfl, hok⟩ := locate_some h
    exact absurd (Reg.addr_below hok) ha.not_gt

/-- Settles O21: PCIe and I3C reach the same write of the register the address names, and that write triggers nothing. -/
theorem plainRegistersAreStored : Obligations.PlainRegistersAreStored := by
  intro s r is v hr hl ha
  have hup : s.islandsUp = true := State.islandsUp_of_regAnswers ha
  have hw : s.fresh.busWriteAt (r.addr is) 8 v.toNat = s.fresh.setReg r is (applyWrite r.fields (s.reg r is) v.toNat) :=
    (s.fresh.busWriteAt_locate _ hl).trans (State.writeReg_plain _ hr ha)
  refine ⟨commitMem_ifIslands_setReg hup hw, fun bs hlen hop haddr _ hval => commitMem_ifIslands_setReg hup ?_⟩
  rw [bodyI3cWrite, if_pos ⟨hlen, hop⟩, haddr, hval, hw]
end

section
/-!
PROOFS. Frames of the operations that commands share.
-/

namespace Sys2Proof.Machine

/-- A fold keeps what each of its steps keeps. -/
theorem foldl_keeps {α β γ : Type} (g : α → γ) (f : α → β → α) (h : ∀ a b, g (f a b) = g a) (l : List β) (a : α) :
    g (l.foldl f a) = g a := by
  induction l generalizing a with
  | nil => rfl
  | cons b l ih => exact (ih (f a b)).trans (h a b)

/-- A command of the datapath outside the safe state answers what its body makes of the state. -/
theorem commit_unlessSafe {s t : State} {f : State → State} (hs : s.flt.safe = false) (h : f s = t) :
    commit s (s.unlessSafe f) = .next (s.kept t) := commit_of ((s.unlessSafe_runs f hs).trans h)

theorem commitMem_unlessSafe {s t : State} {f : State → State} (hs : s.flt.safe = false) (h : f s.fresh = t) :
    (commitMem s fun u => u.unlessSafe f) = .next (s.keptMem t) :=
  commitMem_of (f := fun u => u.unlessSafe f) ((s.fresh.unlessSafe_runs f hs).trans h)

/-- A detection changes fault collection, or the count of messages lost. -/
theorem State.raise_only (s : State) (die block inst kind sev addr : Nat) :
    let t := s.raise die block inst kind sev addr
    t = { s with regs := t.regs, flt := t.flt } := by
  intro t
  show s.raise die block inst kind sev addr = _
  unfold t State.raise
  dsimp only
  split_ifs <;> rfl

/-- A release changes its pool, or counts and reports its refusal. -/
theorem State.bpmRelease_only (s : State) (p i owner tag : Nat) :
    let t := s.bpmRelease p i owner tag
    t = { s with bpm := t.bpm, regs := t.regs, flt := t.flt } := by
  intro t
  show s.bpmRelease p i owner tag = _
  unfold t State.bpmRelease
  split
  · rfl
  · rw [State.raise_only]
    split <;> dsimp only <;> split_ifs <;> rfl

@[simp] theorem State.bpmRelease_svc (s : State) (p i owner tag : Nat) : (s.bpmRelease p i owner tag).svc = s.svc := by
  rw [State.bpmRelease_only]

@[simp] theorem State.bpmRelease_time (s : State) (p i owner tag : Nat) : (s.bpmRelease p i owner tag).time = s.time := by
  rw [State.bpmRelease_only]

end Sys2Proof.Machine
end

section
/-!
PROOFS. The moves of a context (O28).
-/

namespace Sys2Proof.Machine

/-! ### A context enters QUARANTINE -/

/-- A context as it enters QUARANTINE at a local time: its blocks and its run are gone, its tokens stay (R136). -/
def Ctx.quarantined (c : Ctx) (now : Nat) : Ctx :=
  { c with fix := { c.fix with blocks := [] }, state := .quarantine, steer := .absent, since := now, bound := false, kept := [],
           run := { startAt := c.run.startAt }, opt := {}, rearm := [], holdFrom := none }

/-- Temond's tables as a context enters QUARANTINE: its record, and when it left its generation. -/
theorem State.toQuarantine_svc (s : State) (n : Nat) (c : Ctx) :
    (s.toQuarantine n c).svc
      = { s.svc with leftAt := s.svc.leftAt.set (n * 256 + c.gen) (s.now, s.local), ctxs := s.svc.ctxs.set n (c.quarantined s.local) } := by
  have hsvc := foldl_keeps State.svc (fun (s : State) (b : Nat × Nat) => s.bpmRelease b.1 b.2 n 0) (fun _ _ => by simp) c.fix.blocks s
  have htime := foldl_keeps State.time (fun (s : State) (b : Nat × Nat) => s.bpmRelease b.1 b.2 n 0) (fun _ _ => by simp) c.fix.blocks s
  simp only [State.toQuarantine, State.leaveGen, State.setCtx_svc, State.now, State.local, hsvc, htime, Ctx.quarantined]

/-- The end of a drain leads to QUARANTINE, with an ACK of the TEARDOWN where one is known. -/
theorem bodyContextDrainEnd_drained {s : State} {n : Nat} {c : Ctx} (hc : s.ctx? n = some c) (hst : c.state = .draining)
    (hl : c.lost = false) (hp : s.onPath n = false) :
    bodyContextDrainEnd n s = match c.tear with
      | some (_, p) => (s.toQuarantine n c).originate (s.toQuarantine n c).complexDie (ackOf p (s.toQuarantine n c).keys.svcEp stOK)
      | none => s.toQuarantine n c := by
  rw [bodyContextDrainEnd, hc]
  exact if_pos ⟨hst, hl, hp⟩

theorem bodyContextDrainEnd_svc {s : State} {n : Nat} {c : Ctx} (hc : s.ctx? n = some c) (hst : c.state = .draining)
    (hl : c.lost = false) (hp : s.onPath n = false) : (bodyContextDrainEnd n s).svc = (s.toQuarantine n c).svc := by
  rw [bodyContextDrainEnd_drained hc hst hl hp]
  split
  · exact State.originate_svc _ _ _ _
  · rfl

end Sys2Proof.Machine

open Sys2Proof Sys2Proof.Machine

/-- Settles O28: each move by the branch of its command's body that its hypotheses select. -/
theorem contextsMoveThroughTheirStates : Obligations.ContextsMoveThroughTheirStates := by
  intro s n c hs hc
  refine ⟨fun hst hh => ?_, fun port f p v d hrx hho hn hd hg hst => ?_, fun port p hst hl hp ht => ?_, fun hst hl hp ht => ?_,
    fun hst ha => ?_, fun hk hst ha => ?_⟩
  · refine commit_unlessSafe hs ?_
    rw [bodySetupTablesWritten, hc]
    exact if_pos ⟨hst, hh⟩
  · refine commit_of ?_
    subst hn
    rw [bodyTeardown, hrx]
    simp only [hho, Bool.false_eq_true, if_false, State.judgeTeardown, hd, hg, ne_eq, not_true_eq_false, if_pos hst]
  · have hsvc := (bodyContextDrainEnd_svc hc hst hl hp).trans (s.toQuarantine_svc n c)
    refine ⟨_, c.quarantined s.local, commit_unlessSafe hs rfl, ?_⟩
    simp only [State.kept_svc, State.ctxsBut, State.ctx?, hsvc]
    exact ⟨Tbl.find?_set_same _ _ _, fun m hm => Tbl.find?_set_other _ _ hm, rfl, rfl, rfl, rfl, rfl, Tbl.find?_set_same _ _ _⟩
  · refine commit_unlessSafe hs ((bodyContextDrainEnd_drained hc hst hl hp).trans ?_)
    rw [ht]
  · refine commitMem_unlessSafe hs ?_
    rw [bodyContextQuarantineEnd, show s.fresh.ctx? n = some c from hc]
    exact if_pos ⟨hst, ha⟩
  · refine commit_unlessSafe (t := s.setCtx n _) hs ?_
    rw [bodyGatherContextStart, hc]
    exact if_pos ⟨hk, hst, ha⟩
end

section
/-!
PROOFS. A SETUP is judged and reserves everything in one step (O27).
-/

namespace Sys2Proof.Machine

/-! ### Words that the device writes into a packet -/

/-- A number written in bytes reads back, cut to the bytes it was given. -/
theorem beNat_natBytes (k n : Nat) : beNat (natBytes k n) = n % 256 ^ k := by
  induction k generalizing n with
  | zero => exact (Nat.mod_one n).symm
  | succ k ih =>
    have happ : beNat (natBytes (k + 1) n) = beNat (natBytes k (n / 256)) * 256 + n % 256 := by
      simp [beNat, natBytes]
    rw [happ, ih, pow_succ', Nat.mod_mul]
    ring

theorem Hdr.packet_src (h : Hdr) (bs : List Byte) : (h.packet bs).src = h.src % 2 ^ 20 := by
  simp only [Packet.src, Hdr.packet, Word.field, BitVec.toNat_ofNat]
  omega

theorem natBytes_length (k n : Nat) : (natBytes k n).length = k := by
  induction k generalizing n with
  | zero => rfl
  | succ k ih => simp [natBytes, ih]

/-- Payload word 0 of a packet whose payload is one word. -/
theorem Hdr.packet_word_zero (h : Hdr) (n : Nat) : (h.packet (natBytes 8 n)).word 0 = BitVec.ofNat 64 n := by
  have hlen : (natBytes 8 n).take 8 = natBytes 8 n := List.take_of_length_le (natBytes_length 8 n).le
  show BitVec.ofNat 64 (beNat ((natBytes 8 n).take 8)) = _
  rw [hlen, beNat_natBytes]
  exact BitVec.eq_of_toNat_eq (by simp)

/-! ### What answers and reservations leave in Temond's tables -/

@[simp] theorem State.ackSetup_svc (s : State) (p : Packet) (setupId status ctx gen window retry : Nat) :
    (s.ackSetup p setupId status ctx gen window retry).svc = s.svc := by
  rw [State.ackSetup, State.originate_svc]
  rfl

@[simp] theorem State.refuseSetup_svc (s : State) (m : SetupMsg) (status retry : Nat) : (s.refuseSetup m status retry).svc = s.svc :=
  s.ackSetup_svc _ _ _ _ _ _ _

@[simp] theorem State.asmHdr_svc (s : State) (a : Option Asm) (p : Packet) (part : Nat) : (s.asmHdr a p part).2.svc = s.svc := by
  unfold State.asmHdr
  split
  · rfl
  · split_ifs <;> rfl

@[simp] theorem State.ctxZero_svc (s : State) (n : Nat) : (s.ctxZero n).svc = s.svc :=
  foldl_keeps State.svc _ (by intros; rfl) _ s

@[simp] theorem State.writeRgn_svc (s : State) (r : Nat) (x : Region) (off : Nat) (bs : List Byte) : (s.writeRgn r x off bs).svc = s.svc :=
  foldl_keeps State.svc _ (by intros; rfl) _ s

@[simp] theorem State.takeBlocks_svc (s : State) (n : Nat) (hubs : List Nat) : (s.takeBlocks n hubs).2.svc = s.svc := by
  refine foldl_keeps (fun a : List (Nat × Nat) × State => a.2.svc) _ (fun a h => ?_) hubs ([], s)
  split <;> rfl

/-- A change of a listed context replaces it in the list. -/
theorem State.onCtx_ctxs {s t : State} {n : Nat} {c : Ctx} (h : t.svc.ctxs = s.svc.ctxs.set n c) (f : Ctx → Ctx) :
    (t.onCtx n f).svc.ctxs = s.svc.ctxs.set n (f c) := by
  have hc : t.ctx? n = some c := by rw [State.ctx?, h, Tbl.find?_set_same]
  simp only [State.onCtx, hc, State.setCtx_svc, h, Tbl.set_set]

/-- A reservation lists one context, with the members, the placement and the tokens it was made for (R30, R118, R119). -/
theorem State.reserve_ctxs {s : State} {n : Nat} (hn : s.nextCtx = some n) (m : SetupMsg) (job : Nat) (members : List Nat) (pl : Placed)
    (cost : Nat) :
    ∃ c, (s.reserve m job members pl cost).svc.ctxs = s.svc.ctxs.set n c ∧ c.state = .settingUp
      ∧ c.gen = (s.svc.lastGen.get n 255 + 1) % 256 ∧ c.fix.members = members ∧ c.fix.tiles = pl.tiles ∧ c.fix.w = pl.w
      ∧ c.fix.tokens = cost ∧ c.fix.convener = m.pkt.src := by
  unfold State.reserve
  rw [hn]
  dsimp -zeta only
  extract_lets d chunks gen hubs b t mlist pkt fix held c v u z r sp
  have hz : z.svc.ctxs = s.svc.ctxs.set n c := by
    rw [State.ctxZero_svc, show u.svc.ctxs = t.svc.ctxs.set n c from rfl, show t.svc = s.svc from s.takeBlocks_svc n hubs]
  split_ifs
  · split
    · exact ⟨c, hz, rfl, rfl, rfl, rfl, rfl, rfl, rfl⟩
    · extract_lets hdr z'
      have hz' : z'.svc.ctxs = s.svc.ctxs.set n c := by
        unfold z'
        split_ifs
        · rw [State.writeRgn_svc, hz]
        · exact hz
      clear_value z'
      exact ⟨{ c with optHdr := hdr }, State.onCtx_ctxs hz' _, rfl, rfl, rfl, rfl, rfl, rfl, rfl⟩
  · exact ⟨c, hz, rfl, rfl, rfl, rfl, rfl, rfl, rfl⟩

/-! ### The way of a one-part SETUP -/

/-- The SETUP that one packet carries whole (R89). -/
def Packet.setupMsg (p : Packet) (port now : Nat) : SetupMsg :=
  ⟨port, p, (p.word 0).field 63 56, (p.word 0).field 55 40, 1, (p.payload.drop 8).take 256, entriesOf ((p.payload.drop 8).drop 256), now⟩

theorem State.setupPart_single {v : State} {port : Nat} {p : Packet} (h1 : 1 ≤ (p.word 0).field 63 56) (h3 : (p.word 0).field 63 56 ≤ 3)
    (hpart : (p.word 0).field 39 35 = 0) (hparts : (p.word 0).field 34 30 = 1) (hasm : v.asm? p.src ((p.word 0).field 55 40) = none) :
    v.setupPart port p = v.takeSetup (p.setupMsg port v.local) := by
  have hbad : ¬((p.word 0).field 63 56 = 0 ∨ 4 < (p.word 0).field 63 56 ∨ 1 = 0 ∨ 17 < 1 ∨ 1 ≤ 0) := by omega
  simp only [State.setupPart, hpart, hparts, hasm, if_neg hbad, if_true]
  simp [asmMsg, Packet.setupMsg, Tbl.get, Tbl.find?]

theorem State.takeSetup_judged {v : State} {m : SetupMsg} (hk : m.kind ≤ 3) (hr : v.repeated m = none) (hq : v.svc.deferq = [])
    (hh : v.holdsFor m.kind [0, 1, 2, 3] = false) : v.takeSetup m = v.judgeSetup m := by
  have h4 : m.kind ≠ 4 := by omega
  simp [State.takeSetup, h4, hr, hq, hh]

/-! ### The steps of Table 5.4, by their outcome -/

section
variable {v : State} {m : SetupMsg} {members : List Nat}

theorem State.judgeSetup_quarantined (hp : partsOk m = true) (hq : v.svc.quar.contains (sha256 m.desc) = true) :
    v.judgeSetup m = v.refuseSetup m stQUARANTINED := by
  simp only [State.judgeSetup, hp, hq, Bool.not_true, Bool.false_eq_true, if_false, if_true]

theorem State.judgeSetup_badFields (hp : partsOk m = true) (hq : v.svc.quar.contains (sha256 m.desc) = false) (hf : fieldsOk m = false) :
    v.judgeSetup m = v.refuseSetup m stBADDESC := by
  simp only [State.judgeSetup, hp, hq, hf, Bool.not_true, Bool.not_false, Bool.false_eq_true, if_false, if_true]

theorem State.judgeSetup_badFormats (hp : partsOk m = true) (hq : v.svc.quar.contains (sha256 m.desc) = false) (hf : fieldsOk m = true)
    (hfmt : formatsOk m.kind m.desc = false) : v.judgeSetup m = v.refuseSetup m stUNSUPPORTED_FMT := by
  simp only [State.judgeSetup, hp, hq, hf, hfmt, Bool.not_true, Bool.not_false, Bool.false_eq_true, if_false, if_true]

theorem State.judgeSetup_noMembers {st : Nat} (hp : partsOk m = true) (hq : v.svc.quar.contains (sha256 m.desc) = false)
    (hf : fieldsOk m = true) (hfmt : formatsOk m.kind m.desc = true) (hm : v.membersOf m (v.portJob m.port) = .error st) :
    v.judgeSetup m = v.refuseSetup m st := by
  simp only [State.judgeSetup, hp, hq, hf, hfmt, hm, Bool.not_true, Bool.false_eq_true, if_false]

/-- A setup that meets steps 1 to 5 is refused as steps 6 to 8 say. -/
theorem State.judgeSetup_refused {st : Nat} (hp : partsOk m = true) (hq : v.svc.quar.contains (sha256 m.desc) = false)
    (hf : fieldsOk m = true) (hfmt : formatsOk m.kind m.desc = true) (hm : v.membersOf m (v.portJob m.port) = .ok members)
    (hreg : v.regionCheck m.kind (v.portJob m.port) m.desc = stOK) (ha : v.attempt m (v.portJob m.port) members = .refused st) :
    v.judgeSetup m = v.refuseSetup m st := by
  simp only [State.judgeSetup, hp, hq, hf, hfmt, hm, hreg, ha, Bool.not_true, Bool.false_eq_true, ne_eq, not_true_eq_false, if_false]

theorem State.judgeSetup_admitted {t : State} (hp : partsOk m = true) (hq : v.svc.quar.contains (sha256 m.desc) = false)
    (hf : fieldsOk m = true) (hfmt : formatsOk m.kind m.desc = true) (hm : v.membersOf m (v.portJob m.port) = .ok members)
    (hreg : v.regionCheck m.kind (v.portJob m.port) m.desc = stOK) (ha : v.attempt m (v.portJob m.port) members = .admitted t)
    (hup : v.serviceUp m.kind = true) : v.judgeSetup m = t := by
  simp only [State.judgeSetup, hp, hq, hf, hfmt, hm, hreg, ha, hup, Bool.not_true, Bool.false_eq_true, ne_eq, not_true_eq_false, if_false,
    if_true]

theorem State.attempt_noSpace (job : Nat) (hc : v.capacity m members = none) : v.attempt m job members = .refused stNOSPACE := by
  rw [State.attempt, hc]

theorem State.attempt_admitted {pl : Placed} (job : Nat) (hc : v.capacity m members = some pl)
    (ht : v.tokensShort (v.costOf (classFor m.kind m.desc) pl.tiles.length) = false) :
    v.attempt m job members
      = .admitted (v.reserve m job members pl (v.costOf (classFor m.kind m.desc) pl.tiles.length)) := by
  simp only [State.attempt, hc, ht, Bool.false_eq_true, if_false]

end

/-! ### Setups that wait -/

/-- An assembly that is dropped is found no more. -/
theorem State.asm?_dropAsm (s : State) (src id : Nat) : (s.dropAsm src id).asm? src id = none :=
  List.find?_eq_none.mpr fun a ha => by
    obtain ⟨-, h⟩ := List.mem_filter.mp ha
    simpa only [Bool.not_eq_true', Bool.not_eq_true] using h

/-- What a refused assembly leaves in Temond's tables: everything but the assembly. -/
theorem State.badAsm_svc (s : State) (a : Option Asm) (port : Nat) (p : Packet) (part status : Nat) :
    (s.badAsm a port p part status).svc = (s.dropAsm p.src ((p.word 0).field 55 40)).svc := by
  rw [State.badAsm, State.refuseSetup_svc, State.dropAsm, State.dropAsm, State.asmHdr_svc]

/-- 10 ms after its first part an assembly leaves Temond's tables (R90). -/
theorem bodySetupAssemblyTimeout_svc {s : State} {src id : Nat} {a : Asm} (hsrc : src < 2 ^ 20) (hid : id < 2 ^ 16)
    (ha : s.asm? src id = some a) (hat : a.at_ + 10000000 ≤ s.local) :
    (bodySetupAssemblyTimeout src id s).svc = (s.dropAsm src id).svc := by
  have hword : Word.field (BitVec.ofNat 64 (a.kind * 2 ^ 56 + id * 2 ^ 40)) 55 40 = id := by
    rw [Word.field, BitVec.toNat_ofNat]
    omega
  simp only [bodySetupAssemblyTimeout, ha, if_pos hat, State.badAsm_svc, Hdr.packet_src, Nat.mod_eq_of_lt hsrc, Hdr.packet_word_zero, hword]

/-- A deferred setup whose time has passed leaves the queue (R132). -/
theorem bodyDeferredSetupExpire_svc {s : State} {id : Nat} {q : Deferred} (hq : s.svc.deferq.find? (fun q => q.id == id) = some q)
    (hat : q.msg.at_ + (if q.msg.kind = 3 then s.cfg.jobTimeout else timeoutOf s.cfg.jobTimeout q.msg.desc) * 1000 ≤ s.local) :
    (bodyDeferredSetupExpire id s).svc = (s.dropDeferred q).svc := by
  simp only [bodyDeferredSetupExpire, hq, if_pos hat, State.refuseSetup_svc]

end Sys2Proof.Machine

open Sys2Proof Sys2Proof.Machine

/-- Settles O27: the SETUP comes to the steps of Table 5.4, which end as its checks say; the timeouts drop what waited. -/
theorem setupReservesInOneStep : Obligations.SetupReservesInOneStep := by
  refine ⟨fun s v port f p hrx => ?_, fun s hs => ⟨fun src id a hsrc hid ha hat => ?_, fun id q hq hat => ?_⟩⟩
  · intro kind m h1 h3 hpart hparts hasm hrep hdef hhold
    have hexec : exec (.setup port f) s = .next (s.keptMem (v.judgeSetup m)) := by
      refine commitMem_of ?_
      rw [bodySetup, hrx]
      exact (State.setupPart_single h1 h3 hpart hparts hasm).trans (State.takeSetup_judged h3 hrep hdef hhold)
    rw [hexec]
    refine ⟨fun hp hq => ?_, fun hp hq => ⟨fun hf => ?_, fun hf hfmt => ?_, fun hf hfmt => ⟨fun st hm => ?_, fun ms hm hreg =>
      ⟨fun hcap => ?_, fun pl n hcap hn hup htok => ?_⟩⟩⟩⟩
    · rw [State.judgeSetup_quarantined hp hq]
    · rw [State.judgeSetup_badFields hp hq hf]
    · rw [State.judgeSetup_badFormats hp hq hf hfmt]
    · rw [State.judgeSetup_noMembers hp hq hf hfmt hm]
    · rw [State.judgeSetup_refused hp hq hf hfmt hm hreg (State.attempt_noSpace _ hcap)]
    · rw [State.judgeSetup_admitted hp hq hf hfmt hm hreg (State.attempt_admitted _ hcap htok) hup]
      obtain ⟨c, hctx, hst, hgen, hms, htiles, hw, htokens, hconv⟩ := State.reserve_ctxs hn m (v.portJob port) ms pl _
      refine ⟨_, c, rfl, ?_, hst, hgen, hms, htiles, hw, htokens, hconv, fun k hk => ?_⟩
      · exact (congrArg (Tbl.find? · n) hctx).trans (Tbl.find?_set_same _ _ _)
      · exact (congrArg (Tbl.find? · k) hctx).trans (Tbl.find?_set_other _ _ hk)
  · have hsvc := bodySetupAssemblyTimeout_svc hsrc hid ha hat
    refine ⟨_, commit_unlessSafe hs rfl, ?_, (congrArg Svc.ctxs hsvc :), (congrArg Svc.deferq hsvc :)⟩
    rw [State.asm?, State.kept_svc, hsvc]
    exact s.asm?_dropAsm src id
  · have hsvc := bodyDeferredSetupExpire_svc hq hat
    exact ⟨_, commit_unlessSafe hs rfl, congrArg Svc.deferq hsvc, (congrArg Svc.ctxs hsvc :)⟩
end

section
/-!
PROOFS. Stacks serve, sleep, recalibrate and scrub, and feed stream engines (O42).
-/

namespace Sys2Proof.Machine

/-! ### Recalibration and use of a stack -/

/-- A counter that saturates stays within its width. -/
theorem satAdd_mod (w a b : Nat) : satAdd w a b % 2 ^ w = satAdd w a b := by
  refine Nat.mod_eq_of_lt ((min_le_right _ _).trans_lt ?_)
  exact Nat.sub_lt (Nat.two_pow_pos w) Nat.one_pos

@[simp] theorem State.setStack_setStack (s : State) (k : Nat) (x y : StackSt) : (s.setStack k x).setStack k y = s.setStack k y := by
  simp [State.setStack]

@[simp] theorem State.local_setStack (s : State) (k : Nat) (x : StackSt) : (s.setStack k x).local = s.local := rfl

@[simp] theorem State.stack_bump (s : State) (r : Reg) (is : List Nat) (hi lo n k : Nat) : (s.bump r is hi lo n).stack k = s.stack k := rfl

/-- A recalibration is noted in its stack alone (R426). -/
theorem State.recal_only (s : State) (k : Nat) : s.recal k = s.setStack k ((s.recal k).stack k) := by
  simp [State.recal]

theorem State.recal_stack (s : State) (k : Nat) :
    (s.recal k).stack k = { s.stack k with recalAt := s.local, recalTemp := (s.stackTemp k).getD (s.stack k).recalTemp, dueAt := none,
                                           busyTo := s.local + 2000 } :=
  State.stack_setStack_same _ _ _

/-- A stack recalibrated, and counted in a field of its register. -/
theorem State.recal_bump (s : State) (k hi lo : Nat) :
    let t := (s.recal k).bump .pwrMem [k] hi lo
    (t.stack k).recalAt = s.local ∧ (t.stack k).dueAt = none ∧ (t.stack k).busyTo = s.local + 2000
      ∧ t.fld .pwrMem [k] hi lo = satAdd (hi + 1 - lo) (s.fld .pwrMem [k] hi lo) 1 := by
  intro t
  rw [show t.stack k = _ from s.recal_stack k]
  exact ⟨rfl, rfl, rfl, (State.fld_bump_same _ _ _ _ _ _).trans (satAdd_mod _ _ _)⟩

/-- A stack leaving self-refresh changes, and with it the count of its recalibrations, and nothing else (R414). -/
theorem State.wakeStack_only (s : State) (k : Nat) :
    s.wakeStack k = { s.setStack k ((s.wakeStack k).stack k) with regs := (s.wakeStack k).regs } := by
  unfold State.wakeStack
  dsimp only
  split_ifs
  · rw [State.recal_only]
    simp only [State.setStack_setStack, State.stack_bump, State.stack_setStack_same]
    rfl
  · simp only [State.stack_setStack_same]

theorem State.wakeStack_regsBut (s : State) (k : Nat) : s.regsBut (s.wakeStack k) [Reg.addr .pwrMem [k]] := by
  unfold State.wakeStack
  dsimp only
  split_ifs
  · exact State.regsBut_setReg _ _ _ _
  · exact fun _ _ => rfl

/-- A stack that leaves self-refresh is awake; its arbiter and its idle time are as before. -/
theorem State.wakeStack_stack (s : State) (k : Nat) :
    ((s.wakeStack k).stack k).asleep = false ∧ ((s.wakeStack k).stack k).arb = (s.stack k).arb
      ∧ ((s.wakeStack k).stack k).lastUse = (s.stack k).lastUse := by
  unfold State.wakeStack
  dsimp only
  split_ifs <;> simp [State.recal]

theorem State.wakeStack_awake {s : State} {k : Nat} (h : (s.stack k).asleep = false) :
    s.wakeStack k = s.setStack k { s.stack k with asleep := false } := by
  simp [State.wakeStack, h]

theorem State.useStack_only (s : State) (k : Nat) :
    s.useStack k = { s.setStack k ((s.useStack k).stack k) with regs := (s.useStack k).regs } := by
  refine (State.wakeStack_only _ k).trans ?_
  rw [State.setStack_setStack]
  rfl

theorem State.useStack_regsBut (s : State) (k : Nat) : s.regsBut (s.useStack k) [Reg.addr .pwrMem [k]] :=
  State.wakeStack_regsBut (s.setStack k _) k

/-- A foreground access finds the stack awake and restarts its idle time (R414). -/
theorem State.useStack_stack (s : State) (k : Nat) :
    ((s.useStack k).stack k).asleep = false ∧ ((s.useStack k).stack k).arb = (s.stack k).arb
      ∧ ((s.useStack k).stack k).lastUse = s.local := by
  have h := State.wakeStack_stack (s.setStack k { s.stack k with lastUse := s.local }) k
  simp only [State.stack_setStack_same] at h
  exact h

/-- Foreground work does not depend on what a stack keeps beside the pages it zeroes. -/
theorem State.foreground_setStack {s : State} {k : Nat} {y : StackSt} (h : y.zeroing = (s.stack k).zeroing) :
    (s.setStack k y).foreground k = s.foreground k := by
  simp only [State.foreground, State.stack_setStack_same, h]
  rfl

/-! ### The item a stack serves -/

/-- The item that goes before every other is the one chosen (R352). -/
theorem foldl_before {f : Option Waiting → Waiting → Option Waiting} {l : List Waiting} {b o : Option Waiting} {w : Waiting}
    (ho : l.foldl f b = o) (hf : ∀ v, f none v = some v) (hg : ∀ a v, f (some a) v = if v.before a then some v else some a)
    (hmin : ∀ v ∈ l, v = w ∨ w.before v = true ∧ v.before w = false) (hb : b = some w ∨ w ∈ l ∧ ∀ a ∈ b, w.before a = true) :
    o = some w := by
  induction l generalizing b with
  | nil =>
    obtain rfl | ⟨hw, -⟩ := hb
    · exact ho.symm
    · cases hw
  | cons v l ih =>
    obtain ⟨hv, hl⟩ := List.forall_mem_cons.mp hmin
    refine ih ho hl ?_
    obtain rfl | ⟨hw, ha⟩ := hb
    · left
      rw [hg]
      obtain rfl | ⟨-, hvw⟩ := hv
      · exact ite_self _
      · rw [if_neg (by simp [hvw])]
    · obtain rfl | ⟨hwv, -⟩ := hv
      · left
        cases b with
        | none => exact hf v
        | some a => rw [hg, if_pos (ha a rfl)]
      · right
        have hne : v ≠ w := by
          rintro rfl
          simp [Waiting.before] at hwv
        refine ⟨(List.mem_cons.mp hw).resolve_left hne.symm, ?_⟩
        cases b with
        | none => rw [hf]; exact fun a h => Option.some.inj h ▸ hwv
        | some a =>
          rw [hg]
          split_ifs
          · exact fun a h => Option.some.inj h ▸ hwv
          · exact ha

theorem State.stackOpen_of_up {s : State} {k : Nat} (hup : (s.stack k).up = true) (hbusy : (s.stack k).busyTo ≤ s.local) :
    s.stackOpen k = true := by simp [State.stackOpen, hup, hbusy]

/-- A chosen item is marked served: a pool request, or a line of a gather. -/
def State.markServed (s : State) (w : Waiting) : State :=
  match w.line with
  | none => { s with mp := { s.mp with reqs := s.mp.reqs.map fun q => if q.id == w.id then { q with served := true } else q } }
  | some i =>
    { s with mp := { s.mp with greqs := s.mp.greqs.map fun g =>
        if g.id == w.id then { g with lines := modNth (fun l => { l with served := true }) g.lines i } else g } }

theorem bodyStackServe_first {s : State} {k : Nat} {w : Waiting} (hopen : s.stackOpen k = true) (hw : w ∈ s.waitingOn k)
    (hmin : ∀ v ∈ s.waitingOn k, v = w ∨ w.before v = true ∧ v.before w = false) :
    bodyStackServe k s
      = (((s.setStack k { s.stack k with arb := { (s.stack k).arb with v := w.tagF } }).useStack k).markServed w).rebaseStack k := by
  unfold bodyStackServe
  simp only [hopen, Bool.not_true, Bool.false_eq_true, if_false]
  split
  · next h => cases foldl_before h (fun _ => rfl) (fun _ _ => rfl) hmin (.inr ⟨hw, by simp⟩)
  · next v h =>
    obtain rfl := Option.some.inj (foldl_before h (fun _ => rfl) (fun _ _ => rfl) hmin (.inr ⟨hw, by simp⟩))
    obtain ⟨tag, job, id, line⟩ := v
    cases line <;> rfl

theorem State.rebaseStack_below {s : State} {k : Nat} (h : (s.stack k).arb.v < 2 ^ 62) : s.rebaseStack k = s := if_pos h

theorem State.markServed_only (s : State) (w : Waiting) :
    s.markServed w = { s with mp := { s.mp with reqs := (s.markServed w).mp.reqs, greqs := (s.markServed w).mp.greqs } } := by
  unfold State.markServed
  cases w.line <;> rfl

@[simp] theorem State.markServed_regs (s : State) (w : Waiting) : (s.markServed w).regs = s.regs := by
  rw [State.markServed_only]

@[simp] theorem State.markServed_stack (s : State) (w : Waiting) (k : Nat) : (s.markServed w).stack k = s.stack k := by
  rw [State.markServed_only]; rfl

/-- The pool request chosen is served. -/
theorem State.markServed_req {s : State} {w : Waiting} (hw : w.line = none) {q : PReq} (hq : q ∈ (s.markServed w).mp.reqs)
    (hid : q.id = w.id) : q.served = true := by
  simp only [State.markServed, hw, List.mem_map] at hq
  obtain ⟨r, -, rfl⟩ := hq
  split_ifs at hid ⊢ with h
  · rfl
  · exact absurd (beq_iff_eq.mpr hid) h

/-- Position `i` of a list changed there. -/
theorem getElem?_modNth {α : Type} (f : α → α) (l : List α) (i : Nat) : (modNth f l i)[i]? = l[i]?.map f := by
  induction l generalizing i with
  | nil => rfl
  | cons x l ih =>
    cases i with
    | zero => rfl
    | succ i => exact ih i

/-- The gather line chosen is served. -/
theorem State.markServed_line {s : State} {w : Waiting} {i : Nat} (hw : w.line = some i) {g : GReq} (hg : g ∈ (s.markServed w).mp.greqs)
    (hid : g.id = w.id) {l : GLine} (hl : g.lines[i]? = some l) : l.served = true := by
  simp only [State.markServed, hw, List.mem_map] at hg
  obtain ⟨r, -, rfl⟩ := hg
  split_ifs at hid hl with h
  · obtain ⟨m, -, rfl⟩ := Option.map_eq_some_iff.mp ((getElem?_modNth _ _ _).symm.trans hl)
    rfl
  · exact absurd (beq_iff_eq.mpr hid) h

/-- The stack takes an item: its arbiter's virtual time is the item's tag, and the access is a foreground one (R352, R414). -/
def State.takenFor (s : State) (k : Nat) (w : Waiting) : State :=
  (s.setStack k { s.stack k with arb := { (s.stack k).arb with v := w.tagF } }).useStack k

theorem State.takenFor_only (s : State) (k : Nat) (w : Waiting) :
    s.takenFor k w = { s.setStack k ((s.takenFor k w).stack k) with regs := (s.takenFor k w).regs } := by
  refine (State.useStack_only _ k).trans ?_
  rw [State.setStack_setStack]
  rfl

theorem State.takenFor_regsBut (s : State) (k : Nat) (w : Waiting) : s.regsBut (s.takenFor k w) [Reg.addr .pwrMem [k]] :=
  State.useStack_regsBut (s.setStack k _) k

theorem State.takenFor_stack (s : State) (k : Nat) (w : Waiting) :
    ((s.takenFor k w).stack k).asleep = false ∧ ((s.takenFor k w).stack k).arb.v = w.tagF
      ∧ ((s.takenFor k w).stack k).lastUse = s.local := by
  obtain ⟨hawake, harb, huse⟩ := State.useStack_stack (s.setStack k { s.stack k with arb := { (s.stack k).arb with v := w.tagF } }) k
  rw [State.stack_setStack_same] at harb
  exact ⟨hawake, congrArg Wfq.v harb, huse⟩

/-- With tags below 2^62 the arbiter needs no rebasing: the item that goes first is taken and marked (R352, R496). -/
theorem bodyStackServe_chosen {s : State} {k : Nat} {w : Waiting} (hopen : s.stackOpen k = true) (hw : w ∈ s.waitingOn k)
    (hmin : ∀ v ∈ s.waitingOn k, v = w ∨ w.before v = true ∧ v.before w = false) (htag : w.tagF < 2 ^ 62) :
    bodyStackServe k s = (s.takenFor k w).markServed w := by
  refine (bodyStackServe_first hopen hw hmin).trans (State.rebaseStack_below ?_)
  obtain ⟨-, hv, -⟩ := s.takenFor_stack k w
  rw [State.markServed_stack]
  exact hv.trans_lt htag

/-! ### Self-refresh and recalibration -/

section
variable {s : State} {k : Nat} (hup : (s.stack k).up = true) (hawake : (s.stack k).asleep = false)
include hup hawake

theorem bodyStackSelfRefreshEnter_idle (hidle : (s.stack k).lastUse + 1000000 ≤ s.local) (hfg : s.foreground k = false) :
    bodyStackSelfRefreshEnter k s = s.setStack k { s.stack k with asleep := true } :=
  if_pos (by simp [hup, hawake, hidle, hfg])

/-- A due recalibration is made in a gap, whether or not the stack had been noted as due before (R426). -/
theorem bodyRecalDue_gap (hdue : (s.stack k).dueAt ≠ none ∨ s.fallsDue k = true) (hfg : s.foreground k = false)
    (hgap : (s.stack k).lastUse + 2000 ≤ s.local) :
    ∃ u : State, bodyRecalDue k s = (u.recal k).bump .pwrMem [k] 60 45 ∧ u.time = s.time ∧ u.regs = s.regs := by
  have hd : ((s.stack k).dueAt.isSome || s.fallsDue k) = true := by
    rw [Bool.or_eq_true, Option.isSome_iff_ne_none]
    exact hdue
  unfold bodyRecalDue
  simp only [hup, hd, hawake, Bool.and_self, Bool.not_false, Bool.true_and, if_true]
  split
  · exact ⟨s, if_pos (by simp [hfg, hgap]), rfl, rfl⟩
  · refine ⟨s.setStack k _, if_pos ?_, rfl, rfl⟩
    simp [State.foreground_setStack, hfg, hgap]

theorem bodyRecalForced_late {a : Nat} (hdue : (s.stack k).dueAt = some a) (hlate : a + 10000000 ≤ s.local) :
    bodyRecalForced k s = (s.recal k).bump .pwrMem [k] 44 29 := by
  simp only [bodyRecalForced, hdue, hup, hawake, hlate, Bool.not_false, Bool.and_self, decide_true, if_true]

end

/-! ### Scrubbing -/

@[simp] theorem State.memReport_clean (s : State) (stack a n addr : Nat) : s.memReport stack a n addr .clean = s := ite_self s

/-- A clean line within a pass moves the scrubber on by one (R427). -/
theorem State.scrubLine_clean {s : State} {k : Nat} (h : (s.stack k).scrubPos + 1 < stackLines) :
    s.scrubLine k .clean = s.setStack k { s.stack k with scrubPos := (s.stack k).scrubPos + 1 } := by
  simp only [State.scrubLine, State.memReport_clean, if_neg h.ne]

/-- A burst of one clean line moves the scrubber of a stack that is behind, and awake with no recalibration in the way, on by one line. -/
theorem bodyHbmScrubBurst_clean {s : State} {k : Nat} (hup : (s.stack k).up = true) (hawake : (s.stack k).asleep = false)
    (hdue : (s.stack k).dueAt = none) (hbusy : (s.stack k).busyTo ≤ s.local) (hpos : (s.stack k).scrubPos < s.scrubDue k)
    (hpass : (s.stack k).scrubPos + 1 < stackLines) :
    ∃ c, bodyHbmScrubBurst k [.clean] s
      = s.setStack k { s.stack k with asleep := false, scrubAt := s.local, scrubPos := (s.stack k).scrubPos + 1, catchup := c } := by
  have hbehind : s.scrubDue k - (s.stack k).scrubPos ≠ 0 := by omega
  have htake : [MemResult.clean].take (s.scrubDue k - (s.stack k).scrubPos) = [.clean] := List.take_of_length_le (by simp; omega)
  unfold bodyHbmScrubBurst
  simp only [hup, hawake, beq_false_of_ne hbehind, State.wakeStack_awake hawake, htake, State.stack_setStack_same, State.setStack_setStack,
    State.local_setStack, hdue, hbusy.not_gt, decide_false, Option.isSome_none, Bool.or_self, Bool.not_true, Bool.false_and,
    Bool.false_eq_true, if_false, List.foldl_cons, List.foldl_nil]
  rw [State.scrubLine_clean (by rw [State.stack_setStack_same]; exact hpass)]
  refine ⟨((s.stack k).catchup || s.foreground k) && decide (1 < s.scrubDue k - (s.stack k).scrubPos), ?_⟩
  simp only [State.stack_setStack_same, State.setStack_setStack]
  rfl

/-! ### Stream engines -/

@[simp] theorem State.engine_setEngine_same (s : State) (hub e : Nat) (x : StreamEng) : (s.setEngine hub e x).engine hub e = x := by
  simp [State.engine, State.setEngine]

theorem StreamEng.issue_keeps (f : Nat) (x : StreamEng) : (x.issue f).buf = x.buf ∧ (x.issue f).slot = x.slot := by
  induction f generalizing x with
  | zero => exact ⟨rfl, rfl⟩
  | succ f ih =>
    unfold StreamEng.issue
    split
    · exact ⟨rfl, rfl⟩
    · dsimp only
      split
      · exact ih _
      · split
        · exact ⟨rfl, rfl⟩
        · exact ih _

/-- An engine never asks for more than its buffer has room for (R29). -/
theorem StreamEng.issue_fits (f : Nat) (x : StreamEng) (h : x.level + x.asked ≤ streamBuffer) :
    (x.issue f).level + (x.issue f).asked ≤ streamBuffer := by
  induction f generalizing x with
  | zero => exact h
  | succ f ih =>
    unfold StreamEng.issue
    split
    · exact h
    · dsimp only
      split
      · exact ih _ h
      split
      · exact h
      · next hfull =>
        refine ih _ ?_
        simp only [StreamEng.level, StreamEng.asked, List.map_append, List.sum_append, List.map_cons, List.map_nil, List.sum_singleton] at hfull ⊢
        omega

theorem State.streamIssue_only (s : State) (hub e : Nat) : s.streamIssue hub e = { s with fab := (s.streamIssue hub e).fab } := by
  unfold State.streamIssue
  dsimp only
  split_ifs <;> rfl

/-- An engine whose partition runs issues reads; another engine waits. -/
theorem State.streamIssue_engine (s : State) (hub e : Nat) :
    ∃ f, (s.streamIssue hub e).engine hub e = (s.engine hub e).issue f ∧ (s.engineRuns (s.engine hub e) = false → f = 0) := by
  unfold State.streamIssue
  dsimp only
  split_ifs with h
  · exact ⟨_, s.engine_setEngine_same _ _ _, fun h' => absurd h (by simp [h'])⟩
  · exact ⟨0, rfl, fun _ => rfl⟩

theorem pageCuts_zero (k off : Nat) : pageCuts k off 0 = [] := by cases k <;> rfl

/-! ### Reads of a region -/

/-- The pieces of a span make it up. -/
theorem pageCuts_sum (k off len : Nat) (h : off % pageBytes + len ≤ k * pageBytes) : ((pageCuts k off len).map Prod.snd).sum = len := by
  have hm := Nat.mod_lt off (show 0 < pageBytes by decide)
  induction k generalizing off len with
  | zero =>
    obtain rfl : len = 0 := by omega
    rfl
  | succ k ih =>
    unfold pageCuts
    split_ifs with hl
    · exact hl.symm
    rw [List.map_cons, List.sum_cons]
    rcases le_or_gt len (pageBytes - off % pageBytes) with hle | hgt
    · simp [min_eq_left hle, pageCuts_zero]
    · have hnext : (off + (pageBytes - off % pageBytes)) % pageBytes = 0 := by
        rw [← Nat.mod_add_mod, Nat.add_sub_cancel' hm.le, Nat.mod_self]
      have hrest : (off + (pageBytes - off % pageBytes)) % pageBytes + (len - (pageBytes - off % pageBytes)) ≤ k * pageBytes := by
        rw [Nat.succ_mul] at h
        omega
      simp only [min_eq_right hgt.le, ih _ _ hrest (by omega)]
      omega

theorem Memory.length_read (m : Memory) (a n : Nat) : (m.read a n).length = n := by simp [Memory.read]

/-- A read of a region brings the bytes asked for. -/
theorem State.readRgn_length (s : State) (r : Nat) (x : Region) (off len : Nat) : (s.readRgn r x off len).length = len := by
  have hP : 0 < pageBytes := by decide
  have hfuel : off % pageBytes + len ≤ (len / pageBytes + 2) * pageBytes := by
    have := Nat.mod_lt off hP
    have := Nat.div_add_mod len pageBytes
    have := Nat.mod_lt len hP
    nlinarith
  rw [State.readRgn, List.length_flatMap]
  simp only [Memory.length_read]
  exact pageCuts_sum _ _ _ hfuel

/-- A foreground access leaves what a region holds. -/
theorem State.readRgn_useStack (s : State) (k r : Nat) (x : Region) (off len : Nat) : (s.useStack k).readRgn r x off len = s.readRgn r x off len := by
  rw [State.useStack_only]
  rfl

@[simp] theorem State.useStack_fab (s : State) (k : Nat) : (s.useStack k).fab = s.fab := by
  rw [State.useStack_only]
  rfl

/-! ### Reads that return to an engine -/

/-- An engine to which the oldest of its reads returned. -/
def StreamEng.returned (x : StreamEng) (rest : List (Nat × Nat × Nat)) (bs : List Byte) : StreamEng :=
  { x with out := rest, buf := x.buf ++ bs }

/-- Bytes that return come out of what the engine had asked for. -/
theorem StreamEng.returned_fits {x : StreamEng} {r off n : Nat} {rest : List (Nat × Nat × Nat)} {bs : List Byte}
    (hout : x.out = (r, off, n) :: rest) (hbs : bs.length = n) (h : x.level + x.asked ≤ streamBuffer) :
    (x.returned rest bs).level + (x.returned rest bs).asked ≤ streamBuffer := by
  simp only [StreamEng.level, StreamEng.asked, StreamEng.returned, hout, List.map_cons, List.sum_cons, List.length_append, hbs] at h ⊢
  omega

section
variable {s : State} {h e r off n : Nat} {rest : List (Nat × Nat × Nat)} {y : Region} (hh : h < 4) (he : e < 128)
  (hout : (s.engine h e).out = (r, off, n) :: rest) (hy : s.region? r = some y)
include hh he hout hy

theorem bodyStreamReadComplete_waits (m : MemResult) (hc : s.stackOpen (y.stackOf r (off / pageBytes)) = false) :
    bodyStreamReadComplete h e m s = s := by
  have hno : ¬(4 ≤ h ∨ 128 ≤ e) := by omega
  simp only [bodyStreamReadComplete, if_neg hno, hout, hy, hc, Bool.not_false, if_true]

theorem bodyStreamReadComplete_clean (hc : s.stackOpen (y.stackOf r (off / pageBytes)) = true) :
    bodyStreamReadComplete h e .clean s
      = ((s.useStack (y.stackOf r (off / pageBytes))).setEngine h e
          ((s.engine h e).returned rest (s.readRgn r y off n))).streamIssue h e := by
  have hno : ¬(4 ≤ h ∨ 128 ≤ e) := by omega
  simp only [bodyStreamReadComplete, if_neg hno, hout, hy, hc, Bool.not_true, Bool.false_eq_true, if_false, State.memReport_clean,
    State.readRgn_useStack]
  rfl

/-- The engine holds the bytes that came, and where its partition runs it has issued further reads. -/
theorem bodyStreamReadComplete_engine (hc : s.stackOpen (y.stackOf r (off / pageBytes)) = true) :
    ∃ f, (bodyStreamReadComplete h e .clean s).engine h e = ((s.engine h e).returned rest (s.readRgn r y off n)).issue f
      ∧ (s.engineRuns (s.engine h e) = false → f = 0) := by
  rw [bodyStreamReadComplete_clean hh he hout hy hc]
  have hissue := State.streamIssue_engine
    ((s.useStack (y.stackOf r (off / pageBytes))).setEngine h e ((s.engine h e).returned rest (s.readRgn r y off n))) h e
  simpa only [State.engine_setEngine_same, State.engineRuns, State.setEngine_fab, State.useStack_fab, StreamEng.returned] using hissue

theorem bodyStreamReadComplete_only (hc : s.stackOpen (y.stackOf r (off / pageBytes)) = true) :
    bodyStreamReadComplete h e .clean s
      = { s with fab := (bodyStreamReadComplete h e .clean s).fab, mp := (bodyStreamReadComplete h e .clean s).mp
                 regs := (bodyStreamReadComplete h e .clean s).regs } := by
  rw [bodyStreamReadComplete_clean hh he hout hy hc, State.streamIssue_only, State.useStack_only]
  rfl

end

end Sys2Proof.Machine

open Sys2Proof Sys2Proof.Machine

/-- Settles O42: each command's body under its guards, on the stack or the engine it names. -/
theorem stacksServeAndKeepThemselves : Obligations.StacksServeAndKeepThemselves := by
  intro s k hs x
  refine ⟨fun w hup hbusy hw hmin htag => ?_, fun hup hawake hidle hfg => ?_, fun hup hawake hdue hfg hgap => ?_,
    fun a hup hawake hdue hlate => ?_, fun hup hawake hdue hbusy hpos hpass => ?_, fun h e m r off n rest y hh he hout hy => ?_⟩
  · have hopen : s.stackOpen k = true := State.stackOpen_of_up hup hbusy
    obtain ⟨hawake, hv, huse⟩ := s.takenFor_stack k w
    refine ⟨_, commit_unlessSafe hs (bodyStackServe_chosen hopen hw hmin htag), ?_, ?_, ?_, ?_, ?_,
      fun hl q hq hid => State.markServed_req hl hq hid, fun i hl g hg hid l hget => State.markServed_line hl hg hid hget⟩
    · rw [State.markServed_only, State.takenFor_only]
      rfl
    · exact fun a ha => (congrArg (Tbl.find? · a) (State.markServed_regs _ _)).trans (s.takenFor_regsBut k w a ha)
    · exact (congrArg (fun x => x.arb.v) (State.markServed_stack _ _ _)).trans hv
    · exact (congrArg StackSt.lastUse (State.markServed_stack _ _ _)).trans huse
    · exact (congrArg StackSt.asleep (State.markServed_stack _ _ _)).trans hawake
  · exact commit_unlessSafe hs (t := s.setStack k _) (bodyStackSelfRefreshEnter_idle hup hawake hidle hfg)
  · obtain ⟨u, hu, htime, hregs⟩ := bodyRecalDue_gap hup hawake hdue hfg hgap
    refine ⟨_, commit_unlessSafe hs hu, ?_⟩
    have hlocal : u.local = s.local := congrArg TimeSt.localNs htime
    have hfld : u.fld .pwrMem [k] 60 45 = s.fld .pwrMem [k] 60 45 := by simp only [State.fld, State.reg, hregs]
    rw [← hlocal, ← hfld]
    exact u.recal_bump k 60 45
  · exact ⟨_, commit_unlessSafe hs (bodyRecalForced_late hup hawake hdue hlate), s.recal_bump k 44 29⟩
  · obtain ⟨c, hc⟩ := bodyHbmScrubBurst_clean hup hawake hdue hbusy hpos hpass
    refine ⟨_, commit_unlessSafe hs hc, ?_⟩
    exact ⟨congrArg StackSt.scrubPos (s.stack_setStack_same k _), congrArg StackSt.scrubAt (s.stack_setStack_same k _), rfl⟩
  · refine ⟨fun hc => commit_unlessSafe hs (bodyStreamReadComplete_waits hh he hout hy m hc), fun hc => ?_⟩
    obtain ⟨f, hf, hidle⟩ := bodyStreamReadComplete_engine hh he hout hy hc
    refine ⟨_, commit_unlessSafe hs rfl, ?_, ?_, ?_, ?_, ?_⟩
    · exact congrArg s.kept (bodyStreamReadComplete_only hh he hout hy hc)
    · exact (congrArg StreamEng.buf hf).trans (StreamEng.issue_keeps f _).1
    · exact (congrArg StreamEng.slot hf).trans (StreamEng.issue_keeps f _).2
    · intro hstop
      obtain rfl := hidle hstop
      exact ⟨congrArg StreamEng.out hf, (congrArg StreamEng.list hf :)⟩
    · intro hfit
      have := StreamEng.issue_fits f _ (StreamEng.returned_fits hout (s.readRgn_length r y off n) hfit)
      rwa [← hf] at this
end

section
/-!
PROOFS. What the later steps of a start leave alone: flash, time, the word of CTL_START and the image slots (for O58).
-/

namespace Sys2Proof.Machine

/-! ### The view -/

/-- Flash and what the start keeps, time, the word of CTL_START, and the image slots. -/
def State.startView (s : State) : NvmSt × TimeSt × Nat × Tbl ImgSlot := (s.nvm, s.time, s.reg .ctlStart [], s.fab.slots)

theorem State.startView_nvm {s t : State} (h : t.startView = s.startView) : t.nvm = s.nvm := congrArg Prod.fst h

/-- Every register above the CTL block lies past CTL_START. -/
theorem State.reg_ctlStart_setReg (s : State) (r : Reg) (is : List Nat) (v : Nat) (h : 0x40 < r.place.base) :
    (s.setReg r is v).reg .ctlStart [] = s.reg .ctlStart [] :=
  State.reg_setReg_other _ _ _ _ _ _ (h.trans_le (Nat.le_add_right _ _)).ne

theorem State.startView_setReg (s : State) (r : Reg) (is : List Nat) (v : Nat) (h : 0x40 < r.place.base) :
    (s.setReg r is v).startView = s.startView := by
  rw [State.startView, State.reg_ctlStart_setReg s r is v h]
  rfl

theorem State.startView_raise (s : State) (die block inst kind sev addr : Nat) : (s.raise die block inst kind sev addr).startView = s.startView := by
  unfold State.raise
  dsimp only
  split_ifs
  · rfl
  · exact State.startView_setReg _ _ _ _ (by decide)
  · rfl
  · rfl
  · rfl

theorem State.startView_bpmRelease (s : State) (p i owner tag : Nat) : (s.bpmRelease p i owner tag).startView = s.startView := by
  unfold State.bpmRelease
  split
  · rfl
  · rw [State.startView_raise]
    split <;> split_ifs <;> simp (disch := decide) only [State.startView_setReg, State.bump, State.setFld]

/-! ### Regions and areas -/

theorem State.startView_mp (s : State) (m : PoolSt) : ({ s with mp := m } : State).startView = s.startView := rfl

theorem State.startView_setRegion (s : State) (r : Nat) (x : Region) : (s.setRegion r x).startView = s.startView := rfl

/-- The view of the state that a fold carries beside a list. -/
def carriedView (a : List Nat × State) : NvmSt × TimeSt × Nat × Tbl ImgSlot := a.2.startView

theorem State.startView_takePages (s : State) (stackSet : List Nat) (r k n : Nat) : (s.takePages stackSet r k n).2.startView = s.startView := by
  have h : carriedView (s.takePages stackSet r k n) = carriedView ([], s) := by
    rw [State.takePages]
    refine foldl_keeps carriedView _ (fun a i => ?_) _ _
    dsimp only
    split <;> rfl
  exact h

theorem State.startView_createRegion {s t : State} {o : RegOp} {r : Nat} (h : s.createRegion o = .ok (r, t)) : t.startView = s.startView := by
  unfold State.createRegion at h
  split at h
  · cases h
  · dsimp only at h
    split at h
    · cases h
    · split_ifs at h
      obtain ⟨rfl, rfl⟩ := Prod.mk.inj (Except.ok.inj h)
      simp (disch := decide) only [List.foldl_cons, List.foldl_nil, State.startView_setReg]
      rw [State.startView_mp, State.startView_setRegion, State.startView_takePages]

theorem State.startView_startRegion (s : State) (o : RegOp) : (s.startRegion o).startView = s.startView := by
  unfold State.startRegion
  split
  · next h => exact State.startView_createRegion h
  · rfl

theorem State.startView_takeRetention (s : State) (mib : Nat) : (s.takeRetention mib).startView = s.startView :=
  foldl_keeps State.startView _ (by intros; rfl) _ s

theorem State.startView_takeMirror (s : State) (e : Eudel) : (s.takeMirror e).startView = s.startView := by
  unfold State.takeMirror
  dsimp only
  split_ifs
  · rfl
  · rw [State.startView_mp, State.startView_startRegion]

theorem State.startView_takeRegions (s : State) (e : Eudel) : (s.takeRegions e).startView = s.startView := by
  refine foldl_keeps State.startView _ (fun s r => ?_) _ s
  dsimp only
  split_ifs
  · exact s.startView_startRegion _
  · rfl

/-! ### Image loads -/

theorem State.startView_imageRegions (s : State) (i : Image) (job : Nat) : (s.imageRegions i job).2.startView = s.startView := by
  have h : carriedView (s.imageRegions i job) = carriedView ([], s) := by
    rw [State.imageRegions]
    refine foldl_keeps carriedView _ (fun a k => ?_) _ _
    split
    · next h => exact State.startView_createRegion h
    · rfl
  exact h

theorem State.startView_takeEngines (s : State) (k : Nat) (i : Image) (rs : List Nat) : (s.takeEngines k i rs).startView = s.startView := by
  refine foldl_keeps State.startView _ (fun s h => ?_) _ s
  exact foldl_keeps State.startView _ (by intros; rfl) _ s

theorem State.startView_clearTileRegs (s : State) (t : Nat) : (s.clearTileRegs t).startView = s.startView := by
  simp (disch := decide) only [State.clearTileRegs, List.foldl_cons, List.foldl_nil, State.startView_setReg]

theorem State.startView_writeImage (s : State) (i : Image) (l : Load) : (s.writeImage i l).startView = s.startView := by
  unfold State.writeImage
  split_ifs
  · refine foldl_keeps State.startView _ (fun s t => ?_) _ s
    exact State.startView_clearTileRegs _ _
  · split
    · exact foldl_keeps State.startView _ (by intros; rfl) _ s
    · rfl

theorem State.startView_streamIssue (s : State) (hub e : Nat) : (s.streamIssue hub e).startView = s.startView := by
  unfold State.streamIssue
  dsimp only
  split_ifs <;> rfl

theorem State.startView_streamSlot (s : State) (k : Nat) : (s.streamSlot k).startView = s.startView :=
  foldl_keeps State.startView _ (fun s _ => s.startView_streamIssue _ _) _ s

/-- States of one view have one view after an image slot changed. -/
theorem State.startView_setIslot {s t : State} (h : t.startView = s.startView) (k : Nat) (p : ImgSlot) :
    (t.setIslot k p).startView = (s.setIslot k p).startView :=
  congrArg (fun v : NvmSt × TimeSt × Nat × Tbl ImgSlot => (v.1, v.2.1, v.2.2.1, v.2.2.2.set k p)) h

/-- A load writes its own image slot. -/
theorem State.startView_loadImage (s : State) (i : Image) (l : Load) :
    ∃ p, (s.loadImage i l).startView = (s.setIslot l.slot p).startView := by
  unfold State.loadImage
  extract_lets cost absent g r t own p u v
  refine ⟨p, (State.startView_writeImage _ i l).trans ?_⟩
  exact State.startView_setIslot ((State.startView_takeEngines _ _ _ _).trans (s.startView_imageRegions i l.job)) l.slot p

theorem State.startView_launch (s : State) (k : Nat) : ∃ p, (s.launch k).startView = (s.setIslot k p).startView :=
  ⟨_, State.startView_streamSlot _ k⟩

theorem State.setIslot_setIslot (s : State) (k : Nat) (p q : ImgSlot) : (s.setIslot k p).setIslot k q = s.setIslot k q := by
  simp [State.setIslot]

/-- An image that runs at once writes its own slot. -/
theorem State.startView_loadLaunch (s : State) (i : Image) (l : Load) :
    ∃ p, ((s.loadImage i l).launch l.slot).startView = (s.setIslot l.slot p).startView := by
  obtain ⟨p, hp⟩ := s.startView_loadImage i l
  obtain ⟨q, hq⟩ := (s.loadImage i l).startView_launch l.slot
  refine ⟨q, hq.trans ((State.startView_setIslot hp l.slot q).trans ?_)⟩
  rw [State.setIslot_setIslot]

/-- Check 5 of Table 11.5 keeps an image out of a slot that holds one. -/
theorem State.placeReason_taken {s : State} {i : Image} {l : Load} (h : (s.islot l.slot).state ≠ .empty) : s.placeReason i l = 0x05 :=
  if_pos (.inl h)

/-- A service image is loaded into its own slot, and only where that slot is empty (R420). -/
theorem State.startView_loadService (s : State) (e : Eudel) (k : Nat) :
    (s.loadService e k).startView = s.startView
      ∨ (s.islot k).state = .empty ∧ ∃ p, (s.loadService e k).startView = (s.setIslot k p).startView := by
  unfold State.loadService
  split
  · exact .inl rfl
  · next i _ =>
    dsimp only
    split_ifs with hr
    · exact .inl rfl
    · refine .inr ⟨?_, s.startView_loadLaunch i (s.svcLoad k)⟩
      by_contra hne
      exact hr (by rw [State.placeReason_taken (l := s.svcLoad k) hne]; decide)

/-- What a start's loads keep of the view: all but the slots. -/
theorem State.loadServices_keeps (s : State) (e : Eudel) :
    (s.loadServices e).nvm = s.nvm ∧ (s.loadServices e).time = s.time ∧ (s.loadServices e).reg .ctlStart [] = s.reg .ctlStart [] := by
  have h := foldl_keeps (fun t : State => (t.startView.1, t.startView.2.1, t.startView.2.2.1)) (fun (t : State) k => t.loadService e k) (fun t k => by
    obtain h | ⟨-, p, h⟩ := t.startView_loadService e k
    · rw [h]
    · rw [h]
      rfl) (List.range 4) s
  exact ⟨congrArg Prod.fst h, congrArg (fun v => v.2.1) h, congrArg (fun v => v.2.2) h⟩

theorem State.islot_setIslot_other (s : State) {j k : Nat} (p : ImgSlot) (h : k ≠ j) : (s.setIslot j p).islot k = s.islot k := by
  simp [State.islot, Tbl.get_set_other, h]

theorem State.islot_of_view {s t : State} (h : t.startView = s.startView) (k : Nat) : t.islot k = s.islot k :=
  congrArg (fun v : NvmSt × TimeSt × Nat × Tbl ImgSlot => v.2.2.2.get k {}) h

/-- A slot that holds an image keeps it through the loads (R420). -/
theorem State.loadServices_islot {s : State} (e : Eudel) {k : Nat} (hk : (s.islot k).state ≠ .empty) :
    (s.loadServices e).islot k = s.islot k := by
  refine List.foldlRecOn (motive := fun t : State => t.islot k = s.islot k) (List.range 4) _ rfl fun t ht j _ => ?_
  obtain h | ⟨hempty, p, h⟩ := t.startView_loadService e j
  · exact (State.islot_of_view h k).trans ht
  · have hj : k ≠ j := by
      rintro rfl
      exact hk (ht ▸ hempty)
    exact (State.islot_of_view h k).trans ((t.islot_setIslot_other p hj).trans ht)

/-! ### Contexts that a reset lost -/

theorem State.startView_toQuarantine (s : State) (n : Nat) (c : Ctx) : (s.toQuarantine n c).startView = s.startView :=
  foldl_keeps State.startView _ (fun s _ => s.startView_bpmRelease _ _ _ _) c.fix.blocks s

theorem State.startView_quarantineLost (s : State) : s.quarantineLost.startView = s.startView := by
  unfold State.quarantineLost
  split
  · rfl
  · refine foldl_keeps State.startView _ (fun s n => ?_) _ s
    split
    · exact State.startView_toQuarantine _ _ _
    · rfl

end Sys2Proof.Machine
end

section
/-!
PROOFS. The image that the ROM chooses, and the stages of a start (O58).
-/

namespace Sys2Proof.Machine

/-! ### CTL_START and its neighbours -/

theorem State.stage_setStage (s : State) (n : Nat) : (s.setStage n).stage = n % 16 := State.fld_setFld_same _ _ _ _ _ _

theorem State.reg_setStage (s : State) (n : Nat) (q : Reg) (js : List Nat) (h : q.addr js ≠ Reg.addr .ctlStart []) :
    (s.setStage n).reg q js = s.reg q js := State.reg_setReg_other _ _ _ _ _ _ h

/-- A detection touches no register but the count of messages lost. -/
theorem State.reg_raise (s : State) (die block inst kind sev addr : Nat) (q : Reg) (js : List Nat) (h : q.addr js ≠ Reg.addr .fltCounts []) :
    (s.raise die block inst kind sev addr).reg q js = s.reg q js := by
  unfold State.raise
  dsimp only
  split_ifs
  · rfl
  · exact State.reg_setReg_other _ _ _ _ _ _ h
  · rfl
  · rfl
  · rfl

/-! ### Images on flash -/

/-- Checks 1 to 4 ask the state for the compatibility level and the enrolled owners alone. -/
theorem State.checkImage_congr {s t : State} (hc : t.compat = s.compat) (ho : t.nvm.owners = s.nvm.owners) (bs : List Byte) :
    t.checkImage bs = s.checkImage bs := by
  unfold State.checkImage State.keyAccepted
  rw [hc, ho]

/-- What a partition holds depends on the compatibility level and the enrolled owners alone. -/
theorem State.partImage_congr {s t : State} (hc : t.compat = s.compat) (ho : t.nvm.owners = s.nvm.owners) (p : Part) :
    t.partImage p = s.partImage p := by
  unfold State.partImage
  split
  · rfl
  · exact State.checkImage_congr hc ho _

theorem State.goldenImage_congr {s t : State} (hc : t.compat = s.compat) (ho : t.nvm.owners = s.nvm.owners)
    (hg : t.nvm.golden = s.nvm.golden) : t.goldenImage = s.goldenImage := by
  unfold State.goldenImage
  rw [hg]
  split
  · rfl
  · exact State.partImage_congr hc ho _

/-! ### Rules 1 to 5 of R482 -/

/-- A state in which the ROM has noted the staging partition's state and a reason. -/
def State.romNoted (s : State) (stg reason : Nat) : State := { s with nvm := { s.nvm with stg := stg, lastReason := reason } }

theorem State.romNoted_partImage (s : State) (stg reason : Nat) (p : Part) : (s.romNoted stg reason).partImage p = s.partImage p :=
  State.partImage_congr (s := s) (t := s.romNoted stg reason) rfl rfl p

theorem State.romNoted_goldenImage (s : State) (stg reason : Nat) : (s.romNoted stg reason).goldenImage = s.goldenImage :=
  State.goldenImage_congr (s := s) (t := s.romNoted stg reason) rfl rfl rfl

theorem State.noteReason_romNoted (s : State) (there : Bool) (r : Nat) : ∃ x, s.noteReason there r = s.romNoted s.nvm.stg x := by
  unfold State.noteReason
  split_ifs
  · exact ⟨r, rfl⟩
  · exact ⟨s.nvm.lastReason, rfl⟩

theorem State.recover_ends (s : State) : s.recover.stage = 8 ∧ s.recover.nvm.source = 2 ∧ s.recover.nvm.boot = none :=
  ⟨State.stage_setStage _ 8, rfl, rfl⟩

/-- Rule 4: the golden image, where it is valid (R482). -/
theorem State.chooseGolden_uses {s : State} {e : Eudel} (hr : 1 ∉ s.nvm.refused) (hb : s.nvm.badB = false) (hg : s.goldenImage = .ok e) :
    s.chooseGolden.stage = 3 ∧ s.chooseGolden.nvm = { s.nvm with fellback := true, boot := some e, source := 1 } := by
  have h : s.chooseGolden = ({ s with nvm := { s.nvm with fellback := true } } : State).useImage 1 e := by
    simp only [State.chooseGolden, hg, List.contains_iff_mem, hr, hb, Bool.false_eq_true, or_self, if_false]
  rw [h]
  exact ⟨State.stage_setStage _ 3, rfl⟩

/-- Rule 5: recovery mode, where the golden image is not to be used (R482). -/
theorem State.chooseGolden_recovers {s : State} (h : 1 ∈ s.nvm.refused ∨ s.nvm.badB = true ∨ ∃ r, s.goldenImage = .error r) :
    s.chooseGolden.stage = 8 ∧ s.chooseGolden.nvm.source = 2 ∧ s.chooseGolden.nvm.boot = none := by
  unfold State.chooseGolden
  split_ifs with hno
  · exact s.recover_ends
  · simp only [List.contains_iff_mem, not_or] at hno
    obtain ⟨r, hr⟩ := (h.resolve_left hno.1).resolve_left hno.2
    rw [hr]
    exact State.recover_ends _

/-- Rule 3: the active image, while it is valid and has not failed twice; the start counts (R482, R483). -/
theorem State.chooseActive_uses {s : State} {e : Eudel} (hr : 0 ∉ s.nvm.refused) (hf : s.nvm.bootFails < 2) (ha : s.nvm.badA = false)
    (he : s.partImage s.nvm.active = .ok e) :
    s.chooseActive.stage = 3 ∧ s.chooseActive.nvm = { s.nvm with
      bootFails := if s.nvm.badB then s.nvm.bootFails else min 7 (s.nvm.bootFails + 1), boot := some e, source := 0 } := by
  have h : s.chooseActive = ({ s with nvm := { s.nvm with
      bootFails := if s.nvm.badB then s.nvm.bootFails else min 7 (s.nvm.bootFails + 1) } } : State).useImage 0 e := by
    simp only [State.chooseActive, he, List.contains_iff_mem, hr, hf.not_ge, ha, Bool.false_eq_true, or_self, if_false]
  rw [h]
  exact ⟨State.stage_setStage _ 3, rfl⟩

/-- Without the active image the choice is the golden one's. -/
theorem State.chooseActive_golden {s : State}
    (h : 0 ∈ s.nvm.refused ∨ 2 ≤ s.nvm.bootFails ∨ s.nvm.badA = true ∨ ∃ r, s.partImage s.nvm.active = .error r) :
    ∃ x, s.chooseActive = (s.romNoted s.nvm.stg x).chooseGolden := by
  unfold State.chooseActive
  split
  · exact ⟨s.nvm.lastReason, rfl⟩
  · next hno =>
    simp only [List.contains_iff_mem, not_or] at hno
    obtain ⟨r, hr⟩ := ((h.resolve_left hno.1).resolve_left hno.2.1).resolve_left hno.2.2
    obtain ⟨x, hx⟩ := s.noteReason_romNoted s.nvm.active.record.isSome r
    rw [hr]
    exact ⟨x, congrArg State.chooseGolden hx⟩

/-- Rule 1: RECOVERY_N low leads to recovery mode. -/
theorem State.chooseImage_recovers {s : State} (h : s.pins.sampledN = false) : s.chooseImage = s.recover := by
  simp only [State.chooseImage, h, Bool.not_false, if_true]

/-- Rule 2: a valid staged image is copied. -/
theorem State.chooseImage_staged {s : State} {e : Eudel} (hn : s.pins.sampledN = true) (ha : s.nvm.badA = false) (h3 : 3 ≤ s.nvm.stg)
    (h5 : s.nvm.stg ≤ 5) (he : s.partImage s.nvm.staging = .ok e) : s.chooseImage.stage = 2 ∧ s.chooseImage.nvm.copying = true := by
  have h : s.chooseImage = ({ s with nvm := { s.nvm with copying := true } } : State).setStage 2 := by
    simp only [State.chooseImage, hn, h3, h5, ha, he, Bool.not_true, Bool.false_eq_true, and_self, if_false, if_true]
  rw [h]
  exact ⟨State.stage_setStage _ 2, rfl⟩

/-- Without a valid staged image the choice is the active one's. -/
theorem State.chooseImage_active {s : State} (hn : s.pins.sampledN = true)
    (h : ¬(s.nvm.badA = false ∧ 3 ≤ s.nvm.stg ∧ s.nvm.stg ≤ 5 ∧ ∃ e, s.partImage s.nvm.staging = .ok e)) :
    ∃ g x, s.chooseImage = (s.romNoted g x).chooseActive := by
  unfold State.chooseImage
  simp only [hn, Bool.not_true, Bool.false_eq_true, if_false]
  split_ifs with hstg
  · obtain ⟨h3, h5, ha⟩ := hstg
    split
    · next e he => exact absurd ⟨ha, h3, h5, e, he⟩ h
    · next r _ =>
      obtain ⟨x, hx⟩ := ({ s with nvm := { s.nvm with stg := 0 } } : State).noteReason_romNoted true r
      exact ⟨0, x, congrArg State.chooseActive hx⟩
  · exact ⟨s.nvm.stg, s.nvm.lastReason, rfl⟩

/-! ### What a choice leaves alone -/

/-- A choice writes STAGE of CTL_START and what the start keeps on flash, and nothing else. -/
def State.ChoiceOf (s t : State) : Prop := ∃ m n, t = ({ s with nvm := m } : State).setStage n

theorem State.choice_recover (s : State) : s.ChoiceOf s.recover := ⟨_, _, rfl⟩

theorem State.choice_romNoted {s t : State} {stg reason : Nat} (h : (s.romNoted stg reason).ChoiceOf t) : s.ChoiceOf t := h

theorem State.choice_chooseGolden (s : State) : s.ChoiceOf s.chooseGolden := by
  unfold State.chooseGolden
  split_ifs
  · exact s.choice_recover
  · split
    · exact ⟨_, _, rfl⟩
    · next r _ =>
      obtain ⟨x, hx⟩ := s.noteReason_romNoted s.nvm.golden.isSome r
      rw [hx]
      exact State.choice_romNoted (State.choice_recover _)

theorem State.choice_chooseActive (s : State) : s.ChoiceOf s.chooseActive := by
  unfold State.chooseActive
  split
  · exact s.choice_chooseGolden
  · split
    · exact ⟨_, _, rfl⟩
    · next r _ =>
      obtain ⟨x, hx⟩ := s.noteReason_romNoted s.nvm.active.record.isSome r
      rw [hx]
      exact State.choice_romNoted (State.choice_chooseGolden _)

theorem State.choice_chooseImage (s : State) : s.ChoiceOf s.chooseImage := by
  unfold State.chooseImage
  split_ifs
  · exact s.choice_recover
  · split
    · exact ⟨_, _, rfl⟩
    · next r _ =>
      obtain ⟨x, hx⟩ := ({ s with nvm := { s.nvm with stg := 0 } } : State).noteReason_romNoted true r
      rw [hx]
      exact State.choice_romNoted (stg := 0) (reason := x) (State.choice_chooseActive _)
  · exact s.choice_chooseActive

end Sys2Proof.Machine
end

section
/-!
PROOFS. The ROM's run at COLD_START (O58).
-/

namespace Sys2Proof.Machine

/-! ### The rules in a row -/

/-- A valid staged image stands on flash A (R482). -/
def State.StagedValid (s : State) : Prop :=
  s.nvm.badA = false ∧ 3 ≤ s.nvm.stg ∧ s.nvm.stg ≤ 5 ∧ ∃ e, s.partImage s.nvm.staging = .ok e

/-- The active image is not for this start: refused, failed twice, on a failed device, or not valid (R482). -/
def State.ActiveOut (s : State) : Prop :=
  s.nvm.badA = true ∨ 0 ∈ s.nvm.refused ∨ 2 ≤ s.nvm.bootFails ∨ ∃ r, s.partImage s.nvm.active = .error r

theorem State.chooseImage_uses {s : State} {e : Eudel} (hn : s.pins.sampledN = true) (hs : ¬s.StagedValid) (ha : s.nvm.badA = false)
    (he : s.partImage s.nvm.active = .ok e) (hr : 0 ∉ s.nvm.refused) (hf : s.nvm.bootFails < 2) :
    s.chooseImage.stage = 3 ∧ s.chooseImage.nvm.boot = some e ∧ s.chooseImage.nvm.source = 0
      ∧ (s.nvm.badB = false → s.chooseImage.nvm.bootFails = s.nvm.bootFails + 1) := by
  obtain ⟨g, x, h⟩ := State.chooseImage_active hn hs
  have he' : (s.romNoted g x).partImage s.nvm.active = .ok e := (s.romNoted_partImage g x _).trans he
  obtain ⟨hstage, hnvm⟩ := State.chooseActive_uses (s := s.romNoted g x) hr hf ha he'
  rw [h, hnvm]
  refine ⟨hstage, rfl, rfl, fun hb => ?_⟩
  show (if s.nvm.badB then s.nvm.bootFails else min 7 (s.nvm.bootFails + 1)) = _
  rw [hb, if_neg Bool.false_ne_true, Nat.min_eq_right (by omega)]

theorem State.chooseImage_golden {s : State} (hn : s.pins.sampledN = true) (hs : ¬s.StagedValid) (ho : s.ActiveOut) :
    ∃ g x, s.chooseImage = (s.romNoted g x).chooseGolden := by
  obtain ⟨g, x, h⟩ := State.chooseImage_active hn hs
  have ho' : 0 ∈ s.nvm.refused ∨ 2 ≤ s.nvm.bootFails ∨ s.nvm.badA = true ∨ ∃ r, (s.romNoted g x).partImage s.nvm.active = .error r := by
    rw [State.romNoted_partImage]
    obtain ha | hr | hf | he := ho
    exacts [.inr (.inr (.inl ha)), .inl hr, .inr (.inl hf), .inr (.inr (.inr he))]
  obtain ⟨y, h'⟩ := State.chooseActive_golden (s := s.romNoted g x) ho'
  exact ⟨g, y, h.trans h'⟩

theorem State.chooseImage_goldenUses {s : State} {e : Eudel} (hn : s.pins.sampledN = true) (hs : ¬s.StagedValid) (ho : s.ActiveOut)
    (hb : s.nvm.badB = false) (hg : s.goldenImage = .ok e) (hr : 1 ∉ s.nvm.refused) :
    s.chooseImage.stage = 3 ∧ s.chooseImage.nvm.boot = some e ∧ s.chooseImage.nvm.source = 1 ∧ s.chooseImage.nvm.fellback = true := by
  obtain ⟨g, x, h⟩ := State.chooseImage_golden hn hs ho
  have hg' : (s.romNoted g x).goldenImage = .ok e := (s.romNoted_goldenImage g x).trans hg
  obtain ⟨hstage, hnvm⟩ := State.chooseGolden_uses (s := s.romNoted g x) hr hb hg'
  rw [h, hnvm]
  exact ⟨hstage, rfl, rfl, rfl⟩

theorem State.chooseImage_goldenRecovers {s : State} (hn : s.pins.sampledN = true) (hs : ¬s.StagedValid) (ho : s.ActiveOut)
    (h : s.nvm.badB = true ∨ (∃ r, s.goldenImage = .error r) ∨ 1 ∈ s.nvm.refused) :
    s.chooseImage.stage = 8 ∧ s.chooseImage.nvm.source = 2 ∧ s.chooseImage.nvm.boot = none := by
  obtain ⟨g, x, hc⟩ := State.chooseImage_golden hn hs ho
  have h' : 1 ∈ s.nvm.refused ∨ s.nvm.badB = true ∨ ∃ r, (s.romNoted g x).goldenImage = .error r := by
    rw [State.romNoted_goldenImage]
    obtain hb | he | hr := h
    exacts [.inr (.inl hb), .inr (.inr he), .inl hr]
  rw [hc]
  exact State.chooseGolden_recovers (s := s.romNoted g x) h'

/-! ### The state that the ROM chooses in -/

theorem State.raise_pins (s : State) (die block inst kind sev addr : Nat) : (s.raise die block inst kind sev addr).pins = s.pins := by
  rw [State.raise_only]

theorem State.raise_nvm (s : State) (die block inst kind sev addr : Nat) : (s.raise die block inst kind sev addr).nvm = s.nvm := by
  rw [State.raise_only]

theorem State.readFlash_pins (s : State) (a b : TestResult) : (s.readFlash a b).pins = s.pins := by
  unfold State.readFlash
  dsimp only
  split_ifs <;> simp only [State.raise_pins]

theorem State.readFlash_nvm (s : State) (a b : TestResult) :
    (s.readFlash a b).nvm = { s.nvm with badA := a == .fail, badB := b == .fail } := by
  unfold State.readFlash
  dsimp only
  split_ifs <;> simp only [State.raise_nvm]

theorem State.readFlash_reg (s : State) (a b : TestResult) (q : Reg) (js : List Nat) (h : q.addr js ≠ Reg.addr .fltCounts []) :
    (s.readFlash a b).reg q js = s.reg q js := by
  unfold State.readFlash
  dsimp only
  split_ifs
  · exact (State.reg_raise _ _ _ _ _ _ _ q js h).trans (State.reg_raise _ _ _ _ _ _ _ q js h)
  · exact State.reg_raise _ _ _ _ _ _ _ q js h
  · exact State.reg_raise _ _ _ _ _ _ _ q js h
  · rfl

/-- A first message of a severity below 2 is queued (R443). -/
theorem State.raise_first {s : State} {die : Nat} (h : s.flt.queues.get die [] = []) (block inst kind addr : Nat) :
    (s.raise die block inst kind 1 addr).flt.queues.get die [] = [⟨die, block, inst, kind, 1, s.now, addr⟩] := by
  simp [State.raise, h, queueOpen]

/-- The ROM after its self-tests and its look at the flash devices, before it chooses (R20, R475). -/
def State.romRuns (s : State) (hd0 hd3 a b : TestResult) : State :=
  let r := s.leaveReset.setReg .ctlComplex [] (complexWord hd0 hd3)
  ({ r with pins := { r.pins with sampledN := r.pins.recoveryN } } : State).readFlash a b

theorem State.romRuns_pins (s : State) (hd0 hd3 a b : TestResult) :
    (s.romRuns hd0 hd3 a b).pins = { s.pins with auxGood := true, resetN := true, sampledN := s.pins.recoveryN } :=
  State.readFlash_pins _ _ _

theorem State.romRuns_nvm (s : State) (hd0 hd3 a b : TestResult) :
    (s.romRuns hd0 hd3 a b).nvm = { s.nvm with badA := a == .fail, badB := b == .fail } :=
  State.readFlash_nvm _ _ _

theorem State.romRuns_complex (s : State) (hd0 hd3 a b : TestResult) :
    (s.romRuns hd0 hd3 a b).reg .ctlComplex [] = complexWord hd0 hd3 :=
  (State.readFlash_reg _ _ _ _ _ (by decide)).trans (State.reg_setReg_same s.leaveReset _ _ _)

theorem State.romRuns_compat (s : State) (hd0 hd3 a b : TestResult) : (s.romRuns hd0 hd3 a b).compat = s.compat := by
  have h : (s.romRuns hd0 hd3 a b).reg .ctlId [] = s.reg .ctlId [] :=
    (State.readFlash_reg _ _ _ _ _ (by decide)).trans (State.reg_setReg_other s.leaveReset _ _ _ _ _ (by decide))
  simp only [State.compat, State.fld, h]

theorem State.romRuns_flashB {s : State} (h : s.flt.queues.get 8 [] = []) (hd0 hd3 : TestResult) :
    (s.romRuns hd0 hd3 .pass .fail).flt.queues.get 8 [] = [⟨8, 0x19, 1, 0x050, 1, s.now, 0⟩] :=
  State.raise_first (s := { s with
    pins := { s.leaveReset.pins with sampledN := s.pins.recoveryN }
    nvm := { s.nvm with badA := false, badB := true }
    regs := (s.leaveReset.setReg .ctlComplex [] (complexWord hd0 hd3)).regs }) h 0x19 1 0x050 0

theorem State.romRuns_partImage (s : State) (hd0 hd3 a b : TestResult) (p : Part) :
    (s.romRuns hd0 hd3 a b).partImage p = s.partImage p :=
  State.partImage_congr (s.romRuns_compat hd0 hd3 a b) (by rw [State.romRuns_nvm]) p

theorem State.romRuns_goldenImage (s : State) (hd0 hd3 a b : TestResult) : (s.romRuns hd0 hd3 a b).goldenImage = s.goldenImage :=
  State.goldenImage_congr (s.romRuns_compat hd0 hd3 a b) (by rw [State.romRuns_nvm]) (by rw [State.romRuns_nvm])

/-! ### COLD_START -/

theorem bodyColdStart_runs {s : State} (hw : s.romWaits = true) {hd0 hd3 : TestResult} (h : hd0 = .pass ∨ hd3 = .pass) (a b : TestResult) :
    bodyColdStart hd0 hd3 a b s = (s.romRuns hd0 hd3 a b).chooseImage := by
  have hw' : s.leaveReset.romWaits = true := hw
  have hne : ¬(hd0 = .fail ∧ hd3 = .fail) := by
    rintro ⟨rfl, rfl⟩
    cases h <;> contradiction
  simp only [bodyColdStart, hw', hne, Bool.not_true, Bool.false_eq_true, if_false]
  rfl

/-- With both complexes failed nothing is chosen (R21). -/
theorem bodyColdStart_stuck {s : State} (hw : s.romWaits = true) (a b : TestResult) :
    bodyColdStart .fail .fail a b s =
      { s.leaveReset.setReg .ctlComplex [] (complexWord .fail .fail) with flt := { s.flt with romLow := true } } := by
  have hw' : s.leaveReset.romWaits = true := hw
  simp only [bodyColdStart, hw', Bool.not_true, Bool.false_eq_true, and_self, if_false, if_true]
  rfl

theorem State.stage_of_romWaits {s : State} (h : s.romWaits = true) : s.stage = 0 := by
  simp only [State.romWaits, Bool.and_eq_true, beq_iff_eq] at h
  exact h.1.1.2

/-- A device of which both complexes fail does not start (R21). -/
theorem coldStart_stuck {s : State} (hw : s.romWaits = true) (a b : TestResult) :
    ∃ t, exec (.coldStart .fail .fail a b) s = .next t ∧ t.flt.romLow = true ∧ t.stage = 0 ∧ t.nvm = s.nvm ∧ t.reg .ctlComplex [] = 14 := by
  refine ⟨_, commit_of (bodyColdStart_stuck hw a b), rfl, ?_, rfl, State.reg_setReg_same s.leaveReset _ _ _⟩
  exact (State.fld_setReg_other s.leaveReset _ _ _ _ _ _ _ (by decide)).trans (State.stage_of_romWaits hw)

/-- What the ROM's run does, whatever it chooses. -/
theorem coldStart_runs {s : State} (hw : s.romWaits = true) {hd0 hd3 : TestResult} (h : hd0 = .pass ∨ hd3 = .pass) (a b : TestResult) :
    ∃ t, exec (.coldStart hd0 hd3 a b) s = .next t ∧ t.nvm = (s.romRuns hd0 hd3 a b).chooseImage.nvm
      ∧ t.stage = (s.romRuns hd0 hd3 a b).chooseImage.stage ∧ t.reg .ctlComplex [] = complexWord hd0 hd3
      ∧ t.pins.auxGood = true ∧ t.pins.resetN = true ∧ t.mem = s.mem ∧ t.flt = (s.romRuns hd0 hd3 a b).flt := by
  obtain ⟨m, n, hc⟩ := (s.romRuns hd0 hd3 a b).choice_chooseImage
  refine ⟨_, commit_of (bodyColdStart_runs hw h a b), rfl, rfl, ?_, ?_, ?_, rfl, ?_⟩
  · rw [State.kept_reg, hc, State.reg_setStage _ _ _ _ (by decide)]
    exact s.romRuns_complex hd0 hd3 a b
  · rw [State.kept_pins, hc]
    exact congrArg Pins.auxGood (s.romRuns_pins hd0 hd3 a b)
  · rw [State.kept_pins, hc]
    exact congrArg Pins.resetN (s.romRuns_pins hd0 hd3 a b)
  · rw [State.kept_flt, hc]
    rfl

end Sys2Proof.Machine
end

section
/-!
PROOFS. The stages of a start after the choice of its image (Table 20.5), and O58.
-/

namespace Sys2Proof.Machine

/-! ### STAGED_COPY_DONE -/

theorem bodyStagedCopyDone_waits {s : State} (h : s.stage ≠ 2 ∨ s.nvm.copying = false ∨ s.nvm.boot ≠ none) : bodyStagedCopyDone s = s := by
  refine if_neg fun ⟨h2, hc, hb⟩ => ?_
  obtain h | h | h := h
  · exact h h2
  · rw [h] at hc
    contradiction
  · exact h hb

/-- The copy becomes the active image, whose failures count anew (R483). -/
theorem bodyStagedCopyDone_copies {s : State} {e : Eudel} (h2 : s.stage = 2) (hc : s.nvm.copying = true) (hb : s.nvm.boot = none)
    (he : s.partImage s.nvm.staging = .ok e) (hr : 0 ∉ s.nvm.refused) (hA : s.nvm.badA = false) (hB : s.nvm.badB = false) :
    (bodyStagedCopyDone s).stage = 3
      ∧ (bodyStagedCopyDone s).nvm =
        { s.nvm with active := s.nvm.staging, stg := 6, copying := false, bootFails := 1, boot := some e, source := 0 } := by
  let u : State := { s with nvm := { s.nvm with active := s.nvm.staging, bootFails := 0, stg := 6, copying := false } }
  have hbody : bodyStagedCopyDone s = u.chooseActive := by
    rw [bodyStagedCopyDone, if_pos ⟨h2, hc, hb⟩, hB, if_neg Bool.false_ne_true]
  have he' : u.partImage s.nvm.staging = .ok e := (State.partImage_congr (s := s) (t := u) rfl rfl _).trans he
  obtain ⟨hstage, hnvm⟩ := State.chooseActive_uses (s := u) hr (Nat.zero_lt_two) hA he'
  rw [hbody, hnvm]
  refine ⟨hstage, ?_⟩
  simp [u, hB]

/-! ### TEMOND_START -/

theorem bodyTemondStart_waits {s : State} (h : s.nvm.boot = none ∨ s.stage ≠ 3 ∨ s.flt.safe = true) : bodyTemondStart s = s := by
  unfold bodyTemondStart
  split
  · rfl
  · next e hb => exact if_pos (h.resolve_left (by rw [hb]; exact Option.some_ne_none e))

theorem State.enrol_time (s : State) (e : Eudel) : (s.enrol e).time = s.time := by
  unfold State.enrol
  split <;> rfl

theorem State.liveCfg_time (s : State) (e : Eudel) : (s.liveCfg e).time = s.time := rfl

theorem State.startCfg_time (s : State) (e : Eudel) : (s.startCfg e).time = s.time := rfl

theorem State.putWdg_time (s : State) (e : Eudel) : (s.putWdg e).time = s.time := rfl

theorem State.putTime_time (s : State) (e : Eudel) : (s.putTime e).time = s.time := rfl

theorem State.putWeights_time (s : State) (old e : Eudel) : (s.putWeights old e).time = s.time :=
  (foldl_keeps State.time _ (by intros; rfl) _ _).trans (foldl_keeps State.time _ (by intros; rfl) _ s)

theorem State.putReacts_time (s : State) (old e : Eudel) : (s.putReacts old e).time = s.time :=
  (foldl_keeps State.time _ (by intros; rfl) _ _).trans (foldl_keeps State.time _ (by intros; rfl) _ _)

/-- The keys that Temond applies at a start leave time alone. -/
theorem State.applyStart_time (s : State) (e : Eudel) : (s.applyStart e).time = s.time := by
  unfold State.applyStart
  dsimp only
  split_ifs <;> simp only [State.enrol_time, State.liveCfg_time, State.startCfg_time, State.putWdg_time, State.putTime_time,
    State.putWeights_time, State.putReacts_time]

/-- Temond checks in with an image that passes checks 5 and 6, and enables the main regulators (R408, R484). -/
theorem bodyTemondStart_runs {s : State} {e : Eudel} (hb : s.nvm.boot = some e) (h3 : s.stage = 3) (hs : s.flt.safe = false)
    (hr : s.bootReason e = 0) :
    (bodyTemondStart s).stage = 4 ∧ (bodyTemondStart s).nvm.run = some e ∧ (bodyTemondStart s).pins.mainOn = true
      ∧ (bodyTemondStart s).flt.fwSeen = true ∧ (bodyTemondStart s).flt.checkin = s.local := by
  have hbody : bodyTemondStart s = ({ s.applyStart e with
      nvm := { (s.applyStart e).nvm with run := some e }
      flt := { (s.applyStart e).flt with fwSeen := true, checkin := (s.applyStart e).local }
      pins := { (s.applyStart e).pins with mainOn := true } } : State).setStage 4 := by
    unfold bodyTemondStart
    simp only [hb, h3, hs, hr, ne_eq, not_true_eq_false, Bool.false_eq_true, or_self, if_false]
  rw [hbody]
  exact ⟨State.stage_setStage _ 4, rfl, rfl, rfl, congrArg TimeSt.localNs (s.applyStart_time e)⟩

/-- The golden image refused leads to recovery mode. -/
theorem bodyTemondStart_refuses {s : State} {e : Eudel} (hb : s.nvm.boot = some e) (h3 : s.stage = 3) (hs : s.flt.safe = false)
    (hr : s.bootReason e ≠ 0) (h1 : s.nvm.source = 1) :
    (bodyTemondStart s).stage = 8 ∧ (s.nvm.badB = false → (bodyTemondStart s).nvm.lastReason = s.bootReason e)
      ∧ (bodyTemondStart s).nvm.boot = none := by
  have hbody : bodyTemondStart s = s.refuseBoot (s.bootReason e) := by
    unfold bodyTemondStart
    simp only [hb, h3, hs, hr, ne_eq, not_true_eq_false, not_false_eq_true, Bool.false_eq_true, or_self, if_false, if_true]
  have href : s.refuseBoot (s.bootReason e) =
      (({ s with nvm := { s.nvm with boot := none, refused := 1 :: s.nvm.refused } } : State).noteReason true (s.bootReason e)).recover := by
    unfold State.refuseBoot
    simp only [h1, Nat.one_ne_zero, if_false]
  rw [hbody, href]
  refine ⟨(State.recover_ends _).1, fun hB => ?_, rfl⟩
  rw [State.noteReason, if_pos ⟨rfl, hB⟩]
  rfl

/-! ### MAIN_RAILS_GOOD -/

theorem bodyMainRailsGood_waits {s : State} (h : s.nvm.run = none ∨ s.stage ≠ 4 ∨ s.railsDue = false ∨ s.flt.safe = true) :
    bodyMainRailsGood s = s := by
  unfold bodyMainRailsGood
  split
  · rfl
  · next e hrun =>
    refine if_neg fun ⟨h4, hd, hs⟩ => ?_
    obtain h | h | h | h := h
    · rw [h] at hrun
      contradiction
    · exact h h4
    · rw [h] at hd
      contradiction
    · rw [h] at hs
      contradiction

theorem bodyMainRailsGood_rises {s : State} {e : Eudel} (hrun : s.nvm.run = some e) (h4 : s.stage = 4) (hd : s.railsDue = true)
    (hs : s.flt.safe = false) :
    bodyMainRailsGood s =
      (({ s with pins := { s.pins with pwrGood := true } } : State).setFld .pwrTokens [] 31 16 (fixedW e.laneList.length)).setStage 5 := by
  unfold bodyMainRailsGood
  simp only [hrun, h4, hd, hs, and_self, if_true]

/-! ### TRAIN_STAGE_DONE -/

/-- A fold reaches what one of its steps brings about and no other undoes. -/
theorem foldl_reaches {α β : Type} {P : α → Prop} {f : α → β → α} {b : β} (hset : ∀ a, P (f a b)) (hkeep : ∀ a c, P a → P (f a c))
    {l : List β} (hb : b ∈ l) (a : α) : P (l.foldl f a) := by
  induction l generalizing a with
  | nil => exact absurd hb List.not_mem_nil
  | cons c l ih =>
    obtain rfl | hl := List.mem_cons.mp hb
    · exact List.foldlRecOn l f (hset a) fun t ht d _ => hkeep t d ht
    · exact ih hl (f a c)

/-- The stacks, the noted changes of HBM, and the keys that are no register. -/
def State.trainView (s : State) : Tbl StackSt × List MemOp × Keys := (s.mp.hbm, s.mops, s.keys)

theorem State.hbm_of_trainView {s t : State} (h : t.trainView = s.trainView) : t.mp.hbm = s.mp.hbm := congrArg Prod.fst h

theorem State.mops_of_trainView {s t : State} (h : t.trainView = s.trainView) : t.mops = s.mops := congrArg (fun v => v.2.1) h

theorem State.trainView_isolateAgain (s : State) (r : Isolation) : (s.isolateAgain r).trainView = s.trainView := by
  unfold State.isolateAgain
  split_ifs
  · rfl
  · refine foldl_keeps State.trainView _ (fun s p => ?_) _ s
    unfold State.poisonLines
    split <;> rfl
  · rfl

theorem State.trainView_bpm (s : State) (b : Tbl BpmPool) : ({ s with bpm := b } : State).trainView = s.trainView := rfl

theorem State.trainView_setHub (s : State) (h : Nat) (u : Hub) : (s.setHub h u).trainView = s.trainView := rfl

theorem State.trainView_setFld (s : State) (r : Reg) (is : List Nat) (hi lo v : Nat) : (s.setFld r is hi lo v).trainView = s.trainView := rfl

theorem State.hubsUp_trainView (s : State) (e : Eudel) : (s.hubsUp e).trainView = s.trainView := by
  unfold State.hubsUp
  rw [State.trainView_bpm]
  refine foldl_keeps State.trainView _ (fun s h => ?_) _ s
  rw [State.trainView_setHub, State.trainView_setFld]
  exact foldl_keeps State.trainView _ (fun s c => s.trainView_setFld _ _ _ _ _) _ s

theorem State.setLock_trainView (s : State) (l : LockState) : (s.setLock l).trainView = s.trainView := by
  unfold State.setLock
  dsimp only
  split_ifs <;> rfl

theorem State.timeUp_stacks (s : State) (src : Nat) : (s.timeUp src).mp.hbm = s.mp.hbm ∧ (s.timeUp src).mops = s.mops := by
  unfold State.timeUp
  split
  · exact ⟨rfl, rfl⟩
  · have h := s.setLock_trainView .unlocked
    exact ⟨(State.hbm_of_trainView h :), (State.mops_of_trainView h :)⟩

theorem State.timeUp_source (s : State) (src : Nat) : (s.timeUp src).keys.timeSrc = src := by
  unfold State.timeUp
  split
  · next h => exact h.2
  · rfl

/-- Stack `k` serves, its clocks at this moment. -/
def State.stackUp (s : State) (k : Nat) : State :=
  s.setStack k { off := false, lastUse := s.local, recalAt := s.local, recalTemp := (s.stackTemp k).getD 0, passFrom := s.local }

/-- The memory of the state cleared and its poison gone. -/
def State.cleared (s : State) : State :=
  { s.memOp (.clear 0 (16 * stackPages * pageBytes)) with mp := { s.mp with poison := [] } }

theorem State.cleared_hbm (s : State) : s.cleared.mp.hbm = s.mp.hbm := rfl

theorem State.stacksUp_eq (s : State) : s.stacksUp = ((List.range 16).foldl State.stackUp s).cleared := rfl

theorem State.stack_setStack_other (s : State) {j k : Nat} (x : StackSt) (h : k ≠ j) : (s.setStack j x).stack k = s.stack k := by
  simp [State.stack, State.setStack, Tbl.get_set_other, h]

theorem State.stackUp_keeps {s : State} {k : Nat} (j : Nat) (h : (s.stack k).off = false) : ((s.stackUp j).stack k).off = false := by
  unfold State.stackUp
  by_cases hj : k = j
  · rw [hj, State.stack_setStack_same]
  · rw [State.stack_setStack_other _ _ hj]
    exact h

theorem State.stackUp_on (s : State) (k : Nat) : ((s.stackUp k).stack k).off = false := by
  rw [State.stackUp, State.stack_setStack_same]

/-- Every stack serves. -/
theorem State.stacksUp_on (s : State) {k : Nat} (hk : k < 16) : (s.stacksUp.stack k).off = false := by
  rw [State.stack, State.stacksUp_eq, State.cleared_hbm]
  exact foldl_reaches (P := fun t : State => (t.stack k).off = false) (fun t => t.stackUp_on k) (fun t j => State.stackUp_keeps j)
    (List.mem_range.mpr hk) s

theorem State.stacksUp_mops (s : State) : s.stacksUp.mops = s.mops ++ [.clear 0 (16 * stackPages * pageBytes)] :=
  congrArg (· ++ _) (foldl_keeps State.mops _ (by intros; rfl) (List.range 16) s)

/-- The state of a start once the stacks, the hub dies and the time source are up and the isolations apply again. -/
def State.trainedUp (s : State) (e : Eudel) : State :=
  let u := (s.stacksUp.hubsUp e).timeUp (e.num "time.source")
  u.flt.isol.foldl State.isolateAgain u

theorem State.trainedUp_view (s : State) (e : Eudel) :
    (s.trainedUp e).trainView = ((s.stacksUp.hubsUp e).timeUp (e.num "time.source")).trainView :=
  foldl_keeps State.trainView _ State.trainView_isolateAgain _ _

theorem State.trainedUp_hbm (s : State) (e : Eudel) : (s.trainedUp e).mp.hbm = s.stacksUp.mp.hbm :=
  calc (s.trainedUp e).mp.hbm
    _ = ((s.stacksUp.hubsUp e).timeUp (e.num "time.source")).mp.hbm := State.hbm_of_trainView (s.trainedUp_view e)
    _ = (s.stacksUp.hubsUp e).mp.hbm := (State.timeUp_stacks _ _).1
    _ = s.stacksUp.mp.hbm := State.hbm_of_trainView (s.stacksUp.hubsUp_trainView e)

theorem State.trainedUp_mops (s : State) (e : Eudel) : (s.trainedUp e).mops = s.mops ++ [.clear 0 (16 * stackPages * pageBytes)] :=
  calc (s.trainedUp e).mops
    _ = ((s.stacksUp.hubsUp e).timeUp (e.num "time.source")).mops := State.mops_of_trainView (s.trainedUp_view e)
    _ = (s.stacksUp.hubsUp e).mops := (State.timeUp_stacks _ _).2
    _ = s.stacksUp.mops := State.mops_of_trainView (s.stacksUp.hubsUp_trainView e)
    _ = s.mops ++ [.clear 0 (16 * stackPages * pageBytes)] := s.stacksUp_mops

theorem State.trainedUp_source (s : State) (e : Eudel) : (s.trainedUp e).keys.timeSrc = e.num "time.source" :=
  (congrArg (fun v => v.2.2.timeSrc) (s.trainedUp_view e)).trans (State.timeUp_source _ _)

/-- Training is due: its stage, main power, and neither done nor stopped (Table 20.5). -/
structure State.TrainDue (s : State) : Prop where
  stage : s.stage = 5
  power : s.pins.pwrGood = true
  todo  : s.nvm.trained = false
  safe  : s.flt.safe = false
  goes  : s.nvm.stopped = false

theorem bodyTrainStageDone_trains {s : State} {e : Eudel} (hrun : s.nvm.run = some e) (hd : s.TrainDue) :
    bodyTrainStageDone [] s = { s.trainedUp e with fwd := { bank0 := e.bank }, nvm := { (s.trainedUp e).nvm with trained := true } } := by
  unfold bodyTrainStageDone
  simp only [hrun, hd.stage, hd.power, hd.todo, hd.safe, hd.goes, and_self, ne_eq, not_true_eq_false, if_false, if_true]
  rfl

theorem bodyTrainStageDone_stops {s : State} {e : Eudel} (hrun : s.nvm.run = some e) (hd : s.TrainDue) (k : Nat) :
    bodyTrainStageDone [k] s = ({ s with nvm := { s.nvm with stopped := true } } : State).trainFault k := by
  have hbody : bodyTrainStageDone [k] s = s.trainStops [k] := by
    unfold bodyTrainStageDone
    simp only [hrun, hd.stage, hd.power, hd.todo, hd.safe, hd.goes, and_self, ne_eq, List.cons_ne_nil, not_false_eq_true, if_true]
  exact hbody

theorem State.stage_raise (s : State) (die block inst kind sev addr : Nat) : (s.raise die block inst kind sev addr).stage = s.stage := by
  simp only [State.stage, State.fld, State.reg_raise _ _ _ _ _ _ _ .ctlStart [] (by decide)]

/-- A stack that fails training stops the start at its stage (R486). -/
theorem trainStageDone_stops {s : State} {e : Eudel} (hrun : s.nvm.run = some e) (hd : s.TrainDue) (k : Nat) :
    ∃ t, exec (.trainStageDone [k]) s = .next t ∧ t.nvm.stopped = true ∧ t.stage = 5 ∧ t.mem = s.mem := by
  refine ⟨_, commitMem_of (bodyTrainStageDone_stops (s := s.fresh) hrun ⟨hd.stage, hd.power, hd.todo, hd.safe, hd.goes⟩ k), ?_, ?_, ?_⟩
  · rw [State.keptMem_nvm, State.trainFault, State.raise_nvm]
  · exact (State.stage_raise _ _ _ _ _ _ _).trans hd.stage
  · rw [State.keptMem_mem, State.trainFault, State.raise_only]
    rfl

/-- A start's training leaves the stacks serving blank memory, bank 0 filled and the time source chosen. -/
theorem trainStageDone_trains {s : State} {e : Eudel} (hrun : s.nvm.run = some e) (hd : s.TrainDue) :
    ∃ t, exec (.trainStageDone []) s = .next t ∧ t.nvm.trained = true ∧ t.fwd = { bank0 := e.bank }
      ∧ (∀ k, k < 16 → (t.stack k).off = false) ∧ t.keys.timeSrc = e.num "time.source" ∧ ∀ a, a < 16 * stackPages * pageBytes → Memory.byte t.mem a = blankByte := by
  refine ⟨_, commitMem_of (bodyTrainStageDone_trains (s := s.fresh) hrun ⟨hd.stage, hd.power, hd.todo, hd.safe, hd.goes⟩), rfl, rfl,
    fun k hk => ?_, s.fresh.trainedUp_source e, fun a ha => ?_⟩
  · have h := s.fresh.stacksUp_on hk
    rw [State.stack, ← s.fresh.trainedUp_hbm e] at h
    exact h
  · rw [State.keptMem_mem]
    show ((Memory.after s.mem (s.fresh.trainedUp e).mops).byte a) = blankByte
    rw [State.trainedUp_mops]
    exact Memory.byte_zero_in s.mem 0 _ a (Nat.zero_le a) (by omega)

/-! ### FWD_READY -/

theorem bodyFwdReady_stage {s : State} {e : Eudel} (hrun : s.nvm.run = some e) (h5 : s.stage = 5) (ht : s.nvm.trained = true)
    (hp : s.pins.pwrGood = true) (hs : s.flt.safe = false) : (bodyFwdReady s).stage = 6 := by
  unfold bodyFwdReady
  simp only [hrun, h5, ht, hp, hs, and_self, if_true]
  exact State.stage_setStage _ 6

/-! ### READY and SERVICE_IMAGE_RETRY -/

/-- The state of a start with its areas, its regions and its service images. -/
def State.readied (s : State) (e : Eudel) : State :=
  ((((s.takeRetention (e.num "svc.retain_mib")).takeMirror e).takeRegions e).loadServices e).quarantineLost

theorem State.readied_keeps (s : State) (e : Eudel) : (s.readied e).nvm = s.nvm ∧ (s.readied e).time = s.time := by
  let u := ((s.takeRetention (e.num "svc.retain_mib")).takeMirror e).takeRegions e
  have hu : u.startView = s.startView :=
    (State.startView_takeRegions _ e).trans ((State.startView_takeMirror _ e).trans (s.startView_takeRetention _))
  have hq : (s.readied e).startView = (u.loadServices e).startView := State.startView_quarantineLost _
  obtain ⟨hnvm, htime, -⟩ := u.loadServices_keeps e
  exact ⟨(State.startView_nvm hq).trans (hnvm.trans (State.startView_nvm hu)),
    (congrArg (fun v => v.2.1) hq).trans (htime.trans (congrArg (fun v => v.2.1) hu))⟩

theorem bodyReady_readies {s : State} {e : Eudel} (hrun : s.nvm.run = some e) (h6 : s.stage = 6) (hp : s.pins.pwrGood = true)
    (hs : s.flt.safe = false) :
    bodyReady s = ({ s.readied e with nvm := { s.nvm with
      bootFails := if s.nvm.badB then s.nvm.bootFails else 0, svcTry := s.local } } : State).setStage 7 := by
  obtain ⟨hnvm, htime⟩ := s.readied_keeps e
  have hlocal : (s.readied e).local = s.local := congrArg TimeSt.localNs htime
  rw [← hnvm, ← hlocal]
  unfold bodyReady
  simp only [hrun, h6, hp, hs, and_self, if_true]
  rfl

/-- Service images are attempted again in the slots that hold none; nothing else of the start moves (R420). -/
theorem serviceImageRetry_attempts {s : State} {e : Eudel} (hrun : s.nvm.run = some e) (hready : s.isReady = true)
    (hdue : s.nvm.svcTry + 1000000 ≤ s.local) (hh : s.svc.holding = false) (hs : s.flt.safe = false) :
    ∃ t, exec .serviceImageRetry s = .next t ∧ t.nvm.svcTry = s.local ∧ t.isReady = true
      ∧ ∀ k, (s.islot k).state ≠ .empty → t.islot k = s.islot k := by
  let u : State := { s with nvm := { s.nvm with svcTry := s.local } }
  have hbody : bodyServiceImageRetry s = u.loadServices e := by
    unfold bodyServiceImageRetry
    rw [hrun]
    exact if_pos ⟨hready, hdue, hh⟩
  obtain ⟨hnvm, -, hreg⟩ := u.loadServices_keeps e
  refine ⟨_, commit_unlessSafe hs hbody, ?_, ?_, fun k hk => ?_⟩
  · rw [State.kept_nvm, hnvm]
  · have hstage : (u.loadServices e).stage = s.stage := congrArg (fun w => w / 2 ^ 60 % 2 ^ (63 + 1 - 60)) hreg
    show ((u.loadServices e).stage == 7) = true
    rw [hstage]
    exact hready
  · exact State.loadServices_islot (s := u) e hk

/-! ### What the ROM finds, in terms of the state before -/

theorem State.romRuns_stagedValid (s : State) (hd0 hd3 a b : TestResult) :
    (s.romRuns hd0 hd3 a b).StagedValid ↔ a = .pass ∧ 3 ≤ s.nvm.stg ∧ s.nvm.stg ≤ 5 ∧ ∃ e, s.partImage s.nvm.staging = .ok e := by
  simp only [State.StagedValid, State.romRuns_partImage, State.romRuns_nvm]
  cases a <;> simp

theorem State.romRuns_activeOut (s : State) (hd0 hd3 a b : TestResult) :
    (s.romRuns hd0 hd3 a b).ActiveOut
      ↔ a = .fail ∨ 0 ∈ s.nvm.refused ∨ 2 ≤ s.nvm.bootFails ∨ ∃ r, s.partImage s.nvm.active = .error r := by
  simp only [State.ActiveOut, State.romRuns_partImage, State.romRuns_nvm]
  cases a <;> simp

theorem State.romRuns_sampledN (s : State) (hd0 hd3 a b : TestResult) : (s.romRuns hd0 hd3 a b).pins.sampledN = s.pins.recoveryN := by
  rw [State.romRuns_pins]

theorem State.romRuns_refused (s : State) (hd0 hd3 a b : TestResult) : (s.romRuns hd0 hd3 a b).nvm.refused = s.nvm.refused := by
  rw [State.romRuns_nvm]

theorem State.romRuns_bootFails (s : State) (hd0 hd3 a b : TestResult) : (s.romRuns hd0 hd3 a b).nvm.bootFails = s.nvm.bootFails := by
  rw [State.romRuns_nvm]

theorem State.romRuns_badA (s : State) (hd0 hd3 b : TestResult) : (s.romRuns hd0 hd3 .pass b).nvm.badA = false := by
  rw [State.romRuns_nvm]
  rfl

theorem State.romRuns_badB (s : State) (hd0 hd3 a b : TestResult) : (s.romRuns hd0 hd3 a b).nvm.badB = (b == .fail) := by
  rw [State.romRuns_nvm]

/-- Rule 3 at a start, in terms of the state before it. -/
theorem State.romRuns_usesActive {s : State} {hd0 hd3 b : TestResult} {e : Eudel} (hn : s.pins.recoveryN = true)
    (hst : ¬(s.romRuns hd0 hd3 .pass b).StagedValid) (he : s.partImage s.nvm.active = .ok e) (hr : 0 ∉ s.nvm.refused)
    (hf : s.nvm.bootFails < 2) :
    let t := (s.romRuns hd0 hd3 .pass b).chooseImage
    t.stage = 3 ∧ t.nvm.boot = some e ∧ t.nvm.source = 0 ∧ (b = .pass → t.nvm.bootFails = s.nvm.bootFails + 1) := by
  have he' : (s.romRuns hd0 hd3 .pass b).partImage (s.romRuns hd0 hd3 .pass b).nvm.active = .ok e := by
    rw [State.romRuns_partImage, State.romRuns_nvm]
    exact he
  obtain ⟨hstage, hboot, hsource, hcount⟩ := State.chooseImage_uses ((s.romRuns_sampledN ..).trans hn) hst (s.romRuns_badA ..) he'
    (by rwa [State.romRuns_refused]) (by rwa [State.romRuns_bootFails])
  refine ⟨hstage, hboot, hsource, fun hb => ?_⟩
  rw [State.romRuns_bootFails] at hcount
  exact hcount (by rw [State.romRuns_badB, hb]; rfl)

/-- Rule 4 at a start, in terms of the state before it. -/
theorem State.romRuns_usesGolden {s : State} {hd0 hd3 a : TestResult} {e : Eudel} (hn : s.pins.recoveryN = true)
    (hst : ¬(s.romRuns hd0 hd3 a .pass).StagedValid) (ho : (s.romRuns hd0 hd3 a .pass).ActiveOut) (hg : s.goldenImage = .ok e)
    (hr : 1 ∉ s.nvm.refused) :
    let t := (s.romRuns hd0 hd3 a .pass).chooseImage
    t.stage = 3 ∧ t.nvm.boot = some e ∧ t.nvm.source = 1 ∧ t.nvm.fellback = true :=
  State.chooseImage_goldenUses ((s.romRuns_sampledN ..).trans hn) hst ho (s.romRuns_badB ..) ((s.romRuns_goldenImage ..).trans hg)
    (by rwa [State.romRuns_refused])

/-- Rule 5 at a start, in terms of the state before it. -/
theorem State.romRuns_recovers {s : State} {hd0 hd3 a b : TestResult} (hn : s.pins.recoveryN = true)
    (hst : ¬(s.romRuns hd0 hd3 a b).StagedValid) (ho : (s.romRuns hd0 hd3 a b).ActiveOut)
    (h : b = .fail ∨ (∃ r, s.goldenImage = .error r) ∨ 1 ∈ s.nvm.refused) :
    let t := (s.romRuns hd0 hd3 a b).chooseImage
    t.stage = 8 ∧ t.nvm.source = 2 ∧ t.nvm.boot = none := by
  refine State.chooseImage_goldenRecovers ((s.romRuns_sampledN ..).trans hn) hst ho ?_
  rw [State.romRuns_goldenImage, State.romRuns_refused, State.romRuns_badB, beq_iff_eq]
  exact h

end Sys2Proof.Machine

open Sys2Proof Sys2Proof.Machine

/-- Settles O58: the rules of R482 in a row, then one stage of Table 20.5 after another. -/
theorem startSequence : Obligations.StartSequence := by
  unfold Obligations.StartSequence
  refine ⟨fun s hw => ⟨coldStart_stuck hw, fun hd0 hd3 a b hpass => ?_⟩, fun s => ⟨?_, ?_, ?_, ?_, ?_, ?_, ?_, ?_, ?_, ?_⟩⟩
  · obtain ⟨t, ht, hnvm, hstage, hword, haux, hreset, hmem, hflt⟩ := coldStart_runs hw hpass a b
    refine ⟨t, ht, hword, haux, hreset, hmem, ?_, fun hlow => ?_, fun hhigh => ?_⟩
    · rintro rfl rfl hq
      rw [hflt]
      exact State.romRuns_flashB hq hd0 hd3
    · rw [hnvm, hstage, State.chooseImage_recovers ((s.romRuns_sampledN ..).trans hlow)]
      exact State.recover_ends _
    · rw [hnvm, hstage, ← State.romRuns_stagedValid s hd0 hd3 a b, ← State.romRuns_activeOut s hd0 hd3 a b]
      refine ⟨fun ⟨hA, h3, h5, e, he⟩ => State.chooseImage_staged ((s.romRuns_sampledN ..).trans hhigh) hA h3 h5 he,
        fun hst => ⟨?_, fun ho => ⟨?_, State.romRuns_recovers hhigh hst ho⟩⟩⟩
      · rintro e rfl he hr hf
        exact State.romRuns_usesActive hhigh hst he hr hf
      · rintro e rfl hg hr
        exact State.romRuns_usesGolden hhigh hst ho hg hr
  · exact fun h => commit_of (bodyStagedCopyDone_waits h)
  · intro e h2 hc hb he hr hA hB
    obtain ⟨hstage, hnvm⟩ := bodyStagedCopyDone_copies h2 hc hb he hr hA hB
    refine ⟨_, commit_of rfl, hstage, ?_⟩
    rw [State.kept_nvm, hnvm]
    exact ⟨rfl, rfl, rfl, rfl, rfl⟩
  · exact fun h => commit_of (bodyTemondStart_waits h)
  · exact fun e hb h3 hs =>
      ⟨_, commit_of rfl, rfl, fun hr => bodyTemondStart_runs hb h3 hs hr, fun hr h1 => bodyTemondStart_refuses hb h3 hs hr h1⟩
  · exact fun h => commit_of (bodyMainRailsGood_waits h)
  · intro e hrun h4 hd hs
    refine ⟨_, commit_of (bodyMainRailsGood_rises hrun h4 hd hs), rfl, State.stage_setStage _ 5, ?_⟩
    rw [State.kept_fld, State.setStage, State.fld_setFld_other _ _ _ _ _ _ _ _ _ _ (by decide)]
    exact State.fld_setFld_same _ _ _ _ _ _
  · intro e hrun h5 hp ht hs hstop
    have hd : s.TrainDue := ⟨h5, hp, ht, hs, hstop⟩
    exact ⟨trainStageDone_stops hrun hd, trainStageDone_trains hrun hd⟩
  · exact fun e hrun h5 ht hp hs => ⟨_, commit_of rfl, bodyFwdReady_stage hrun h5 ht hp hs, rfl⟩
  · intro e hrun h6 hp hs
    refine ⟨_, commit_of (bodyReady_readies hrun h6 hp hs), State.stage_setStage _ 7, fun hB => ?_, rfl, rfl⟩
    show (if s.nvm.badB then s.nvm.bootFails else 0) = 0
    rw [hB, if_neg Bool.false_ne_true]
  · intro e hrun hready hdue hh hs
    obtain ⟨t, ht, htry, htready, hslots⟩ := serviceImageRetry_attempts hrun hready hdue hh hs
    exact ⟨t, ht, htry, htready, fun k _ hk => hslots k hk⟩
end

section
/-!
PROOFS. Sums do not depend on the order of arrival (O6).
-/

namespace Sys2Proof.Machine

/-! ### One accumulator -/

/-- Each column of Table 3.3 gives the same state in either order. -/
theorem Special.after_right_comm (s : Special) (x y : XVal) : (s.after x).after y = (s.after y).after x := by
  rcases s <;> rcases x with _ | (_ | _) | _ <;> rcases y with _ | (_ | _) | _ <;> rfl

/-- No contribution leads back to finite. -/
theorem Special.finite_of_after {s : Special} {x : XVal} (h : s.after x = .finite) : s = .finite ∧ ∃ neg num den, x = .fin neg num den := by
  cases s with
  | finite =>
    rcases x with ⟨neg, num, den⟩ | (_ | _) | _
    · exact ⟨rfl, neg, num, den, rfl⟩
    all_goals cases h
  | _ => rcases x with _ | (_ | _) | _ <;> cases h

theorem Accum.add_finite (w : Window) (i : Int) (neg : Bool) (num den : Nat) :
    (Accum.add w ⟨.finite, i⟩ (.fin neg num den)).acc = ⟨.finite, i + (toWindow w neg num den).int⟩ := rfl

/-- A contribution moves the special state by Table 3.3, whatever it adds to the integer. -/
@[simp] theorem Accum.add_sp (w : Window) (a : Accum) (x : XVal) : (Accum.add w a x).acc.sp = a.sp.after x := by
  obtain ⟨s, i⟩ := a
  cases s <;> cases x <;> rfl

/-- What an accumulator shows: once its state has left finite, the state alone (R62, R63). -/
def Accum.shown (a : Accum) : Accum := if a.sp = .finite then a else ⟨a.sp, 0⟩

theorem Accum.shown_eq {a b : Accum} (hsp : a.sp = b.sp) (hint : a.sp = .finite → a.int = b.int) : a.shown = b.shown := by
  obtain ⟨s, i⟩ := a
  obtain ⟨_, j⟩ := b
  cases hsp
  by_cases hs : s = .finite
  · cases hint hs
    rfl
  · exact (if_neg hs).trans (if_neg hs).symm

@[simp] theorem Accum.shown_sp (a : Accum) : a.shown.sp = a.sp := by
  unfold Accum.shown
  split_ifs <;> rfl

theorem Accum.pattern_shown (w : Window) (a : Accum) : a.shown.pattern w = a.pattern w := by
  obtain ⟨s, i⟩ := a
  cases s <;> rfl

theorem Accum.value_shown (w : Window) (n : Nat) (a : Accum) : a.shown.value w n = a.value w n := by
  obtain ⟨s, i⟩ := a
  cases s <;> rfl

theorem Accum.pattern_eq_of_shown (w : Window) {a b : Accum} (h : a.shown = b.shown) : a.pattern w = b.pattern w := by
  rw [← Accum.pattern_shown, h, Accum.pattern_shown]

theorem Accum.value_eq_of_shown (w : Window) (n : Nat) {a b : Accum} (h : a.shown = b.shown) : a.value w n = b.value w n := by
  rw [← Accum.value_shown, h, Accum.value_shown]

/-- What a contribution leaves to show depends only on what was shown before it. -/
theorem Accum.add_shown (w : Window) (a : Accum) (x : XVal) : (Accum.add w a.shown x).acc.shown = (Accum.add w a x).acc.shown := by
  refine Accum.shown_eq (by simp only [Accum.add_sp, Accum.shown_sp]) fun h => ?_
  obtain ⟨hs, -⟩ := Special.finite_of_after ((Accum.add_sp w a.shown x).symm.trans h)
  rw [Accum.shown, if_pos ((Accum.shown_sp a).symm.trans hs)]

/-- Two contributions show the same in either order: integer addition commutes, and so does Table 3.3 (R62, R65). -/
theorem Accum.add_right_comm (w : Window) (a : Accum) (x y : XVal) :
    (Accum.add w (Accum.add w a x).acc y).acc.shown = (Accum.add w (Accum.add w a y).acc x).acc.shown := by
  refine Accum.shown_eq (by simp only [Accum.add_sp, Special.after_right_comm]) fun h => ?_
  rw [Accum.add_sp, Accum.add_sp] at h
  obtain ⟨hx, _, _, _, rfl⟩ := Special.finite_of_after h
  obtain ⟨ha, _, _, _, rfl⟩ := Special.finite_of_after hx
  obtain ⟨_, i⟩ := a
  subst ha
  simp only [Accum.add_finite, Int.add_right_comm]

/-- The accumulator of one element after a list of contributions (R65). -/
def Accum.addAll (w : Window) (a : Accum) (xs : List XVal) : Accum := xs.foldl (fun a v => (Accum.add w a v).acc) a

/-- The contributions of one element show the same in every order (R65). -/
theorem Accum.addAll_perm (w : Window) (a : Accum) {xs ys : List XVal} (h : xs.Perm ys) :
    (Accum.addAll w a xs).shown = (Accum.addAll w a ys).shown := by
  have hom (l : List XVal) : l.foldl (fun b v => (Accum.add w b v).acc.shown) a.shown = (Accum.addAll w a l).shown :=
    List.foldl_hom Accum.shown (fun b v => Accum.add_shown w b v)
  rw [← hom, ← hom]
  refine h.foldl_eq' (fun x _ y _ b => ?_) _
  rw [Accum.add_shown, Accum.add_shown, Accum.add_right_comm]

/-! ### The accumulators of a chunk -/

/-- The elements of a contribution added to their accumulators, each to its own. -/
def addEach (w : Window) (accs : List Accum) (xs : List XVal) : List Accum := List.zipWith (fun a v => (Accum.add w a v).acc) accs xs

/-- The accumulators of a chunk after a contribution's elements; the first contribution starts them at zero. -/
def addRow (w : Window) (accs : List Accum) (xs : List XVal) : List Accum :=
  addEach w (if accs.isEmpty then List.replicate xs.length Accum.zero else accs) xs

/-- Two contributions of one length add to the accumulators that the first of them starts. -/
theorem addRow_addRow (w : Window) (accs : List Accum) {xs ys : List XVal} (h : xs.length = ys.length) :
    addRow w (addRow w accs xs) ys
      = addEach w (addEach w (if accs.isEmpty then List.replicate xs.length Accum.zero else accs) xs) ys := by
  cases xs with
  | nil =>
    cases List.length_eq_zero_iff.1 h.symm
    exact List.zipWith_nil_right.trans List.zipWith_nil_right.symm
  | cons x xs => cases accs <;> rfl

theorem map_shown_addEach_right_comm (w : Window) (accs : List Accum) (xs ys : List XVal) :
    (addEach w (addEach w accs xs) ys).map Accum.shown = (addEach w (addEach w accs ys) xs).map Accum.shown := by
  induction accs generalizing xs ys with
  | nil => rfl
  | cons a accs ih =>
    cases xs with
    | nil => cases ys <;> rfl
    | cons x xs =>
      cases ys with
      | nil => rfl
      | cons y ys => exact congrArg₂ List.cons (Accum.add_right_comm w a x y) (ih xs ys)

/-- Two contributions of one length show the same in every element, in either order. -/
theorem addRow_right_comm (w : Window) (accs : List Accum) {xs ys : List XVal} (h : xs.length = ys.length) :
    (addRow w (addRow w accs xs) ys).map Accum.shown = (addRow w (addRow w accs ys) xs).map Accum.shown := by
  rw [addRow_addRow w accs h, addRow_addRow w accs h.symm, h, map_shown_addEach_right_comm]

/-! ### The slot and the RESULT of a SUM or AVG chunk -/

section
variable {x : CtxFix} (hop : x.op < 4) (hfunc : x.func ≤ 1)
include hop hfunc

theorem CtxFix.addTo_accs {f : Fmt} (hf : Fmt.ofCode x.fmtIn = some f) (k : Nat) (sl : Slot) (p : List Byte) :
    (x.addTo k sl p).accs = addRow x.window sl.accs ((decodePayload f p).take (x.elems k)) := by
  rw [CtxFix.addTo, hf]
  dsimp only
  rw [if_neg (by omega), if_neg (by omega), if_pos hfunc]
  exact List.map_zipWith ..

/-- The RESULT depends on what the accumulators show alone (R66). -/
theorem CtxFix.result_congr (k : Nat) {sl sl' : Slot} (h : sl.accs.map Accum.shown = sl'.accs.map Accum.shown) :
    x.result k sl = x.result k sl' := by
  have hval (n : Nat) : sl.accs.map (fun a => a.value x.window n) = sl'.accs.map (fun a => a.value x.window n) := by
    simpa only [List.map_map, Function.comp_def, Accum.value_shown] using congrArg (List.map fun a => a.value x.window n) h
  have h6 : x.op ≠ 6 := by omega
  simp only [CtxFix.result, if_neg h6, if_neg (Nat.not_le.2 hop), if_pos hfunc, hval]

end

end Sys2Proof.Machine

open Sys2Proof Sys2Proof.Machine

/-- Settles O6: an accumulator shows its integer while finite and its special state after, and both are the same in every order. -/
theorem sumsDoNotDependOnOrder : Obligations.SumsDoNotDependOnOrder := by
  refine ⟨fun w xs ys hperm => ?_, fun x k sl p q f hf hop hfunc hlen => ?_⟩
  · have h : (Accum.addAll w .zero xs).shown = (Accum.addAll w .zero ys).shown := Accum.addAll_perm w .zero hperm
    exact ⟨Accum.pattern_eq_of_shown w h, fun n => Accum.value_eq_of_shown w n h⟩
  · refine CtxFix.result_congr hop hfunc k ?_
    simp only [CtxFix.addTo_accs hop hfunc hf]
    exact addRow_right_comm _ _ (by simp only [List.length_take, hlen])
end

section
/-!
PROOFS. What a command does on the way of a packet does not look at the changes of HBM noted so far, so a body that starts with none noted
(`State.fresh`) takes a packet in and answers it as the state itself would.
-/

namespace Sys2Proof.Machine

variable (s : State)

/-! ### Reads and updates of the state -/

@[simp] theorem State.fresh_fld (r : Reg) (is : List Nat) (hi lo : Nat) : s.fresh.fld r is hi lo = s.fld r is hi lo := rfl
@[simp] theorem State.fresh_port (p : Nat) : s.fresh.port p = s.port p := rfl
@[simp] theorem State.fresh_pool (p : Nat) : s.fresh.pool p = s.pool p := rfl
@[simp] theorem State.fresh_sess (i : Nat) : s.fresh.sess i = s.sess i := rfl
@[simp] theorem State.fresh_hub (h : Nat) : s.fresh.hub h = s.hub h := rfl
@[simp] theorem State.fresh_local : s.fresh.local = s.local := rfl
@[simp] theorem State.fresh_now : s.fresh.now = s.now := rfl
@[simp] theorem State.fresh_portJob (p : Nat) : s.fresh.portJob p = s.portJob p := rfl
@[simp] theorem State.fresh_isFabric (p : Nat) : s.fresh.isFabric p = s.isFabric p := rfl
@[simp] theorem State.fresh_creditClass (p c : Nat) : s.fresh.creditClass p c = s.creditClass p c := rfl
@[simp] theorem State.fresh_birthNow : s.fresh.birthNow = s.birthNow := rfl

@[simp] theorem State.setPort_fresh (p : Nat) (q : PortSt) : s.fresh.setPort p q = (s.setPort p q).fresh := rfl
@[simp] theorem State.setPool_fresh (p : Nat) (q : BpmPool) : s.fresh.setPool p q = (s.setPool p q).fresh := rfl
@[simp] theorem State.setSess_fresh (i : Nat) (m : MirSess) : s.fresh.setSess i m = (s.setSess i m).fresh := rfl
@[simp] theorem State.bump_fresh (r : Reg) (is : List Nat) (hi lo n : Nat) : s.fresh.bump r is hi lo n = (s.bump r is hi lo n).fresh := rfl
@[simp] theorem State.portCount_fresh (p i n : Nat) : s.fresh.portCount p i n = (s.portCount p i n).fresh := rfl
@[simp] theorem State.qftCount_fresh (p i : Nat) : s.fresh.qftCount p i = (s.qftCount p i).fresh := rfl
@[simp] theorem State.fwdCount_fresh (d i : Nat) : s.fresh.fwdCount d i = (s.fwdCount d i).fresh := rfl

/-! ### Credit, retry, mirroring and policing -/

theorem State.retryAccept_fresh (p c : Nat) : s.fresh.retryAccept p c = ((s.retryAccept p c).1, (s.retryAccept p c).2.fresh) := by
  unfold State.retryAccept
  dsimp only
  rw [State.fresh_port]
  split
  · split <;> rfl
  · rfl

theorem State.creditTake_fresh (p c n : Nat) : s.fresh.creditTake p c n = (s.creditTake p c n).fresh := by
  unfold State.creditTake
  rw [State.fresh_creditClass, State.fresh_port]
  dsimp only
  rw [State.setPort_fresh, State.portCount_fresh]
  split
  · split <;> rfl
  · rfl

theorem State.creditBack_fresh (p c n : Nat) : s.fresh.creditBack p c n = (s.creditBack p c n).fresh := by
  unfold State.creditBack
  rw [apply_ite State.fresh]
  rfl

theorem State.mirrorOne_fresh (die i : Nat) (v : Seen) : s.fresh.mirrorOne die i v = (s.mirrorOne die i v).fresh := by
  unfold State.mirrorOne
  dsimp only
  rw [show s.fresh.selects i v = s.selects i v from rfl, State.fresh_sess, State.fresh_fld, State.fresh_fld, State.fresh_pool]
  split
  · split
    · rfl
    · split
      · rfl
      · split
        · rfl
        · split <;> rfl
  · rfl

theorem State.mirrorAt_fresh (die : Nat) (v : Seen) : s.fresh.mirrorAt die v = (s.mirrorAt die v).fresh :=
  List.foldl_hom State.fresh fun t i => t.mirrorOne_fresh die i v

theorem State.charge_fresh (a k share len : Nat) : s.fresh.charge a k share len = (s.charge a k share len).fresh := by
  unfold State.charge
  rw [apply_ite State.fresh]
  rfl

theorem State.police_fresh (p c len : Nat) (ctx : Option Nat) :
    s.fresh.police p c len ctx = ((s.police p c len ctx).1, (s.police p c len ctx).2.fresh) := by
  refine Eq.trans ?_ (apply_ite (fun r : Bool × State => (r.1, r.2.fresh)) _ _ _).symm
  exact congrArg₂ (ite _) (congrArg (Prod.mk true) (List.foldl_hom State.fresh fun t q => t.charge_fresh _ _ _ _))
    (congrArg (Prod.mk false) (List.foldl_hom State.fresh fun t q => rfl))

theorem State.policed_fresh {s t : State} {port len : Nat} {p k : Packet} {ctx : Option Nat} (h : s.policed port len p ctx = .pass k t) :
    s.fresh.policed port len p ctx = .pass k t.fresh := by
  unfold State.policed at h ⊢
  rw [State.police_fresh]
  dsimp only at h ⊢
  split at h
  · next hpass =>
    cases h
    rw [if_pos hpass, State.qftCount_fresh, State.rxDrop, State.creditBack_fresh]
    rfl
  · cases h

/-! ### Answers -/

/-- A lookup's end, with no change of HBM noted. -/
def Looked.fresh : Looked → Looked
  | .found m t => .found m t.fresh
  | .drop t => .drop t.fresh

theorem State.flowHash_fresh : s.fresh.flowHash = s.flowHash := by
  funext bs
  unfold State.flowHash
  rw [State.fresh_fld, State.fresh_keys]

theorem State.pinned_fresh : s.fresh.pinned = s.pinned := by
  funext b g hashIn
  unfold State.pinned
  rw [State.flowHash_fresh, show s.fresh.liveFrom = s.liveFrom from rfl]

theorem State.lookupQft_fresh (die : Nat) (p : Packet) : s.fresh.lookupQft die p = (s.lookupQft die p).fresh := by
  unfold State.lookupQft
  dsimp only
  rw [State.fwdCount_fresh]
  generalize s.fwdCount die 0 = u
  rw [show u.fresh.activeBank = u.activeBank from rfl, State.fresh_fld]
  split
  · rfl
  · split
    · rw [show u.fresh.sprayed = u.sprayed from rfl]
      split <;> rfl
    · rw [State.pinned_fresh, show u.fresh.qftHashIn = u.qftHashIn from rfl]
      split
      · rfl
      · split <;> rfl

theorem State.encapsulate_fresh : s.fresh.encapsulate = s.encapsulate := rfl

theorem State.mkItem_fresh : s.fresh.mkItem = s.mkItem := rfl

theorem State.originate_fresh (die : Nat) (p : Packet) (note : Nat) : s.fresh.originate die p note = (s.originate die p note).fresh := by
  unfold State.originate
  dsimp only
  rw [State.lookupQft_fresh, State.fresh_keys, State.fresh_birthNow, State.fresh_fwd]
  generalize Packet.sealed _ = q
  cases s.lookupQft die q with
  | drop u => rfl
  | found m u =>
    dsimp only [Looked.fresh]
    rw [State.encapsulate_fresh, State.mkItem_fresh]
    rfl

theorem State.nackAt_fresh (port : Nat) (p : Packet) (status expect : Nat) :
    s.fresh.nackAt port p status expect = (s.nackAt port p status expect).fresh := by
  rw [State.nackAt, State.qftCount_fresh, State.fresh_keys, State.originate_fresh]
  rfl

/-! ### Receptions that pass -/

/-- A frame with a bad FCS is never taken in. -/
theorem State.receiveBad_not_service (port : Nat) (f : Frame) (p : Packet) (t : State) : s.receiveBad port f ≠ .service p t := by
  unfold State.receiveBad
  dsimp only
  split
  · nofun
  · split
    · nofun
    · nofun
    · split <;> nofun

/-- The count of a packet that comes from a fabric port under another bank than the active one (R304). -/
theorem State.epochNoted_fresh (port : Nat) (q : Packet) :
    (if s.fresh.isFabric port = true ∧ q.epoch ≠ s.fresh.fwd.active then s.fresh.fwdCount (port / 96) 11 else s.fresh)
      = (if s.isFabric port = true ∧ q.epoch ≠ s.fwd.active then s.fwdCount (port / 96) 11 else s).fresh := by
  rw [apply_ite State.fresh]
  rfl

theorem State.poolSteps_fresh {s t : State} {port len : Nat} {p k : Packet} (h : s.poolSteps port len p = .pass k t) :
    s.fresh.poolSteps port len p = .pass k t.fresh := by
  unfold State.poolSteps at h ⊢
  rw [show s.fresh.liveRegion = s.liveRegion from rfl]
  dsimp only at h ⊢
  cases hx : s.liveRegion p.ctx with
  | none =>
    rw [hx] at h
    dsimp only at h
    split at h <;> cases h
  | some x =>
    rw [hx] at h
    dsimp only at h ⊢
    rw [show s.fresh.verdict = s.verdict from rfl, State.fresh_portJob]
    split at h
    · split at h <;> cases h
    next hahead =>
    split_ifs at h with hbehind hfmt hjob hkey
    rw [if_neg hahead, if_neg hbehind, if_neg hfmt, if_neg hjob, if_neg hkey]
    exact State.policed_fresh h

theorem State.ctxSteps_fresh {s t : State} {port len : Nat} {p k : Packet} (h : s.ctxSteps port len p = .pass k t) :
    s.fresh.ctxSteps port len p = .pass k t.fresh := by
  unfold State.ctxSteps at h ⊢
  rw [show s.fresh.ctx? = s.ctx? from rfl]
  dsimp only at h ⊢
  cases hc : s.ctx? p.ctx with
  | none => rw [hc] at h; cases h
  | some c =>
    rw [hc] at h
    dsimp only at h ⊢
    rw [State.fresh_portJob]
    generalize (if p.typ = tREARM ∨ p.typ = tTEARDOWN then none else some p.ctx) = o at *
    split_ifs at h with habsent hjob hgen hmember
    rw [if_neg habsent, if_neg hjob, if_neg hgen, if_neg hmember]
    exact State.policed_fresh h

/-- A frame taken in for the service endpoint: good, of a fitting length, and with the header of a packet that is not link-local. -/
theorem State.frame_of_service {s t u : State} {port : Nat} {f : Frame} {p : Packet} (h : s.receive port f = .service p t)
    (hu : (s.portCount port 0).portCount port 1 f.len = u) :
    ¬(!s.linkUp port || s.flt.safe) = true ∧ ¬(!f.fcsOk) = true ∧ ¬f.len < 64 ∧ ¬u.maxFrame port < f.len
      ∧ ∃ bs, u.recognise f = .qft bs ∧ ¬((Packet.parse bs).typ == tLINK_CREDIT || (Packet.parse bs).typ == tLINK_RETRY) = true := by
  unfold State.receive at h
  rw [hu] at h
  by_cases hup : (!s.linkUp port || s.flt.safe) = true
  · rw [if_pos hup] at h
    cases h
  by_cases hfcs : (!f.fcsOk) = true
  · rw [if_neg hup, if_pos hfcs] at h
    exact absurd h (s.receiveBad_not_service port f p t)
  rw [if_neg hup, if_neg hfcs] at h
  dsimp only at h
  by_cases hshort : f.len < 64
  · rw [if_pos hshort] at h
    cases h
  by_cases hlong : u.maxFrame port < f.len
  · rw [if_neg hshort, if_pos hlong] at h
    split at h <;> cases h
  rw [if_neg hshort, if_neg hlong] at h
  refine ⟨hup, hfcs, hshort, hlong, ?_⟩
  cases hr : u.recognise f with
  | other => rw [hr] at h; cases h
  | badUdp => rw [hr] at h; cases h
  | qft bs =>
    refine ⟨bs, rfl, fun hlocal => ?_⟩
    simp only [hr, hlocal, if_true] at h
    split_ifs at h

theorem State.receive_fresh {s t : State} {port : Nat} {f : Frame} {p : Packet} (h : s.receive port f = .service p t) :
    s.fresh.receive port f = .service p t.fresh := by
  obtain ⟨hup, hfcs, hshort, hlong, bs, hqft, hlocal⟩ := State.frame_of_service h rfl
  unfold State.receive at h ⊢
  rw [show s.fresh.linkUp port = s.linkUp port from rfl, State.fresh_flt, State.portCount_fresh, State.portCount_fresh]
  rw [if_neg hup, if_neg hfcs] at h ⊢
  generalize (s.portCount port 0).portCount port 1 f.len = u at *
  dsimp only at h ⊢
  rw [show u.fresh.maxFrame = u.maxFrame from rfl, show u.fresh.recognise = u.recognise from rfl]
  rw [if_neg hshort, if_neg hlong, hqft] at h ⊢
  dsimp only at h ⊢
  generalize Packet.parse bs = q at *
  simp only [if_neg hlocal] at h ⊢
  rw [State.retryAccept_fresh]
  generalize u.retryAccept port q.cls = r at *
  dsimp only at h ⊢
  rw [State.creditTake_fresh, State.mirrorAt_fresh]
  generalize r.2.creditTake port q.cls (cellsOf f.len) = v at *
  generalize v.mirrorAt (port / 96) (seenIngress port f (some q) q.cls) = w at *
  rw [State.epochNoted_fresh]
  generalize (if w.isFabric port = true ∧ q.epoch ≠ w.fwd.active then w.fwdCount (port / 96) 11 else w) = x at *
  rw [State.fresh_isFabric, State.fresh_birthNow]
  generalize (if x.isFabric port = true then none else some x.birthNow) = b at *
  split_ifs at h with hr hver hcrc hlen htyp httl hdst hready
  cases h
  rw [if_neg hr, if_neg hver, if_neg hcrc, if_neg hlen, if_neg htyp]
  exact (if_neg httl).trans ((if_pos hdst).trans (if_pos hready))

/-- A packet that passes its port's checks passes them too where no change of HBM is noted, and leaves the same state but for the changes. -/
theorem State.serviceRx_fresh {s t : State} {port typ : Nat} {f : Frame} {p : Packet} (h : s.serviceRx port f typ = .pass p t) :
    s.fresh.serviceRx port f typ = .pass p t.fresh := by
  unfold State.serviceRx at h ⊢
  rw [show s.fresh.isFor f typ = s.isFor f typ from rfl]
  split at h
  · cases h
  next hfor =>
  rw [if_neg hfor]
  cases hrx : s.receive port f with
  | service k u =>
    rw [hrx] at h
    rw [State.receive_fresh hrx]
    dsimp only at h ⊢
    split_ifs at h with hicrc hcls hlen hpool hfmt hctx
    · rw [if_neg hicrc, if_neg hcls, if_neg hlen, if_pos hpool]
      exact State.poolSteps_fresh h
    · rw [if_neg hicrc, if_neg hcls, if_neg hlen, if_neg hpool, if_neg hfmt, if_pos hctx]
      exact State.ctxSteps_fresh h
    · rw [if_neg hicrc, if_neg hcls, if_neg hlen, if_neg hpool, if_neg hfmt, if_neg hctx]
      exact State.policed_fresh h
  | _ => rw [hrx] at h; cases h

end Sys2Proof.Machine
end

section
/-!
PROOFS. MGMT, PROBE and the packets that answer (O24, O25).
-/

namespace Sys2Proof.Machine

/-- A command whose body notes no change of HBM keeps HBM, whichever way it commits. -/
theorem commitMem_fresh {s t : State} {f : State → State} (h : f s.fresh = t.fresh) : commitMem s f = .next (s.kept t) := commitMem_of h

/-! ### The rows, for a packet that passes the checks of its port -/

theorem State.mgmtRow_pass {s : State} {n : Nat} {f : Frame} {h : Packet} (hh : s.header? f = some h) {w : Bool}
    (hop : (mgmtOp h == 2) = w) {k : Packet} {u : State} (hrx : s.serviceRx n f tMGMT = .pass k u) :
    s.mgmtRow w (.port n) f = u.mgmtServe (.port n) f k := by
  simp only [State.mgmtRow, State.mgmtHead, hh, hop, bne_self_eq_false, Bool.false_eq_true, if_false, State.mgmtRx, hrx]

theorem bodyMgmtRead_pass {s : State} {n : Nat} {f : Frame} {h : Packet} (hh : s.header? f = some h)
    (hop : mgmtOp h ≠ 2) {k : Packet} {u : State} (hrx : s.serviceRx n f tMGMT = .pass k u) :
    bodyMgmtRead (.port n) f s = u.mgmtServe (.port n) f k := State.mgmtRow_pass hh (beq_false_of_ne hop) hrx

theorem bodyMgmtWrite_pass {s : State} {n : Nat} {f : Frame} {h : Packet} (hh : s.header? f = some h)
    (hop : mgmtOp h = 2) {k : Packet} {u : State} (hrx : s.serviceRx n f tMGMT = .pass k u) :
    bodyMgmtWrite (.port n) f s.fresh = u.fresh.mgmtServe (.port n) f k :=
  State.mgmtRow_pass (s := s.fresh) hh (beq_iff_eq.2 hop) (State.serviceRx_fresh hrx)

theorem bodyProbe_pass {s : State} {n : Nat} {f : Frame} {h : Packet} (hh : s.header? f = some h) (hr : probeReply h = false)
    {k : Packet} {u : State} (hrx : s.serviceRx n f tPROBE = .pass k u) :
    bodyProbe (.port n) f s = u.originate (n / 96) (probeAnswer k u.keys.svcEp u.now) := by
  simp [bodyProbe, State.probeRow, State.mgmtHead, hh, hr, State.mgmtRx, hrx, State.mgmtSend]

theorem bodyProbeReplyReceive_pass {s : State} {n : Nat} {f : Frame} {h : Packet} (hh : s.header? f = some h) (hr : probeReply h = true)
    {k : Packet} {u : State} (hrx : s.serviceRx n f tPROBE = .pass k u) : bodyProbeReplyReceive (.port n) f s = u := by
  simp [bodyProbeReplyReceive, State.probeRow, State.mgmtHead, hh, hr, State.mgmtRx, hrx]

theorem bodyAckNack_pass {s : State} {n : Nat} {f : Frame} {h : Packet} (hh : s.header? f = some h) (ht : h.typ = tACK ∨ h.typ = tNACK)
    {k : Packet} {u : State} (hrx : s.serviceRx n f h.typ = .pass k u) : bodyAckNack n f s = u := by
  simp only [bodyAckNack, hh, if_pos ht, hrx]

/-! ### MGMT requests, judged -/

section
variable {s : State} {n : Nat} (f : Frame) {p : Packet}

theorem State.mgmtServe_notMyJob (h : s.fld .prtPortCfg (portIdx n) 58 58 = 0) :
    s.mgmtServe (.port n) f p = (s.qftCount n 9).nackAt n p stNOT_MY_JOB := by
  simp [State.mgmtServe, State.mgmtPort, State.mgmtNack, h]

variable (h : s.fld .prtPortCfg (portIdx n) 58 58 = 1)
include h

theorem State.mgmtServe_badDesc (hop : mgmtOp p = 2) (hn : mgmtN p = 0 ∨ p.len < 8 + 8 * mgmtN p) :
    s.mgmtServe (.port n) f p = s.nackAt n p stBADDESC := by
  have hport : s.mgmtPort (.port n) = true := beq_iff_eq.2 h
  by_cases h0 : mgmtN p = 0
  · simp [State.mgmtServe, State.mgmtNack, hport, h0]
  · simp [State.mgmtServe, State.mgmtNack, hport, hop, h0, hn.resolve_left h0]

theorem State.mgmtServe_read (hop : mgmtOp p = 1) (hn : 0 < mgmtN p) :
    s.mgmtServe (.port n) f p = (s.readRun p).2.originate (n / 96) (mgmtReply p (s.readRun p).2.keys.svcEp (s.readRun p).1) := by
  have hport : s.mgmtPort (.port n) = true := beq_iff_eq.2 h
  simp [State.mgmtServe, State.mgmtSend, hport, hop, hn.ne']

theorem State.mgmtServe_write (hop : mgmtOp p = 2) (hn : 0 < mgmtN p) (hlen : 8 + 8 * mgmtN p ≤ p.len) :
    s.mgmtServe (.port n) f p = ((s.writeRun p).readRun p).2.originate (n / 96)
      (mgmtReply p ((s.writeRun p).readRun p).2.keys.svcEp ((s.writeRun p).readRun p).1) := by
  have hport : s.mgmtPort (.port n) = true := beq_iff_eq.2 h
  simp [State.mgmtServe, State.mgmtSend, hport, hop, hn.ne', Nat.not_lt.2 hlen]

end

end Sys2Proof.Machine

open Sys2Proof Sys2Proof.Machine

/-- Settles O24: every other port's request is refused before its OP is looked at, and a write's row notes no change of HBM. -/
theorem mgmtOnlyOnManagementPorts : Obligations.MgmtOnlyOnManagementPorts := by
  intro s n f h k u hh hrx hport
  refine ⟨fun hop => ?_, fun hop => ?_⟩
  · refine commitMem_fresh ((bodyMgmtWrite_pass hh hop hrx).trans ?_)
    rw [State.mgmtServe_notMyJob (s := u.fresh) f hport, State.qftCount_fresh, State.nackAt_fresh]
  · exact commit_of ((bodyMgmtRead_pass hh hop hrx).trans (State.mgmtServe_notMyJob f hport))

/-- Settles O25: each row by the outcome that its request's OP, NREG and length select. -/
theorem mgmtAndProbeAreAnswered : Obligations.MgmtAndProbeAreAnswered := by
  intro s n f h k u hh
  refine ⟨fun hrx hport hword => ⟨fun hop hn => ?_, fun hop hn hlen => ?_, fun hop hn => ?_⟩, fun hrx => ⟨fun hb => ?_, fun hb => ?_⟩,
    fun ht hrx => commit_of (bodyAckNack_pass hh ht hrx)⟩
  · have hhead : mgmtOp h ≠ 2 := fun e => absurd (hop.symm.trans (hword.symm.trans e)) (by decide)
    exact commit_of ((bodyMgmtRead_pass hh hhead hrx).trans (State.mgmtServe_read f hport hop hn))
  · exact commitMem_of ((bodyMgmtWrite_pass hh (hword.trans hop) hrx).trans (State.mgmtServe_write f hport hop hn hlen))
  · refine commitMem_fresh ((bodyMgmtWrite_pass hh (hword.trans hop) hrx).trans ?_)
    rw [State.mgmtServe_badDesc (s := u.fresh) f hport hop hn, State.nackAt_fresh]
  · exact commit_of (bodyProbe_pass hh hb hrx)
  · exact commit_of (bodyProbeReplyReceive_pass hh hb hrx)
end

section
/-!
PROOFS. Pool packets enter at their home (O36).
-/

namespace Sys2Proof.Machine

/-! ### The four packet types -/

theorem poolRow_pass {s t : State} {typ port : Nat} {f : Frame} {p : Packet} (h : s.serviceRx port f typ = .pass p t) :
    poolRow typ port f s = t.poolArrive port p ((frameBytes f).take 128) := by rw [poolRow, h]

/-- A command whose body is the row of a pool packet type. -/
theorem exec_pool {s t : State} {port typ : Nat} {f : Frame} {p : Packet} {c : Instr}
    (hc : (c = .poolRd port f ∧ typ = tPOOL_RD) ∨ (c = .poolWr port f ∧ typ = tPOOL_WR) ∨ (c = .poolAtom port f ∧ typ = tPOOL_ATOM)
      ∨ (c = .poolFence port f ∧ typ = tPOOL_FENCE)) (h : s.serviceRx port f typ = .pass p t) :
    exec c s = .next (s.kept (t.poolArrive port p ((frameBytes f).take 128))) := by
  rcases hc with ⟨rfl, rfl⟩ | ⟨rfl, rfl⟩ | ⟨rfl, rfl⟩ | ⟨rfl, rfl⟩ <;> exact commit_of (poolRow_pass h)

/-! ### An access at its ingress port die -/

theorem State.region?_of_live {s : State} {r : Nat} {x : Region} (h : s.liveRegion r = some x) : s.region? r = some x := by
  unfold State.liveRegion at h
  split at h
  · next y hy =>
    split_ifs at h
    rw [hy, h]
  · cases h

/-- The request a packet of region `x` enters with on a pair that has no open stream: not yet sent to its home, and behind itself where it
opens a stream (R107 rule 1, R200, R206). -/
def State.poolReq (s : State) (port : Nat) (x : Region) (p : Packet) (ordered : Bool) (head : List Byte) : PReq :=
  let earlier := (s.mp.reqs.filter fun q => q.region == p.ctx && q.pkt.src == p.src && q.port / 96 == port / 96).map PReq.id
  { id := s.nextId, port := port, pkt := p, region := p.ctx, stack := x.stackOf p.ctx (homeOff x p / pageBytes), stream := ordered,
    sent := false, served := false, tagF := 0, behind := (if fenceLike p then earlier else []) ++ if ordered then [s.nextId] else [],
    dups := [], head := head }

/-- The device holds one request more, and one number is taken. -/
def State.withReq (s : State) (q : PReq) : State := { s with nextId := s.nextId + 1, mp := { s.mp with reqs := s.mp.reqs ++ [q] } }

/-- One stream more is open. -/
def State.withStream (s : State) (y : Stream) : State := { s with mp := { s.mp with streams := s.mp.streams ++ [y] } }

/-- A pool packet names no operation (step 2 of Table 8.4). -/
def badPoolOp (p : Packet) : Prop := ordOf p = 3 ∨ (p.typ = tPOOL_ATOM ∧ (atomBytes ((p.word 0).field 63 56)).isNone = true)

section
variable {s : State} {port : Nat} {p : Packet} {x : Region} (head : List Byte)

/-- The pair of an unordered access has no open stream. -/
theorem State.stream?_of_unordered (h : s.isOrdered port x p = false) : s.stream? (port / 96) p.src p.ctx = none := by
  simp only [State.isOrdered, Bool.or_eq_false_iff] at h
  exact Option.isNone_iff_eq_none.1 (Option.isSome_eq_false_iff.1 h.2)

theorem State.spend_noStream (h : s.stream? (port / 96) p.src p.ctx = none) : s.spend port p = s := by rw [State.spend, h]

variable (hx : s.liveRegion p.ctx = some x)
include hx

theorem State.poolArrive_needsStream (ho : s.isOrdered port x p = true) (hn : s.stream? (port / 96) p.src p.ctx = none)
    (hf : p.typ ≠ tPOOL_FENCE) : s.poolArrive port p head = s.nackAt port p stRETRY 0 := by
  simp [State.poolArrive, hx, ho, hn, hf]

theorem State.poolArrive_badOp (ho : s.isOrdered port x p = false) (hb : badPoolOp p) :
    s.poolArrive port p head = (s.bump .rgnErr [p.ctx] 31 16).nackPool port p stBADDESC := by
  have hn := State.stream?_of_unordered ho
  unfold badPoolOp at hb
  simp only [State.poolArrive, hx, ho, hn, State.spend_noStream hn, if_pos hb, Bool.false_and, Bool.false_eq_true, if_false, Option.isSome_none]

theorem State.poolArrive_outOfRange (ho : s.isOrdered port x p = false) (hb : ¬badPoolOp p) (hr : rangeOk x p = false) :
    s.poolArrive port p head = (s.bump .rgnErr [p.ctx] 31 16).nackPool port p stRANGE := by
  have hn := State.stream?_of_unordered ho
  unfold badPoolOp at hb
  simp only [State.poolArrive, hx, ho, hn, State.spend_noStream hn, if_neg hb, hr, Bool.false_and, Bool.false_eq_true, if_false,
    Option.isSome_none, Bool.not_false, if_true]

theorem State.poolArrive_unordered (ho : s.isOrdered port x p = false) (hb : ¬badPoolOp p) (hr : rangeOk x p = true) :
    s.poolArrive port p head = (s.withReq (s.poolReq port x p false head)).releaseReq (s.poolReq port x p false head) := by
  have hn := State.stream?_of_unordered ho
  unfold badPoolOp at hb
  simp only [State.poolArrive, hx, ho, hn, if_neg hb, hr, Bool.false_and, Bool.false_eq_true, if_false, Option.isSome_none, Bool.not_true]
  rfl

/-- A fence that opens a stream waits in it, and the stream releases what it may (R107 rule 1). -/
theorem State.poolArrive_opens (ho : s.isOrdered port x p = true) (hn : s.stream? (port / 96) p.src p.ctx = none)
    (hf : p.typ = tPOOL_FENCE) (hroom : (s.mp.streams.filter fun y => y.die == port / 96).length < 2048) (hb : ¬badPoolOp p)
    (hr : rangeOk x p = true) :
    s.poolArrive port p head = releaseStream (port / 96) p.src p.ctx (s.mp.reqs.length + 1)
      ((s.withStream ⟨port / 96, p.src, p.ctx, (p.seq + 1) % 2 ^ 32, s.local, []⟩).withReq (s.poolReq port x p true head)) := by
  unfold badPoolOp at hb
  have hfence : (p.typ != tPOOL_FENCE) = false := bne_eq_false_iff_eq.2 hf
  simp only [State.poolArrive, hx, ho, hn, hfence, if_neg hb, hr, Option.isSome_none, Bool.not_true, Bool.not_false, Bool.and_self,
    Bool.true_and, Bool.false_eq_true, decide_eq_true_eq, if_neg (Nat.not_le.2 hroom), if_false, if_true, List.length_append,
    List.length_singleton]
  rfl

end

/-! ### Release to the home hub die -/

section
variable {s : State} {q : PReq}

theorem State.entriesUsed_withReq (hq : q.sent = false) (hub : Nat) : (s.withReq q).entriesUsed hub = s.entriesUsed hub := by
  simp [State.entriesUsed, State.withReq, List.filter_append, hq]

theorem State.refuseHome_unordered (hs : q.stream = false) (st : Nat) :
    s.refuseHome q st = s.refuseReq q st (if st = stPOISON then 63 else 47) (if st = stPOISON then 48 else 32) := by
  unfold State.refuseHome
  split
  · next h => simp [hs, h]
  · simp [hs, State.rollback]

/-- A request refused as it enters leaves nothing behind but its number, its count and its NACK. -/
theorem State.refuseReq_withReq (hid : ∀ r ∈ s.mp.reqs, r.id ≠ q.id) (status hi lo : Nat) :
    (s.withReq q).refuseReq q status hi lo
      = (({ s with nextId := s.nextId + 1 } : State).bump .rgnErr [q.region] hi lo).nackPool q.port q.pkt status := by
  have hreqs : (s.mp.reqs ++ [q]).filter (fun r => r.id != q.id) = s.mp.reqs := by
    rw [List.filter_append, List.filter_eq_self.2 fun r hr => bne_iff_ne.2 (hid r hr)]
    simp
  unfold State.refuseReq State.withReq
  dsimp only
  rw [hreqs]
  rfl

/-- An access that its home hub die takes as it enters is sent there (R210). -/
theorem State.releaseReq_sends {x : Region} (hq : q.sent = false) (hx : s.region? q.region = some x)
    (hroom : s.entriesUsed (hubOfStack q.stack) < 16384) (hh : s.homeRefuses q x = none) :
    (s.withReq q).releaseReq q = (s.withReq q).sendReq q x.job := by
  rw [← State.entriesUsed_withReq hq] at hroom
  simp only [State.releaseReq, show (s.withReq q).region? q.region = some x from hx, if_neg (Nat.not_le.2 hroom),
    show (s.withReq q).homeRefuses q x = none from hh]

/-- An unordered access that its home hub die refuses as it enters. -/
theorem State.releaseReq_refuses {x : Region} (hq : q.sent = false) (hs : q.stream = false) (hid : ∀ r ∈ s.mp.reqs, r.id ≠ q.id)
    (hx : s.region? q.region = some x) (hroom : s.entriesUsed (hubOfStack q.stack) < 16384) {st : Nat} (hh : s.homeRefuses q x = some st) :
    (s.withReq q).releaseReq q
      = (({ s with nextId := s.nextId + 1 } : State).bump .rgnErr [q.region] (if st = stPOISON then 63 else 47)
          (if st = stPOISON then 48 else 32)).nackPool q.port q.pkt st := by
  rw [← State.refuseReq_withReq hid, ← State.refuseHome_unordered hs]
  rw [← State.entriesUsed_withReq hq] at hroom
  simp only [State.releaseReq, show (s.withReq q).region? q.region = some x from hx, if_neg (Nat.not_le.2 hroom),
    show (s.withReq q).homeRefuses q x = some st from hh]

/-- The request as its home hub die holds it: sent, with its finish tag (R210, R354). -/
def State.sentReq (s : State) (q : PReq) (job : Nat) : PReq :=
  { q with sent := true, tagF := (s.enterStack q.stack job (linesOf q.pkt.offset (accessLen q.pkt))).1 }

theorem State.sendReq_reqs (job : Nat) :
    (s.sendReq q job).mp.reqs = s.mp.reqs.map fun r => if r.id == q.id then s.sentReq q job else r := rfl

theorem State.sentReq_mem (hq : q ∈ s.mp.reqs) (job : Nat) : s.sentReq q job ∈ (s.sendReq q job).mp.reqs := by
  rw [State.sendReq_reqs]
  exact List.mem_map.2 ⟨q, hq, if_pos (beq_self_eq_true q.id)⟩

end

/-- A fence reads nothing and touches no span: only a stack that retrains refuses it at its home. -/
theorem State.homeRefuses_fence {s : State} {q : PReq} (x : Region) (hf : q.pkt.typ = tPOOL_FENCE) (hs : (s.stack q.stack).retrain = false) :
    s.homeRefuses q x = none := by
  have hlen : accessLen q.pkt = 0 := by rw [accessLen, hf]; rfl
  simp [State.homeRefuses, hs, hf, hlen, State.meetsPoison]

/-! ### Release of a stream -/

/-- The access belongs to the stream of a pair on a port die (R206). -/
def PReq.inStream (die src region : Nat) (q : PReq) : Bool := q.stream && q.port / 96 == die && q.region == region && q.pkt.src == src

section
variable {s : State} {die src region : Nat}

theorem releaseStream_allSent (h : ∀ q ∈ s.mp.reqs, q.inStream die src region = true → q.sent = true) (k : Nat) :
    releaseStream die src region k s = s := by
  cases k with
  | zero => rfl
  | succ k =>
    have hnone : (s.mp.reqs.filter (PReq.inStream die src region)).find? (fun q => !q.sent) = none :=
      List.find?_eq_none.2 fun q hq => by
        obtain ⟨hm, hin⟩ := List.mem_filter.1 hq
        simp [h q hm hin]
    rw [releaseStream]
    dsimp only
    rw [show (s.mp.reqs.filter fun q => q.stream && q.port / 96 == die && q.region == region && q.pkt.src == src).find?
      (fun q => !q.sent) = none from hnone]

theorem releaseStream_single {q : PReq} (h : s.mp.reqs.filter (PReq.inStream die src region) = [q]) (hq : q.sent = false) (k : Nat) :
    releaseStream die src region (k + 1) s = releaseStream die src region k (s.releaseReq q) := by
  rw [releaseStream]
  dsimp only
  rw [show (s.mp.reqs.filter fun x => x.stream && x.port / 96 == die && x.region == region && x.pkt.src == src) = [q] from h]
  simp [hq]

end

/-- The first access of a stream goes to its home at once, and nothing is behind it. -/
theorem releaseStream_first {s : State} {q : PReq} {x : Region} (hsent : q.sent = false) (hstream : q.stream = true)
    (hfirst : ∀ r ∈ s.mp.reqs, ¬r.inStream (q.port / 96) q.pkt.src q.region = true) (hx : s.region? q.region = some x)
    (hroom : s.entriesUsed (hubOfStack q.stack) < 16384) (hh : s.homeRefuses q x = none) (k : Nat) :
    releaseStream (q.port / 96) q.pkt.src q.region (k + 1) (s.withReq q) = (s.withReq q).sendReq q x.job := by
  have hmine : (s.withReq q).mp.reqs.filter (PReq.inStream (q.port / 96) q.pkt.src q.region) = [q] := by
    rw [State.withReq, List.filter_append, List.filter_eq_nil_iff.2 hfirst]
    simp [PReq.inStream, hstream]
  rw [releaseStream_single hmine hsent, State.releaseReq_sends hsent hx hroom hh]
  refine releaseStream_allSent (fun r hr hin => ?_) k
  rw [State.sendReq_reqs] at hr
  obtain ⟨a, ha, rfl⟩ := List.mem_map.1 hr
  by_cases haq : (a.id == q.id) = true
  · rw [if_pos haq]; rfl
  · rw [if_neg haq] at hin
    have hmem := List.mem_filter.2 ⟨ha, hin⟩
    rw [hmine, List.mem_singleton] at hmem
    exact absurd (beq_iff_eq.2 (congrArg PReq.id hmem)) haq

end Sys2Proof.Machine

open Sys2Proof Sys2Proof.Machine

/-- Settles O36: the outcomes of a packet's arrival, in the order of its checks. -/
theorem poolAccessesEnterAtTheirHome : Obligations.PoolAccessesEnterAtTheirHome := by
  intro s t port f p x c typ hc hrx hx answer badOp stack held
  have hrow := exec_pool hc hrx
  have hreg := State.region?_of_live hx
  rw [hrow]
  generalize (frameBytes f).take 128 = head
  refine ⟨fun ho hn hf => ?_, fun ho hb => ?_, fun ho hb hr => ?_, fun ho hb hr hroom hid => ?_, fun ho hn hf hopen halone hb hr hroom hs => ?_⟩
  · rw [State.poolArrive_needsStream head hx ho (by simpa using hn) hf]
  · rw [State.poolArrive_badOp head hx ho hb]
  · rw [State.poolArrive_outOfRange head hx ho hb hr]
  · rw [State.poolArrive_unordered head hx ho hb hr]
    have hhome : t.homeRefuses (t.poolReq port x p false head) x = held := rfl
    refine ⟨fun st hst => ?_, fun hnone => ?_⟩
    · rw [State.releaseReq_refuses rfl rfl hid hreg hroom (hhome.trans hst)]
      rfl
    · rw [State.releaseReq_sends rfl hreg hroom (hhome.trans hnone)]
      have hmem := State.sentReq_mem (s := t.withReq (t.poolReq port x p false head))
        (List.mem_append_right _ (List.mem_singleton_self _)) x.job
      exact ⟨_, _, rfl, rfl, hmem, rfl, rfl, rfl, rfl, rfl, rfl, rfl, rfl, by simp [State.sendReq_reqs, State.withReq]⟩
  · have hfirst : ∀ q ∈ t.mp.reqs, ¬q.inStream (port / 96) p.src p.ctx = true := fun q hq hin =>
      halone q hq (by simpa [PReq.inStream, and_assoc] using hin)
    have hgo := releaseStream_first (s := t.withStream ⟨port / 96, p.src, p.ctx, (p.seq + 1) % 2 ^ 32, t.local, []⟩)
      (q := t.poolReq port x p true head) rfl rfl hfirst hreg hroom (State.homeRefuses_fence x hf hs) t.mp.reqs.length
    rw [(State.poolArrive_opens head hx ho (by simpa using hn) hf hopen hb hr).trans hgo]
    exact ⟨_, rfl, List.mem_append_right _ (List.mem_singleton_self _)⟩
end

section
/-!
PROOFS. A REARM starts the next generation (O29).
-/

namespace Sys2Proof.Machine

/-! ### The next generation -/

/-- A context as a REARM starts its next generation at a local time, with its steering entries as given (R135). -/
def Ctx.rearmed (c : Ctx) (p : Packet) (entry : Steer) (now : Nat) : Ctx :=
  { c with gen := (c.gen + 1) % 256, state := .armed, endStatus := 0, steer := entry, holdFrom := none, rearm := [], since := now,
           run := { startAt := (p.word 0).toNat }, opt := {}, kept := [], oldSeqs := c.run.seqs, suspect := false,
           units := deadUnits c.units }

/-- A REARM that takes effect changes its own context among all. -/
theorem State.rearmNow_ctxs (s : State) (n : Nat) (c : Ctx) (p : Packet) :
    (s.rearmNow n c p).svc.ctxs = s.svc.ctxs.set n (c.rearmed p ((s.leaveGen n c.gen).openEntry n c) s.local) := by
  simp only [State.rearmNow, State.originate_svc, State.ctxZero_svc, State.setCtx_svc]
  rfl

theorem State.rearmNow_ctx? (s : State) (n : Nat) (c : Ctx) (p : Packet) :
    (s.rearmNow n c p).ctx? n = some (c.rearmed p ((s.leaveGen n c.gen).openEntry n c) s.local) := by
  rw [State.ctx?, State.rearmNow_ctxs, Tbl.find?_set_same]

theorem State.rearmNow_ctxsBut (s : State) (n : Nat) (c : Ctx) (p : Packet) : s.ctxsBut (s.rearmNow n c p) n := fun m hm => by
  rw [State.rearmNow_ctxs, Tbl.find?_set_other _ _ hm]

/-- What the commit of a command keeps for it is no context's. -/
theorem State.ctxsBut_kept {s t u : State} {n : Nat} (h : u.ctxsBut t n) : u.ctxsBut (s.kept t) n := h

/-! ### The checks on a REARM, by their outcome -/

/-- A REARM that passed the receive checks is judged, where Temond does not hold the control path. -/
theorem exec_rearm {s v : State} {port : Nat} {f : Frame} {p : Packet} (hrx : s.serviceRx port f tREARM = .pass p v)
    (hh : v.svc.holding = false) : exec (.rearm port f) s = .next (s.kept (v.judgeRearm port p)) := by
  refine commit_of ?_
  rw [bodyRearm, hrx]
  exact if_neg (by simp [hh])

section
variable {v : State} {p : Packet} {c : Ctx} (port : Nat) (hc : v.ctx? p.ctx = some c)
include hc

theorem State.judgeRearm_staleGen (hg : p.gen ≠ c.gen) : v.judgeRearm port p = v.nackTemond port p stSTALE_GEN := by
  simp only [State.judgeRearm, hc, if_pos hg]

theorem State.judgeRearm_notConvener (hg : p.gen = c.gen) (hr : p.rank ≠ c.fix.convRank) :
    v.judgeRearm port p = v.nackTemond port p stNOTMEMBER := by
  simp only [State.judgeRearm, hc, hg, ne_eq, not_true_eq_false, if_false, if_pos hr]

variable (hg : p.gen = c.gen) (hr : p.rank = c.fix.convRank)
include hg hr

theorem State.judgeRearm_quarantined (hq : v.svc.quar.contains (sha256 c.fix.desc) = true) :
    v.judgeRearm port p = v.nackTemond port p stQUARANTINED := by
  simp only [State.judgeRearm, hc, hg, hr, hq, ne_eq, not_true_eq_false, if_false, if_true]

variable (hq : v.svc.quar.contains (sha256 c.fix.desc) = false)
include hq

theorem State.judgeRearm_underWay (hst : c.state ≠ .armed) (hcomp : c.completed = false) :
    v.judgeRearm port p = v.nackTemond port p stRETRY := by
  simp only [State.judgeRearm, hc, hg, hr, hq, ne_eq, not_true_eq_false, Bool.false_eq_true, if_false, if_pos (And.intro hst hcomp)]

/-- A REARM that passed every check takes effect, or waits for its generation value (R120). -/
theorem State.judgeRearm_passed (hst : c.state = .armed ∨ c.completed = true) (hh : v.holdsFor c.fix.kind c.fix.hubs = false)
    (hre : c.rearm = []) :
    v.judgeRearm port p =
      if v.genHeld p.ctx ((c.gen + 1) % 256) then
        v.setCtx p.ctx { c with rearm := [(port, p)], holdFrom := v.svc.leftAt.find? (p.ctx * 256 + (c.gen + 1) % 256) }
      else v.rearmNow p.ctx c p := by
  have hgo : ¬(c.state ≠ .armed ∧ c.completed = false) := fun ⟨hna, hnc⟩ =>
    hst.elim hna fun h => Bool.false_ne_true (hnc.symm.trans h)
  simp only [State.judgeRearm, hc, hg, hr, hq, hh, hre, if_neg hgo, ne_eq, not_true_eq_false, Bool.false_eq_true, if_false,
    List.isEmpty_nil, Bool.not_true]

end

/-! ### The end of the hold -/

section
variable {s : State} {n g l : Nat} {c : Ctx} (hc : s.ctx? n = some c) (hf : c.holdFrom = some (g, l))
  (hd : g + 2 * s.largestAgeSince l * 1000 ≤ s.now) (hdue : c.run.completeDue = false)
include hc hf hd hdue

/-- Once the generation value is free again and no COMPLETE is due, the REARM that waits takes effect. -/
theorem bodyGenReuseHoldEnd_rearms {port : Nat} {p : Packet} (hst : c.state ≠ .settingUp)
    (hh : s.holdsFor c.fix.kind c.fix.hubs = false) (hre : c.rearm = [(port, p)]) :
    bodyGenReuseHoldEnd n s = s.rearmNow n c p := by
  simp only [bodyGenReuseHoldEnd, hc, hf, not_lt.2 hd, hdue, hst, hh, hre, Bool.false_eq_true, and_false, or_self, if_false]
  exact List.foldl_nil

/-- With no REARM to start, the hold alone ends. -/
theorem bodyGenReuseHoldEnd_ends
    (hst : c.state = .settingUp ∨ (s.holdsFor c.fix.kind c.fix.hubs = false ∧ c.rearm = [])) :
    bodyGenReuseHoldEnd n s = s.setCtx n { c with holdFrom := none } := by
  rcases hst with hst | ⟨hh, hre⟩
  · simp only [bodyGenReuseHoldEnd, hc, hf, not_lt.2 hd, hdue, hst, ne_eq, not_true_eq_false, Bool.false_eq_true, false_and, or_self,
      if_false, if_true]
  · simp only [bodyGenReuseHoldEnd, hc, hf, not_lt.2 hd, hdue, hh, hre, Bool.false_eq_true, and_false, or_self, if_false, ite_self]

end

end Sys2Proof.Machine

open Sys2Proof Sys2Proof.Machine

/-- Settles O29: the checks on a REARM by their outcome, then what its effect, or the end of its wait, leaves. -/
theorem rearmStartsTheNextGeneration : Obligations.RearmStartsTheNextGeneration := by
  refine ⟨?_, fun s n c g l hs hc hf hd hdue => ⟨fun port p hst hh hre => ?_, fun hst => ?_⟩⟩
  · intro s v port f p c hrx hho hc answer
    rw [exec_rearm hrx hho]
    refine ⟨fun hg => ?_, fun hg => ⟨fun hr => ?_, fun hr => ⟨fun hq => ?_, fun hq => ⟨fun hst hcomp => ?_, fun hst hh hre =>
      ⟨fun hheld => ?_, fun hfree => ?_⟩⟩⟩⟩⟩
    · rw [State.judgeRearm_staleGen port hc hg]
    · rw [State.judgeRearm_notConvener port hc hg hr]
    · rw [State.judgeRearm_quarantined port hc hg hr hq]
    · rw [State.judgeRearm_underWay port hc hg hr hq hst hcomp]
    · rw [State.judgeRearm_passed port hc hg hr hq hst hh hre, if_pos hheld]
    · rw [State.judgeRearm_passed port hc hg hr hq hst hh hre, if_neg (Bool.eq_false_iff.1 hfree)]
      exact ⟨_, _, rfl, (State.kept_ctx? ..).trans (v.rearmNow_ctx? _ c p), State.ctxsBut_kept (v.rearmNow_ctxsBut _ c p), rfl, rfl, rfl, rfl, rfl, rfl⟩
  · exact ⟨_, _, commit_unlessSafe hs (bodyGenReuseHoldEnd_rearms hc hf hd hdue hst hh hre),
      (State.kept_ctx? ..).trans (s.rearmNow_ctx? n c p), State.ctxsBut_kept (s.rearmNow_ctxsBut n c p), rfl, rfl, rfl, rfl, rfl⟩
  · exact commit_unlessSafe hs (bodyGenReuseHoldEnd_ends hc hf hd hdue hst)
end

section
/-!
PROOFS. A generation ends by its timeout or by a member's ABORT (O33).
-/

namespace Sys2Proof.Machine

/-! ### The abort of a generation -/

/-- A context whose generation ended with an ABORT of a status at a local time (R158, R159). -/
def Ctx.aborted (c : Ctx) (status now : Nat) : Ctx :=
  { c with state := .complete, endStatus := status, since := now, units := deadUnits c.units, opt := { c.opt with step := none },
           run := { c.run with timerAt := none, closing := false, grantDue := none } }

@[simp] theorem State.emit_svc (s : State) (h : Nat) (m : MeshOut) : (s.emit h m).svc = s.svc := rfl

@[simp] theorem State.meshOut_emit_same (s : State) (h : Nat) (m : MeshOut) :
    ((s.emit h m).hub h).meshOut = (s.hub h).meshOut ++ [m] := by
  rw [State.emit, State.hub_setHub_same]

section
variable {s : State} {n : Nat} {c : Ctx} (hc : s.ctx? n = some c) (hk : c.fix.kind ≠ 3) (status rank : Nat) (missing : List Nat)
  (except : Option Nat)
include hc hk

/-- The abort of a generation, but a gather context's, sends one ABORT through the home tile's exit hub die. -/
theorem State.endAbort_sends :
    s.endAbort n status rank missing except
      = (s.setCtx n (c.aborted status s.local)).toMembers n c tABORT (abortPayload status rank missing) except := by
  rw [State.endAbort, hc]
  exact if_neg fun h => hk h.1

theorem State.endAbort_svc :
    (s.endAbort n status rank missing except).svc = { s.svc with ctxs := s.svc.ctxs.set n (c.aborted status s.local) } := by
  rw [State.endAbort_sends hc hk]
  rfl

theorem State.endAbort_ctx? : (s.endAbort n status rank missing except).ctx? n = some (c.aborted status s.local) := by
  rw [State.ctx?, State.endAbort_svc hc hk, Tbl.find?_set_same]

theorem State.endAbort_ctxsBut : s.ctxsBut (s.endAbort n status rank missing except) n := fun m hm => by
  rw [State.endAbort_svc hc hk, Tbl.find?_set_other _ _ hm]

theorem State.endAbort_meshOut :
    ((s.endAbort n status rank missing except).hub (exitHub c.fix.home)).meshOut
      = (s.hub (exitHub c.fix.home)).meshOut
        ++ [⟨n, c.gen, tABORT, 0, 0, 0, none, abortPayload status rank missing, none, except⟩] := by
  rw [State.endAbort_sends hc hk, State.toMembers, State.meshOut_emit_same]
  rfl

end

/-! ### A member's ABORT at the home tile -/

/-- A context with the ties that packets of its running generation met counted (R73, R259). -/
def Ctx.tied (c : Ctx) (ties : Nat) : Ctx := if c.runs then { c with run := { c.run with tchoice := sat64 (c.run.tchoice + ties) } } else c

@[simp] theorem Ctx.tied_fix (c : Ctx) (ties : Nat) : (c.tied ties).fix = c.fix := by
  unfold Ctx.tied; split <;> rfl

@[simp] theorem Ctx.tied_gen (c : Ctx) (ties : Nat) : (c.tied ties).gen = c.gen := by
  unfold Ctx.tied; split <;> rfl

@[simp] theorem Ctx.tied_runs (c : Ctx) (ties : Nat) : (c.tied ties).runs = c.runs := by
  unfold Ctx.tied; split <;> rfl

theorem State.tieCount_setCtx {s : State} {n : Nat} {c : Ctx} (hc : s.ctx? n = some c) (ties : Nat) :
    s.tieCount n ties = s.setCtx n (c.tied ties) := by
  rw [State.tieCount, State.onCtx, hc]
  rfl

/-- An ABORT that reaches the home tile leaves the mesh, and ends the generation if it is of the one that runs. -/
theorem bodyAbortAtHome_here {s : State} {n : Nat} {c : Ctx} {g : Flight} (hc : s.ctx? n = some c)
    (hg : s.firstFlight n tABORT = some g) (hf : s.flightFate g = .here) (ties : Nat) :
    bodyAbortAtHome n ties s =
      if c.runs && g.pkt.gen == c.gen then
        ((s.land g).setCtx n (c.tied ties)).endAbort n stMEMBER_ABORT g.pkt.rank [] (some g.pkt.rank)
      else ((s.land g).tieCount n ties).ctxCount .ctxLate n 63 32 := by
  simp only [bodyAbortAtHome, hg, State.landing, hf, State.tieCount_setCtx (s := s.land g) hc, State.ctx?_setCtx_same, Ctx.tied_runs,
    Ctx.tied_gen]

/-! ### The end of a closure -/

/-- A closure ends with ABORT TIMEOUT, once nothing that passed its entries can release a chunk any more (R158). -/
theorem bodyClosureEnd_aborts {s : State} {n : Nat} {c : Ctx} (hc : s.ctx? n = some c) (hp : s.paused c = false)
    (hst : c.state = .active) (hcl : c.run.closing = true) (hfl : s.firstFlight n tCONTRIB = none) (hrep : c.run.reports = [])
    (hu : ∀ e ∈ c.units, e.2.live = false) : bodyClosureEnd n s = s.endAbort n stTIMEOUT 0 c.missing none := by
  have hdead : c.units.all (fun e => !e.2.live) = true := List.all_eq_true.2 fun e he => by rw [hu e he]; rfl
  rw [bodyClosureEnd, State.unlessPaused, hc]
  simp only [hp, hst, hcl, hfl, hrep, hdead, Option.isNone_none, Bool.false_eq_true, and_self, if_false, if_true]

end Sys2Proof.Machine

open Sys2Proof Sys2Proof.Machine

/-- Settles O33: the branch of each command's body that its hypotheses select, then what the abort of a generation leaves. -/
theorem generationsEndByTimeoutOrAbort : Obligations.GenerationsEndByTimeoutOrAbort := by
  intro s n c hs hc h
  refine ⟨fun a hta hst hdue hop => ?_, fun hp hk hst hcl hfl hrep hu => ?_, fun g ties hg hf => ⟨fun hk hruns hgen => ?_, fun hno => ?_⟩⟩
  · refine commit_unlessSafe (t := s.setCtx n _) hs ?_
    simp only [bodyContextTimeout, hc, hta, if_pos (And.intro hst (And.intro hdue hop))]
  · exact ⟨_, _, commit_unlessSafe hs (bodyClosureEnd_aborts hc hp hst hcl hfl hrep hu), State.endAbort_ctxsBut hc hk _ _ _ _,
      State.endAbort_ctx? hc hk _ _ _ _, rfl, rfl, State.endAbort_meshOut hc hk _ _ _ _⟩
  · have hends := bodyAbortAtHome_here hc hg hf ties
    rw [if_pos (by simp [hruns, hgen])] at hends
    have ht : ((s.land g).setCtx n (c.tied ties)).ctx? n = some (c.tied ties) := State.ctx?_setCtx_same _ _ _
    have hk' : (c.tied ties).fix.kind ≠ 3 := by rwa [Ctx.tied_fix]
    have hmesh := State.endAbort_meshOut ht hk' stMEMBER_ABORT g.pkt.rank [] (some g.pkt.rank)
    rw [Ctx.tied_fix, Ctx.tied_gen] at hmesh
    refine ⟨_, _, commit_unlessSafe hs hends, fun m hm => ?_, State.endAbort_ctx? ht hk' _ _ _ _, rfl, rfl, ?_, hmesh⟩
    · exact (State.endAbort_ctxsBut ht hk' _ _ _ _ m hm).trans (Tbl.find?_set_other _ _ hm)
    · rw [State.kept_svc, State.endAbort_svc ht hk']
      rfl
  · refine commit_unlessSafe hs ((bodyAbortAtHome_here hc hg hf ties).trans (if_neg ?_))
    rcases hno with hno | hno <;> simp [hno]
end

section
/-!
PROOFS. A contribution at its tile: waiting, dropped, refused, accepted, and the chunk it finalises (O31).
-/

namespace Sys2Proof.Machine

/-! ### Tables and contexts -/

/-- A key that was erased reads nothing. -/
@[simp] theorem Tbl.find?_erase_same {α : Type} (t : Tbl α) (k : Nat) : Tbl.find? (Tbl.erase t k) k = none := by
  induction t with
  | nil => rfl
  | cons e t ih =>
    obtain ⟨a, v⟩ := e
    unfold Tbl.erase at ih ⊢
    by_cases h : a = k
    · simpa [h] using ih
    · simpa [h, Tbl.find?] using ih

@[simp] theorem State.setCtx_setCtx (s : State) (n : Nat) (c d : Ctx) : (s.setCtx n c).setCtx n d = s.setCtx n d := by
  simp [State.setCtx]

section
variable {s t : State} {n : Nat} {c : Ctx} (h : t.svc = (s.setCtx n c).svc)
include h

/-- Temond's tables say what each context is, whatever else the state holds. -/
theorem State.ctx?_of_svc : t.ctx? n = some c := by
  rw [State.ctx?, h]
  exact Tbl.find?_set_same _ _ _

theorem State.ctxsBut_of_svc : s.ctxsBut t n := fun m hm => by
  rw [h]
  exact Tbl.find?_set_other _ _ hm

theorem State.flight_of_svc : t.svc.flight = s.svc.flight := by
  rw [h]
  rfl

end

@[simp] theorem State.nackFrom_svc (s : State) (die port : Nat) (p : Packet) (status expect : Nat) :
    (s.nackFrom die port p status expect).svc = s.svc := State.originate_svc _ _ _ _

/-- A counter of a context after it counted. -/
theorem State.fld_ctxCount_same (s : State) (r : Reg) (n hi lo k : Nat) :
    (s.ctxCount r n hi lo k).fld r [n] hi lo = satAdd (hi + 1 - lo) (s.fld r [n] hi lo) k :=
  (State.fld_bump_same _ _ _ _ _ _).trans (satAdd_mod _ _ _)

/-! ### What a contribution makes of its context -/

theorem Ctx.tied_only (c : Ctx) (ties : Nat) :
    c.tied ties = { c with run := { c.run with tchoice := (c.tied ties).run.tchoice } } := by
  unfold Ctx.tied; split <;> rfl

@[simp] theorem Ctx.tied_state (c : Ctx) (ties : Nat) : (c.tied ties).state = c.state := by rw [Ctx.tied_only]

@[simp] theorem Ctx.tied_slots (c : Ctx) (ties : Nat) : (c.tied ties).run.slots = c.run.slots := by rw [Ctx.tied_only]

/-- A context after a data packet of its generation was accepted: the first one makes it ACTIVE and starts its times (R133, R134, R151). -/
def State.begun (s : State) (c : Ctx) : Ctx :=
  if c.state = .armed then
    { c with state := .active, run := { c.run with start := some (c.run.start.getD s.now), grantAt := s.local
                                                   timerAt := some (s.now + timeoutOf s.cfg.jobTimeout c.fix.desc * 1000) } }
  else c

theorem State.firstData_setCtx {s : State} {n : Nat} {c : Ctx} (hc : s.ctx? n = some c) : s.firstData n = s.setCtx n (s.begun c) := by
  rw [State.firstData, State.onCtx, hc]
  rfl

theorem State.begun_only (s : State) (c : Ctx) :
    let d := s.begun c
    d = { c with state := d.state, run := { c.run with start := d.run.start, grantAt := d.run.grantAt, timerAt := d.run.timerAt } } := by
  intro d
  unfold d State.begun
  split <;> rfl

theorem State.begun_active (s : State) {c : Ctx} (h : c.runs = true) : (s.begun c).state = .active := by
  unfold State.begun
  split
  case isTrue => rfl
  case isFalse hst => simpa [Ctx.runs, hst] using h

/-- The chunk that a data packet's OFFSET names (R125). -/
def CtxFix.chunkAt (x : CtxFix) (p : Packet) : Nat := p.offset / max x.c 1

/-- The slot of chunk `k` with a contribution in it (R147, R148). -/
def Ctx.slotWith (c : Ctx) (k : Nat) (p : Packet) : Slot := c.fix.accept k p.rank (c.run.slots.get k {}) p.payload

/-- A context with a contribution in the slot of chunk `k`. -/
def Ctx.taken (c : Ctx) (k : Nat) (p : Packet) : Ctx := { c with run := { c.run with slots := c.run.slots.set k (c.slotWith k p) } }

/-- A context after the tile accepted a contribution to chunk `k` that met ties on its way. -/
def State.joined (s : State) (c : Ctx) (ties k : Nat) (p : Packet) : Ctx := (s.begun (c.tied ties)).taken k p

section
variable (s : State) (c : Ctx) (ties k : Nat) (p : Packet)

theorem State.joined_only :
    let d := s.joined c ties k p
    d = { c.taken k p with
      state := d.state
      run := { (c.taken k p).run with tchoice := d.run.tchoice, start := d.run.start, grantAt := d.run.grantAt, timerAt := d.run.timerAt } } := by
  intro d
  unfold d State.joined
  rw [State.begun_only, Ctx.tied_only]
  rfl

@[simp] theorem State.joined_fix : (s.joined c ties k p).fix = c.fix := by rw [State.joined_only]; rfl
@[simp] theorem State.joined_gen : (s.joined c ties k p).gen = c.gen := by rw [State.joined_only]; rfl
@[simp] theorem State.joined_slots : (s.joined c ties k p).run.slots = (c.taken k p).run.slots := by rw [State.joined_only]
@[simp] theorem State.joined_reports : (s.joined c ties k p).run.reports = c.run.reports := by rw [State.joined_only]; rfl
@[simp] theorem State.joined_inHash : (s.joined c ties k p).run.inHash = c.run.inHash := by rw [State.joined_only]; rfl

theorem State.joined_finalised (j : Nat) : (s.joined c ties k p).finalised j = c.finalised j := by rw [State.joined_only]; rfl

theorem State.joined_active {c : Ctx} (h : c.runs = true) : (s.joined c ties k p).state = .active :=
  s.begun_active ((c.tied_runs ties).trans h)

theorem State.joined_slot_same : (s.joined c ties k p).run.slots.find? k = some (c.slotWith k p) := by
  rw [State.joined_slots]
  exact Tbl.find?_set_same _ _ _

theorem State.joined_slot_other {j : Nat} (h : j ≠ k) : (s.joined c ties k p).run.slots.find? j = c.run.slots.find? j := by
  rw [State.joined_slots]
  exact Tbl.find?_set_other _ _ h

end

/-! ### A full chunk -/

section
variable {s : State} {n k : Nat} {c : Ctx} {sl : Slot} (hc : s.ctx? n = some c) (hsl : c.run.slots.find? k = some sl)
include hc hsl

theorem State.tryFinish_waits (hfull : c.fix.full sl = false) : s.tryFinish n k = s := by
  rw [State.tryFinish, hc]
  simp only [hsl]
  exact if_pos (.inr (.inr hfull))

theorem State.tryFinish_plain (hst : c.state = .active) (hfin : c.finalised k = false) (hfull : c.fix.full sl = true) (hk : c.fix.kind = 1) :
    s.tryFinish n k = s.releaseChunk n k (c.fix.plainEnd k sl).1 (c.fix.plainEnd k sl).2 := by
  rw [State.tryFinish, hc]
  simp only [hsl, hst, hfin, hfull, hk, ne_eq, not_true_eq_false, Bool.false_eq_true, Bool.true_eq_false, or_self, if_false, if_true]

end

/-- A context after it released a chunk: the chunk's counts joined the run, and its RESULT is retained where the context retains any (R149). -/
def Ctx.released (c : Ctx) (k : Nat) (out : Kept) (e : ChunkEnd) : Ctx :=
  { c with run := c.run.take k e
           opt := { c.opt with squares := if e.bad then c.opt.squares else c.opt.squares.plus e.squares }
           kept := if c.fix.retains then c.kept.set k out else c.kept }

theorem Ctx.finalised_released (c : Ctx) (k : Nat) (out : Kept) (e : ChunkEnd) : (c.released k out e).finalised k = true := by
  simp only [Ctx.released, Ctx.finalised, Run.take, Bool.or_eq_true]
  refine .inr ?_
  split
  case isTrue h => exact h
  case isFalse => simp

/-- The RESULT of a chunk as it leaves the mesh (R149 step 3). -/
def Ctx.resultOut (c : Ctx) (n k : Nat) (out : Kept) : MeshOut :=
  ⟨n, c.gen, tRESULT, out.fmt, 0, k * c.fix.c, some k, out.payload, c.fix.receiver k, none⟩

theorem State.useStack_svc (s : State) (k : Nat) : (s.useStack k).svc = s.svc := by
  rw [State.useStack_only]
  rfl

theorem State.useStack_hubs (s : State) (k : Nat) : (s.useStack k).hubs = s.hubs := by
  rw [State.useStack_only]
  rfl

/-- A release changes its context, a stack's use and counters, and then the RESULT leaves. -/
theorem State.releaseChunk_sends {s : State} {n : Nat} {c : Ctx} (hc : s.ctx? n = some c) (k : Nat) (out : Kept) (e : ChunkEnd) :
    ∃ t : State, s.releaseChunk n k out e = t.emit (exitHub (c.fix.tileOf k)) (c.resultOut n k out)
      ∧ t.svc = (s.setCtx n (c.released k out e)).svc ∧ t.hubs = s.hubs := by
  rw [State.releaseChunk, hc]
  refine ⟨_, rfl, ?_⟩
  cases c.blockStack k with
  | none => cases e.replayed <;> exact ⟨rfl, rfl⟩
  | some st => cases e.replayed <;> exact ⟨State.useStack_svc _ st, State.useStack_hubs _ st⟩

section
variable {s : State} {n : Nat} {c : Ctx} (hc : s.ctx? n = some c) (k : Nat) (out : Kept) (e : ChunkEnd)
include hc

theorem State.releaseChunk_svc : (s.releaseChunk n k out e).svc = (s.setCtx n (c.released k out e)).svc := by
  obtain ⟨t, ht, hsvc, -⟩ := State.releaseChunk_sends hc k out e
  rw [ht, State.emit_svc, hsvc]

theorem State.releaseChunk_meshOut :
    ((s.releaseChunk n k out e).hub (exitHub (c.fix.tileOf k))).meshOut = (s.hub (exitHub (c.fix.tileOf k))).meshOut ++ [c.resultOut n k out] := by
  obtain ⟨t, ht, -, hhubs⟩ := State.releaseChunk_sends hc k out e
  rw [ht, State.meshOut_emit_same, State.hub, hhubs]
  rfl

end

/-! ### What Table 6.3 says, and what follows -/

/-- A contribution is accepted only while its generation runs and its chunk has not finalised. -/
theorem State.judgeContribution_accepts {s : State} {c : Ctx} {p : Packet} (h : s.judgeContribution c p = .accept) :
    c.runs = true ∧ c.finalised (c.fix.chunkAt p) = false := by
  unfold State.judgeContribution at h
  dsimp only at h
  split_ifs at h with h1 h2 h3 h4 h5 h6 h7 h8
  simp only [Bool.or_eq_true, Bool.not_eq_true', not_or, Bool.not_eq_false] at h3
  exact ⟨h3.1, Bool.eq_false_of_not_eq_true h8⟩

/-- The count of accepted contributions, and the time of the last one. -/
def State.contributionCounted (s : State) (n : Nat) : State := (s.ctxCount .ctxRx n 63 0).setFld .ctxLate [n] 31 0 (s.now / 1024)

theorem State.fld_contributionCounted (s : State) (n : Nat) :
    (s.contributionCounted n).fld .ctxRx [n] 63 0 = satAdd 64 (s.fld .ctxRx [n] 63 0) 1 := by
  refine (State.fld_setFld_other _ _ _ _ _ _ _ _ _ _ ?_).trans (State.fld_ctxCount_same _ _ _ _ _ _)
  simp [Reg.addr, Reg.place]

section
variable {s : State} {g : Flight} {c : Ctx} (hc : s.ctx? g.ctx = some c) (ties : Nat)
include hc

theorem State.contributionAt_dropped {r : Reg} {hi lo : Nat} (hj : s.judgeContribution c g.pkt = .drop r hi lo) (sram : SlotRead) :
    s.contributionAt g ties sram = (s.setCtx g.ctx (c.tied ties)).ctxCount r g.ctx hi lo := by
  have hj' : (s.setCtx g.ctx (c.tied ties)).judgeContribution c g.pkt = .drop r hi lo := hj
  simp only [State.contributionAt, hc, State.tieCount_setCtx hc, hj']

theorem State.contributionAt_refused {st hi lo : Nat} (hj : s.judgeContribution c g.pkt = .refuse st hi lo) (sram : SlotRead) :
    s.contributionAt g ties sram
      = ((s.setCtx g.ctx (c.tied ties)).ctxCount .ctxDrop g.ctx hi lo).nackFrom (8 + exitHub (c.fix.tileFor g.pkt)) g.port g.pkt st := by
  have hj' : (s.setCtx g.ctx (c.tied ties)).judgeContribution c g.pkt = .refuse st hi lo := hj
  simp only [State.contributionAt, hc, State.tieCount_setCtx hc, hj']

variable (hj : s.judgeContribution c g.pkt = .accept)
include hj

theorem State.contributionAt_accepted :
    let k := c.fix.chunkAt g.pkt
    s.contributionAt g ties .clean = ((s.setCtx g.ctx (s.joined c ties k g.pkt)).contributionCounted g.ctx).tryFinish g.ctx k := by
  have hj' : (s.setCtx g.ctx (c.tied ties)).judgeContribution c g.pkt = .accept := hj
  simp only [State.contributionAt, hc, State.tieCount_setCtx hc, hj', State.firstData_setCtx (State.ctx?_setCtx_same _ _ _), State.onCtx,
    State.ctx?_setCtx_same, State.setCtx_setCtx, reduceCtorEq, if_false]
  rfl

/-- An accepted contribution to a chunk that still lacks some is counted, in its slot. -/
theorem State.contributionAt_added (hfull : c.fix.full (c.slotWith (c.fix.chunkAt g.pkt) g.pkt) = false) :
    s.contributionAt g ties .clean = (s.setCtx g.ctx (s.joined c ties (c.fix.chunkAt g.pkt) g.pkt)).contributionCounted g.ctx := by
  rw [State.contributionAt_accepted hc ties hj]
  exact State.tryFinish_waits (State.ctx?_setCtx_same _ _ _) (s.joined_slot_same c ties _ g.pkt) (by rwa [State.joined_fix])

/-- One that fills its chunk of a KIND 1 context releases the chunk, whose RESULT leaves. -/
theorem State.contributionAt_finalises (hfull : c.fix.full (c.slotWith (c.fix.chunkAt g.pkt) g.pkt) = true) (hk : c.fix.kind = 1) :
    let k := c.fix.chunkAt g.pkt
    let e := c.fix.plainEnd k (c.slotWith k g.pkt)
    let h := exitHub (c.fix.tileOf k)
    let t := s.contributionAt g ties .clean
    t.svc = (s.setCtx g.ctx ((s.joined c ties k g.pkt).released k e.1 e.2)).svc
      ∧ (t.hub h).meshOut = (s.hub h).meshOut ++ [c.resultOut g.ctx k e.1] := by
  intro k e h t
  obtain ⟨hruns, hfin⟩ := State.judgeContribution_accepts hj
  let u := (s.setCtx g.ctx (s.joined c ties k g.pkt)).contributionCounted g.ctx
  have hctx : u.ctx? g.ctx = some (s.joined c ties k g.pkt) := State.ctx?_setCtx_same _ _ _
  have hfinish := State.tryFinish_plain hctx (s.joined_slot_same c ties k g.pkt) (s.joined_active ties k g.pkt hruns)
    (by rwa [State.joined_finalised]) (by rwa [State.joined_fix]) (by rwa [State.joined_fix])
  rw [State.joined_fix] at hfinish
  have ht : t = u.releaseChunk g.ctx k e.1 e.2 := (State.contributionAt_accepted hc ties hj).trans hfinish
  have hmesh := State.releaseChunk_meshOut hctx k e.1 e.2
  simp only [Ctx.resultOut, State.joined_fix, State.joined_gen] at hmesh
  refine ⟨?_, ht ▸ hmesh⟩
  rw [ht, State.releaseChunk_svc hctx, ← s.setCtx_setCtx g.ctx (s.joined c ties k g.pkt)]
  rfl

end

section
variable {s : State} {id : Nat} {g : Flight} (hs : s.flt.safe = false)
  (hg : s.svc.flight.find? (fun g => g.id == id && g.pkt.typ == tCONTRIB) = some g)
include hs hg

/-- The command does what becomes of its packet on the way. -/
theorem exec_contribTileArrival (ties : Nat) (sram : SlotRead) :
    exec (.contribTileArrival id ties sram) s = .next (s.kept (s.landing g fun s => s.contributionAt g ties sram)) := by
  refine commit_unlessSafe (f := bodyContribTileArrival id ties sram) hs ?_
  rw [bodyContribTileArrival, hg]

theorem exec_contribTileArrival_here (hf : s.flightFate g = .here) (ties : Nat) (sram : SlotRead) :
    exec (.contribTileArrival id ties sram) s = .next (s.kept ((s.land g).contributionAt g ties sram)) := by
  rw [exec_contribTileArrival hs hg, State.landing, hf]

end

end Sys2Proof.Machine

open Sys2Proof Sys2Proof.Machine

/-- Settles O31: what the tile makes of a contribution, by its fate on the way, the verdict of Table 6.3 and the bitmap it leaves. -/
theorem contributionsAreJudgedAtTheTile : Obligations.ContributionsAreJudgedAtTheTile := by
  intro s id ties g c hs hg hc
  refine ⟨fun sram hw => ?_, fun sram hst => ?_, fun hh => ?_⟩
  · rw [exec_contribTileArrival hs hg, State.landing, hw]
    rfl
  · rw [exec_contribTileArrival hs hg, State.landing, hst]
  intro p k old sl rest
  have hexec := exec_contribTileArrival_here hs hg hh ties
  have hland : (s.land g).ctx? g.ctx = some c := hc
  refine ⟨fun r hi lo sram hj => ?_, fun st hi lo sram hj => ?_, fun hj hfull => ?_, fun hj hfull hk => ?_⟩
  · rw [hexec, State.contributionAt_dropped hland ties hj]
    exact ⟨_, c.tied ties, rfl, rfl, State.ctxsBut_of_svc (s := s.land g) rfl, State.ctx?_setCtx_same _ _ _, c.tied_slots ties,
      c.tied_state ties, State.regsBut_setReg _ _ _ _, State.fld_ctxCount_same _ _ _ _ _ _⟩
  · have hsvc : ((s.land g).contributionAt g ties sram).svc = ((s.land g).setCtx g.ctx (c.tied ties)).svc := by
      rw [State.contributionAt_refused hland ties hj, State.nackFrom_svc]
      rfl
    exact ⟨_, c.tied ties, hexec sram, State.flight_of_svc hsvc, State.ctxsBut_of_svc (s := s.land g) hsvc, State.ctx?_of_svc hsvc,
      c.tied_slots ties, c.tied_state ties⟩
  · rw [hexec, State.contributionAt_added hland ties hj hfull]
    obtain ⟨hruns, -⟩ := State.judgeContribution_accepts hj
    exact ⟨_, _, rfl, rfl, State.ctxsBut_of_svc (s := s.land g) rfl, State.ctx?_setCtx_same _ _ _, State.joined_active _ _ _ _ hruns,
      State.joined_slot_same _ _ _ _ _, fun j hne => State.joined_slot_other _ _ _ _ _ hne, State.fld_contributionCounted _ _, rfl⟩
  · obtain ⟨hsvc, hmesh⟩ := State.contributionAt_finalises hland ties hj hfull hk
    exact ⟨_, _, hexec .clean, State.flight_of_svc hsvc, State.ctxsBut_of_svc (s := s.land g) hsvc, State.ctx?_of_svc hsvc,
      Tbl.find?_erase_same _ _, Ctx.finalised_released _ _ _ _, congrArg (· ++ [k]) (State.joined_reports _ _ _ _ _),
      congrArg (Nat.xor · sl.hash) (State.joined_inHash _ _ _ _ _), hmesh⟩
end

section
/-!
PROOFS. Releases at the home tile, GRANT and COMPLETE (O32).
-/

namespace Sys2Proof.Machine

/-! ### Work at the home tile and what it sends -/

theorem State.unlessPaused_runs {s : State} {n : Nat} {c : Ctx} (hc : s.ctx? n = some c) (hp : s.paused c = false) (work : Ctx → State) :
    s.unlessPaused n work = work c := by
  rw [State.unlessPaused, hc]
  simp only [hp, Bool.false_eq_true, if_false]

section
variable (s : State) (n : Nat) (c : Ctx) (typ : Nat) (payload : List Byte) (except : Option Nat)

@[simp] theorem State.toMembers_svc : (s.toMembers n c typ payload except).svc = s.svc := rfl

theorem State.toMembers_meshOut :
    ((s.toMembers n c typ payload except).hub (exitHub c.fix.home)).meshOut
      = (s.hub (exitHub c.fix.home)).meshOut ++ [⟨n, c.gen, typ, 0, 0, 0, none, payload, none, except⟩] :=
  State.meshOut_emit_same _ _ _

end

/-! ### GRANT -/

/-- A context whose F a GRANT carried at a local time (R151). -/
def Ctx.granted (c : Ctx) (now : Nat) : Ctx := { c with run := { c.run with grantSent := c.frontier, grantAt := now, grantDue := none } }

section
variable {s : State} {n : Nat} {c : Ctx} (hc : s.ctx? n = some c)
include hc

theorem State.grantNow_sends :
    s.grantNow n = (s.setCtx n (c.granted s.local)).toMembers n c tGRANT (natBytes 8 (c.frontier * 2 ^ 24)) none := by
  rw [State.grantNow, hc]
  rfl

theorem State.grantNow_svc : (s.grantNow n).svc = (s.setCtx n (c.granted s.local)).svc := by
  rw [State.grantNow_sends hc, State.toMembers_svc]

theorem State.grantNow_meshOut :
    ((s.grantNow n).hub (exitHub c.fix.home)).meshOut
      = (s.hub (exitHub c.fix.home)).meshOut ++ [⟨n, c.gen, tGRANT, 0, 0, 0, none, natBytes 8 (c.frontier * 2 ^ 24), none, none⟩] := by
  rw [State.grantNow_sends hc, State.toMembers_meshOut]
  rfl

/-- What the frontier's advance does: a GRANT goes, at once or later, or none; nothing else of the context changes. -/
theorem State.grantAfter_only :
    let t := s.grantAfter n
    ∃ d, t.ctx? n = some d ∧ s.ctxsBut t n ∧ t.mops = s.mops ∧ t.time = s.time
      ∧ d = { c with run := { c.run with grantSent := d.run.grantSent, grantAt := d.run.grantAt, grantDue := d.run.grantDue } } := by
  rw [State.grantAfter, hc]
  dsimp only
  split_ifs
  · exact ⟨c, hc, fun _ _ => rfl, rfl, rfl, rfl⟩
  · have hsvc := State.grantNow_svc hc
    refine ⟨_, State.ctx?_of_svc hsvc, State.ctxsBut_of_svc hsvc, ?_, ?_, rfl⟩ <;> rw [State.grantNow_sends hc] <;> rfl
  · exact ⟨_, State.ctx?_setCtx_same _ _ _, State.ctxsBut_of_svc rfl, rfl, rfl, rfl⟩
  · exact ⟨c, hc, fun _ _ => rfl, rfl, rfl, rfl⟩

end

/-! ### The end of a generation -/

@[simp] theorem State.writeRgn_time (s : State) (r : Nat) (x : Region) (off : Nat) (bs : List Byte) : (s.writeRgn r x off bs).time = s.time :=
  foldl_keeps State.time _ (by intros; rfl) _ s

section
variable {s : State} {n : Nat} {c : Ctx} (hc : s.ctx? n = some c)
include hc

theorem State.onCtx_setCtx (f : Ctx → Ctx) : s.onCtx n f = s.setCtx n (f c) := by rw [State.onCtx, hc]

/-- The completion of a STEP changes HBM and what its context knows of the span's header (R178). -/
theorem State.stepDone_only :
    let t := s.stepDone n c
    ∃ h, t.ctx? n = some { c with optHdr := h } ∧ s.ctxsBut t n ∧ t.time = s.time := by
  have hsame : ∃ h, s.ctx? n = some { c with optHdr := h } ∧ s.ctxsBut s n ∧ s.time = s.time := ⟨c.optHdr, hc, fun _ _ => rfl, rfl⟩
  have hnoted (u : State) (hsvc : u.svc = s.svc) (htime : u.time = s.time) (hdr : Nat × Nat) :
      let t := u.onCtx n fun c => { c with optHdr := hdr }
      ∃ h, t.ctx? n = some { c with optHdr := h } ∧ s.ctxsBut t n ∧ t.time = s.time := by
    have hu : u.ctx? n = some c := by rw [State.ctx?, hsvc]; exact hc
    have ht : (u.setCtx n { c with optHdr := hdr }).svc = (s.setCtx n { c with optHdr := hdr }).svc := by
      rw [State.setCtx_svc, State.setCtx_svc, hsvc]
    rw [State.onCtx_setCtx hu]
    exact ⟨hdr, State.ctx?_of_svc ht, State.ctxsBut_of_svc ht, htime⟩
  unfold State.stepDone
  dsimp only
  split
  · exact hsame
  · split
    · exact hsame
    · split
      · exact hnoted _ (by rw [State.writeRgn_svc, State.writeRgn_svc]) (by rw [State.writeRgn_time, State.writeRgn_time]) _
      · exact hsame

/-- The last release ends the generation: FINISH, the record, and a COMPLETE that is due; its chunks are as they were. -/
theorem State.endComplete_ctx :
    let t := s.endComplete n
    ∃ d, t.ctx? n = some d ∧ s.ctxsBut t n ∧ d.state = .complete ∧ d.run.finish = s.now ∧ d.run.completeDue = true
      ∧ d.endStatus = (if c.run.poisoned = [] then stOK else stPOISON) ∧ d.run.low = c.run.low ∧ d.run.reports = c.run.reports := by
  rw [State.endComplete, hc]
  dsimp -zeta only
  extract_lets u t
  obtain ⟨h, hu, hbut, htime⟩ : ∃ h, u.ctx? n = some { c with optHdr := h } ∧ s.ctxsBut u n ∧ u.time = s.time := by
    unfold u
    split
    · exact State.stepDone_only hc
    · exact ⟨c.optHdr, hc, fun _ _ => rfl, rfl⟩
  rw [show t = u.setCtx n _ from State.onCtx_setCtx hu _]
  refine ⟨_, State.ctx?_setCtx_same _ _ _, fun m hm => (State.ctxsBut_of_svc rfl m hm).trans (hbut m hm), rfl, ?_, rfl, ?_, rfl, rfl⟩
  · exact congrArg TimeSt.count htime
  · simp only [List.isEmpty_iff]

end

/-! ### A release report -/

/-- A context after its home tile recorded the release of chunk `k`: L moves past what is released in a row (R150). -/
def Ctx.reported (c : Ctx) (k : Nat) (rest : List Nat) : Ctx :=
  let low := lowest (k :: c.run.rel).length c.run.low (k :: c.run.rel)
  let keep (l : List Nat) : List Nat := l.filter fun j => decide (low ≤ j)
  { c with run := { c.run with reports := rest, low := low, rel := keep (k :: c.run.rel), fin := keep c.run.fin } }

theorem bodyReleaseReport_records {s : State} {n k : Nat} {c : Ctx} {rest : List Nat} (hc : s.ctx? n = some c) (hp : s.paused c = false)
    (hrep : c.run.reports = k :: rest) (hruns : c.runs = true) :
    let t := (s.setCtx n (c.reported k rest)).grantAfter n
    bodyReleaseReport n s = if (c.reported k rest).run.low = c.fix.n then t.endComplete n else t := by
  rw [bodyReleaseReport, State.unlessPaused_runs hc hp]
  simp only [hrep, hruns, Bool.not_true, Bool.false_eq_true, if_false]
  rfl

/-! ### COMPLETE -/

/-- A context whose COMPLETE left. -/
def Ctx.completeSent (c : Ctx) : Ctx := { c with run := { c.run with completeDue := false } }

theorem bodyCompleteSend_sends {s : State} {n : Nat} {c : Ctx} {r : List Byte} (hc : s.ctx? n = some c) (hp : s.paused c = false)
    (hdue : c.run.completeDue = true) (hrec : c.run.record = some r) (hout : s.resultsOut n c.gen = false) :
    bodyCompleteSend n s = (s.setCtx n c.completeSent).toMembers n c tCOMPLETE r none := by
  rw [bodyCompleteSend, State.unlessPaused_runs hc hp]
  simp only [hdue, hrec, hout, Bool.false_eq_true, if_false, Ctx.completeSent]

end Sys2Proof.Machine

open Sys2Proof Sys2Proof.Machine

/-- Settles O32: what the home tile makes of the next release, and what it sends when a GRANT or a COMPLETE is due. -/
theorem releasesAdvanceTheFrontier : Obligations.ReleasesAdvanceTheFrontier := by
  intro s n c hs hc hp h grants
  have hgrants : grants (s.kept (s.grantNow n)) :=
    ⟨State.ctxsBut_of_svc (State.grantNow_svc hc), State.ctx?_of_svc (State.grantNow_svc hc), State.grantNow_meshOut hc⟩
  refine ⟨fun k rest hrep hruns => ?_, fun a hdue hnow hruns => ⟨_, commit_unlessSafe hs ?_, hgrants⟩,
    fun hst hw hlow hat => ⟨_, commit_unlessSafe hs ?_, hgrants⟩, fun r hdue hrec hout => ?_⟩
  · intro low
    have hc' : (s.fresh.setCtx n (c.reported k rest)).ctx? n = some (c.reported k rest) := State.ctx?_setCtx_same _ _ _
    have hbut' : s.ctxsBut (s.fresh.setCtx n (c.reported k rest)) n := State.ctxsBut_of_svc (s := s) rfl
    obtain ⟨d, hd, hbut, hmops, htime, hdeq⟩ := State.grantAfter_only hc'
    have hbody := bodyReleaseReport_records (s := s.fresh) hc hp hrep hruns
    by_cases hlast : low = c.fix.n
    · obtain ⟨e, he, hebut, hst, hfin, hdue, hend, helow, herep⟩ := State.endComplete_ctx hd
      rw [hdeq] at hend helow herep
      exact ⟨_, e, commitMem_unlessSafe hs (hbody.trans (if_pos hlast)), fun m hm => (hebut m hm).trans ((hbut m hm).trans (hbut' m hm)), he, helow, herep,
        fun hne => absurd hlast hne, fun _ => ⟨hst, hfin.trans (congrArg TimeSt.count htime), hdue, hend⟩⟩
    · refine ⟨_, d, commitMem_unlessSafe hs (hbody.trans (if_neg hlast)), fun m hm => (hbut m hm).trans (hbut' m hm), hd, ?_, ?_,
        fun _ => ⟨?_, ?_⟩, fun heq => absurd heq hlast⟩
      · rw [hdeq]; rfl
      · rw [hdeq]; rfl
      · rw [hdeq]; rfl
      · rw [State.keptMem_mem, hmops]; rfl
  · rw [bodyGrantDelayExpire, State.unlessPaused_runs hc hp, hdue]
    exact if_pos ⟨hnow, hruns⟩
  · rw [bodyGrantRepeat, State.unlessPaused_runs hc hp]
    exact if_pos ⟨hst, hw, hlow, hat⟩
  · exact ⟨_, commit_unlessSafe hs (bodyCompleteSend_sends hc hp hdue hrec hout), State.ctxsBut_of_svc (c := c.completeSent) rfl,
      State.ctx?_setCtx_same _ _ _, State.toMembers_meshOut _ _ _ _ _ _⟩
end

section
/-!
PROOFS. A RESEND at the hub dies and as it is answered, and the slot inspection registers (O34).
-/

namespace Sys2Proof.Machine

/-! ### A RESEND and its parts -/

theorem State.resend?_dropResend (s : State) (id : Nat) : (s.dropResend id).resend? id = none :=
  List.find?_eq_none.2 fun r hr => by simpa using (List.mem_filter.1 hr).2

@[simp] theorem State.ctxCount_svc (s : State) (r : Reg) (n hi lo k : Nat) : (s.ctxCount r n hi lo k).svc = s.svc := rfl

section
variable {s : State} {id : Nat} {r : Resend} {c : Ctx} (hr : s.resend? id = some r)
include hr

/-- A hub die that has not answered passes its part, with the blocks it holds, or fails it (R157 step 3). -/
theorem bodyResendHubCheck_answers (hc : s.ctx? r.ctx = some c) {hub : Nat} {q : ResendPart} (hst : c.state ≠ .draining)
    (hq : r.parts.find? (fun q => q.hub == hub && q.answer.isNone) = some q) :
    bodyResendHubCheck id hub s = s.setResend { r with
      parts := r.parts.map fun y => if y.hub == hub then { y with answer := some (c.holdsPart r.pkt.gen q) } else y
      kept := r.kept ++ (if c.holdsPart r.pkt.gen q then q.chunks.filterMap fun k => (c.kept.find? k).map fun v => (k, v) else [])
      rec_ := if (c.holdsPart r.pkt.gen q && q.record) = true then c.run.record else r.rec_ } := by
  simp only [bodyResendHubCheck, hr, hc, hst, hq, if_false]

theorem bodyResendDrop_refuses (hno : ∃ q ∈ r.parts, q.answer = some false) :
    bodyResendDrop id s = (s.dropResend id).nackAt r.port r.pkt stRANGE := by
  obtain ⟨q, hq, hans⟩ := hno
  rw [bodyResendDrop, hr]
  exact if_pos (List.any_eq_true.2 ⟨q, hq, by rw [hans]; rfl⟩)

end

/-! ### What goes out again -/

/-- What a hub die has for the members, as it stands, stays when more leaves the mesh. -/
theorem State.mem_meshOut_emit {s : State} {h : Nat} {m : MeshOut} (hm : m ∈ (s.hub h).meshOut) (j : Nat) (x : MeshOut) :
    m ∈ ((s.emit j x).hub h).meshOut := by
  by_cases hj : h = j
  · subst hj
    rw [State.meshOut_emit_same]
    exact List.mem_append_left _ hm
  · rwa [State.emit, State.hub, State.setHub_hubs, Tbl.get_set_other _ _ _ hj]

/-- A RESULT retained by a hub die as it leaves for the one rank that asked (R156 step 6). -/
def Resend.resultOut (r : Resend) (c : Ctx) (e : Nat × Kept) : MeshOut :=
  ⟨r.ctx, r.pkt.gen, tRESULT, e.2.fmt, 0, e.1 * c.fix.c, some e.1, e.2.payload, some r.pkt.rank, none⟩

/-- The completion record as it leaves for that rank. -/
def Resend.recordOut (r : Resend) (b : List Byte) : MeshOut := ⟨r.ctx, r.pkt.gen, tCOMPLETE, 0, 0, 0, none, b, some r.pkt.rank, none⟩

/-- The RESULTs of a RESEND sent again. -/
def State.resendResults (s : State) (r : Resend) (c : Ctx) : State :=
  r.kept.foldl (fun (s : State) e => s.emit (exitHub (c.fix.tileOf e.1)) (r.resultOut c e)) s

/-- Its COMPLETE sent again, where it names the completion record. -/
def State.resendRecord (s : State) (r : Resend) (c : Ctx) : State :=
  match r.parts.any ResendPart.record, r.rec_ with
  | true, some b => s.emit (exitHub c.fix.home) (r.recordOut b)
  | _, _ => s

section
variable (s : State) (r : Resend) (c : Ctx)

theorem State.resendResults_svc : (s.resendResults r c).svc = s.svc := foldl_keeps State.svc _ (by intros; rfl) _ s

theorem State.resendResults_regs : (s.resendResults r c).regs = s.regs := foldl_keeps State.regs _ (by intros; rfl) _ s

theorem State.resendRecord_svc : (s.resendRecord r c).svc = s.svc := by
  unfold State.resendRecord
  split <;> rfl

theorem State.resendRecord_regs : (s.resendRecord r c).regs = s.regs := by
  unfold State.resendRecord
  split <;> rfl

theorem State.mem_resendResults {e : Nat × Kept} (he : e ∈ r.kept) :
    r.resultOut c e ∈ ((s.resendResults r c).hub (exitHub (c.fix.tileOf e.1))).meshOut := by
  refine foldl_reaches (P := fun u : State => r.resultOut c e ∈ (u.hub (exitHub (c.fix.tileOf e.1))).meshOut) (fun u => ?_)
    (fun u x hu => State.mem_meshOut_emit hu _ _) he s
  rw [State.meshOut_emit_same]
  exact List.mem_append_right _ (List.mem_singleton_self _)

theorem State.mem_resendRecord_old {s : State} {h : Nat} {m : MeshOut} (hm : m ∈ (s.hub h).meshOut) :
    m ∈ ((s.resendRecord r c).hub h).meshOut := by
  unfold State.resendRecord
  split
  · exact State.mem_meshOut_emit hm _ _
  · exact hm

theorem State.mem_resendRecord {b : List Byte} (hany : r.parts.any ResendPart.record = true) (hrec : r.rec_ = some b) :
    r.recordOut b ∈ ((s.resendRecord r c).hub (exitHub c.fix.home)).meshOut := by
  rw [State.resendRecord, hany, hrec, State.meshOut_emit_same]
  exact List.mem_append_right _ (List.mem_singleton_self _)

end

/-- A RESEND that every hub die passed sends all it names again, and is counted. -/
theorem bodyResendGo_sends {s : State} {id : Nat} {r : Resend} {c : Ctx} (hr : s.resend? id = some r) (hc : s.ctx? r.ctx = some c)
    (hall : ∀ q ∈ r.parts, q.answer = some true) :
    bodyResendGo id s = (((s.dropResend id).resendResults r c).resendRecord r c).ctxCount .ctxDup r.ctx 31 0
      (r.kept.length + if r.parts.any ResendPart.record then 1 else 0) := by
  have hpass : (r.parts.all fun q => q.answer == some true) = true := List.all_eq_true.2 fun q hq => by rw [hall q hq]; rfl
  simp only [bodyResendGo, hr, hc, hpass, if_true]
  rfl

/-! ### Slot inspection -/

theorem bitCount_le (ranks bitmap : Nat) : bitCount ranks bitmap ≤ ranks :=
  (List.length_filter_le _ _).trans_eq List.length_range

theorem nth_cons_zero (a : Nat) (l : List Nat) : nth (a :: l) 0 = a := by rw [nth, List.getD_cons_zero]

/-- A snapshot does not depend on the registers. -/
theorem State.slotWords_setReg (s : State) (r : Reg) (is : List Nat) (w v : Nat) : (s.setReg r is w).slotWords v = s.slotWords v := rfl

/-- The words of a snapshot of a chunk that occupies its slot: SVC_SLOT_INFO comes first (R141). -/
theorem State.slotWords_open {s : State} {v n k : Nat} {c : Ctx} (hn : n = v / 2 ^ 48 % 2 ^ 16) (hk : k = v / 2 ^ 16 % 2 ^ 32)
    (hc : s.ctx? n = some c) (hopen : ¬(c.fix.kind = 3 ∨ c.state = .settingUp ∨ c.state = .quarantine ∨ c.frontier ≤ k
      ∨ (c.finalised k = true ∧ (c.run.slots.find? k).isNone = true))) :
    ∃ acc, s.slotWords v = (2 ^ 63 + c.gen * 2 ^ 55 + c.fix.tileOf k % 220 * 2 ^ 47 + c.fix.tileOf k / 220 * 2 ^ 40
      + bitCount c.fix.mcount (c.run.slots.get k {}).bitmap * 2 ^ 25) :: acc := by
  subst hn hk
  unfold State.slotWords
  dsimp only
  rw [hc]
  exact ⟨_, if_neg hopen⟩

/-- SVC_SLOT_INFO of a chunk that occupies its slot (R141). -/
theorem State.slotWords_info {s : State} {v n k : Nat} {c : Ctx} (hn : n = v / 2 ^ 48 % 2 ^ 16) (hk : k = v / 2 ^ 16 % 2 ^ 32)
    (hc : s.ctx? n = some c) (hkind : c.fix.kind ≠ 3) (hset : c.state ≠ .settingUp) (hquar : c.state ≠ .quarantine)
    (hfront : k < c.frontier) (hfin : c.finalised k = false) :
    nth (s.slotWords v) 0 = 2 ^ 63 + c.gen * 2 ^ 55 + c.fix.tileOf k % 220 * 2 ^ 47 + c.fix.tileOf k / 220 * 2 ^ 40
      + bitCount c.fix.mcount (c.run.slots.get k {}).bitmap * 2 ^ 25 := by
  obtain ⟨acc, hwords⟩ := State.slotWords_open hn hk hc (by simp [hkind, hset, hquar, hfront, hfin])
  rw [hwords, nth_cons_zero]

/-- The fields of SVC_SLOT_INFO, from the numbers it is made of. -/
theorem slotInfo_fields {gen x y bits : Nat} (hgen : gen < 2 ^ 8) (hx : x < 2 ^ 8) (hy : y < 2 ^ 7) (hbits : bits < 2 ^ 15) :
    let w := 2 ^ 63 + gen * 2 ^ 55 + x * 2 ^ 47 + y * 2 ^ 40 + bits * 2 ^ 25
    w / 2 ^ 63 = 1 ∧ w / 2 ^ 55 % 2 ^ 8 = gen ∧ w / 2 ^ 47 % 2 ^ 8 = x ∧ w / 2 ^ 40 % 2 ^ 7 = y ∧ w / 2 ^ 25 % 2 ^ 15 = bits := by
  intro w
  refine ⟨?_, ?_, ?_, ?_, ?_⟩ <;> omega

end Sys2Proof.Machine

open Sys2Proof Sys2Proof.Machine

/-- Settles O34: a RESEND by what its hub dies answered, a snapshot by the word of a chunk that occupies its slot. -/
theorem resendsAndSlotSnapshots : Obligations.ResendsAndSlotSnapshots := by
  refine ⟨fun s id r c hs hr hc => ⟨fun hub q hst hq => ?_, fun hall => ?_, fun hno => ?_⟩, fun s v hup hpwr => ?_⟩
  · exact commit_unlessSafe hs (bodyResendHubCheck_answers hr hc hst hq)
  · refine ⟨_, commit_unlessSafe hs (bodyResendGo_sends hr hc hall), ?_, ?_, fun e he => ?_, fun b hany hrec => ?_, ?_⟩
    · rw [State.resend?, State.kept_svc, State.ctxCount_svc, State.resendRecord_svc, State.resendResults_svc]
      exact s.resend?_dropResend id
    · rw [State.kept_svc, State.ctxCount_svc, State.resendRecord_svc, State.resendResults_svc]
      rfl
    · exact State.mem_resendRecord_old r c (State.mem_resendResults _ r c he)
    · exact State.mem_resendRecord _ r c hany hrec
    · rw [State.kept_fld, State.fld_ctxCount_same, State.fld, State.reg, State.resendRecord_regs, State.resendResults_regs]
      rfl
  · exact commit_unlessSafe hs (bodyResendDrop_refuses hr hno)
  · refine ⟨_, commit_of (s.ifMain_up _ hup hpwr), rfl, State.regsBut_setReg _ _ _ _, ?_⟩
    intro n c k hn hk hc hkind hset hquar hfront hfin hgen htile hm w
    have hw : w = _ := (congrArg (nth · 0) (State.slotWords_setReg _ _ _ _ _)).trans
      (State.slotWords_info hn hk hc hkind hset hquar hfront hfin)
    rw [hw]
    exact slotInfo_fields hgen ((Nat.mod_lt _ (by decide)).trans (by decide)) (by omega) ((bitCount_le _ _).trans_lt (by omega))
end

section
/-!
PROOFS. What no command touches, and the commands that may write HBM (O4).
-/

namespace Sys2Proof.Machine

/-- Every command but the twenty-five commits a body that cannot change HBM. -/
theorem exec_commit_of_not_writesHbm {c : Instr} (h : Instr.writesHbm c = false) (s : State) : ∃ b, exec c s = commit s b := by
  cases c with
  | mirrorBlockWrite | setup | contextQuarantineEnd | releaseReport | stepAtHome | updateUnitDone | poolAccessPerform | pageZeroDone
  | imageUnload | powerEvaluation | domainResetDone | stackRetrainDone | trainStageDone | newTemondCheckin | serviceSwapDone | domainGo
  | faultMessageTake | i3cWrite | mgmtWrite | registerWrite | selftestDone | spareSelftestDone | substitutionComplete | suspectCleared
  | watchdogFire => nomatch h
  | _ => exact ⟨_, rfl⟩

/-- A command commits a body that cannot change HBM, or is one of those that may. -/
theorem exec_commits_byHbm (c : Instr) (s : State) :
    (∃ b, exec c s = commit s b) ∨ (Instr.writesHbm c = true ∧ ∃ f, exec c s = commitMem s f) := by
  cases h : Instr.writesHbm c with
  | false => exact .inl (exec_commit_of_not_writesHbm h s)
  | true => exact (exec_commits c s).imp_right fun hf => ⟨rfl, hf⟩

end Sys2Proof.Machine

open Sys2Proof Sys2Proof.Machine

/-- Settles O4: the queue, the factory's values and the changes noted are framed by either commit; HBM is kept by the plain one, and by the
other changed by writes and zeroings, which keep its form. -/
theorem commandsKeepWhatIsNotTheirs : Obligations.CommandsKeepWhatIsNotTheirs := by
  intro c s
  rcases exec_commits_byHbm c s with ⟨b, hb⟩ | ⟨hw, f, hf⟩
  · exact ⟨_, hb.trans (commit_kept s b), rfl, rfl, rfl, fun _ => rfl, id⟩
  · exact ⟨_, hf.trans (commitMem_kept s f), rfl, rfl, rfl, fun h => absurd (hw.symm.trans h) (by decide), Memory.after_wf _ _⟩
end

section
/-!
PROOFS. A STEP at its home tile, and the chunks of an optimizer context (O35).
-/

namespace Sys2Proof.Machine

/-! ### A STEP at the port die -/

section
variable {s t : State} {port : Nat} {f : Frame} {p : Packet} {c : Ctx} (h : s.serviceRx port f tSTEP = .pass p t) (hc : t.ctx? p.ctx = some c)
include h hc

theorem bodyStep_wrongKind (hk : c.fix.kind = 1) : bodyStep port f s = (t.ctxCount .ctxDrop p.ctx 15 0).nackAt port p stBADDESC := by
  simp only [bodyStep, h, hc, hk, if_true]

theorem bodyStep_flies (hk : c.fix.kind = 2) (hst : c.steer ≠ .held) : bodyStep port f s = t.fly port p c := by
  simp only [bodyStep, h, hc, hk, hst, Nat.reduceEqDiff, if_false]

end

/-! ### A context changed where it is listed -/

theorem State.onCtx_only (s : State) (n : Nat) (f : Ctx → Ctx) : s.onCtx n f = { s with svc := (s.onCtx n f).svc } := by
  unfold State.onCtx; split <;> rfl

theorem State.onCtx_ctxsBut (s : State) (n : Nat) (f : Ctx → Ctx) : s.ctxsBut (s.onCtx n f) n := by
  unfold State.onCtx
  split
  case h_1 c _ => exact State.ctxsBut_of_svc (c := f c) rfl
  case h_2 => exact fun _ _ => rfl

section
variable (s : State) (n ties : Nat)

theorem State.tieCount_only : s.tieCount n ties = { s with svc := (s.tieCount n ties).svc } := s.onCtx_only n _

theorem State.tieCount_ctxsBut : s.ctxsBut (s.tieCount n ties) n := s.onCtx_ctxsBut n _

@[simp] theorem State.tieCount_keys : (s.tieCount n ties).keys = s.keys := by rw [State.tieCount_only]
@[simp] theorem State.tieCount_mops : (s.tieCount n ties).mops = s.mops := by rw [State.tieCount_only]
@[simp] theorem State.tieCount_mp : (s.tieCount n ties).mp = s.mp := by rw [State.tieCount_only]

end

theorem State.ctxsBut_keptMem {s t u : State} {n : Nat} (h : u.ctxsBut t n) : u.ctxsBut (s.keptMem t) n := h

/-! ### A list of writes -/

/-- The state with writes of HBM noted, in order. -/
def State.putAll (s : State) (ws : List (Nat × List Byte)) : State := ws.foldl (fun (s : State) w => s.memOp (.put w.1 w.2)) s

theorem State.putAll_only (s : State) (ws : List (Nat × List Byte)) :
    s.putAll ws = { s with mops := s.mops ++ ws.map fun w => .put w.1 w.2 } := by
  induction ws generalizing s with
  | nil => simp [State.putAll]
  | cons w ws ih =>
    refine (ih (s.memOp (.put w.1 w.2))).trans ?_
    simp [State.memOp]

theorem State.writeRgn_putAll (s : State) (r : Nat) (x : Region) (off : Nat) (bs : List Byte) :
    s.writeRgn r x off bs = s.putAll (x.puts r off bs) := rfl

theorem State.putAll_append (s : State) (vs ws : List (Nat × List Byte)) : s.putAll (vs ++ ws) = (s.putAll vs).putAll ws := List.foldl_append

/-- Writes noted alone are made in their order. -/
theorem Memory.after_puts (m : Memory) (ws : List (Nat × List Byte)) :
    Memory.after m (ws.map fun w => .put w.1 w.2) = (ws.foldl (fun m w => Memory.write m w.1 w.2) m : Memory) := List.foldl_map

/-! ### Registers that an answer leaves -/

/-- The state a lookup ends in. -/
def Looked.state : Looked → State
  | .found _ t => t
  | .drop t => t

section
variable (s : State) (die : Nat) {r : Reg} {is : List Nat} (hne : ∀ i, r.addr is ≠ Reg.addr .fwdCnt [die, i]) (hi lo : Nat)
include hne

theorem State.fld_fwdCount_other (i : Nat) : (s.fwdCount die i).fld r is hi lo = s.fld r is hi lo :=
  State.fld_bump_other _ _ _ _ _ _ _ _ _ _ (hne i)

/-- A lookup counts in its die's forwarding counters alone. -/
theorem State.fld_lookupQft_other (p : Packet) : (s.lookupQft die p).state.fld r is hi lo = s.fld r is hi lo := by
  have hcount := fun u : State => State.fld_fwdCount_other u die hne hi lo
  have hfwd (u : State) (x : Fwd) : ({ u with fwd := x } : State).fld r is hi lo = u.fld r is hi lo := rfl
  unfold State.lookupQft
  dsimp only
  split_ifs
  · simp only [Looked.state, hcount]
  · split <;> simp only [Looked.state, hfwd, hcount]
  · split
    · simp only [Looked.state, hcount]
    · simp only [Looked.state]
      split <;> simp only [hcount]

theorem State.fld_originate_other (p : Packet) (note : Nat) : (s.originate die p note).fld r is hi lo = s.fld r is hi lo := by
  unfold State.originate
  dsimp only
  split
  all_goals
    next h =>
      exact (congrArg (fun l => l.state.fld r is hi lo) h).symm.trans (State.fld_lookupQft_other s die hne hi lo _)

end

/-! ### What Table 7.5 says, and what follows -/

/-- The home tile's state with the header's words as check 7 of Table 7.5 read them (R188). -/
def State.hdrNoted (s : State) (n : Nat) (c : Ctx) (p : Packet) : State :=
  if s.stepReads c p then s.setCtx n { c with optHdr := ((s.spanHdr c.fix).done, (s.spanHdr c.fix).opn) } else s

@[simp] theorem State.hdrNoted_keys (s : State) (n : Nat) (c : Ctx) (p : Packet) : (s.hdrNoted n c p).keys = s.keys := by
  unfold State.hdrNoted; split <;> rfl

/-- What the home tile of a context does about a STEP, by the verdict (R174, R175). -/
def State.stepAnswered (s : State) (n : Nat) (c : Ctx) (g : Flight) : StepVerdict → State
  | .dropped => s.ctxCount .optStepRx n 31 16
  | .nack st => (s.ctxCount .optStepRx n 47 32).nackFrom (8 + exitHub c.fix.home) g.port g.pkt st
  | .again => (s.ctxCount .optStepRx n 63 48).originate (8 + exitHub c.fix.home) (ackOf g.pkt s.keys.svcEp stOK)
  | .accepted => (s.acceptStep n c g.pkt).originate (8 + exitHub c.fix.home) (ackOf g.pkt s.keys.svcEp stOK)

section
variable {s u : State} {n ties : Nat} {g : Flight} {c : Ctx}

theorem bodyStepAtHome_here (hu : (s.land g).tieCount n ties = u) (hc : u.ctx? n = some c) (hg : s.firstFlight n tSTEP = some g)
    (hf : s.flightFate g = .here) :
    bodyStepAtHome n ties s = (u.hdrNoted n c g.pkt).stepAnswered n c g (u.judgeStep c g.pkt) := by
  simp only [bodyStepAtHome, hg, State.landing, hf, hu, hc]
  cases u.judgeStep c g.pkt <;> rfl

theorem exec_stepAtHome_here (hu : (s.fresh.land g).tieCount n ties = u) (hc : u.ctx? n = some c) (hs : s.flt.safe = false)
    (hg : s.firstFlight n tSTEP = some g) (hf : s.flightFate g = .here) :
    exec (.stepAtHome n ties) s = .next (s.keptMem ((u.hdrNoted n c g.pkt).stepAnswered n c g (u.judgeStep c g.pkt))) :=
  commitMem_unlessSafe hs (bodyStepAtHome_here (s := s.fresh) hu hc hg hf)

end

/-- A STEP is accepted only while its generation runs, and by a header that the home tile read. -/
theorem State.judgeStep_accepts {s : State} {c : Ctx} {p : Packet} (h : s.judgeStep c p = .accepted) :
    c.runs = true ∧ s.stepReads c p = true := by
  unfold State.judgeStep at h
  cases hstep : c.opt.step with
  | some old =>
    simp only [hstep] at h
    split_ifs at h
  | none =>
    simp only [hstep] at h
    split_ifs at h with hstart hgen hrank hok hbad
    all_goals
      obtain ⟨hruns, hgens⟩ : c.runs = true ∧ p.gen = c.gen := by simpa using hgen
      simp only [Bool.not_eq_true', Bool.not_eq_false] at hok
      exact ⟨hruns, by simp [State.stepReads, hstart, hruns, hgens, not_not.1 hrank, hstep, hok, hbad]⟩

/-! ### An accepted STEP -/

/-- A context whose home tile keeps an accepted STEP and knows the words of the span's header (R175, R188). -/
def Ctx.stepped (c : Ctx) (payload : List Byte) (hdr : Nat × Nat) : Ctx := { c with opt := { c.opt with step := some payload }, optHdr := hdr }

/-- The writes that open a STEP in the span's header: OPEN_PARAMS and then OPEN_STEP (R175). -/
def Region.openWrites (r : Region) (sp : Span) (payload : List Byte) : List (Nat × List Byte) :=
  r.puts sp.region (sp.poff + 16) (payload.drop 8) ++ r.puts sp.region (sp.poff + 8) (natBytes 8 (stepArgs payload).t)

/-- With no step open, an accepted STEP writes the header, starts the generation if it is the first data, and is kept. -/
theorem State.acceptStep_opens {s : State} {n : Nat} {c d : Ctx} {p : Packet} {r : Region} (hc : s.ctx? n = some d)
    (hr : s.region? (spanOf c.fix.desc).region = some r) (ho : (s.spanHdr c.fix).opn = 0) :
    let w := s.putAll (r.openWrites (spanOf c.fix.desc) p.payload)
    let t := (stepArgs p.payload).t
    s.acceptStep n c p = (w.setCtx n ((w.begun d).stepped p.payload ((s.spanHdr c.fix).done, t))).setFld .optStep [n] 63 16 t := by
  intro w t
  have hw : w.ctx? n = some d := by rw [show w = _ from s.putAll_only _]; exact hc
  rw [State.acceptStep]
  simp only [hr, ho, if_true, State.writeRgn_putAll, ← State.putAll_append]
  rw [show s.putAll (_ ++ _) = w from rfl, State.firstData_setCtx hw, State.onCtx_setCtx (State.ctx?_setCtx_same _ _ _), State.setCtx_setCtx]
  rfl

/-- SVC_OPT_STEP lies apart from the forwarding counters. -/
theorem addr_optStep_ne_fwdCnt {n : Nat} (hn : n < 65536) (die i : Nat) : Reg.addr .optStep [n] ≠ Reg.addr .fwdCnt [die, i] := by
  simp [Reg.addr, Reg.place]
  omega

/-- What an accepted STEP that opens the header leaves once it is acknowledged. -/
theorem State.acceptStep_acknowledged {s : State} {n : Nat} {c d : Ctx} {p : Packet} {r : Region} (hn : n < 65536) (hc : s.ctx? n = some d)
    (hruns : d.runs = true) (hr : s.region? (spanOf c.fix.desc).region = some r) (ho : (s.spanHdr c.fix).opn = 0) (die : Nat)
    (answer : Packet) :
    let t := (s.acceptStep n c p).originate die answer
    ∃ e, t.ctx? n = some e ∧ s.ctxsBut t n ∧ e.state = .active ∧ e.opt.step = some p.payload
      ∧ t.mops = s.mops ++ (r.openWrites (spanOf c.fix.desc) p.payload).map (fun w => .put w.1 w.2)
      ∧ t.fld .optStep [n] 63 16 = (stepArgs p.payload).t % 2 ^ 48 := by
  intro t
  have hopens := State.acceptStep_opens (p := p) hc hr ho
  simp only [State.putAll_only] at hopens
  have hsvc : t.svc = _ := (State.originate_svc _ _ _ _).trans (congrArg State.svc hopens)
  refine ⟨_, State.ctx?_of_svc hsvc, State.ctxsBut_of_svc (s := s) hsvc, State.begun_active _ hruns, rfl, ?_, ?_⟩
  · exact (State.originate_mops _ _ _ _).trans (congrArg State.mops hopens)
  · rw [State.fld_originate_other _ _ (addr_optStep_ne_fwdCnt hn die), hopens, State.fld_setFld_same]

/-- An accepted STEP that opens the header, as a whole. -/
theorem exec_stepAtHome_opens {s u : State} {n ties : Nat} {g : Flight} {c : Ctx} {r : Region}
    (hu : (s.fresh.land g).tieCount n ties = u) (hc : u.ctx? n = some c) (hs : s.flt.safe = false) (hn : n < 65536)
    (hg : s.firstFlight n tSTEP = some g) (hf : s.flightFate g = .here) (hj : u.judgeStep c g.pkt = .accepted)
    (hr : s.region? (spanOf c.fix.desc).region = some r) (ho : (u.spanHdr c.fix).opn = 0) :
    ∃ t d, exec (.stepAtHome n ties) s = .next t ∧ t.ctx? n = some d ∧ s.ctxsBut t n ∧ d.state = .active ∧ d.opt.step = some g.pkt.payload
      ∧ t.mem = ((r.openWrites (spanOf c.fix.desc) g.pkt.payload).foldl (fun m w => Memory.write m w.1 w.2) s.mem : Memory)
      ∧ t.fld .optStep [n] 63 16 = (stepArgs g.pkt.payload).t % 2 ^ 48 := by
  obtain ⟨hruns, hreads⟩ := State.judgeStep_accepts hj
  have htied : s.ctxsBut u n := hu ▸ State.tieCount_ctxsBut (s.fresh.land g) n ties
  have hexec : exec (.stepAtHome n ties) s = _ := exec_stepAtHome_here hu hc hs hg hf
  rw [hj, State.hdrNoted, if_pos hreads, State.stepAnswered] at hexec
  have hregion : u.region? (spanOf c.fix.desc).region = some r := by rw [State.region?, ← hu, State.tieCount_mp]; exact hr
  obtain ⟨d, hd, hbut, hact, hstep, hmops, hfld⟩ := State.acceptStep_acknowledged (p := g.pkt) hn
    (State.ctx?_setCtx_same u n { c with optHdr := ((u.spanHdr c.fix).done, (u.spanHdr c.fix).opn) }) hruns hregion ho
    (8 + exitHub c.fix.home) (ackOf g.pkt u.keys.svcEp stOK)
  rw [State.setCtx_keys] at hexec
  refine ⟨_, d, hexec, (State.keptMem_ctx? _ _ _).trans hd, State.ctxsBut_keptMem fun m hm => ?_, hact, hstep, ?_,
    (State.keptMem_fld _ _ _ _ _ _).trans hfld⟩
  · exact (hbut m hm).trans ((Tbl.find?_set_other _ _ hm).trans (htied m hm))
  · rw [State.keptMem_mem, hmops, State.setCtx_mops, ← hu, State.tieCount_mops]
    exact Memory.after_puts _ _

/-! ### Staging -/

/-- The state of chunk `k` as a hub die stages it from a span of region `r` (R176). -/
def State.stagedChunk (s : State) (x : CtxFix) (r : Region) (k : Nat) : Staged :=
  let sp := spanOf x.desc
  { w := s.readRgn sp.region r (sp.poff + 4096 + 4 * (k * x.c)) (4 * x.elems k)
    m := s.readRgn sp.region r (sp.poff + sp.mOff + sp.mb * (k * x.c)) (sp.mb * x.elems k)
    v := s.readRgn sp.region r (sp.poff + sp.vOff + sp.mb * (k * x.c)) (if sp.vSize = 0 then 0 else sp.mb * x.elems k)
    s := beNat (s.readRgn sp.region r (sp.poff + sp.sOff + 8 * k) 8)
    bad := (x.chunkParts k).any fun q => s.rgnPoisoned sp.region r q.1 q.2 }

/-- A context with the state of chunk `k` staged in its slot. -/
def Ctx.withStaged (c : Ctx) (k : Nat) (st : Staged) : Ctx :=
  { c with run := { c.run with slots := c.run.slots.set k { c.run.slots.get k {} with staged := some st } } }

/-- Staging without an error of a chunk that still lacks contributions fills its slot and nothing else (R176, R177). -/
theorem bodyOptimizerStateStaged_fills {s : State} {n k : Nat} {c : Ctx} {r : Region} (hc : s.ctx? n = some c)
    (hr : s.region? (spanOf c.fix.desc).region = some r) (hk : c.fix.kind = 2) (hst : c.state = .active) (hstep : c.opt.step ≠ none)
    (hfront : k < c.frontier) (hfin : c.finalised k = false) (hsl : (c.run.slots.get k {}).staged = none) (hp : s.paused c = false)
    (hw : s.stagingWaits (spanOf c.fix.desc).region r (c.fix.chunkParts k) = false) (hfull : c.fix.full (c.run.slots.get k {}) = false) :
    bodyOptimizerStateStaged n k .clean s = s.setCtx n (c.withStaged k (s.stagedChunk c.fix r k)) := by
  simp only [bodyOptimizerStateStaged, hc, hr]
  rw [if_neg (by simp [hk, hst, hstep, hfront, hfin, hsl, hp, hw]), State.memReport_clean, State.onCtx_setCtx hc]
  exact State.tryFinish_waits (State.ctx?_setCtx_same _ _ _) (Tbl.find?_set_same _ _ _) hfull

/-! ### An update unit -/

/-- A context whose update unit of chunk `k` has been written. -/
def Ctx.unitWritten (c : Ctx) (k : Nat) : Ctx := { c with units := c.units.erase k }

theorem bodyUpdateUnitDone_writes {s : State} {n k : Nat} {c : Ctx} {u : Unit_} (hc : s.ctx? n = some c) (hp : s.paused c = false)
    (hu : c.units.find? k = some u) :
    let t := (s.putAll u.writes).setCtx n (c.unitWritten k)
    bodyUpdateUnitDone n k s = if u.live && c.runs && u.gen == c.gen then t.releaseChunk n k u.out u.fin else t := by
  rw [bodyUpdateUnitDone, State.unlessPaused_runs hc hp]
  simp only [hu]
  rfl

@[simp] theorem State.useStack_mops (s : State) (k : Nat) : (s.useStack k).mops = s.mops := by rw [State.useStack_only]; rfl

/-- A release changes nothing in HBM. -/
@[simp] theorem State.releaseChunk_mops (s : State) (n k : Nat) (out : Kept) (e : ChunkEnd) : (s.releaseChunk n k out e).mops = s.mops := by
  unfold State.releaseChunk
  split
  case h_1 => rfl
  case h_2 c _ =>
    cases c.blockStack k with
    | none => cases e.replayed <;> rfl
    | some st => cases e.replayed <;> exact State.useStack_mops _ st

/-- The unit of a chunk that its generation still waits for writes HBM and releases the chunk (R176, R185). -/
theorem exec_updateUnitDone_releases {s : State} {n k : Nat} {c : Ctx} {u : Unit_} (hs : s.flt.safe = false) (hc : s.ctx? n = some c)
    (hp : s.paused c = false) (hu : c.units.find? k = some u) (hlive : (u.live && c.runs && u.gen == c.gen) = true) :
    ∃ t, exec (.updateUnitDone n k) s = .next t ∧ t.svc = (s.setCtx n ((c.unitWritten k).released k u.out u.fin)).svc
      ∧ t.mem = (u.writes.foldl (fun m w => Memory.write m w.1 w.2) s.mem : Memory)
      ∧ (t.hub (exitHub (c.fix.tileOf k))).meshOut = (s.hub (exitHub (c.fix.tileOf k))).meshOut ++ [c.resultOut n k u.out] := by
  have hbody := (bodyUpdateUnitDone_writes (s := s.fresh) hc hp hu).trans (if_pos hlive)
  rw [State.putAll_only] at hbody
  have ht := State.ctx?_setCtx_same { s.fresh with mops := s.fresh.mops ++ u.writes.map fun w => .put w.1 w.2 } n (c.unitWritten k)
  refine ⟨_, commitMem_unlessSafe hs hbody, ?_, ?_, ?_⟩
  · rw [State.keptMem_svc, State.releaseChunk_svc ht, State.setCtx_setCtx]
    rfl
  · rw [State.keptMem_mem, State.releaseChunk_mops]
    exact Memory.after_puts _ _
  · exact State.releaseChunk_meshOut ht k u.out u.fin

/-- The unit of a generation that ended is still written, and releases nothing (R185). -/
theorem exec_updateUnitDone_orphan {s : State} {n k : Nat} {c : Ctx} {u : Unit_} (hs : s.flt.safe = false) (hc : s.ctx? n = some c)
    (hp : s.paused c = false) (hu : c.units.find? k = some u) (hlive : ¬(u.live && c.runs && u.gen == c.gen) = true) :
    ∃ t, exec (.updateUnitDone n k) s = .next t ∧ t.svc = (s.setCtx n (c.unitWritten k)).svc
      ∧ t.mem = (u.writes.foldl (fun m w => Memory.write m w.1 w.2) s.mem : Memory) ∧ t.hubs = s.hubs := by
  have hbody := (bodyUpdateUnitDone_writes (s := s.fresh) hc hp hu).trans (if_neg hlive)
  rw [State.putAll_only] at hbody
  exact ⟨_, commitMem_unlessSafe hs hbody, rfl, Memory.after_puts _ _, rfl⟩

end Sys2Proof.Machine

open Sys2Proof Sys2Proof.Machine

/-- Settles O35: a STEP by what its context's kind and the verdict of Table 7.5 say; a chunk by its guards, and by whether its generation still
waits for its unit. -/
theorem optimizerStepsAndChunks : Obligations.OptimizerStepsAndChunks := by
  refine ⟨⟨fun s t port f p c hrx hc => ⟨fun hk => ?_, fun hk hst => ?_⟩, fun s n ties g c hs hn hg hf => ?_⟩,
    fun s n k c hs hc => ⟨fun r => ?_, fun u hu hp => ?_⟩⟩
  · exact commit_of (bodyStep_wrongKind hrx hc hk)
  · exact commit_of ((bodyStep_flies hrx hc hk hst).trans (by rw [State.fly, hk]))
  · intro u hc hub p sp h v
    have hexec := exec_stepAtHome_here rfl hc hs hg hf
    have hv : v.keys = s.keys := (u.hdrNoted_keys n c p).trans ((s.fresh.land g).tieCount_keys n ties)
    refine ⟨fun hj => ?_, fun st hj => ?_, fun hj => ?_, fun r hj hr ho => exec_stepAtHome_opens rfl hc hs hn hg hf hj hr ho⟩
    · rw [hexec, hj]; rfl
    · rw [hexec, hj]; rfl
    · rw [hexec, hj, ← hv]; rfl
  · intro sp parts sl hr hk hst hstep hfront hfin hsl hp hw hfull
    exact ⟨_, _, _, commit_unlessSafe hs (bodyOptimizerStateStaged_fills hc hr hk hst hstep hfront hfin hsl hp hw hfull), rfl,
      State.ctxsBut_of_svc (s := s) rfl, State.ctx?_setCtx_same _ _ _, Tbl.find?_set_same _ _ _, fun j hj => Tbl.find?_set_other _ _ hj,
      rfl, rfl, rfl, rfl⟩
  · by_cases hlive : (u.live && c.runs && u.gen == c.gen) = true
    · obtain ⟨t, hexec, hsvc, hmem, hmesh⟩ := exec_updateUnitDone_releases hs hc hp hu hlive
      refine ⟨t, _, hexec, State.ctx?_of_svc hsvc, State.ctxsBut_of_svc hsvc, hmem, rfl, fun _ _ _ => ⟨rfl, hmesh⟩, fun h => ?_⟩
      rcases h with h | h | h <;> simp [h] at hlive
    · obtain ⟨t, hexec, hsvc, hmem, hhubs⟩ := exec_updateUnitDone_orphan hs hc hp hu hlive
      refine ⟨t, _, hexec, State.ctx?_of_svc hsvc, State.ctxsBut_of_svc hsvc, hmem, rfl, fun h h' h'' => ?_, fun _ => ⟨rfl, hhubs⟩⟩
      simp [h, h', h''] at hlive
end

section
/-!
PROOFS. HBM stays in its canonical form, with no change of it pending, from reset on (O2, O3).
-/

namespace Sys2Proof.Machine

/-- A nanosecond of time leaves HBM and the changes noted alone. -/
theorem State.Inv.tick {s : State} (h : s.Inv) : (tick s).Inv := by
  unfold Machine.tick
  split_ifs <;> exact h

/-- A command keeps the invariant: HBM keeps its form under either commit, and the pending changes are those before it. -/
theorem State.Inv.exec {s t : State} {c : Instr} (h : s.Inv) (hexec : exec c s = .next t) : t.Inv := by
  obtain ⟨hwf, hnone⟩ := h
  obtain ⟨u, hu, -, -, hmops, -, hkept⟩ := commandsKeepWhatIsNotTheirs c s
  obtain rfl : u = t := Host.Outcome.next.inj (hu.symm.trans hexec)
  exact ⟨hkept hwf, hmops.trans hnone⟩

end Sys2Proof.Machine

open Sys2Proof Sys2Proof.Machine

/-- Settles O3: after reset HBM lists no byte and no change is noted. -/
theorem invariantHoldsAtReset : Obligations.InvariantHoldsAtReset := ⟨rfl, rfl⟩

/-- Settles O2: a step is a nanosecond of time or the front command, and each keeps the invariant. -/
theorem invariantKeptByEveryStep : Obligations.InvariantKeptByEveryStep := by
  intro s t hinv hstep
  unfold step at hstep
  cases hq : s.pending with
  | nil =>
    rw [hq] at hstep
    exact Host.Outcome.next.inj hstep ▸ hinv.tick
  | cons c rest =>
    rw [hq] at hstep
    exact State.Inv.exec (s := { s with pending := rest }) hinv hstep
end

section
/-!
PROOFS. Region operations: CREATE, DELETE, REKEY and GROW (O39).
-/

namespace Sys2Proof.Machine

/-! ### Regions and pages -/

/-- The pool services as a fold that takes pages carries them. -/
def carriedPool (a : List Nat × State) : PoolSt := a.2.mp

/-- Pages come from the buffer pool manager, and the pool services do not change with it. -/
@[simp] theorem State.takePages_mp (s : State) (stackSet : List Nat) (r k n : Nat) : (s.takePages stackSet r k n).2.mp = s.mp := by
  refine foldl_keeps carriedPool _ (fun a i => ?_) (List.range n) ([], s)
  dsimp only
  split <;> rfl

/-! ### CREATE and GROW -/

/-- The region that a CREATE makes of its words, at a base and with pages (R190 to R192). -/
def RegOp.created (o : RegOp) (base : Nat) (pages : List Nat) (now : Nat) : Region :=
  { job := o.job, key := o.key, perm := o.perm, orddef := o.orddef, size := o.size, stackSet := o.stackSet, base := base, pages := pages,
    since := now }

theorem rangeFree_of_lowestBase {taken : List (Nat × Nat)} {len b : Nat} (h : lowestBase taken len = some b) : rangeFree taken len b = true :=
  List.find?_some h

/-- The state with region `r` made by a CREATE: its pages taken, its number no longer among the freed ones, its counters 0 (R190 to R192, R216). -/
def State.withRegion (s : State) (o : RegOp) (r base : Nat) : State :=
  let t := s.takePages o.stackSet r 0 (pagesFor o.size)
  let u := t.2.setRegion r (o.created base t.1 s.local)
  let v : State := { u with mp := { u.mp with freed := u.mp.freed.filter fun f => f != r } }
  [Reg.rgnBchoice, .rgnTchoice, .rgnAcc, .rgnErr].foldl (fun (s : State) g => s.setReg g [r] 0) v

theorem State.withRegion_regions (s : State) (o : RegOp) (r base : Nat) :
    (s.withRegion o r base).mp.regions
      = s.mp.regions.set r (o.created base (s.takePages o.stackSet r 0 (pagesFor o.size)).1 s.local) := by
  rw [State.withRegion]
  dsimp only [List.foldl_cons, List.foldl_nil, State.setReg_mp, State.setRegion_mp]
  rw [State.takePages_mp]

theorem State.region?_withRegion_same (s : State) (o : RegOp) (r base : Nat) :
    (s.withRegion o r base).region? r = some (o.created base (s.takePages o.stackSet r 0 (pagesFor o.size)).1 s.local) := by
  rw [State.region?, State.withRegion_regions, Tbl.find?_set_same]

theorem State.region?_withRegion_other (s : State) (o : RegOp) {r j : Nat} (base : Nat) (h : j ≠ r) :
    (s.withRegion o r base).region? j = s.region? j := by
  rw [State.region?, State.withRegion_regions, Tbl.find?_set_other _ _ h, State.region?]

section
variable {s u : State} {o : RegOp} {r : Nat}

/-- A CREATE that is not refused found a free range, and made its region there. -/
theorem State.createRegion_ok (h : s.createRegion o = .ok (r, u)) :
    ∃ b, rangeFree (s.poolRanges r) (pagesFor o.size * pageBytes) b = true ∧ u = s.withRegion o r b := by
  unfold State.createRegion at h
  split at h
  · cases h
  · dsimp only at h
    split at h
    · cases h
    · next b hbase =>
      split_ifs at h
      obtain ⟨rfl, hu⟩ := Prod.mk.inj (Except.ok.inj h)
      exact ⟨b, rangeFree_of_lowestBase hbase, hu.symm⟩

/-- What a GROW that is not refused has done: its region is larger, with pages appended (R198). The search for a free range is held as an
unknown function, so that the kernel does not evaluate it on the sizes of Table 8.2. -/
theorem State.growRegion_ok {x : Region} (h : s.growRegion o x = .ok u) :
    ∃ b ps, u.region? o.region = some { x with base := b, size := o.size, pages := x.pages ++ ps } := by
  obtain ⟨grow, hgrow⟩ : ∃ g, State.growRegion = g := ⟨_, rfl⟩
  obtain ⟨free, hfree⟩ : ∃ f, rangeFree = f := ⟨_, rfl⟩
  rw [hgrow] at h
  delta State.growRegion at hgrow
  rw [hfree] at hgrow
  subst hgrow
  dsimp only at h
  split at h
  · cases h
  · split_ifs at h
    obtain rfl := Except.ok.inj h
    exact ⟨_, _, State.region?_setRegion_same _ _ _⟩
end

/-! ### The rows -/

section
variable {s : State} {o : RegOp} (hop : s.nextOp = some o)
include hop

section
variable {rop : Nat} (hr : o.rop = rop) (act : RegOp → Region → State → State)
include hr

theorem State.regionRow_badFields (hf : o.fieldsOk = false) : s.regionRow rop act = s.endOp o o.region stBADDESC := by
  simp [State.regionRow, hop, hr, hf]

theorem State.regionRow_refused {st : Nat} (hf : o.fieldsOk = true) (hc : s.regionChecks o = .error st) :
    s.regionRow rop act = s.endOp o o.region st := by
  simp [State.regionRow, hop, hr, hf, hc]

theorem State.regionRow_acts {x : Region} (hf : o.fieldsOk = true) (hc : s.regionChecks o = .ok x) : s.regionRow rop act = act o x s := by
  simp [State.regionRow, hop, hr, hf, hc]

end

theorem bodyRegionCreate_badFields (hr : ¬(2 ≤ o.rop ∧ o.rop ≤ 4)) (hf : o.fieldsOk = false) :
    bodyRegionCreate s = s.endOp o o.region stBADDESC := by
  simp [bodyRegionCreate, hop, if_neg hr, hf]

section
variable (hr : o.rop = 1) (hf : o.fieldsOk = true)
include hr hf

theorem bodyRegionCreate_refused {st : Nat} (hc : s.createRegion o = .error st) : bodyRegionCreate s = s.endOp o o.region st := by
  simp [bodyRegionCreate, hop, hr, hf, hc]

theorem bodyRegionCreate_creates {r : Nat} {u : State} (hc : s.createRegion o = .ok (r, u)) : bodyRegionCreate s = u.endOp o r stOK := by
  simp [bodyRegionCreate, hop, hr, hf, hc]

end

section
variable {x : Region} (hr : o.rop = 4) (hf : o.fieldsOk = true) (hc : s.regionChecks o = .ok x)
include hr hf hc

theorem bodyRegionGrow_refused {st : Nat} (hg : s.growRegion o x = .error st) : bodyRegionGrow s = s.endOp o o.region st := by
  rw [bodyRegionGrow, State.regionRow_acts hop hr _ hf hc, hg]

theorem bodyRegionGrow_grows {u : State} (hg : s.growRegion o x = .ok u) : bodyRegionGrow s = u.endOp o o.region stOK := by
  rw [bodyRegionGrow, State.regionRow_acts hop hr _ hf hc, hg]

end
end

/-! ### The commands -/

/-- The command that runs an operation, by its ROP (Table 8.2). -/
def RegOp.command (o : RegOp) : Instr :=
  if o.rop = 2 then .regionDelete else if o.rop = 3 then .regionRekey else if o.rop = 4 then .regionGrow else .regionCreate

section
variable {s : State} {o : RegOp} (hs : s.flt.safe = false) (hop : s.nextOp = some o)
include hs hop

/-- Step 1 of Table 8.3 comes first, whichever operation it is. -/
theorem exec_regionOp_badFields (hf : o.fieldsOk = false) : exec o.command s = .next (s.kept (s.endOp o o.region stBADDESC)) := by
  unfold RegOp.command
  split_ifs with h2 h3 h4
  · exact commit_unlessSafe hs (State.regionRow_badFields hop h2 _ hf)
  · exact commit_unlessSafe hs (State.regionRow_badFields hop h3 _ hf)
  · exact commit_unlessSafe hs (State.regionRow_badFields hop h4 _ hf)
  · exact commit_unlessSafe hs (bodyRegionCreate_badFields hop (by omega) hf)

/-- Steps 2 to 5 of Table 8.3 come next for DELETE, REKEY and GROW. -/
theorem exec_regionOp_refused {st : Nat} (hf : o.fieldsOk = true) (hr : o.rop ≠ 1) (hc : s.regionChecks o = .error st) :
    exec o.command s = .next (s.kept (s.endOp o o.region st)) := by
  unfold RegOp.command
  split_ifs with h2 h3 h4
  · exact commit_unlessSafe hs (State.regionRow_refused hop h2 _ hf hc)
  · exact commit_unlessSafe hs (State.regionRow_refused hop h3 _ hf hc)
  · exact commit_unlessSafe hs (State.regionRow_refused hop h4 _ hf hc)
  · simp only [RegOp.fieldsOk, Bool.and_eq_true, decide_eq_true_eq] at hf
    omega

end

end Sys2Proof.Machine

open Sys2Proof Sys2Proof.Machine

/-- Settles O39: the command of each operation, by the first check that fails or by what it does. -/
theorem regionOperationsAreJudgedInOrder : Obligations.RegionOperationsAreJudgedInOrder := by
  intro s o hs hop row c hc
  obtain rfl : o.command = c := by
    refine Option.some.inj (Eq.trans ?_ hc)
    simp only [RegOp.command, row, apply_ite some]
  have hcreate (hr : o.rop = 1) : o.command = .regionCreate := by simp [RegOp.command, hr]
  have hgrow (hr : o.rop = 4) : o.command = .regionGrow := by simp [RegOp.command, hr]
  refine ⟨exec_regionOp_badFields hs hop, fun hf => ⟨fun st hr hc => exec_regionOp_refused hs hop hf hr hc, fun st hr hc => ?_,
    fun r u hr hc => ?_, fun x hx => ⟨fun hr => ?_, fun hr => ?_, fun st hr hg => ?_, fun u hr hg => ?_⟩⟩⟩
  · exact hcreate hr ▸ commit_unlessSafe hs (bodyRegionCreate_refused hop hr hf hc)
  · obtain ⟨b, hfree, rfl⟩ := State.createRegion_ok hc
    exact ⟨hcreate hr ▸ commit_unlessSafe hs (bodyRegionCreate_creates hop hr hf hc), _, State.region?_withRegion_same s o r b, rfl, rfl, rfl,
      rfl, rfl, hfree, fun j hj => State.region?_withRegion_other s o b hj⟩
  · rw [show o.command = .regionDelete by simp [RegOp.command, hr]]
    exact commit_unlessSafe (f := bodyRegionDelete) hs (State.regionRow_acts hop hr _ hf hx)
  · rw [show o.command = .regionRekey by simp [RegOp.command, hr]]
    exact commit_unlessSafe hs (State.regionRow_acts hop hr _ hf hx)
  · exact hgrow hr ▸ commit_unlessSafe hs (bodyRegionGrow_refused hop hr hf hx hg)
  · obtain ⟨b, ps, hu⟩ := State.growRegion_ok hg
    exact ⟨hgrow hr ▸ commit_unlessSafe hs (bodyRegionGrow_grows hop hr hf hx hg), _, ps, hu, rfl, rfl, rfl⟩
end

section
/-!
PROOFS. Regions drain and leave QUARANTINE, released pages are zeroed, and idle streams close (O40).
-/

namespace Sys2Proof.Machine

/-! ### The end of a drain -/

@[simp] theorem State.ackSetup_mp (s : State) (p : Packet) (setupId status ctx gen window retry : Nat) :
    (s.ackSetup p setupId status ctx gen window retry).mp = s.mp := State.originate_mp _ _ _ _

/-- SETUP_ACKs sent one after another change no table of the pool. -/
theorem State.foldl_ackSetup_mp (s : State) (ps : List Packet) (setupId status region : Nat) :
    (ps.foldl (fun (s : State) q => s.ackSetup q setupId status region 0 0 0) s).mp = s.mp := by
  induction ps generalizing s with
  | nil => rfl
  | cons p ps ih => rw [List.foldl_cons, ih, State.ackSetup_mp]

/-- An answer to a region operation leaves the regions, the streams and the stacks as they are (R196, R217). -/
theorem State.answerRegion_tables (s : State) (f : Option (Nat × Packet)) (region status : Nat) :
    let m := (s.answerRegion f region status).mp
    m.regions = s.mp.regions ∧ m.streams = s.mp.streams ∧ m.hbm = s.mp.hbm := by
  unfold State.answerRegion
  cases f with
  | none => exact ⟨rfl, rfl, rfl⟩
  | some f =>
    dsimp only
    rw [State.foldl_ackSetup_mp]
    exact ⟨rfl, rfl, rfl⟩

/-- Pages that are dropped change their stacks alone (R193). -/
theorem State.dropPages_only (s : State) (r : Nat) (x : Region) :
    s.dropPages r x = { s with mp := { s.mp with hbm := (s.dropPages r x).mp.hbm } } := by
  unfold State.dropPages
  induction List.range x.pages.length generalizing s with
  | nil => rfl
  | cons k ks ih => exact ih _

/-- Each page that is dropped waits to be zeroed on its stack. -/
theorem State.dropPages_zeroing (s : State) (r : Nat) (x : Region) {k : Nat} (hk : k < x.pages.length) :
    nth x.pages k ∈ ((s.dropPages r x).stack (x.stackOf r k)).zeroing := by
  refine foldl_reaches (P := fun t : State => nth x.pages k ∈ (t.stack (x.stackOf r k)).zeroing) (b := k) (fun t => ?_) (fun t j h => ?_)
    (List.mem_range.2 hk) s
  · rw [State.stack_setStack_same]
    exact List.mem_append_right _ (List.mem_singleton_self _)
  · by_cases hj : x.stackOf r k = x.stackOf r j
    · rw [hj] at h ⊢
      rw [State.stack_setStack_same]
      exact List.mem_append_left _ h
    · rw [State.stack_setStack_other _ _ hj]
      exact h

/-- A region as it enters QUARANTINE at a local time: its pages are gone and its DELETE is answered. -/
def Region.quarantined (x : Region) (now : Nat) : Region := { x with state := .quarantine, since := now, pages := [], answer := none }

/-- The pool services after a region has drained: the region in QUARANTINE, its streams closed, its pages with their stacks (R191, R193, R199). -/
theorem bodyRegionDrainEnd_drained {s : State} {r : Nat} {x : Region} (hx : s.region? r = some x) (hst : x.state = .draining)
    (hq : ∀ q ∈ s.mp.reqs, q.region ≠ r) :
    let m := (bodyRegionDrainEnd r s).mp
    m.regions = s.mp.regions.set r (x.quarantined s.local) ∧ m.streams = s.mp.streams.filter (fun t => t.region != r)
      ∧ m.hbm = (s.dropPages r x).mp.hbm := by
  have hall : s.mp.reqs.all (fun q => q.region != r) = true := List.all_eq_true.2 fun q h => bne_iff_ne.2 (hq q h)
  simp only [bodyRegionDrainEnd, hx, hst, hall, and_self, if_true]
  rw [State.dropPages_only]
  cases x.answer with
  | none => exact ⟨rfl, rfl, rfl⟩
  | some f => exact State.answerRegion_tables _ f r stOK

/-! ### QUARANTINE and idle streams -/

theorem bodyRegionQuarantineEnd_frees {s : State} {r : Nat} {x : Region} (hx : s.region? r = some x) (hst : x.state = .quarantine)
    (hage : s.twiceAgePassed x.since = true) :
    bodyRegionQuarantineEnd r s = { s with mp := { s.mp with regions := s.mp.regions.erase r, freed := s.mp.freed ++ [r] } } := by
  simp only [bodyRegionQuarantineEnd, hx, hst, hage, and_self, if_true]

theorem bodyOrderedStreamExpire_closes {s : State} {die src region : Nat} {y : Stream} (hy : s.stream? die src region = some y)
    (hage : s.twiceAgePassed y.at_ = true)
    (hq : ∀ q ∈ s.mp.reqs, ¬(q.stream = true ∧ q.port / 96 = die ∧ q.pkt.src = src ∧ q.region = region)) :
    bodyOrderedStreamExpire die src region s = { s with mp := { s.mp with streams := s.mp.streams.filter fun u => u != y } } := by
  have hall : s.mp.reqs.all (fun q => !(q.stream && q.port / 96 == die && q.pkt.src == src && q.region == region)) = true :=
    List.all_eq_true.2 fun q h => by simpa [or_iff_not_imp_left, and_assoc] using hq q h
  simp only [bodyOrderedStreamExpire, hy, hage, hall, and_self, if_true]

/-! ### A page is zeroed -/

/-- Lines cleared of poison are clear (R214). -/
theorem State.linePoisoned_cleanLines (s : State) {lo hi l : Nat} (h : lo ≤ l) (h' : l < hi) : (s.cleanLines lo hi).linePoisoned l = false := by
  simp only [State.linePoisoned, State.cleanLines, List.any_eq_false, List.mem_flatMap, List.mem_filter, List.mem_cons, List.not_mem_nil,
    or_false, Bool.and_eq_true, decide_eq_true_eq, not_and]
  rintro q ⟨p, -, rfl | rfl, -⟩ hlo
  · exact fun hhi => absurd (hhi.trans_le (min_le_right _ _)) (Nat.not_lt.2 h)
  · exact absurd ((le_max_right _ _).trans hlo) (Nat.not_le.2 h')

/-- The lines that begin within a page are those from its first to its last. -/
theorem line_of_page {m l : Nat} (h : m * pageBytes ≤ 64 * l) (h' : 64 * l < m * pageBytes + pageBytes) :
    m * pageBytes / 64 ≤ l ∧ l < (m * pageBytes + pageBytes) / 64 := by
  simp only [pageBytes] at *
  omega

/-- A foreground access leaves the pages that its stack zeroes. -/
theorem State.useStack_zeroing (s : State) (k : Nat) : ((s.useStack k).stack k).zeroing = (s.stack k).zeroing := by
  unfold State.useStack State.wakeStack
  dsimp only
  split_ifs <;> simp [State.recal]

/-- A buffer held by the owner that releases it leaves its pool's list (R325). -/
theorem State.bpmRelease_held {s : State} {p i o : Nat} (tag : Nat) (hb : (s.pool p).bufs.find? i = some (.held o)) (hrow : s.rowOut p i = false) :
    s.bpmRelease p i o tag = s.setPool p { s.pool p with bufs := (s.pool p).bufs.erase i } := by
  simp [State.bpmRelease, BpmPool.release, hb, hrow]

theorem State.ownerOf_held {s : State} {p i o : Nat} (hb : (s.pool p).bufs.find? i = some (.held o)) : s.ownerOf p i = o := by
  rw [State.ownerOf, hb]

/-- The stack has zeroed a page: it no longer waits, its bytes are cleared, its lines are free of poison; its buffer is still held (R193). -/
def State.pageZeroed (s : State) (stack page : Nat) : State :=
  let a := (stack * stackPages + page) * pageBytes
  ((((s.setStack stack { s.stack stack with zeroing := (s.stack stack).zeroing.erase page }).useStack stack).memOp
    (.clear a pageBytes)).cleanLines (a / 64) ((a + pageBytes) / 64))

section
variable (s : State) (stack page : Nat)

theorem State.pageZeroed_stack : ((s.pageZeroed stack page).stack stack).zeroing = (s.stack stack).zeroing.erase page := by
  refine (State.useStack_zeroing _ stack).trans ?_
  rw [State.stack_setStack_same]

theorem State.pageZeroed_mops : (s.pageZeroed stack page).mops = s.mops ++ [.clear ((stack * stackPages + page) * pageBytes) pageBytes] :=
  congrArg (· ++ [MemOp.clear _ pageBytes]) (State.useStack_mops _ stack)

theorem State.pageZeroed_pool (p : Nat) : (s.pageZeroed stack page).pool p = s.pool p := by
  rw [State.pageZeroed, State.useStack_only]
  rfl

theorem State.pageZeroed_rowOut (p i : Nat) : (s.pageZeroed stack page).rowOut p i = s.rowOut p i := by
  rw [State.pageZeroed, State.useStack_only]
  rfl

variable {s stack page}

theorem bodyPageZeroDone_zeroes (hp : page ∈ (s.stack stack).zeroing) (hopen : s.stackOpen stack = true) :
    bodyPageZeroDone stack page s
      = (s.pageZeroed stack page).bpmRelease (16 + stack) page ((s.pageZeroed stack page).ownerOf (16 + stack) page) 0 :=
  if_pos (by simp [hp, hopen])

/-- A page that is zeroed: what the command leaves of HBM, of the pool services and of the stack's buffers. -/
theorem exec_pageZeroDone_zeroes (hs : s.flt.safe = false) (hp : page ∈ (s.stack stack).zeroing) (hopen : s.stackOpen stack = true) :
    ∃ t, exec (.pageZeroDone stack page) s = .next t
      ∧ t.mem = Memory.zero s.mem ((stack * stackPages + page) * pageBytes) pageBytes ∧ t.mp = (s.fresh.pageZeroed stack page).mp
      ∧ ∀ o, (s.pool (16 + stack)).bufs.find? page = some (.held o) → s.rowOut (16 + stack) page = false →
          t.pool (16 + stack) = { s.pool (16 + stack) with bufs := (s.pool (16 + stack)).bufs.erase page } := by
  obtain ⟨u, hu⟩ : ∃ u, s.fresh.pageZeroed stack page = u := ⟨_, rfl⟩
  have hbody := bodyPageZeroDone_zeroes (s := s.fresh) hp hopen
  rw [hu] at hbody
  refine ⟨_, commitMem_unlessSafe hs hbody, ?_, ?_, fun o hheld hrow => ?_⟩
  · rw [State.keptMem_mem, State.bpmRelease_only, ← hu]
    exact congrArg (Memory.after s.mem) (s.fresh.pageZeroed_mops stack page)
  · rw [State.keptMem_mp, State.bpmRelease_only, ← hu]
  · have hpool : u.pool (16 + stack) = s.pool (16 + stack) := by rw [← hu]; exact s.fresh.pageZeroed_pool stack page _
    have hout : u.rowOut (16 + stack) page = false := by rw [← hu, State.pageZeroed_rowOut]; exact hrow
    rw [← hpool] at hheld ⊢
    rw [State.pool, State.keptMem_bpm, State.ownerOf_held hheld, State.bpmRelease_held 0 hheld hout, ← State.pool, State.pool_setPool_same]

end

end Sys2Proof.Machine

open Sys2Proof Sys2Proof.Machine

/-- Settles O40: each of the four commands under the guard that lets it act. -/
theorem regionsDrainAndPagesAreZeroed : Obligations.RegionsDrainAndPagesAreZeroed := by
  intro s hs
  refine ⟨fun r x hx hst hq => ?_, fun r x hx hst hage => ?_, fun stack page hp hopen => ?_, fun die src region y hy hage hq => ?_⟩
  · obtain ⟨hreg, hstr, hhbm⟩ := bodyRegionDrainEnd_drained hx hst hq
    refine ⟨_, x.quarantined s.local, commit_unlessSafe hs rfl, ?_, rfl, rfl, rfl, fun j hj => ?_, fun z hz => ?_, fun k hk => ?_⟩
    · rw [State.region?, State.kept_mp, hreg, Tbl.find?_set_same]
    · rw [State.region?, State.kept_mp, hreg, Tbl.find?_set_other _ _ hj, State.region?]
    · rw [State.kept_mp, hstr] at hz
      exact bne_iff_ne.1 (List.mem_filter.1 hz).2
    · rw [State.stack, State.kept_mp, hhbm]
      exact s.dropPages_zeroing r x hk
  · exact commit_unlessSafe hs (bodyRegionQuarantineEnd_frees hx hst hage)
  · obtain ⟨t, hexec, hmem, hmp, hpool⟩ := exec_pageZeroDone_zeroes hs hp hopen
    refine ⟨t, hexec, fun b hb => ?_, fun b hlo hhi => ?_, fun l hlo hhi => ?_, ?_, fun o hheld hrow => ?_⟩
    · rw [hmem, Memory.byte_zero_other _ _ _ _ hb]
    · rw [hmem, Memory.byte_zero_in _ _ _ _ hlo hhi, blankByte]
    · obtain ⟨hl, hl'⟩ := line_of_page hlo hhi
      rw [State.linePoisoned, hmp]
      exact State.linePoisoned_cleanLines _ hl hl'
    · rw [State.stack, hmp]
      exact s.fresh.pageZeroed_stack stack page
    · rw [hpool o hheld hrow]
  · exact commit_unlessSafe hs (bodyOrderedStreamExpire_closes hy hage hq)
end

section
/-!
PROOFS. A pool access's next line: where it lies in HBM, what it leaves there, and what it changes beside (R202 to R204, R212, R229).
-/

namespace Sys2Proof.Machine

/-! ### Spans within a page -/

section
variable {off len : Nat} (h : off % pageBytes + len ≤ pageBytes)
include h

/-- A span within a page is one piece. -/
theorem spanCuts_inPage : spanCuts off len = if len = 0 then [] else [(off, len)] := by
  rw [spanCuts, pageCuts, min_eq_left (Nat.le_sub_of_add_le' h)]
  dsimp only
  rw [Nat.sub_self, pageCuts_zero]

theorem State.readRgn_inPage (s : State) (r : Nat) (x : Region) : s.readRgn r x off len = s.hbm.read (x.phys r off) len := by
  rw [State.readRgn, spanCuts_inPage h]
  split_ifs with hlen
  · rw [hlen]; rfl
  · exact List.append_nil _

end

theorem Region.puts_inPage (x : Region) (r : Nat) {off : Nat} {bs : List Byte} (h : off % pageBytes + bs.length ≤ pageBytes) :
    x.puts r off bs = if bs.length = 0 then [] else [(x.phys r off, bs)] := by
  rw [Region.puts, spanCuts_inPage h]
  split_ifs
  · rfl
  · rw [List.map_singleton, Nat.sub_self, List.drop_zero, List.take_length]

/-- HBM after bytes were written into a region. -/
def Memory.withPuts (m : Memory) (ws : List (Nat × List Byte)) : Memory := Memory.after m (ws.map fun w => .put w.1 w.2)

section
variable (m : Memory) (x : Region) (r : Nat) {off : Nat} {bs : List Byte} (h : off % pageBytes + bs.length ≤ pageBytes)
include h

theorem Memory.byte_withPuts_other {b : Nat} (hb : b < x.phys r off ∨ x.phys r off + bs.length ≤ b) :
    (m.withPuts (x.puts r off bs)).byte b = m.byte b := by
  rw [x.puts_inPage r h]
  split_ifs
  · rfl
  · exact Memory.byte_write_other m _ _ _ hb

theorem Memory.byte_withPuts_in {i : Nat} (hi : i < bs.length) : (m.withPuts (x.puts r off bs)).byte (x.phys r off + i) = bs[i] := by
  rw [x.puts_inPage r h, if_neg (by omega)]
  exact Memory.byte_write_in m _ _ _ hi

end

/-- A byte of a read is the byte at its place. -/
theorem Memory.getElem_read (m : Memory) (a n : Nat) {i : Nat} (h : i < (m.read a n).length) : (m.read a n)[i] = m.byte (a + i) := by
  have hi : i < n := by rwa [Memory.length_read] at h
  simp only [Memory.read, List.getElem_map, List.getElem_range]
  unfold Memory.byte
  rw [Memory.find_filter_keep]
  intro c hc
  simp only [hc, Bool.and_eq_true, decide_eq_true_eq]
  omega

/-- Bytes written into a page of a region read back. -/
theorem Memory.read_withPuts (m : Memory) (x : Region) (r : Nat) {off : Nat} {bs : List Byte} (h : off % pageBytes + bs.length ≤ pageBytes) :
    (m.withPuts (x.puts r off bs)).read (x.phys r off) bs.length = bs := by
  refine List.ext_getElem (Memory.length_read _ _ _) fun i hi hi' => ?_
  rw [Memory.getElem_read, Memory.byte_withPuts_in m x r h hi']

/-! ### The next line -/

/-- A line lies within a page. -/
theorem PReq.part_inPage (q : PReq) : q.part.1 % pageBytes + q.part.2 ≤ pageBytes := by
  have hline : q.part.1 % 64 + q.part.2 ≤ 64 := by
    simp only [PReq.part]
    omega
  simp only [pageBytes]
  omega

/-- An access of no bytes has an empty line. -/
theorem PReq.part_empty {q : PReq} (h : accessLen q.pkt = 0) : q.part.2 = 0 := by
  simp only [PReq.part, h]
  split_ifs <;> omega

theorem PReq.writes?_of_write {q : PReq} (h : q.pkt.typ = tPOOL_WR) (old : List Byte) :
    q.writes? old = some ((q.pkt.payload.drop (q.part.1 - q.pkt.offset)).take q.part.2) := if_pos h

theorem PReq.writes?_of_atomic {q : PReq} (h : q.pkt.typ = tPOOL_ATOM) (old : List Byte) :
    q.writes? old
      = some (natBytes q.part.2 (atomNew ((q.pkt.word 0).field 63 56) (beNat old) (q.pkt.word 1).toNat (q.pkt.word 2).toNat)) :=
  (if_neg (by rw [h]; decide)).trans (if_pos h)

theorem PReq.writes?_of_read {q : PReq} (hw : q.pkt.typ ≠ tPOOL_WR) (ha : q.pkt.typ ≠ tPOOL_ATOM) (old : List Byte) :
    q.writes? old = none := (if_neg hw).trans (if_neg ha)

/-- An access never leaves more bytes in a line than the line holds of it. -/
theorem PReq.writes?_length {q : PReq} {old bs : List Byte} (h : q.writes? old = some bs) : bs.length ≤ q.part.2 := by
  unfold PReq.writes? at h
  dsimp only at h
  split_ifs at h
  · obtain rfl := Option.some.inj h
    exact List.length_take_le _ _
  · obtain rfl := Option.some.inj h
    exact (natBytes_length _ _).le

/-- The writes of an access's next line, by HBM address. -/
def State.lineWrites (s : State) (q : PReq) (x : Region) : List (Nat × List Byte) :=
  ((q.writes? (s.readRgn q.region x q.part.1 q.part.2)).map (x.puts q.region q.part.1)).getD []

theorem State.lineWrites_none {s : State} {q : PReq} {x : Region} (h : q.writes? (s.readRgn q.region x q.part.1 q.part.2) = none) :
    s.lineWrites q x = [] := by rw [State.lineWrites, h]; rfl

theorem State.lineWrites_some {s : State} {q : PReq} {x : Region} {bs : List Byte}
    (h : q.writes? (s.readRgn q.region x q.part.1 q.part.2) = some bs) : s.lineWrites q x = x.puts q.region q.part.1 bs := by
  rw [State.lineWrites, h]; rfl

theorem State.lineWrites_empty (s : State) {q : PReq} (x : Region) (h : accessLen q.pkt = 0) : s.lineWrites q x = [] := by
  cases hw : q.writes? (s.readRgn q.region x q.part.1 q.part.2) with
  | none => exact State.lineWrites_none hw
  | some bs =>
    have hbs : bs.length = 0 := Nat.eq_zero_of_le_zero ((PReq.writes?_length hw).trans_eq (PReq.part_empty h))
    rw [State.lineWrites_some hw, List.length_eq_zero_iff.1 hbs]
    rfl

end Sys2Proof.Machine
end

section
/-!
PROOFS. What performing an access's line, counting it and mirroring it change (R204, R212, R213, R229, R330).
-/

namespace Sys2Proof.Machine

/-! ### Registers that a chain of counts leaves -/

section
variable {s t u : State} {as bs : List Nat}

theorem State.regsBut_refl (s : State) (as : List Nat) : s.regsBut s as := fun _ _ => rfl

theorem State.regsBut.trans (h : s.regsBut t as) (h' : t.regsBut u as) : s.regsBut u as := fun a ha => (h' a ha).trans (h a ha)

theorem State.regsBut.mono (h : s.regsBut t as) (hsub : as ⊆ bs) : s.regsBut t bs := fun a ha => h a fun hm => ha (hsub hm)

/-- Only the stored words matter to what registers keep. -/
theorem State.regsBut.of_regs (h : s.regsBut t as) (hu : u.regs = t.regs) : s.regsBut u as := fun a ha => by rw [hu]; exact h a ha

end

theorem State.regsBut_bump (s : State) {r : Reg} {is : List Nat} {as : List Nat} (h : r.addr is ∈ as) (hi lo n : Nat) :
    s.regsBut (s.bump r is hi lo n) as :=
  (s.regsBut_setReg r is _).mono fun a ha => by rwa [List.mem_singleton.1 ha]

/-- A fold changes no register but those that each of its steps may change. -/
theorem State.regsBut_foldl {β : Type} (f : State → β → State) (as : List Nat) (l : List β) (h : ∀ t : State, ∀ b ∈ l, t.regsBut (f t b) as)
    (s : State) : s.regsBut (l.foldl f s) as := by
  induction l generalizing s with
  | nil => exact State.regsBut_refl s as
  | cons b l ih =>
    rw [List.foldl_cons]
    exact (h s b List.mem_cons_self).trans (ih (fun t c hc => h t c (List.mem_cons_of_mem _ hc)) _)

/-! ### Races -/

theorem State.gthCount_only (s : State) (ctx gen : Nat) (r : Reg) (hi lo n : Nat) :
    s.gthCount ctx gen r hi lo n = { s with regs := (s.gthCount ctx gen r hi lo n).regs } := by
  unfold State.gthCount
  split
  · split_ifs <;> rfl
  · rfl

theorem State.gthCount_regsBut (s : State) (ctx gen : Nat) (r : Reg) (hi lo n : Nat) :
    s.regsBut (s.gthCount ctx gen r hi lo n) [r.addr [ctx]] := by
  unfold State.gthCount
  split
  · split_ifs
    · exact s.regsBut_bump (List.mem_singleton_self _) hi lo n
    · exact State.regsBut_refl _ _
  · exact State.regsBut_refl _ _

theorem State.countGathers_only (s : State) (met : List Track) : s.countGathers met = { s with regs := (s.countGathers met).regs } := by
  unfold State.countGathers
  induction met.filter (fun o => o.gctx != 0) generalizing s with
  | nil => rfl
  | cons o met ih =>
    rw [List.foldl_cons, ih, State.gthCount_only]

theorem State.countGathers_regsBut (s : State) (met : List Track) :
    s.regsBut (s.countGathers met) (met.map fun o => Reg.addr .ctxLate [o.gctx]) := by
  refine State.regsBut_foldl _ _ _ (fun t o ho => (t.gthCount_regsBut o.gctx o.ggen .ctxLate 63 32 1).mono fun a ha => ?_) s
  rw [List.mem_singleton.1 ha]
  exact List.mem_map_of_mem (List.mem_of_mem_filter ho)

/-- The counts of a line's races: one for each gather line that it raced, and the access's own (R212, R213, R229). -/
def State.raceCounted (s : State) (r : Nat) (met : List Track) (raced tie : Bool) : State :=
  let hit := !met.isEmpty
  if hit && !raced then (s.countGathers met).rgnCount r .rgnBchoice
  else if tie && !hit then (s.countGathers met).rgnCount r .rgnTchoice
  else s.countGathers met

section
variable (s : State) (r : Nat) (met : List Track) (raced tie : Bool)

theorem State.raceCounted_only : s.raceCounted r met raced tie = { s with regs := (s.raceCounted r met raced tie).regs } := by
  unfold State.raceCounted
  dsimp only
  split_ifs
  · rw [State.countGathers_only]; rfl
  · rw [State.countGathers_only]; rfl
  · rw [State.countGathers_only]

theorem State.raceCounted_regsBut :
    s.regsBut (s.raceCounted r met raced tie)
      ([Reg.addr .rgnBchoice [r], Reg.addr .rgnTchoice [r]] ++ met.map fun o => Reg.addr .ctxLate [o.gctx]) := by
  have hgathers := (s.countGathers_regsBut met).mono (List.subset_append_right [Reg.addr .rgnBchoice [r], Reg.addr .rgnTchoice [r]] _)
  unfold State.raceCounted
  dsimp only
  split_ifs
  · exact hgathers.trans (State.regsBut_bump _ (by simp) _ _ _)
  · exact hgathers.trans (State.regsBut_bump _ (by simp) _ _ _)
  · exact hgathers

end

/-! ### A line performed -/

/-- The line's bytes in HBM, and its poison gone where it was covered whole (R202, R203, R214). -/
def State.lineStored (s : State) (q : PReq) (x : Region) : State :=
  (q.writes? (s.readRgn q.region x q.part.1 q.part.2)).elim s fun bs =>
    (s.writeRgn q.region x q.part.1 bs).cleanLines ((x.phys q.region q.part.1 + 63) / 64) ((x.phys q.region q.part.1 + q.part.2) / 64)

theorem State.lineStored_only (s : State) (q : PReq) (x : Region) :
    s.lineStored q x = { s with mops := s.mops ++ (s.lineWrites q x).map (fun w => .put w.1 w.2)
                                mp := { s.mp with poison := (s.lineStored q x).mp.poison } } := by
  unfold State.lineStored
  cases hw : q.writes? (s.readRgn q.region x q.part.1 q.part.2) with
  | none => rw [State.lineWrites_none hw, List.map_nil, List.append_nil]; rfl
  | some bs => rw [State.lineWrites_some hw, Option.elim_some, State.writeRgn_putAll, State.putAll_only]; rfl

/-- What the race tracker keeps of an access's line (R212). -/
def State.lineTrack (s : State) (q : PReq) (x : Region) : Track :=
  ⟨q.region, q.part.1 / 64, q.part.1 % 64, q.part.1 % 64 + q.part.2, q.pkt.src,
    (q.writes? (s.readRgn q.region x q.part.1 q.part.2)).isSome, (s.lineStored q x).local, 0, 0⟩

theorem State.performLine_eq (s : State) (q : PReq) (x : Region) (tie : Bool) :
    let r := (s.lineStored q x).track (hubOfStack q.stack) (s.lineTrack q x)
    s.performLine q x tie
      = ({ q with next := q.next + 1, got := q.got ++ s.readRgn q.region x q.part.1 q.part.2, raced := q.raced || !r.1.isEmpty },
          r.2.raceCounted q.region r.1 q.raced tie) := by
  unfold State.performLine State.lineTrack State.lineStored
  dsimp only
  cases q.writes? (s.readRgn q.region x q.part.1 q.part.2) <;> rfl

end Sys2Proof.Machine
end

section
/-!
PROOFS. What ends an access: its count, its mirror record, its answers, and the release of the next access of its stream (R202, R206, R208, R330).
-/

namespace Sys2Proof.Machine

/-! ### Mirroring -/

/-- The registers in which a hub die's mirroring counts the records it lost (R327). -/
def mirrorRegs : List Nat := (List.range 4).map fun h => Reg.addr .bpmStat [8 + h]

theorem State.mirrorOne_only (s : State) (die i : Nat) (v : Seen) :
    let t := s.mirrorOne die i v
    t = { s with regs := t.regs, mirror := t.mirror, bpm := t.bpm } := by
  intro t
  show s.mirrorOne die i v = _
  unfold t State.mirrorOne
  dsimp only
  split
  · split
    · rfl
    · split
      · rfl
      · split
        · rfl
        · split <;> rfl
  · rfl

theorem State.mirrorOne_regsBut (s : State) (die i : Nat) (v : Seen) : s.regsBut (s.mirrorOne die i v) mirrorRegs := by
  have hpool : ∀ d : Nat, Reg.addr .bpmStat [8 + d % 4] ∈ mirrorRegs := fun d =>
    List.mem_map.2 ⟨d % 4, List.mem_range.2 (Nat.mod_lt _ (by decide)), rfl⟩
  unfold State.mirrorOne
  dsimp only
  split
  · split
    · exact State.regsBut_refl _ _
    · split
      · exact State.regsBut_refl _ _
      · split
        · exact State.regsBut_refl _ _
        · split
          · exact State.regsBut_refl _ _
          · refine State.regsBut_bump _ ?_ _ _ _
            split_ifs <;> exact hpool _
  · exact State.regsBut_refl _ _

theorem State.mirrorAt_only (s : State) (die : Nat) (v : Seen) :
    let t := s.mirrorAt die v
    t = { s with regs := t.regs, mirror := t.mirror, bpm := t.bpm } := by
  intro t
  show s.mirrorAt die v = _
  unfold t State.mirrorAt
  induction s.mirror.keys generalizing s with
  | nil => rfl
  | cons i is ih => rw [List.foldl_cons, ih, State.mirrorOne_only]

theorem State.mirrorAt_regsBut (s : State) (die : Nat) (v : Seen) : s.regsBut (s.mirrorAt die v) mirrorRegs :=
  State.regsBut_foldl _ _ _ (fun t i _ => t.mirrorOne_regsBut die i v) s

/-! ### Answers -/

/-- The pool services and the changes of HBM noted: what no answer of the device touches. -/
def State.poolView (s : State) : PoolSt × List MemOp := (s.mp, s.mops)

theorem State.mp_of_poolView {s t : State} (h : t.poolView = s.poolView) : t.mp = s.mp := congrArg Prod.fst h

theorem State.mops_of_poolView {s t : State} (h : t.poolView = s.poolView) : t.mops = s.mops := congrArg Prod.snd h

@[simp] theorem State.originate_poolView (s : State) (die : Nat) (p : Packet) (note : Nat) : (s.originate die p note).poolView = s.poolView := by
  rw [State.poolView, State.originate_mp, State.originate_mops, State.poolView]

/-- The ACK of an access, or of a duplicate of it, from the port die it entered on (R208). -/
def State.ackAccess (s : State) (d : Nat × Packet) : State := s.originate (d.1 / 96) (ackOf d.2 s.keys.svcEp stOK)

theorem State.foldl_ackAccess_poolView (s : State) (ds : List (Nat × Packet)) : (ds.foldl State.ackAccess s).poolView = s.poolView := by
  induction ds generalizing s with
  | nil => rfl
  | cons d ds ih => rw [List.foldl_cons, ih, State.ackAccess, State.originate_poolView]

section
variable (s : State) (q : PReq) (old : List Byte)

theorem State.answerReq_read (h : q.pkt.typ = tPOOL_RD ∧ rdlen q.pkt ≠ 0) :
    s.answerReq q old = q.dups.foldl State.ackAccess (s.poolRsp q old) := by
  simp only [State.answerReq, if_pos h]
  rfl

theorem State.answerReq_atomic (h : q.pkt.typ = tPOOL_ATOM) :
    s.answerReq q old = q.dups.foldl State.ackAccess (s.poolRsp q (List.replicate (8 - old.length) 0 ++ old)) := by
  have hr : ¬(q.pkt.typ = tPOOL_RD ∧ rdlen q.pkt ≠ 0) := by rw [h]; exact fun hr => absurd hr.1 (by decide)
  simp only [State.answerReq, if_neg hr, if_pos h]
  rfl

theorem State.answerReq_silent (h : q.pkt.typ = tPOOL_WR) (ha : q.pkt.ackReq = false) :
    s.answerReq q old = q.dups.foldl State.ackAccess s := by
  have hr : ¬(q.pkt.typ = tPOOL_RD ∧ rdlen q.pkt ≠ 0) := by rw [h]; exact fun hr => absurd hr.1 (by decide)
  have hat : q.pkt.typ ≠ tPOOL_ATOM := by rw [h]; decide
  simp only [State.answerReq, if_neg hr, if_neg hat, if_pos h, ha]
  rfl

theorem State.answerReq_acked (hr : ¬(q.pkt.typ = tPOOL_RD ∧ rdlen q.pkt ≠ 0)) (hat : q.pkt.typ ≠ tPOOL_ATOM)
    (hw : q.pkt.typ = tPOOL_WR → q.pkt.ackReq = true) :
    s.answerReq q old = q.dups.foldl State.ackAccess (s.ackAccess (q.port, q.pkt)) := by
  by_cases h : q.pkt.typ = tPOOL_WR
  · simp only [State.answerReq, if_neg hr, if_neg hat, if_pos h, hw h, if_true]
    rfl
  · simp only [State.answerReq, if_neg hr, if_neg hat, if_neg h]
    rfl

@[simp] theorem State.answerReq_poolView : (s.answerReq q old).poolView = s.poolView := by
  by_cases hr : q.pkt.typ = tPOOL_RD ∧ rdlen q.pkt ≠ 0
  · rw [State.answerReq_read s q old hr, State.foldl_ackAccess_poolView, State.poolRsp, State.originate_poolView]
  by_cases hat : q.pkt.typ = tPOOL_ATOM
  · rw [State.answerReq_atomic s q old hat, State.foldl_ackAccess_poolView, State.poolRsp, State.originate_poolView]
  by_cases hw : q.pkt.typ = tPOOL_WR ∧ q.pkt.ackReq = false
  · rw [State.answerReq_silent s q old hw.1 hw.2, State.foldl_ackAccess_poolView]
  · rw [State.answerReq_acked s q old hr hat fun h => by simpa [h] using hw, State.foldl_ackAccess_poolView, State.ackAccess,
      State.originate_poolView]

end

end Sys2Proof.Machine
end

section
/-!
PROOFS. The steps of POOL_ACCESS_PERFORM, by their outcome (R200, R204 to R206).
-/

namespace Sys2Proof.Machine

/-! ### What releasing accesses leaves -/

/-- `t` holds no access that `s` does not, and notes the same changes of HBM: what refusing accesses, and releasing the next of a stream, keeps. -/
def State.holdsNoMore (s t : State) : Prop := t.mops = s.mops ∧ ∀ r ∈ t.mp.reqs, ∃ y ∈ s.mp.reqs, y.id = r.id

section
variable {s t u : State}

theorem State.holdsNoMore.trans (h : s.holdsNoMore t) (h' : t.holdsNoMore u) : s.holdsNoMore u := by
  obtain ⟨hmops, hreqs⟩ := h
  obtain ⟨hmops', hreqs'⟩ := h'
  refine ⟨hmops'.trans hmops, fun r hr => ?_⟩
  obtain ⟨y, hy, hyr⟩ := hreqs' r hr
  obtain ⟨z, hz, hzy⟩ := hreqs y hy
  exact ⟨z, hz, hzy.trans hyr⟩

theorem State.holdsNoMore_of_subset (hm : t.mops = s.mops) (hr : t.mp.reqs ⊆ s.mp.reqs) : s.holdsNoMore t := ⟨hm, fun r h => ⟨r, hr h, rfl⟩⟩

theorem State.holdsNoMore_of_poolView (h : t.poolView = s.poolView) : s.holdsNoMore t :=
  State.holdsNoMore_of_subset (State.mops_of_poolView h) fun r hr => by rwa [State.mp_of_poolView h] at hr

end

@[simp] theorem State.nackFrom_poolView (s : State) (die port : Nat) (p : Packet) (status expect : Nat) :
    (s.nackFrom die port p status expect).poolView = s.poolView := State.originate_poolView _ _ _ _

@[simp] theorem State.bump_poolView (s : State) (r : Reg) (is : List Nat) (hi lo n : Nat) : (s.bump r is hi lo n).poolView = s.poolView := rfl

/-- The NACKs of a stream's later accesses change neither the pool nor HBM (R206). -/
theorem State.foldl_nackLater_poolView (s : State) (die region expect : Nat) (later : List PReq) :
    (later.foldl (fun (s : State) x => (s.bump .rgnErr [region] 47 32).nackFrom die x.port x.pkt stRETRY expect) s).poolView = s.poolView := by
  induction later generalizing s with
  | nil => rfl
  | cons q later ih => rw [List.foldl_cons, ih, State.nackFrom_poolView, State.bump_poolView]

/-- A state whose pool differs in its streams alone. -/
theorem State.holdsNoMore_streams (s : State) (ys : List Stream) : s.holdsNoMore { s with mp := { s.mp with streams := ys } } :=
  State.holdsNoMore_of_subset rfl (List.Subset.refl _)

/-- A state that holds only some of the accesses. -/
theorem State.holdsNoMore_filter (s : State) (keep : PReq → Bool) :
    s.holdsNoMore { s with mp := { s.mp with reqs := s.mp.reqs.filter keep } } := State.holdsNoMore_of_subset rfl List.filter_sublist.subset

section
variable (s : State) (q : PReq)

theorem State.spend_holdsNoMore (port : Nat) (p : Packet) : s.holdsNoMore (s.spend port p) := by
  unfold State.spend
  split
  · exact s.holdsNoMore_streams _
  · exact State.holdsNoMore_of_poolView rfl

theorem State.rollback_holdsNoMore : s.holdsNoMore (s.rollback q) := by
  unfold State.rollback
  dsimp only
  split
  · exact State.holdsNoMore_of_poolView rfl
  · refine State.holdsNoMore.trans (State.holdsNoMore.trans ?_ (State.holdsNoMore_filter _ _))
      (State.holdsNoMore_of_poolView (State.foldl_nackLater_poolView _ _ _ _ _))
    split
    · split_ifs <;> exact s.holdsNoMore_streams _
    · exact State.holdsNoMore_of_poolView rfl

theorem State.refuseReq_holdsNoMore (status hi lo : Nat) : s.holdsNoMore (s.refuseReq q status hi lo) :=
  (s.holdsNoMore_filter _).trans (State.holdsNoMore_of_poolView (State.nackFrom_poolView _ _ _ _ _ _))

theorem State.refuseHome_holdsNoMore (status : Nat) : s.holdsNoMore (s.refuseHome q status) := by
  unfold State.refuseHome
  split_ifs
  · exact (s.spend_holdsNoMore _ _).trans (State.refuseReq_holdsNoMore _ _ _ _ _)
  · exact State.refuseReq_holdsNoMore _ _ _ _ _
  · exact (s.rollback_holdsNoMore q).trans (State.refuseReq_holdsNoMore _ _ _ _ _)

theorem State.sendReq_holdsNoMore (job : Nat) : s.holdsNoMore (s.sendReq q job) := by
  refine ⟨rfl, fun r hr => ?_⟩
  rw [State.sendReq_reqs] at hr
  obtain ⟨y, hy, rfl⟩ := List.mem_map.1 hr
  refine ⟨y, hy, ?_⟩
  split_ifs with h
  · exact beq_iff_eq.1 h
  · rfl

theorem State.releaseReq_holdsNoMore : s.holdsNoMore (s.releaseReq q) := by
  unfold State.releaseReq
  split
  · exact State.holdsNoMore_of_poolView rfl
  · dsimp only
    split_ifs
    · exact (State.rollback_holdsNoMore (s.count64 .poolStat []) q).trans (State.refuseReq_holdsNoMore _ _ _ _ _)
    · split
      · exact s.refuseHome_holdsNoMore q _
      · exact s.sendReq_holdsNoMore q _

end

theorem releaseStream_holdsNoMore (die src region k : Nat) (s : State) : s.holdsNoMore (releaseStream die src region k s) := by
  induction k generalizing s with
  | zero => exact State.holdsNoMore_of_poolView rfl
  | succ k ih =>
    rw [releaseStream]
    dsimp only
    split
    · exact State.holdsNoMore_of_poolView rfl
    · split_ifs
      · exact (s.releaseReq_holdsNoMore _).trans (ih _)
      · exact State.holdsNoMore_of_poolView rfl

/-! ### The end of an access -/

/-- An access performed is counted and mirrored, and its entry is free (R202, R330). -/
def State.retired (s : State) (q : PReq) (x : Region) : State :=
  let s := (s.rgnCount q.region .rgnAcc).mirrorAt (8 + hubOfStack q.stack)
    ⟨3, 9, q.port, 0, q.pkt.cls, q.pkt.ctx, true, 0, 0, (x.base + q.pkt.offset) / 64, q.head⟩
  { s with mp := { s.mp with reqs := s.mp.reqs.filter fun y => y.id != q.id } }

section
variable (s : State) (q : PReq) (x : Region)

theorem State.retired_only :
    let t := s.retired q x
    t = { s with regs := t.regs, mirror := t.mirror, bpm := t.bpm
                 mp := { s.mp with reqs := s.mp.reqs.filter fun y => y.id != q.id } } := by
  intro t
  show s.retired q x = _
  unfold t State.retired
  rw [State.mirrorAt_only]
  rfl

theorem State.retired_regsBut : s.regsBut (s.retired q x) (Reg.addr .rgnAcc [q.region] :: mirrorRegs) :=
  (s.regsBut_bump (is := [q.region]) List.mem_cons_self 63 0 1).trans
    (((s.rgnCount q.region .rgnAcc).mirrorAt_regsBut _ _).mono (List.subset_cons_self _ _))

theorem State.finishReq_unordered (h : q.stream = false) : s.finishReq q x = (s.retired q x).answerReq q q.got := by
  simp only [State.finishReq, h, Bool.false_eq_true, if_false]
  rfl

theorem State.finishReq_holdsNoMore : (s.retired q x).holdsNoMore (s.finishReq q x) := by
  have hview := State.holdsNoMore_of_poolView (State.answerReq_poolView (s.retired q x) q q.got)
  unfold State.finishReq
  dsimp only
  split_ifs
  · exact hview.trans (releaseStream_holdsNoMore _ _ _ _ _)
  · exact hview

end

end Sys2Proof.Machine
end

section
/-!
PROOFS. Pool accesses act on HBM line by line, and in their order (O37).
-/

namespace Sys2Proof.Machine

/-! ### One event of an access -/

/-- The access after its event, and the state: its line performed, where it has one (R204). -/
def State.lineDone (s : State) (q : PReq) (x : Region) (tie : Bool) : PReq × State :=
  if accessLen q.pkt = 0 then (q, s) else s.performLine q x tie

section
variable (s : State) (q : PReq) (x : Region) (tie : Bool)

/-- A line done changes HBM by its writes, the poison and the tracker's record, and counts in registers. -/
theorem State.lineDone_only :
    let t := (s.lineDone q x tie).2
    t = { s with regs := t.regs, mops := s.mops ++ (s.lineWrites q x).map (fun w => .put w.1 w.2)
                 mp := { s.mp with poison := t.mp.poison, trackers := t.mp.trackers } } := by
  intro t
  show (s.lineDone q x tie).2 = _
  unfold t State.lineDone
  split_ifs with h
  · rw [s.lineWrites_empty x h, List.map_nil, List.append_nil]
  · rw [State.performLine_eq, State.raceCounted_only, State.track, State.lineStored_only]

/-- The registers that a line done counts in: the region's races, and those of the gather contexts whose lines it raced (R212, R213, R229). -/
theorem State.lineDone_regsBut :
    ∃ gs : List Nat, s.regsBut (s.lineDone q x tie).2
      ([Reg.addr .rgnBchoice [q.region], Reg.addr .rgnTchoice [q.region]] ++ gs.map fun g => Reg.addr .ctxLate [g]) := by
  unfold State.lineDone
  split_ifs
  · exact ⟨[], State.regsBut_refl _ _⟩
  · rw [State.performLine_eq]
    refine ⟨((s.lineStored q x).track (hubOfStack q.stack) (s.lineTrack q x)).1.map Track.gctx, ?_⟩
    have hcounted := State.raceCounted_regsBut ((s.lineStored q x).track (hubOfStack q.stack) (s.lineTrack q x)).2 q.region
      ((s.lineStored q x).track (hubOfStack q.stack) (s.lineTrack q x)).1 q.raced tie
    have hstored : s.regsBut ((s.lineStored q x).track (hubOfStack q.stack) (s.lineTrack q x)).2 [] :=
      (State.regsBut_refl s []).of_regs (by rw [State.track, State.lineStored_only])
    rw [List.map_map]
    exact (hstored.mono (List.nil_subset _)).trans hcounted

/-- What an access holds after its event: the bytes that its line held come after those it has got. -/
theorem State.lineDone_req :
    let r := (s.lineDone q x tie).1
    r = { q with next := r.next, raced := r.raced
                 got := q.got ++ if accessLen q.pkt = 0 then [] else s.readRgn q.region x q.part.1 q.part.2 } := by
  intro r
  show (s.lineDone q x tie).1 = _
  unfold r State.lineDone
  split_ifs
  · rw [List.append_nil]
  · rw [State.performLine_eq]

theorem State.lineDone_next (h : accessLen q.pkt ≠ 0) : (s.lineDone q x tie).1.next = q.next + 1 := by
  rw [State.lineDone, if_neg h, State.performLine_eq]

/-- An access that has lines left waits for the next, with what it has got (R204). -/
theorem State.performReq_more (h : accessLen q.pkt ≠ 0) (hmore : q.next + 1 < linesOf q.pkt.offset (accessLen q.pkt)) :
    let r := s.lineDone q x tie
    s.performReq q x tie = { r.2 with mp := { r.2.mp with reqs := r.2.mp.reqs.map fun y => if y.id == q.id then r.1 else y } } := by
  have hnext := s.lineDone_next q x tie h
  simp only [State.lineDone, if_neg h] at hnext ⊢
  rw [State.performReq, if_neg h]
  dsimp only
  rw [hnext, if_pos hmore]

theorem State.performReq_last (h : accessLen q.pkt = 0 ∨ linesOf q.pkt.offset (accessLen q.pkt) ≤ q.next + 1) :
    s.performReq q x tie = (s.lineDone q x tie).2.finishReq (s.lineDone q x tie).1 x := by
  by_cases h0 : accessLen q.pkt = 0
  · rw [State.performReq, State.lineDone, if_pos h0, if_pos h0]
  · have hnext := s.lineDone_next q x tie h0
    simp only [State.lineDone, if_neg h0] at hnext ⊢
    rw [State.performReq, if_neg h0]
    dsimp only
    rw [hnext, if_neg (Nat.not_lt.2 (h.resolve_left h0))]

end

/-! ### What an event leaves in HBM and of the accesses held -/

section
variable (s : State) (q : PReq) (x : Region) (tie : Bool)

theorem State.lineDone_mops : (s.lineDone q x tie).2.mops = s.mops ++ (s.lineWrites q x).map fun w => .put w.1 w.2 := by
  rw [State.lineDone_only]

theorem State.lineDone_reqs : (s.lineDone q x tie).2.mp.reqs = s.mp.reqs := by
  rw [State.lineDone_only]

theorem State.lineDone_id : (s.lineDone q x tie).1.id = q.id := by
  rw [State.lineDone_req]

/-- The changes of HBM that an event notes are its line's writes. -/
theorem State.performReq_mops : (s.performReq q x tie).mops = s.mops ++ (s.lineWrites q x).map fun w => .put w.1 w.2 := by
  by_cases h : accessLen q.pkt = 0 ∨ linesOf q.pkt.offset (accessLen q.pkt) ≤ q.next + 1
  · rw [State.performReq_last s q x tie h, ← State.lineDone_mops s q x tie]
    obtain ⟨hmops, -⟩ := State.finishReq_holdsNoMore (s.lineDone q x tie).2 (s.lineDone q x tie).1 x
    exact hmops.trans (by rw [State.retired_only])
  · obtain ⟨h0, hmore⟩ := not_or.1 h
    rw [State.performReq_more s q x tie h0 (Nat.not_le.1 hmore)]
    exact State.lineDone_mops s q x tie

/-- An access whose last event this was is held no more. -/
theorem State.performReq_frees (h : accessLen q.pkt = 0 ∨ linesOf q.pkt.offset (accessLen q.pkt) ≤ q.next + 1) :
    ∀ r ∈ (s.performReq q x tie).mp.reqs, r.id ≠ q.id := by
  intro r hr hid
  rw [State.performReq_last s q x tie h] at hr
  obtain ⟨-, hreqs⟩ := State.finishReq_holdsNoMore (s.lineDone q x tie).2 (s.lineDone q x tie).1 x
  obtain ⟨y, hy, hyr⟩ := hreqs r hr
  rw [State.retired_only] at hy
  refine bne_iff_ne.1 (List.mem_filter.1 hy).2 ?_
  rw [hyr, hid, State.lineDone_id]

/-- An access with lines left is held, further by one. -/
theorem State.performReq_keeps (hq : q ∈ s.mp.reqs) (h : accessLen q.pkt ≠ 0) (hmore : q.next + 1 < linesOf q.pkt.offset (accessLen q.pkt)) :
    (s.lineDone q x tie).1 ∈ (s.performReq q x tie).mp.reqs := by
  rw [State.performReq_more s q x tie h hmore]
  refine List.mem_map.2 ⟨q, ?_, if_pos (beq_self_eq_true _)⟩
  rw [State.lineDone_reqs]
  exact hq

end

/-! ### The checks before an event -/

theorem State.meetsPoison_of_homeRefuses {s : State} {q : PReq} {x : Region} (h : s.homeRefuses q x = none) :
    s.meetsPoison q.pkt (x.phys q.region q.pkt.offset) (accessLen q.pkt) = false := by
  unfold State.homeRefuses at h
  dsimp only at h
  split_ifs at h with h1 h2 h3
  exact Bool.eq_false_iff.2 h3

@[simp] theorem State.readFirst_clean (s : State) (q : PReq) (x : Region) : s.readFirst q x .clean = s := by
  unfold State.readFirst
  dsimp only
  split_ifs
  · exact ite_self s
  · rfl
  · exact State.memReport_clean _ _ _ _ _

section
variable {s : State} {id : Nat} {q : PReq} (hq : s.mp.reqs.find? (fun q => q.id == id) = some q)
include hq

/-- An access that must wait is not performed (R106, R205, R206). -/
theorem bodyPoolAccessPerform_waits (hw : s.reqWaits q = true) (m : MemResult) (tie : Bool) : bodyPoolAccessPerform id m tie s = s := by
  unfold bodyPoolAccessPerform
  simp only [hq]
  cases s.region? q.region with
  | none => rfl
  | some x => exact if_pos (by rw [hw, Bool.or_true])

section
variable {x : Region} (hx : s.region? q.region = some x) (hserved : q.served = true) (hw : s.reqWaits q = false)
include hx hserved hw

/-- Steps 5 to 7 of Table 8.4 refuse an access before its first line. -/
theorem bodyPoolAccessPerform_refuses {st : Nat} (hn : q.next = 0) (hs : q.stream = false) (hh : s.homeRefuses q x = some st) (m : MemResult)
    (tie : Bool) : bodyPoolAccessPerform id m tie s = s.refuseHome q st := by
  unfold bodyPoolAccessPerform
  simp only [hq, hx, hserved, hw, hn, hh, hs, Bool.not_true, Bool.or_self, Bool.false_eq_true, if_false, if_true]

/-- An access that no check refuses performs its next line, read without error. -/
theorem bodyPoolAccessPerform_performs (hh : q.next = 0 → s.homeRefuses q x = none)
    (hp : q.next = 0 ∨ q.pkt.typ = tPOOL_WR ∨ s.poisonedAt (x.phys q.region q.part.1) q.part.2 = false) (tie : Bool) :
    bodyPoolAccessPerform id .clean tie s = s.performReq q x tie := by
  unfold bodyPoolAccessPerform
  simp only [hq, hx, hserved, hw, State.readFirst_clean, Bool.not_true, Bool.or_self, Bool.false_eq_true, if_false]
  by_cases hn : q.next = 0
  · simp only [hn, hh hn, State.meetsPoison_of_homeRefuses (hh hn), if_true, Bool.false_eq_true, if_false]
  · have hbad : (q.pkt.typ != tPOOL_WR && s.poisonedAt (x.phys q.region q.part.1) q.part.2) = false := by
      rcases hp.resolve_left hn with h | h
      · rw [h, bne_self_eq_false, Bool.false_and]
      · rw [h, Bool.and_false]
    simp only [hn, hbad, if_false, Bool.false_eq_true]

end
end

/-- Two accesses that touch a line in common share it. -/
theorem shareLine_of_mem {p q : Packet} (hp : accessLen p ≠ 0) (hq : accessLen q ≠ 0) {line : Nat} (h1 : p.offset / 64 ≤ line)
    (h2 : line ≤ (p.offset + accessLen p - 1) / 64) (h3 : q.offset / 64 ≤ line) (h4 : line ≤ (q.offset + accessLen q - 1) / 64) :
    shareLine p q = true := by
  simp [shareLine, hp, hq, h1.trans h4, h3.trans h2]

/-! ### States with no change of HBM noted -/

theorem State.fresh_of_mops {s : State} (h : s.mops = []) : s.fresh = s := by
  rw [State.fresh, ← h]

theorem State.keptMem_of_mops {s t : State} (h : t.mops = []) : s.keptMem t = s.kept t := by
  rw [State.keptMem, State.kept, h, Memory.after_nil]

theorem State.hbm_of_mops {s : State} (h : s.mops = []) : s.hbm = s.mem := by
  rw [State.hbm, h, Memory.after_nil]

/-- The command, where the safe state does not stop it and no change of HBM was noted before. -/
theorem exec_poolAccessPerform {s t : State} {id : Nat} {m : MemResult} {tie : Bool} (hs : s.flt.safe = false) (hm : s.mops = [])
    (h : bodyPoolAccessPerform id m tie s = t) : exec (.poolAccessPerform id m tie) s = .next (s.keptMem t) :=
  commitMem_unlessSafe hs (by rw [State.fresh_of_mops hm]; exact h)

/-- An access that waits leaves the state as it is, in the safe state too. -/
theorem exec_poolAccessPerform_waits {s : State} {id : Nat} {m : MemResult} {tie : Bool} (hm : s.mops = [])
    (h : bodyPoolAccessPerform id m tie s = s) : exec (.poolAccessPerform id m tie) s = .next s := by
  have hbody : s.fresh.unlessSafe (bodyPoolAccessPerform id m tie) = s := by
    rw [State.fresh_of_mops hm, State.unlessSafe, h, ite_self]
  refine (commitMem_of (f := fun u => u.unlessSafe (bodyPoolAccessPerform id m tie)) hbody).trans ?_
  rw [State.keptMem_of_mops hm, State.kept_self]

/-! ### Atomic operations -/

theorem toSigned_mod (w n : Nat) : toSigned w (n % 2 ^ w) = toSigned w n := by
  rw [toSigned, Nat.mod_mod, toSigned]

/-- The smaller of two numbers, as an atomic minimum takes it. -/
theorem toSigned_smaller (w old operand : Nat) :
    toSigned w (if toSigned w (operand % 2 ^ w) < toSigned w old then operand % 2 ^ w else old) = min (toSigned w old) (toSigned w operand) := by
  rw [toSigned_mod]
  split_ifs with h
  · rw [toSigned_mod, min_eq_right h.le]
  · rw [min_eq_left (not_lt.1 h)]

/-- The larger of two numbers, as an atomic maximum takes it. -/
theorem toSigned_larger (w old operand : Nat) :
    toSigned w (if toSigned w old < toSigned w (operand % 2 ^ w) then operand % 2 ^ w else old) = max (toSigned w old) (toSigned w operand) := by
  rw [toSigned_mod]
  split_ifs with h
  · rw [toSigned_mod, max_eq_right h.le]
  · rw [max_eq_left (not_lt.1 h)]

section
variable (old operand compare : Nat)

/-- The 32-bit operations of Table 4.8: sum, swap, minimum and maximum (R203). -/
theorem atomNew_32 :
    atomNew 1 old operand compare = (old + operand) % 2 ^ 32 ∧ atomNew 3 old operand compare = operand % 2 ^ 32
      ∧ toSigned 32 (atomNew 6 old operand compare) = min (toSigned 32 old) (toSigned 32 operand)
      ∧ toSigned 32 (atomNew 8 old operand compare) = max (toSigned 32 old) (toSigned 32 operand) := by
  refine ⟨by simp [atomNew], by simp [atomNew], ?_, ?_⟩
  · rw [← toSigned_smaller]; simp [atomNew]
  · rw [← toSigned_larger]; simp [atomNew]

/-- The 64-bit operations of Table 4.8: sum, swap, compare and swap, minimum and maximum (R203). -/
theorem atomNew_64 :
    atomNew 2 old operand compare = (old + operand) % 2 ^ 64 ∧ atomNew 4 old operand compare = operand % 2 ^ 64
      ∧ atomNew 5 old operand compare = (if old = compare then operand % 2 ^ 64 else old)
      ∧ toSigned 64 (atomNew 7 old operand compare) = min (toSigned 64 old) (toSigned 64 operand)
      ∧ toSigned 64 (atomNew 9 old operand compare) = max (toSigned 64 old) (toSigned 64 operand) := by
  refine ⟨by simp [atomNew], by simp [atomNew], by simp [atomNew], ?_, ?_⟩
  · rw [← toSigned_smaller]; simp [atomNew]
  · rw [← toSigned_larger]; simp [atomNew]

end

/-! ### HBM after an event -/

section
variable {s : State} (hm : s.mops = []) (q : PReq) (x : Region) (tie : Bool)
include hm

/-- HBM after the command is HBM before it with the line's writes. -/
theorem State.performReq_mem : (s.keptMem (s.performReq q x tie)).mem = Memory.withPuts s.mem (s.lineWrites q x) := by
  rw [State.keptMem_mem, State.performReq_mops, hm, List.nil_append]
  rfl

theorem State.performReq_mem_read (hw : q.pkt.typ ≠ tPOOL_WR) (ha : q.pkt.typ ≠ tPOOL_ATOM) :
    (s.keptMem (s.performReq q x tie)).mem = s.mem := by
  rw [State.performReq_mem hm, State.lineWrites_none (PReq.writes?_of_read hw ha _)]
  rfl

/-- A line's old bytes are those that HBM holds. -/
theorem State.readRgn_part : s.readRgn q.region x q.part.1 q.part.2 = Memory.read s.mem (x.phys q.region q.part.1) q.part.2 := by
  rw [State.readRgn_inPage q.part_inPage, State.hbm_of_mops hm]

section
variable {q x} {bs : List Byte} (hw : q.writes? (s.readRgn q.region x q.part.1 q.part.2) = some bs)
include hw

/-- An event changes no byte outside its line. -/
theorem State.performReq_bytesBut : s.bytesBut (s.keptMem (s.performReq q x tie)) (x.phys q.region q.part.1) q.part.2 := by
  have hlen := PReq.writes?_length hw
  intro b hb
  rw [State.performReq_mem hm, State.lineWrites_some hw, Memory.byte_withPuts_other _ _ _ ((Nat.add_le_add_left hlen _).trans q.part_inPage)]
  omega

theorem State.performReq_byte {i : Nat} (hi : i < bs.length) :
    Memory.byte (s.keptMem (s.performReq q x tie)).mem (x.phys q.region q.part.1 + i) = bs[i] := by
  have hlen := PReq.writes?_length hw
  rw [State.performReq_mem hm, State.lineWrites_some hw, Memory.byte_withPuts_in _ _ _ ((Nat.add_le_add_left hlen _).trans q.part_inPage) hi]

theorem State.performReq_readBack :
    Memory.read (s.keptMem (s.performReq q x tie)).mem (x.phys q.region q.part.1) bs.length = bs := by
  have hlen := PReq.writes?_length hw
  rw [State.performReq_mem hm, State.lineWrites_some hw, Memory.read_withPuts _ _ _ ((Nat.add_le_add_left hlen _).trans q.part_inPage)]

end

/-- A line of a POOL_WR takes its bytes of the payload, and no other byte changes (R202). -/
theorem State.performReq_write (h : q.pkt.typ = tPOOL_WR) :
    s.bytesBut (s.keptMem (s.performReq q x tie)) (x.phys q.region q.part.1) q.part.2
      ∧ ∀ i, i < q.part.2 → q.part.1 - q.pkt.offset + i < q.pkt.payload.length →
          Memory.byte (s.keptMem (s.performReq q x tie)).mem (x.phys q.region q.part.1 + i)
            = q.pkt.payload.getD (q.part.1 - q.pkt.offset + i) 0 := by
  have hw := PReq.writes?_of_write h (s.readRgn q.region x q.part.1 q.part.2)
  refine ⟨State.performReq_bytesBut hm tie hw, fun i hi hlen => ?_⟩
  have hin : i < ((q.pkt.payload.drop (q.part.1 - q.pkt.offset)).take q.part.2).length := by
    rw [List.length_take, List.length_drop]
    omega
  rw [State.performReq_byte hm tie hw hin, List.getElem_take, List.getElem_drop, List.getD_eq_getElem _ _ hlen]

/-- An atomic leaves its new value, and no other byte changes (R203). -/
theorem State.performReq_atomic (h : q.pkt.typ = tPOOL_ATOM) :
    s.bytesBut (s.keptMem (s.performReq q x tie)) (x.phys q.region q.part.1) q.part.2
      ∧ Memory.read (s.keptMem (s.performReq q x tie)).mem (x.phys q.region q.part.1) q.part.2
          = natBytes q.part.2 (atomNew ((q.pkt.word 0).field 63 56) (beNat (Memory.read s.mem (x.phys q.region q.part.1) q.part.2))
              (q.pkt.word 1).toNat (q.pkt.word 2).toNat) := by
  have hw := PReq.writes?_of_atomic h (s.readRgn q.region x q.part.1 q.part.2)
  have hback := State.performReq_readBack hm tie hw
  rw [natBytes_length] at hback
  refine ⟨State.performReq_bytesBut hm tie hw, hback.trans ?_⟩
  rw [State.readRgn_part hm]

end

end Sys2Proof.Machine

open Sys2Proof Sys2Proof.Machine

/-- Settles O37: an access by the checks before its line and by what its event leaves; one behind another by the guard that holds it; and the
atomic operations one by one. -/
theorem poolAccessesActOnHbm : Obligations.PoolAccessesActOnHbm := by
  refine ⟨fun s id q x tie hs hm hq hx hserved hw => ⟨fun st hn hstream hh => ?_, fun hh hp => ?_⟩,
    fun s id q r m tie hm hq hr hne hreg hsrc hbefore => ?_,
    fun old operand compare => ⟨fun _ => atomNew_32 old operand compare, fun _ => atomNew_64 old operand compare⟩⟩
  · have hbody := bodyPoolAccessPerform_refuses hq hx hserved hw hn hstream hh .clean tie
    obtain ⟨hmops, -⟩ := s.refuseHome_holdsNoMore q st
    rw [exec_poolAccessPerform hs hm hbody, State.keptMem_of_mops (hmops.trans hm), State.refuseHome_unordered hstream]
  · have hid : q.id = id := by simpa using List.find?_some hq
    refine ⟨_, exec_poolAccessPerform hs hm (bodyPoolAccessPerform_performs hq hx hserved hw hh hp tie),
      State.performReq_mem_read hm q x tie, State.performReq_write hm q x tie, State.performReq_atomic hm q x tie, fun h hmore => ?_,
      fun h => hid ▸ State.performReq_frees s q x tie h⟩
    have hdone := State.lineDone_req s q x tie
    have hnext := State.lineDone_next s q x tie h
    refine ⟨_, State.performReq_keeps s q x tie (List.mem_of_find?_eq_some hq) h hmore, ?_, ?_, hnext, ?_⟩
    · rw [hdone, hid]
    · rw [hdone]
    · rw [hdone, if_neg h, State.readRgn_part hm]
  · have hwaits : s.reqWaits q = true := by
      have hb : r.before q = true := by
        simp only [PReq.before, hreg, hsrc, bne_iff_ne.2 hne, beq_self_eq_true, Bool.true_and, Bool.or_eq_true, Bool.and_eq_true,
          decide_eq_true_eq, beq_iff_eq]
        rcases hbefore with ⟨h1, h2, h3, h4⟩ | ⟨h1, h2, h3, h4, h5, line, h6, h7, h8, h9⟩
        · exact .inl ⟨⟨⟨h1, h2⟩, h3⟩, h4⟩
        · exact .inr ⟨⟨⟨h1, h2⟩, h3⟩, shareLine_of_mem h4 h5 h6 h7 h8 h9⟩
      rw [State.reqWaits, List.any_eq_true.2 ⟨r, hr, hb⟩, Bool.or_true, Bool.true_or]
    exact exec_poolAccessPerform_waits hm (bodyPoolAccessPerform_waits hq hwaits m tie)
end

section
/-!
PROOFS. A performed access is answered (O38).
-/

namespace Sys2Proof.Machine

/-- A fence, a read of no bytes and a write that asks for it are the accesses that an ACK answers (R103, R106, R208). -/
theorem acked_of_type {p : Packet}
    (h : p.typ = tPOOL_FENCE ∨ (p.typ = tPOOL_RD ∧ rdlen p = 0) ∨ (p.typ = tPOOL_WR ∧ p.ackReq = true)) :
    ¬(p.typ = tPOOL_RD ∧ rdlen p ≠ 0) ∧ p.typ ≠ tPOOL_ATOM ∧ (p.typ = tPOOL_WR → p.ackReq = true) := by
  rcases h with h | ⟨h, hlen⟩ | ⟨h, hack⟩ <;> rw [h]
  · exact ⟨fun hr => absurd hr.1 (by decide), by decide, fun hw => absurd hw (by decide)⟩
  · exact ⟨fun hr => hr.2 hlen, by decide, fun hw => absurd hw (by decide)⟩
  · exact ⟨fun hr => absurd hr.1 (by decide), by decide, fun _ => hack⟩

section
variable (s : State) (q : PReq) (x : Region) (tie : Bool)

/-- The state in which an access is answered: its last line done, its count and mirror record made, its entry free. -/
def State.accessDone (s : State) (q : PReq) (x : Region) (tie : Bool) : State := (s.lineDone q x tie).2.retired (s.lineDone q x tie).1 x

theorem State.accessDone_only :
    let u := s.accessDone q x tie
    u = { s with regs := u.regs, mp := u.mp, mirror := u.mirror, bpm := u.bpm, mops := u.mops } := by
  intro u
  show s.accessDone q x tie = _
  unfold u State.accessDone
  rw [State.retired_only, State.lineDone_only]

@[simp] theorem State.accessDone_keys : (s.accessDone q x tie).keys = s.keys := by rw [State.accessDone_only]

/-- The registers that an access's last event counts in. -/
theorem State.accessDone_regsBut :
    ∃ gs : List Nat, s.regsBut (s.accessDone q x tie)
      ([Reg.addr .rgnAcc [q.region], Reg.addr .rgnBchoice [q.region], Reg.addr .rgnTchoice [q.region]] ++ mirrorRegs
        ++ gs.map fun g => Reg.addr .ctxLate [g]) := by
  obtain ⟨gs, hline⟩ := s.lineDone_regsBut q x tie
  have hretired := State.retired_regsBut (s.lineDone q x tie).2 (s.lineDone q x tie).1 x
  rw [show (s.lineDone q x tie).1.region = q.region by rw [State.lineDone_req]] at hretired
  refine ⟨gs, (hline.mono fun a ha => ?_).trans (hretired.mono fun a ha => ?_)⟩
  · simp only [List.mem_append, List.mem_cons, List.not_mem_nil, or_false] at ha ⊢
    tauto
  · simp only [List.mem_append, List.mem_cons, List.not_mem_nil, or_false] at ha ⊢
    tauto

/-- The last event of an unordered access answers it with what its lines held. -/
theorem State.performReq_answers (hstream : q.stream = false)
    (h : accessLen q.pkt = 0 ∨ linesOf q.pkt.offset (accessLen q.pkt) ≤ q.next + 1) :
    s.performReq q x tie = (s.accessDone q x tie).answerReq q
      (q.got ++ if accessLen q.pkt = 0 then [] else s.readRgn q.region x q.part.1 q.part.2) := by
  have hdone := s.lineDone_req q x tie
  have hstream' : (s.lineDone q x tie).1.stream = false := by rw [hdone]; exact hstream
  rw [State.performReq_last s q x tie h, State.finishReq_unordered _ _ _ hstream', ← State.accessDone]
  generalize s.accessDone q x tie = u
  rw [hdone]
  rfl

end

end Sys2Proof.Machine

open Sys2Proof Sys2Proof.Machine

/-- Settles O38: the last event of an access answers it, by the type of its packet. -/
theorem poolAccessesAreAnswered : Obligations.PoolAccessesAreAnswered := by
  intro s id q x tie hs hm hq hx hserved hw hstream hdups p c a old hh hp hlast
  have hanswers := s.performReq_answers q x tie hstream hlast
  rw [State.readRgn_part hm] at hanswers
  have hexec : exec (.poolAccessPerform id .clean tie) s = .next (s.keptMem ((s.accessDone q x tie).answerReq q old)) :=
    exec_poolAccessPerform hs hm ((bodyPoolAccessPerform_performs hq hx hserved hw hh hp tie).trans hanswers)
  refine ⟨s.accessDone q x tie, s.accessDone_only q x tie, s.accessDone_regsBut q x tie, fun hread => ?_, fun hat => ?_, fun hack => ?_,
    fun hwr hsilent => ?_⟩
  · rw [hexec, State.answerReq_read _ _ _ hread, hdups, List.foldl_nil]
  · rw [hexec, State.answerReq_atomic _ _ _ hat, hdups, List.foldl_nil]
  · obtain ⟨hread, hat, hwr⟩ := acked_of_type hack
    rw [hexec, State.answerReq_acked _ _ _ hread hat hwr, hdups, List.foldl_nil, State.ackAccess, State.accessDone_keys]
  · rw [hexec, State.answerReq_silent _ _ _ hwr hsilent, hdups, List.foldl_nil]
end

section
/-!
PROOFS. Gather requests enter, their lines are read, and their rows or sums are sent (O41).
-/

namespace Sys2Proof.Machine

/-! ### Line reads on their way to the stacks -/

section
variable (s : State) (r : Nat) (x : Region)

/-- One line read at the check of its stack: marked with the status that keeps it out, or entered in the stack's arbiter (R222, R354). -/
def State.enterLine (u : State) (l : GLine) : GLine × State :=
  match s.lineRefuses r x l with
  | some st => ({ l with bad := some st }, u)
  | none =>
    let e := u.enterStack (x.stackOf r (l.off / pageBytes)) x.job 1
    ({ l with tagF := e.1 }, e.2)

theorem State.enterLine_line (u : State) (l : GLine) :
    let y := (s.enterLine r x u l).1
    y = { l with tagF := y.tagF, bad := y.bad } := by
  unfold State.enterLine
  split <;> rfl

theorem State.enterLine_only (u : State) (l : GLine) :
    let v := (s.enterLine r x u l).2
    v = { u with mp := { u.mp with hbm := v.mp.hbm } } := by
  unfold State.enterLine
  split <;> rfl

theorem State.enterLines_append (ls : List GLine) (l : GLine) :
    let e := s.enterLines r x ls
    s.enterLines r x (ls ++ [l]) = (e.1 ++ [(s.enterLine r x e.2 l).1], (s.enterLine r x e.2 l).2) := by
  intro e
  rw [State.enterLines, List.foldl_append, List.foldl_cons, List.foldl_nil, ← State.enterLines, State.enterLine]
  cases s.lineRefuses r x l <;> rfl

/-- Lines entering their stacks change the stacks' arbiters alone. -/
theorem State.enterLines_only (ls : List GLine) :
    let v := (s.enterLines r x ls).2
    v = { s with mp := { s.mp with hbm := v.mp.hbm } } := by
  induction ls using List.reverseRecOn with
  | nil => rfl
  | append_singleton ls l ih =>
    dsimp only at ih ⊢
    rw [State.enterLines_append, State.enterLine_only, ih]

/-- Lines entering their stacks are the lines that came, in order, but for their tags and refusals. -/
theorem State.enterLines_map {α : Type} (f : GLine → α) (hf : ∀ l tag bad, f { l with tagF := tag, bad := bad } = f l) (ls : List GLine) :
    (s.enterLines r x ls).1.map f = ls.map f := by
  induction ls using List.reverseRecOn with
  | nil => rfl
  | append_singleton ls l ih =>
    rw [State.enterLines_append]
    dsimp only
    rw [State.enterLine_line, List.map_append, List.map_append, ih, List.map_singleton, List.map_singleton, hf]

end

/-! ### The checks of Table 9.2 -/

/-- The line reads of a request: one for each line that each of its rows touches (R223). -/
def gatherLines (d : List Byte) (p : Packet) : List GLine :=
  (List.range (gindices p).length).flatMap fun k => rowLines k (rowOff d p (nth (gindices p) k)) (rowBytes d)

/-- The entry of a request, its lines entered in their stacks (R223, R224). -/
def State.gatherEntry (s : State) (port : Nat) (p : Packet) (c : Ctx) (x : Region) : GReq :=
  ⟨s.nextId, port, p.ctx, p, (s.enterLines (gatherRegion c) x (gatherLines c.fix.desc p)).1, 0, [], s.mp.gtile⟩

/-- The refusal of a gather request by checks 4 to 6, counted in REFUSED (Table 9.2). -/
def State.gatherRefuse (s : State) (port : Nat) (p : Packet) (status : Nat) : State :=
  (s.gthCount p.ctx p.gen .ctxDrop 63 48).nackAt port p status

section
variable {s : State} {p : Packet} {c : Ctx} (port : Nat)

theorem State.gatherTake_badFunc (h : 4 < gfunc p) : s.gatherTake port p c = s.gatherRefuse port p stBADDESC := if_pos h

variable (hfunc : gfunc p ≤ 4)
include hfunc

theorem State.gatherTake_badFmt {st : Nat} (h : gatherFmtBad s.cfg.gatherTiles c.fix.desc p = some st) :
    s.gatherTake port p c = s.gatherRefuse port p st := by
  rw [State.gatherTake, if_neg (Nat.not_lt.2 hfunc), h]
  rfl

variable (hfmt : gatherFmtBad s.cfg.gatherTiles c.fix.desc p = none)
include hfmt

theorem State.gatherTake_empty (h : p.len = 0) :
    s.gatherTake port p c = (s.gatherRsp (gatherHub port) p 0 true []).gthCount p.ctx p.gen .ctxRx 63 0 := by
  rw [State.gatherTake, if_neg (Nat.not_lt.2 hfunc), hfmt]
  exact if_pos h

variable {x : Region} (hlen : p.len ≠ 0) (hx : s.liveRegion (gatherRegion c) = some x)
include hlen hx

theorem State.gatherTake_outside (h : rowsInside c.fix.desc p x.size = false) :
    s.gatherTake port p c = s.gatherRefuse port p stRANGE := by
  simp only [State.gatherTake, if_neg (Nat.not_lt.2 hfunc), hfmt, if_neg hlen, hx, h, Bool.not_false, if_true]
  rfl

theorem State.gatherTake_enters (h : rowsInside c.fix.desc p x.size = true)
    (hroom : (s.mp.greqs.filter fun g => g.port / 96 == port / 96).length < 256) :
    let v := (s.enterLines (gatherRegion c) x (gatherLines c.fix.desc p)).2
    s.gatherTake port p c
      = { s with nextId := s.nextId + 1
                 mp := { v.mp with greqs := s.mp.greqs ++ [s.gatherEntry port p c x], gtile := s.mp.gtile + 1 } } := by
  have honly := s.enterLines_only (gatherRegion c) x (gatherLines c.fix.desc p)
  unfold State.gatherEntry
  simp only [State.gatherTake, if_neg (Nat.not_lt.2 hfunc), hfmt, if_neg hlen, hx, h, Bool.not_true, Bool.false_eq_true, if_false,
    if_neg (Nat.not_le.2 hroom)]
  rw [← gatherLines, honly]

end

section
variable {s t : State} {port : Nat} {f : Frame} {p : Packet} {c : Ctx} (h : s.serviceRx port f tGATHER_REQ = .pass p t)
  (hc : t.ctx? p.ctx = some c)
include h hc

theorem bodyGatherReq_wrongKind (hk : c.fix.kind ≠ 3) : bodyGatherReq port f s = (t.ctxCount .ctxDrop p.ctx 15 0).nackAt port p stBADDESC := by
  simp only [bodyGatherReq, h, hc, hk, ne_eq, not_false_eq_true, if_true]

variable (hk : c.fix.kind = 3) (hfree : ¬(c.steer = .held ∧ gfunc p ≠ 0))
include hk hfree

theorem bodyGatherReq_dropped (hrun : t.beforeStart c = true ∨ c.runs = false) :
    bodyGatherReq port f s = t.ctxCount .ctxDrop p.ctx 15 0 := by
  have hdrop : t.beforeStart c = true ∨ (!c.runs) = true := by simpa using hrun
  simp only [bodyGatherReq, h, hc, hk, ne_eq, not_true_eq_false, if_false]
  rw [if_neg hfree, if_pos hdrop]

theorem bodyGatherReq_takes (hstart : t.beforeStart c = false) (hruns : c.runs = true) : bodyGatherReq port f s = t.gatherTake port p c := by
  have hgo : ¬(t.beforeStart c = true ∨ (!c.runs) = true) := by simp [hstart, hruns]
  simp only [bodyGatherReq, h, hc, hk, ne_eq, not_true_eq_false, if_false]
  rw [if_neg hfree, if_neg hgo]

end

/-! ### A request among those held -/

theorem GReq.id_of_greq? {s : State} {id : Nat} {g : GReq} (h : s.greq? id = some g) : g.id = id := by
  simpa using List.find?_some h

/-- A request that is held reads back as it was set. -/
theorem State.greq?_setGreq {s : State} {g : GReq} (y : GReq) (h : s.greq? y.id = some g) : (s.setGreq y).greq? y.id = some y := by
  unfold State.greq? at h ⊢
  have hid : ((fun a : GReq => a.id == y.id) ∘ fun a : GReq => if a.id == y.id then y else a) = fun a => a.id == y.id := by
    funext a
    dsimp only [Function.comp_apply]
    split_ifs with ha
    · rw [ha]; exact beq_self_eq_true y.id
    · rfl
  rw [State.setGreq, List.find?_map, hid, h, Option.map_some, if_pos (List.find?_some h)]

/-! ### A line read -/

/-- A line refused ends its request, counted in the field of its status (Table 9.2). -/
theorem State.lineFail_eq (s : State) (g : GReq) (st : Nat) :
    s.lineFail g st = s.gatherFail g st (if st = stPOISON then 31 else 47) (if st = stPOISON then 16 else 32) := by
  unfold State.lineFail
  split_ifs with h
  · rw [h]
  · rfl

theorem State.linePoisoned_of_lineRefuses {s : State} {r : Nat} {x : Region} {l : GLine} (h : s.lineRefuses r x l = none) :
    s.linePoisoned (x.phys r l.off / 64) = false := by
  unfold State.lineRefuses at h
  split_ifs at h with _ _ hp
  exact Bool.eq_false_iff.2 hp

/-- A gather's line read as the home hub die's race tracker sees it, its ties and races counted (R212, R229). -/
def State.gatherTracked (s : State) (g : GReq) (r : Nat) (x : Region) (l : GLine) (ties : Nat) : State :=
  let t := s.track (hubOfStack (x.stackOf r (l.off / pageBytes)))
    ⟨r, l.off / 64, l.lo, l.lo + l.len, g.pkt.src, false, s.local, g.ctx, g.pkt.gen⟩
  let u := t.2.gthCount g.ctx g.pkt.gen .ctxLate 31 0 ties
  if t.1.isEmpty then u else ((u.rgnCount r .rgnBchoice).gthCount g.ctx g.pkt.gen .ctxLate 63 32).countGathers t.1

/-- Tracking a line read changes the trackers and counts in registers. -/
theorem State.gatherTracked_only (s : State) (g : GReq) (r : Nat) (x : Region) (l : GLine) (ties : Nat) :
    let t := s.gatherTracked g r x l ties
    t = { s with regs := t.regs, mp := { s.mp with trackers := t.mp.trackers } } := by
  unfold State.gatherTracked
  dsimp only
  split_ifs
  · rw [State.gthCount_only]; rfl
  · rw [State.countGathers_only, State.gthCount_only, State.gthCount_only (State.track _ _ _).2]; rfl

theorem State.greq?_gatherTracked (s : State) (g : GReq) (r : Nat) (x : Region) (l : GLine) (ties id : Nat) :
    (s.gatherTracked g r x l ties).greq? id = s.greq? id := by
  rw [State.gatherTracked_only]; rfl

theorem State.readRgn_gatherTracked (s : State) (g : GReq) (r : Nat) (x : Region) (l : GLine) (ties off len : Nat) :
    (s.gatherTracked g r x l ties).readRgn r x off len = s.readRgn r x off len := by
  rw [State.gatherTracked_only]; rfl

/-- A line with the bytes of its row. -/
def GLine.brought (b : List Byte) (y : GLine) : GLine := { y with data := some b }

section
variable {s : State} {id line : Nat} {g : GReq} {c : Ctx} {l : GLine} {x : Region} (hg : s.greq? id = some g) (hc : s.ctx? g.ctx = some c)
  (hl : g.lines[line]? = some l) (hx : s.region? (gatherRegion c) = some x) (hbad : l.bad = none)
include hg hc hl hx hbad

theorem bodyGatherLineRead_waits (hw : s.writeAhead g (gatherRegion c) l = true) (m : MemResult) (ties : Nat) :
    bodyGatherLineRead id line m ties s = s := by
  simp only [bodyGatherLineRead, hg, hc, hl, hx, hbad, hw, Bool.or_true, if_true]

variable (hdata : l.data = none) (hserved : l.served = true) (hw : s.writeAhead g (gatherRegion c) l = false)
include hdata hserved hw

theorem bodyGatherLineRead_refuses {st : Nat} (h : s.lineRefuses (gatherRegion c) x l = some st) (m : MemResult) (ties : Nat) :
    bodyGatherLineRead id line m ties s = s.lineFail g st := by
  simp only [bodyGatherLineRead, hg, hc, hl, hx, hbad, hdata, hserved, hw, h, Option.isSome_none, Bool.not_true, Bool.or_self,
    Bool.false_eq_true, if_false]

theorem bodyGatherLineRead_reads (h : s.lineRefuses (gatherRegion c) x l = none) (ties : Nat) :
    bodyGatherLineRead id line .clean ties s
      = (s.gatherTracked g (gatherRegion c) x l ties).setGreq
          { g with lines := modNth (GLine.brought (s.readRgn (gatherRegion c) x (l.off + l.lo) l.len)) g.lines line } := by
  rw [← s.readRgn_gatherTracked g (gatherRegion c) x l ties]
  simp only [bodyGatherLineRead, hg, hc, hl, hx, hbad, hdata, hserved, hw, h, State.memReport_clean, State.linePoisoned_of_lineRefuses h,
    Option.isSome_none, Bool.not_true, Bool.or_self, Bool.false_eq_true, if_false]
  rfl

end

/-! ### Responses -/

section
variable {s : State} {id : Nat} {g : GReq} {c : Ctx} (hg : s.greq? id = some g) (hc : s.ctx? g.ctx = some c)
  (hfull : (g.ready (gindices g.pkt).length 0).length = (gindices g.pkt).length * rowBytes c.fix.desc)
include hg hc hfull

/-- The rest of a plain response that has all its rows (R222, R225). -/
theorem bodyGatherPlainResponse_ends (hf : gfunc g.pkt = 0) :
    let rest := (g.ready (gindices g.pkt).length 0).drop g.sent
    let piece := gatherPiece g.pkt.fmt
    bodyGatherPlainResponse id s
      = ((State.sendGather (gatherHub g.port) g.pkt piece (rest.length / piece + 1) g.sent rest s).dropGreq id).gthCount g.ctx g.pkt.gen
          .ctxRx 63 0 := by
  simp only [bodyGatherPlainResponse, hg, hc, hf, hfull, ne_eq, not_true_eq_false, if_false, if_true]

variable {seg : Nat} (hp : s.paused c = false) (hf : gfunc g.pkt ≠ 0) (hseg : seg ∉ g.segs)
include hp hf hseg

theorem bodyGatherSegmentReduce_notLast (h : seg + 1 < gatherSegs c.fix.desc) (ties : Nat) :
    bodyGatherSegmentReduce id seg ties s
      = (s.gthCount g.ctx g.pkt.gen .ctxLate 31 0 ties).setGreq { g with segs := g.segs ++ [seg] } := by
  have hin : ¬gatherSegs c.fix.desc ≤ seg := by omega
  simp [bodyGatherSegmentReduce, hg, hc, hp, hf, hseg, hfull, hin, h]

/-- The tile of the last segment, the others done, sends the reduced row (R224, R226). -/
theorem bodyGatherSegmentReduce_last (h : seg + 1 = gatherSegs c.fix.desc) (hdone : g.segs.length = seg) (ties : Nat) :
    let e := gatherReduce c.fix.desc (gfunc g.pkt) g.pkt.fmt (pieces (rowBytes c.fix.desc) (g.ready (gindices g.pkt).length 0))
    let ts := s.gatherTilesList
    let piece := gatherPiece g.pkt.fmt
    let sent := State.sendGather (8 + exitHub (nth ts ((g.tile + seg) % max ts.length 1))) g.pkt piece (e.bytes.length / piece + 1) 0
      e.bytes (s.gthCount g.ctx g.pkt.gen .ctxLate 31 0 ties)
    bodyGatherSegmentReduce id seg ties s
      = (((sent.dropGreq id).gthCount g.ctx g.pkt.gen .ctxRx 63 0).gthCount g.ctx g.pkt.gen .ctxDup 63 32 e.sat).gthCount g.ctx g.pkt.gen
          .ctxDup 31 0 e.flush := by
  have hin : ¬gatherSegs c.fix.desc ≤ seg := by omega
  have hlast : ¬seg + 1 < gatherSegs c.fix.desc := by omega
  have hothers : ¬g.segs.length + 1 < gatherSegs c.fix.desc := by omega
  have htiles : (s.gthCount g.ctx g.pkt.gen .ctxLate 31 0 ties).gatherTilesList = s.gatherTilesList := by rw [State.gthCount_only]; rfl
  simp [bodyGatherSegmentReduce, hg, hc, hp, hf, hseg, hfull, hin, hlast, hothers, htiles]

end

end Sys2Proof.Machine

open Sys2Proof Sys2Proof.Machine

/-- Settles O41: a request by the checks of Table 9.2 in their order; then a line read, the last plain response and a segment's reduction, each
from the entry's rows as they stand. -/
theorem gathersEnterAndAreSent : Obligations.GathersEnterAndAreSent := by
  refine ⟨fun s t port f p c hrx hc => ⟨fun hk => ?_, fun hk hfree hrun => ?_, fun hk hfree hstart hruns => ?_⟩,
    fun s id g c hs hg hc => ⟨fun line l x ties hl hx hbad hdata hserved hw hok => ?_, fun line l x m ties hl hx hbad hdata hserved => ⟨fun hw => ?_,
      fun st hw hst => ?_⟩, fun hf hfull => ?_, fun seg ties hp hf hfull hseg => ⟨fun hmore => ?_, fun hlast hdone => ?_⟩⟩⟩
  · exact commit_of (bodyGatherReq_wrongKind hrx hc hk)
  · exact commit_of (bodyGatherReq_dropped hrx hc hk hfree hrun)
  · have htake := bodyGatherReq_takes hrx hc hk hfree hstart hruns
    refine ⟨fun hfunc => ?_, fun st hfunc hfmt => ?_, fun hfunc hfmt => ⟨fun hlen => ?_, fun x hlen hx => ⟨fun hout => ?_, fun hin hroom => ?_⟩⟩⟩
    · exact commit_of (htake.trans (State.gatherTake_badFunc port hfunc))
    · exact commit_of (htake.trans (State.gatherTake_badFmt port hfunc hfmt))
    · exact commit_of (htake.trans (State.gatherTake_empty port hfunc hfmt hlen))
    · exact commit_of (htake.trans (State.gatherTake_outside port hfunc hfmt hlen hx hout))
    · have hlines := t.enterLines_map (gatherRegion c) x (fun l => (l.row, l.off, l.lo, l.len, l.data, l.served)) (fun _ _ _ => rfl)
        (gatherLines c.fix.desc p)
      exact ⟨_, t.gatherEntry port p c x, commit_of (htake.trans (State.gatherTake_enters port hfunc hfmt hlen hx hin hroom)), rfl, rfl, rfl,
        rfl, rfl, rfl, rfl, hlines⟩
  · have hread := bodyGatherLineRead_reads hg hc hl hx hbad hdata hserved hw hok ties
    have hid := GReq.id_of_greq? hg
    have honly := s.gatherTracked_only g (gatherRegion c) x l ties
    have hheld := (s.greq?_gatherTracked g (gatherRegion c) x l ties g.id).trans (hid.symm ▸ hg)
    refine ⟨_, commit_unlessSafe hs hread, ?_, ?_⟩
    · rw [honly]; rfl
    · exact hid ▸ State.greq?_setGreq { g with lines := modNth _ g.lines line } hheld
  · exact commit_unlessSafe hs (bodyGatherLineRead_waits hg hc hl hx hbad hw m ties)
  · exact commit_unlessSafe hs ((bodyGatherLineRead_refuses hg hc hl hx hbad hdata hserved hw hst m ties).trans (s.lineFail_eq g st))
  · exact commit_unlessSafe hs (bodyGatherPlainResponse_ends hg hc hfull hf)
  · exact commit_unlessSafe hs (bodyGatherSegmentReduce_notLast hg hc hfull hp hf hseg hmore ties)
  · exact commit_unlessSafe hs (bodyGatherSegmentReduce_last hg hc hfull hp hf hseg hlast hdone ties)
end

section
/-!
PROOFS. How a micro-operation of a tile issues, stops or waits (R236, R247 to R249), and what the operations of the tile leave alone.
-/

namespace Sys2Proof.Machine

/-! ### What a command keeps by itself -/

/-- The parts of the state that a command without HBM writes keeps. -/
def State.keptParts (s : State) : List Instr × Factory × Memory × List MemOp := (s.pending, s.factory, s.mem, s.mops)

theorem State.kept_of_keptParts {s t : State} (h : t.keptParts = s.keptParts) : s.kept t = t := by
  simp only [State.keptParts, Prod.mk.injEq] at h
  obtain ⟨hpending, hfactory, hmem, hmops⟩ := h
  rw [State.kept, ← hpending, ← hfactory, ← hmem, ← hmops]

/-- A command whose body keeps those parts answers what the body makes. -/
theorem commit_of_keptParts {s b t : State} (h : b = t) (ht : t.keptParts = s.keptParts) : commit s b = .next t := by
  rw [commit_of h, State.kept_of_keptParts ht]

/-- A command of the datapath outside the safe state likewise. -/
theorem commit_unlessSafe_of_keptParts {s t : State} {f : State → State} (hs : s.flt.safe = false) (h : f s = t)
    (ht : t.keptParts = s.keptParts) : commit s (s.unlessSafe f) = .next t := by
  rw [commit_unlessSafe hs h, State.kept_of_keptParts ht]

section
variable (s : State)

theorem State.tileFault_only (t kind addr : Nat) :
    s.tileFault t kind addr = { s with regs := (s.tileFault t kind addr).regs, flt := (s.tileFault t kind addr).flt } :=
  s.raise_only _ _ _ _ _ _

theorem State.meshDrop_only (t m0 hi lo : Nat) :
    s.meshDrop t m0 hi lo = { s with regs := (s.meshDrop t m0 hi lo).regs, flt := (s.meshDrop t m0 hi lo).flt } := by
  rw [State.meshDrop, State.raise_only]; rfl

theorem State.poisonChunk_only (n k : Nat) : s.poisonChunk n k = { s with svc := (s.poisonChunk n k).svc } := s.onCtx_only _ _

theorem State.events_only (t : Nat) (user : Bool) (ctx sat flush : Nat) :
    s.events t user ctx sat flush
      = { s with regs := (s.events t user ctx sat flush).regs, svc := (s.events t user ctx sat flush).svc } := by
  unfold State.events
  cases user with
  | true => rfl
  | false =>
    cases s.ctx? ctx with
    | none => rfl
    | some c => by_cases hk : c.fix.kind = 3 <;> simp [hk] <;> rfl

@[simp] theorem State.setTile_keptParts (t : Nat) (x : Tile) : (s.setTile t x).keptParts = s.keptParts := rfl
@[simp] theorem State.count64_keptParts (r : Reg) (is : List Nat) (n : Nat) : (s.count64 r is n).keptParts = s.keptParts := rfl
@[simp] theorem State.issued_keptParts (i : Issue) (k : Nat) : (s.issued i k).keptParts = s.keptParts := rfl
@[simp] theorem State.meshPush_keptParts (b : Nat) (p : MeshPkt) : (s.meshPush b p).keptParts = s.keptParts := rfl

@[simp] theorem State.tileFault_keptParts (t kind addr : Nat) : (s.tileFault t kind addr).keptParts = s.keptParts := by
  rw [State.tileFault_only]; rfl

@[simp] theorem State.poisonChunk_keptParts (n k : Nat) : (s.poisonChunk n k).keptParts = s.keptParts := by
  rw [State.poisonChunk_only]; rfl

@[simp] theorem State.events_keptParts (t : Nat) (user : Bool) (ctx sat flush : Nat) :
    (s.events t user ctx sat flush).keptParts = s.keptParts := by
  rw [State.events_only]; rfl

/-! ### What the tiles hold -/

/-- The tiles are read from the fabric alone. -/
theorem State.tile_of_fab {s u : State} (h : u.fab = s.fab) (t : Nat) : u.tile t = s.tile t := by rw [State.tile, h]; rfl

@[simp] theorem State.count64_fab (r : Reg) (is : List Nat) (n : Nat) : (s.count64 r is n).fab = s.fab := rfl

@[simp] theorem State.tileFault_fab (t kind addr : Nat) : (s.tileFault t kind addr).fab = s.fab := by rw [State.tileFault_only]

@[simp] theorem State.meshDrop_fab (t m0 hi lo : Nat) : (s.meshDrop t m0 hi lo).fab = s.fab := by rw [State.meshDrop_only]

@[simp] theorem State.poisonChunk_fab (n k : Nat) : (s.poisonChunk n k).fab = s.fab := by rw [State.poisonChunk_only]

@[simp] theorem State.events_fab (t : Nat) (user : Bool) (ctx sat flush : Nat) : (s.events t user ctx sat flush).fab = s.fab := by
  rw [State.events_only]

@[simp] theorem State.tile_tileFault (t kind addr n : Nat) : (s.tileFault t kind addr).tile n = s.tile n := State.tile_of_fab (by simp) n
@[simp] theorem State.tile_poisonChunk (m k n : Nat) : (s.poisonChunk m k).tile n = s.tile n := State.tile_of_fab (by simp) n
@[simp] theorem State.tile_count64 (r : Reg) (is : List Nat) (k n : Nat) : (s.count64 r is k).tile n = s.tile n := rfl

@[simp] theorem State.setTile_setTile (t : Nat) (x y : Tile) : (s.setTile t x).setTile t y = s.setTile t y := by
  simp [State.setTile]

/-- A tile replaced is one tile's change. -/
theorem State.tilesBut_setTile (t : Nat) (x : Tile) : s.tilesBut (s.setTile t x) t := fun _ hn => Tbl.find?_set_other _ _ hn

theorem State.tilesBut.trans {s u v : State} {t : Nat} (h : s.tilesBut u t) (h' : u.tilesBut v t) : s.tilesBut v t :=
  fun n hn => (h' n hn).trans (h n hn)

theorem State.tilesBut_of_fab {s u : State} (h : u.fab = s.fab) (t : Nat) : s.tilesBut u t := fun _ _ => by rw [h]

/-! ### Halts -/

/-- A tile halted by its sequencer alone: no fault is reported. -/
theorem State.haltTile_quiet (t code addr : Nat) :
    s.haltTile t code addr false = s.setTile t { s.tile t with halt := code, waiting := false } := by simp [State.haltTile]

@[simp] theorem State.tile_haltTile (t code addr : Nat) (user : Bool) :
    (s.haltTile t code addr user).tile t = { s.tile t with halt := code, waiting := false } := by
  unfold State.haltTile; dsimp only; split <;> simp

@[simp] theorem State.haltTile_keptParts (t code addr : Nat) (user : Bool) : (s.haltTile t code addr user).keptParts = s.keptParts := by
  unfold State.haltTile; dsimp only; split <;> simp

/-! ### The end of a bundle -/

theorem State.toBundle_inside {p : ImgSlot} {b : Nat} (t : Nat) (h : b < s.storeUsed p) :
    s.toBundle t p b = s.setTile t { s.tile t with pc := b % 4096, slots := [], next := none } :=
  if_neg (Nat.not_le.mpr h)

theorem State.toBundle_past {p : ImgSlot} {b : Nat} (t : Nat) (h : s.storeUsed p ≤ b) :
    s.toBundle t p b = s.setTile t { s.tile t with pc := b % 4096, slots := [], next := none, halt := 1, waiting := false } := by
  refine (if_pos h).trans ?_
  rw [State.haltTile_quiet, State.tile_setTile_same, State.setTile_setTile]

variable {s} {i : Issue}

/-- A tile that halted in its bundle stays there. -/
theorem State.bundleDone_halted (p : ImgSlot) (h : (s.tile i.tile).halt ≠ 0) : s.bundleDone p i = s := if_pos (.inl h)

theorem State.bundleDone_notLast (p : ImgSlot) (h : i.last = false) : s.bundleDone p i = s := if_pos (.inr h)

theorem State.bundleDone_last (p : ImgSlot) (hh : (s.tile i.tile).halt = 0) (hl : i.last = true) :
    s.bundleDone p i = s.toBundle i.tile p ((s.tile i.tile).next.getD ((s.tile i.tile).pc + 1)) :=
  if_neg (by simp [hh, hl])

@[simp] theorem State.bundleDone_keptParts (p : ImgSlot) : (s.bundleDone p i).keptParts = s.keptParts := by
  unfold State.bundleDone State.toBundle
  dsimp only
  split_ifs <;> simp

end

/-! ### Issue -/

section
variable {s : State} {i : Issue} {k : Nat} (own : List Hold) (act : Nat → ImgSlot → Bool → State → State)

/-- A tile that does not run issues nothing. -/
theorem State.issueAt_stopped (h : ∀ n p, s.partOf i.tile = some (n, p) → s.tileRuns i.tile n p = false) : s.issueAt i k own act = s := by
  unfold State.issueAt
  dsimp only
  split
  · rfl
  · split
    · rfl
    · next n p hp => simp [h n p hp]

theorem State.fetched_clean (h : i.fetch = .clean) : s.fetched i = (s, false) := by
  rw [State.fetched, h]; exact ite_self _

/-- A bundle under way or delayed was read already. -/
theorem State.fetched_first (hheld : (s.tile i.tile).held = false) (hslots : (s.tile i.tile).slots = []) (h : i.fetch = .uncorrectable) :
    s.fetched i = ((s.count64 .tileSunc (tileIdx i.tile)).tileFault i.tile 0x032 (i.bundle % 4096), true) := by
  simp [State.fetched, hheld, hslots, h]

variable {n : Nat} {p : ImgSlot} (hx : i.x < 220) (hpart : s.partOf i.tile = some (n, p)) (hruns : s.tileRuns i.tile n p = true)
  (hexp : (s.tile i.tile).expects i.bundle k = true)
include hx hpart hruns hexp

/-- The store cannot read the bundle: HALT 3. -/
theorem State.issueAt_unreadable (h : (s.fetched i).2 = true) :
    s.issueAt i k own act
      = (s.fetched i).1.setTile i.tile { (s.fetched i).1.tile i.tile with pc := i.bundle % 4096, waiting := false, halt := 3 } := by
  simp [State.issueAt, Nat.not_le.mpr hx, hpart, hruns, hexp, h, State.haltTile_quiet]

/-- The bundle lies past the last one loaded: HALT 1. -/
theorem State.issueAt_pastEnd (hf : i.fetch = .clean) (h : s.storeUsed p ≤ i.bundle) :
    s.issueAt i k own act = s.setTile i.tile { s.tile i.tile with pc := i.bundle % 4096, waiting := false, halt := 1 } := by
  simp [State.issueAt, Nat.not_le.mpr hx, hpart, hruns, hexp, State.fetched_clean hf, h, State.haltTile_quiet]

/-- A condition of the bundle is unmet. -/
theorem State.issueAt_delayed (hf : i.fetch = .clean) (hb : i.bundle < s.storeUsed p)
    (h : ((s.tile i.tile).holdsOf i own).all (s.holdMet i.tile) = false) :
    s.issueAt i k own act = s.delayed i ((s.tile i.tile).holdsOf i own) := by
  simp only [State.issueAt, Nat.not_le.mpr hx, hpart, hruns, hexp, State.fetched_clean hf, Nat.not_le.mpr hb, h]
  rfl

theorem State.issueAt_runs (hf : i.fetch = .clean) (hb : i.bundle < s.storeUsed p)
    (h : ((s.tile i.tile).holdsOf i own).all (s.holdMet i.tile) = true) :
    s.issueAt i k own act = (act n p p.image.user (s.issued i k)).bundleDone p i := by
  simp only [State.issueAt, Nat.not_le.mpr hx, hpart, hruns, hexp, State.fetched_clean hf, Nat.not_le.mpr hb, h]
  rfl

end

section
variable {s : State} {i : Issue} {k n : Nat} {p : ImgSlot} (h : s.Issues i k n p)
include h

/-- A micro-operation that issues acts, and ends its bundle where it is the last. -/
theorem State.Issues.issueAt (act : Nat → ImgSlot → Bool → State → State) :
    s.issueAt i k [] act = (act n p p.image.user (s.issued i k)).bundleDone p i := by
  obtain ⟨hx, hpart, hruns, hexp, hfetch, hbundle, hholds⟩ := h
  exact State.issueAt_runs [] act hx hpart hruns hexp hfetch hbundle hholds

/-- One with a condition of its own acts when that is met. -/
theorem State.Issues.issueAt_met {c : Hold} (hc : s.holdMet i.tile c = true) (act : Nat → ImgSlot → Bool → State → State) :
    s.issueAt i k [c] act = (act n p p.image.user (s.issued i k)).bundleDone p i := by
  obtain ⟨hx, hpart, hruns, hexp, hfetch, hbundle, hholds⟩ := h
  exact State.issueAt_runs [c] act hx hpart hruns hexp hfetch hbundle (by simpa [Tile.holdsOf, hc] using hholds)

/-- Until then its bundle is delayed; STATE shows whether it waits in a WAIT. -/
theorem State.Issues.issueAt_unmet {c : Hold} (hc : s.holdMet i.tile c = false) (act : Nat → ImgSlot → Bool → State → State) :
    s.issueAt i k [c] act
      = s.setTile i.tile { s.tile i.tile with pc := i.bundle % 4096, held := true, waiting := holdWaits c } := by
  obtain ⟨hx, hpart, hruns, hexp, hfetch, hbundle, hholds⟩ := h
  have hrest : (if (s.tile i.tile).slots.isEmpty = true then i.holds else []).any (fun d => holdWaits d && !s.holdMet i.tile d)
      = false := by
    rw [List.any_eq_false]
    intro d hd
    simp [List.all_eq_true.mp hholds d (by simpa [Tile.holdsOf] using hd)]
  rw [State.issueAt_delayed [c] act hx hpart hruns hexp hfetch hbundle (by simp [Tile.holdsOf, hc]), State.delayed, Tile.holdsOf,
    List.singleton_append, List.any_cons, hrest, hc]
  simp

/-- The tile as its micro-operation issues. -/
theorem State.Issues.tile_notHalted : ((s.issued i k).tile i.tile).halt = 0 := by
  obtain ⟨_, _, hruns, _⟩ := h
  simp only [State.tileRuns, Bool.and_eq_true, beq_iff_eq] at hruns
  simpa [State.issued] using hruns.1.1.1.2

end

end Sys2Proof.Machine
end

section
/-!
PROOFS. Tiles that do not run, and bundles that halt their tile before anything issues (R236, R247, R249, R449).
-/

namespace Sys2Proof.Machine

section
variable {s : State} {i : Issue} (hstop : ∀ k own act, s.issueAt i k own act = s)
include hstop

theorem bodyCubeMm_stopped (aAddr aPitch aFmt bAddr bPitch bFmt depth set_ : Nat) (int strict residueOk : Bool) (ecc : SramEcc) :
    bodyCubeMm i aAddr aPitch aFmt bAddr bPitch bFmt depth set_ int strict residueOk ecc s = s := by
  unfold bodyCubeMm
  split
  · exact ite_eq_left_iff.mpr fun _ => hstop _ _ _
  · rfl

theorem bodyLaAdd_stopped (addr wmode : Nat) (anchor : Int) (fmt vr : Nat) (ecc : SramEcc) :
    bodyLaAdd i addr wmode anchor fmt vr ecc s = s := by
  unfold bodyLaAdd
  split
  · rfl
  · split
    · exact hstop _ _ _
    · rfl

theorem bodyLaFin_stopped (addr wmode : Nat) (anchor : Int) (src n divisor fmt dst rm : Nat) (strict : Bool) (ecc : SramEcc) :
    bodyLaFin i addr wmode anchor src n divisor fmt dst rm strict ecc s = s := by
  unfold bodyLaFin
  split
  · split
    · exact hstop _ _ _
    · rfl
  · rfl

end

/-- Every micro-operation issues or does nothing, so one on a tile that does not run does nothing. -/
theorem exec_stopped {c : Instr} {s : State} {i : Issue} (hc : Instr.issue? c = some i)
    (h : ∀ n p, s.partOf i.tile = some (n, p) → s.tileRuns i.tile n p = false) : exec c s = .next s := by
  have hstop (k : Nat) (own : List Hold) (act : Nat → ImgSlot → Bool → State → State) : s.issueAt i k own act = s :=
    State.issueAt_stopped own act h
  have hnone {b : State} (hb : b = s) : commit s b = .next s := by rw [hb, commit_self]
  unfold Instr.issue? at hc
  split at hc <;> cases hc
  case h_1 => exact hnone (bodyCubeMm_stopped hstop _ _ _ _ _ _ _ _ _ _ _ _) -- CUBE_MM
  case h_2 => exact hnone (ite_eq_left_iff.mpr fun _ => hstop slotC _ _) -- CUBE_LDC
  case h_3 => exact hnone (ite_eq_left_iff.mpr fun _ => hstop slotC _ _) -- CUBE_STC
  case h_4 => exact hnone (hstop slotV _ _) -- VECTOR_OPERATION
  case h_5 => exact hnone (bodyLaAdd_stopped hstop _ _ _ _ _ _) -- LA_ADD
  case h_6 => exact hnone (bodyLaFin_stopped hstop _ _ _ _ _ _ _ _ _ _ _) -- LA_FIN
  case h_7 => exact hnone (ite_eq_left_iff.mpr fun _ => hstop slotM _ _) -- LOAD
  case h_8 => exact hnone (ite_eq_left_iff.mpr fun _ => hstop slotM _ _) -- STORE
  case h_9 => exact hnone (show bodySend _ _ _ _ _ _ _ _ _ s = s by simp only [bodySend, hstop]) -- SEND
  case h_10 => exact hnone (hstop slotM _ _) -- RECV
  case h_11 => exact hnone (hstop slotS _ _) -- WAIT
  case h_12 => exact hnone (hstop slotS _ _) -- SETRM
  case h_13 => exact hnone (hstop slotS _ _) -- HALT
  case h_14 => exact hnone (hstop slotS _ _) -- SCALAR_OPERATION

/-! ### The SRAM error counts of a tile -/

theorem addr_tile_mod (t : Nat) :
    Reg.addr .tileSat (tileIdx t) % 64 = 0x10 ∧ Reg.addr .tileFlush (tileIdx t) % 64 = 0x18 ∧ Reg.addr .tileSunc (tileIdx t) % 64 = 0x28
      ∧ Reg.addr .tileCubecyc (tileIdx t) % 64 = 0x30 := by
  simp only [Reg.addr, Reg.place, tileIdx, List.zip_cons_cons, List.zip_nil_right, List.map_cons, List.map_nil, List.sum_cons, List.sum_nil]
  omega

/-- A fault of a tile leaves its SRAM counts alone. -/
@[simp] theorem State.fld_tileSunc_tileFault (s : State) (t kind addr u hi lo : Nat) :
    (s.tileFault t kind addr).fld .tileSunc (tileIdx u) hi lo = s.fld .tileSunc (tileIdx u) hi lo := by
  have hne : Reg.addr .tileSunc (tileIdx u) ≠ Reg.addr .fltCounts [] := fun h => by
    obtain ⟨-, -, hu, -⟩ := addr_tile_mod u
    rw [h] at hu
    exact absurd hu (by decide)
  rw [State.fld, State.tileFault, State.reg_raise _ _ _ _ _ _ _ _ _ hne, State.fld]

/-- A counter of 64 bits after it counted. -/
theorem State.fld_count64_same (s : State) (r : Reg) (is : List Nat) (n : Nat) :
    (s.count64 r is n).fld r is 63 0 = satAdd 64 (s.fld r is 63 0) n := by
  rw [State.count64, State.fld_bump_same]; exact satAdd_mod 64 _ _

end Sys2Proof.Machine

open Sys2Proof Sys2Proof.Machine

/-- Settles O45: a micro-operation acts only through its issue, which a tile that does not run refuses; a bundle that cannot be read, or
that lies past the last one, ends there in a halt. -/
theorem tilesThatDoNotRunAreUntouched : Obligations.TilesThatDoNotRunAreUntouched := by
  refine ⟨fun s c i hc h => exec_stopped hc h, fun s i n rm p hx hpart hruns hexp hheld hslots => ⟨fun hf hb => ?_, fun hf => ?_⟩⟩
  · exact commit_of_keptParts (State.issueAt_pastEnd [] _ hx hpart hruns hexp hf hb) rfl
  · have hfetch := State.fetched_first hheld hslots hf
    have hbody : bodySetrm i rm s = _ := State.issueAt_unreadable [] _ hx hpart hruns hexp (by rw [hfetch])
    rw [hfetch] at hbody
    refine ⟨_, commit_of_keptParts hbody (by simp), ?_, ?_, ?_⟩
    · simp
    · exact (State.tilesBut_of_fab (by simp) _).trans (State.tilesBut_setTile _ _ _)
    · exact (State.fld_tileSunc_tileFault _ _ _ _ _ _ _).trans (State.fld_count64_same _ _ _ _)
end

section
/-!
PROOFS. Tile SRAM and the vector registers: what a read or write of a unit does, and which bytes a store changes (R233, R235, R236).
-/

namespace Sys2Proof.Machine

/-! ### Reads of SRAM -/

section
variable {s : State} {i : Issue} {user : Bool} {a n : Nat} (act : List Byte → State → State)

theorem State.sramRead_outside (h : sramBytes < a + n) (e : SramEcc) : s.sramRead i user a n e act = s.haltTile i.tile 5 a user := if_pos h

/-- The state after a read of words that may be poisoned: the chunk a service image works on is poisoned by one (R72). -/
def State.poisonMet (s : State) (i : Issue) (a n : Nat) : State :=
  if (s.tile i.tile).poisonIn a n then s.poisonChunk i.ctx i.chunk else s

@[simp] theorem State.poisonMet_keptParts (s : State) (i : Issue) (a n : Nat) : (s.poisonMet i a n).keptParts = s.keptParts := by
  unfold State.poisonMet; split <;> simp

@[simp] theorem State.tile_poisonMet (s : State) (i : Issue) (a n t : Nat) : (s.poisonMet i a n).tile t = s.tile t := by
  unfold State.poisonMet; split <;> simp

theorem State.poisonMet_sound {s : State} {i : Issue} {a n : Nat} (h : (s.tile i.tile).poisonIn a n = false) : s.poisonMet i a n = s :=
  if_neg (by simp [h])

/-- A read that finds no error goes on, unless a user image meets a poisoned word. -/
theorem State.sramRead_clean (hin : a + n ≤ sramBytes) (hok : (user && (s.tile i.tile).poisonIn a n) = false) :
    s.sramRead i user a n .clean act
      = act (Memory.read (s.tile i.tile).sram a n) (s.poisonMet i a n) := by
  unfold State.poisonMet
  refine (if_neg (Nat.not_lt.mpr hin)).trans ?_
  cases hp : (s.tile i.tile).poisonIn a n with
  | false => exact if_neg (by simp [State.sramFinds, hp])
  | true =>
    have hu : user = false := by simpa [hp] using hok
    exact (if_pos hp).trans (if_neg (by simp [hu]))

theorem State.sramRead_sound (hin : a + n ≤ sramBytes) (hp : (s.tile i.tile).poisonIn a n = false) :
    s.sramRead i user a n .clean act = act (Memory.read (s.tile i.tile).sram a n) s := by
  rw [State.sramRead_clean act hin (by simp [hp]), State.poisonMet_sound hp]

theorem State.sramRead_poisoned (hin : a + n ≤ sramBytes) (hp : (s.tile i.tile).poisonIn a n = true) :
    s.sramRead i true a n .clean act = s.haltTile i.tile 2 a true := by
  rw [State.sramRead, if_neg (Nat.not_lt.mpr hin), State.sramFinds]
  simp [hp]

end

theorem Tile.poisonIn_nil {x : Tile} (h : x.poison = []) (a n : Nat) : x.poisonIn a n = false := by simp [Tile.poisonIn, h]

/-! ### Writes of SRAM -/

@[simp] theorem State.partFinds_clean (s : State) (t a n : Nat) : s.partFinds t a n .clean = s := List.foldl_fixed _

section
variable {s : State} {t a : Nat} {user : Bool} {bs : List Byte}

theorem State.sramWrite_outside (h : sramBytes < a + bs.length) (e : SramEcc) : s.sramWrite t user a bs e = s.haltTile t 5 a user :=
  if_pos h

theorem State.sramWrite_clean (hin : a + bs.length ≤ sramBytes)
    (hok : user = true → ∀ w ∈ partWords a bs.length, (s.tile t).poison.contains w = false) :
    s.sramWrite t user a bs .clean = s.setTile t ((s.tile t).storeBytes a bs) := by
  rw [State.sramWrite, if_neg (Nat.not_lt.mpr hin), State.partFinds_clean]
  cases user with
  | false => rfl
  | true =>
    have hfind : (partWords a bs.length).find? (fun w => (s.tile t).poison.contains w) = none :=
      List.find?_eq_none.mpr fun w hw => by simp only [hok rfl w hw]; decide
    simp only [hfind]

theorem State.sramWrite_poisoned (hin : a + bs.length ≤ sramBytes) (hp : ∃ w ∈ partWords a bs.length, (s.tile t).poison.contains w = true) :
    ∃ w, s.sramWrite t true a bs .clean = s.haltTile t 2 (8 * w) true := by
  rw [State.sramWrite, if_neg (Nat.not_lt.mpr hin), State.partFinds_clean]
  cases hfind : (partWords a bs.length).find? (fun w => (s.tile t).poison.contains w) with
  | none =>
    obtain ⟨w, hw, hc⟩ := hp
    exact absurd hc (List.find?_eq_none.mp hfind w hw)
  | some w => exact ⟨w, by simp only [hfind]⟩

end

/-! ### The bytes of a store -/

/-- What a store of `bs` at `a` does to word `w` of SRAM. -/
def Tile.storeWord (x : Tile) (a : Nat) (bs : List Byte) (w : Nat) : Tile :=
  let lo := max a (8 * w)
  let hi := min (a + bs.length) (8 * w + 8)
  let whole := hi - lo == 8
  if !whole && x.poison.contains w then x
  else { x with sram := Memory.write x.sram lo ((bs.drop (lo - a)).take (hi - lo)),
                poison := if whole then x.poison.filter fun p => p != w else x.poison }

theorem Tile.storeBytes_foldl (x : Tile) (a : Nat) {bs : List Byte} (h : bs.length ≠ 0) :
    x.storeBytes a bs
      = (List.range ((a + bs.length - 1) / 8 + 1 - a / 8)).foldl (fun (x : Tile) i => x.storeWord a bs (a / 8 + i)) x := if_neg h

theorem Tile.storeBytes_empty (x : Tile) (a : Nat) {bs : List Byte} (h : bs.length = 0) : x.storeBytes a bs = x := if_pos h

/-- A tile without what its SRAM holds. -/
def Tile.unstored (x : Tile) : Tile := { x with sram := [], poison := [] }

theorem Tile.unstored_storeWord (x : Tile) (a : Nat) (bs : List Byte) (w : Nat) : (x.storeWord a bs w).unstored = x.unstored := by
  unfold Tile.storeWord; dsimp only; split <;> rfl

/-- A store changes what SRAM holds alone. -/
theorem Tile.storeBytes_only (x : Tile) (a : Nat) (bs : List Byte) :
    x.storeBytes a bs = { x with sram := (x.storeBytes a bs).sram, poison := (x.storeBytes a bs).poison } := by
  have hrest : (x.storeBytes a bs).unstored = x.unstored := by
    by_cases hn : bs.length = 0
    · rw [Tile.storeBytes_empty x a hn]
    · rw [Tile.storeBytes_foldl x a hn]
      exact foldl_keeps Tile.unstored _ (fun y i => y.unstored_storeWord a bs _) _ x
  exact congrArg (fun y : Tile => { y with sram := (x.storeBytes a bs).sram, poison := (x.storeBytes a bs).poison }) hrest

@[simp] theorem Tile.storeBytes_halt (x : Tile) (a : Nat) (bs : List Byte) : (x.storeBytes a bs).halt = x.halt := by
  rw [Tile.storeBytes_only]

@[simp] theorem Tile.storeBytes_inbox (x : Tile) (a : Nat) (bs : List Byte) : (x.storeBytes a bs).inbox = x.inbox := by
  rw [Tile.storeBytes_only]

section
variable {x : Tile} (hp : x.poison = []) (a : Nat) (bs : List Byte)
include hp

theorem Tile.storeWord_poison (w : Nat) : (x.storeWord a bs w).poison = [] := by
  unfold Tile.storeWord; dsimp only; split <;> simp [hp]

/-- A store puts into a word its bytes of that word. -/
theorem Tile.byte_storeWord (w b : Nat) :
    Memory.byte (x.storeWord a bs w).sram b
      = if a ≤ b ∧ b < a + bs.length ∧ b / 8 = w then bs.getD (b - a) 0 else Memory.byte x.sram b := by
  have hstored : (x.storeWord a bs w).sram = Memory.write x.sram (max a (8 * w))
      ((bs.drop (max a (8 * w) - a)).take (min (a + bs.length) (8 * w + 8) - max a (8 * w))) := by simp [Tile.storeWord, hp]
  have hlen : ((bs.drop (max a (8 * w) - a)).take (min (a + bs.length) (8 * w + 8) - max a (8 * w))).length
      = min (a + bs.length) (8 * w + 8) - max a (8 * w) := by simp only [List.length_take, List.length_drop]; omega
  rw [hstored]
  by_cases hb : a ≤ b ∧ b < a + bs.length ∧ b / 8 = w
  · obtain ⟨j, rfl⟩ : ∃ j, b = max a (8 * w) + j := ⟨b - max a (8 * w), by omega⟩
    rw [if_pos hb, Memory.byte_write_in _ _ _ j (by omega), List.getElem_take, List.getElem_drop,
      List.getD_eq_getElem _ _ (by omega)]
    congr 1
    omega
  · rw [if_neg hb, Memory.byte_write_other]
    omega

/-- A store into sound SRAM changes the bytes that it names, and no other. -/
theorem Tile.byte_storeBytes (b : Nat) :
    Memory.byte (x.storeBytes a bs).sram b
      = if a ≤ b ∧ b < a + bs.length then bs.getD (b - a) 0 else Memory.byte x.sram b := by
  by_cases hn : bs.length = 0
  · rw [Tile.storeBytes_empty x a hn, if_neg (by omega)]
  have hfold (m : Nat) :
      ((List.range m).foldl (fun (x : Tile) i => x.storeWord a bs (a / 8 + i)) x).poison = []
      ∧ Memory.byte ((List.range m).foldl (fun (x : Tile) i => x.storeWord a bs (a / 8 + i)) x).sram b
        = if a ≤ b ∧ b < a + bs.length ∧ b / 8 < a / 8 + m then bs.getD (b - a) 0 else Memory.byte x.sram b := by
    induction m with
    | zero => exact ⟨hp, by rw [if_neg (by omega)]; rfl⟩
    | succ m ih =>
      obtain ⟨hpoison, hbyte⟩ := ih
      rw [List.range_succ, List.foldl_append, List.foldl_cons, List.foldl_nil]
      refine ⟨Tile.storeWord_poison hpoison a bs _, ?_⟩
      rw [Tile.byte_storeWord hpoison, hbyte]
      by_cases hlast : a ≤ b ∧ b < a + bs.length ∧ b / 8 = a / 8 + m
      · rw [if_pos hlast, if_pos (by omega)]
      · rw [if_neg hlast]
        exact if_congr (by omega) rfl rfl
  rw [Tile.storeBytes_foldl x a hn, (hfold _).2]
  exact if_congr (by omega) rfl rfl

theorem Tile.storeBytes_poison : (x.storeBytes a bs).poison = [] := by
  by_cases hn : bs.length = 0
  · rw [Tile.storeBytes_empty x a hn, hp]
  · rw [Tile.storeBytes_foldl x a hn]
    exact List.foldlRecOn (motive := fun y : Tile => y.poison = []) _ _ hp fun y hy i _ => Tile.storeWord_poison hy a bs _

end

/-! ### Vector registers -/

section
variable (x : Tile) (r : Nat)

/-- Bytes of one vector register. -/
theorem Tile.vbytes_one {n : Nat} (h0 : 0 < n) (h : n ≤ 32) : x.vbytes r n = (x.vreg r).take n := by
  have hone : ceilDiv n 32 = 1 := by unfold ceilDiv; omega
  simp [Tile.vbytes, hone, List.range_succ]

theorem Tile.setVbytes_one {bs : List Byte} (h0 : 0 < bs.length) (h : bs.length ≤ 32) :
    x.setVbytes r bs = { x with vregs := x.vregs.set (r % 32) (bs ++ (x.vreg r).drop bs.length) } := by
  have hone : ceilDiv bs.length 32 = 1 := by unfold ceilDiv; omega
  simp [Tile.setVbytes, hone, List.range_succ, List.take_of_length_le h, Nat.min_eq_right h]

/-- The start of a register reads what was put there. -/
theorem Tile.vbytes_setVbytes_same {bs : List Byte} (h0 : 0 < bs.length) (h : bs.length ≤ 32) :
    (x.setVbytes r bs).vbytes r bs.length = bs := by
  rw [Tile.vbytes_one _ _ h0 h, Tile.setVbytes_one x r h0 h]
  simp [Tile.vreg]

theorem Tile.vreg_setVbytes_other {bs : List Byte} (h0 : 0 < bs.length) (h : bs.length ≤ 32) {q : Nat} (hq : q < 32) (hne : q ≠ r % 32) :
    (x.setVbytes r bs).vreg q = x.vreg q := by
  rw [Tile.setVbytes_one x r h0 h]
  simp only [Tile.vreg, Nat.mod_eq_of_lt hq]
  exact Tbl.get_set_other _ _ _ hne

end

end Sys2Proof.Machine
end

section
/-!
PROOFS. LOAD, STORE and the scrubber (R72, R235 to R237).
-/

namespace Sys2Proof.Machine

theorem accessSize_bounds {size : Nat} (h : accessSize size = true) : 0 < size ∧ size ≤ 32 := by
  simp only [accessSize, Bool.or_eq_true, beq_iff_eq] at h
  omega

/-! ### LOAD and STORE -/

section
variable {s : State} {i : Issue} {n : Nat} {p : ImgSlot} {size : Nat} (h : s.Issues i slotM n p) (hsize : accessSize size = true)
  (vr addr : Nat)
include h hsize

theorem bodyLoad_issues : bodyLoad i vr addr size .clean s
    = ((s.issued i slotM).sramRead i p.image.user addr size .clean
        fun bs u => u.setTile i.tile ((u.tile i.tile).setVbytes vr bs)).bundleDone p i :=
  (if_neg (by simp [hsize])).trans (h.issueAt _)

theorem bodyStore_issues : bodyStore i vr addr size .clean s
    = ((s.issued i slotM).sramWrite i.tile p.image.user addr (((s.issued i slotM).tile i.tile).vbytes vr size) .clean).bundleDone p i :=
  (if_neg (by simp [hsize])).trans (h.issueAt _)

variable {addr}

theorem bodyLoad_loads (hin : addr + size ≤ sramBytes)
    (hok : (p.image.user && ((s.issued i slotM).tile i.tile).poisonIn addr size) = false) :
    bodyLoad i vr addr size .clean s
      = (((s.issued i slotM).poisonMet i addr size).setTile i.tile (((s.issued i slotM).tile i.tile).setVbytes vr
          (Memory.read ((s.issued i slotM).tile i.tile).sram addr size))).bundleDone p i := by
  rw [bodyLoad_issues h hsize, State.sramRead_clean _ hin hok, State.tile_poisonMet]

theorem bodyStore_stores (hin : addr + (((s.issued i slotM).tile i.tile).vbytes vr size).length ≤ sramBytes)
    (hok : p.image.user = true → ∀ w ∈ partWords addr (((s.issued i slotM).tile i.tile).vbytes vr size).length,
      ((s.issued i slotM).tile i.tile).poison.contains w = false) :
    bodyStore i vr addr size .clean s
      = ((s.issued i slotM).setTile i.tile
          (((s.issued i slotM).tile i.tile).storeBytes addr (((s.issued i slotM).tile i.tile).vbytes vr size))).bundleDone p i := by
  rw [bodyStore_issues h hsize, State.sramWrite_clean hin hok]

end

/-- A tile that a unit halted ends its bundle there. -/
theorem State.tile_bundleDone_haltTile (s : State) (i : Issue) (p : ImgSlot) {code : Nat} (hc : code ≠ 0) (addr : Nat) (user : Bool) :
    ((s.haltTile i.tile code addr user).bundleDone p i).tile i.tile = { s.tile i.tile with halt := code, waiting := false } := by
  rw [State.bundleDone_halted p (by simpa using hc), State.tile_haltTile]

theorem Tile.vbytes_length_le (x : Tile) (r n : Nat) : (x.vbytes r n).length ≤ n := List.length_take_le _ _

/-! ### The scrubber -/

/-- The state as the scrubber passes a word of a bank (R237). -/
def State.scrubMoved (s : State) (t bank : Nat) : State :=
  s.setTile t { s.tile t with scrubs := (s.tile t).scrubs.set bank (((s.tile t).scrubs.get bank 0 + 1) % 1024) }

theorem State.tilesBut_scrubMoved (s : State) (t bank : Nat) : s.tilesBut (s.scrubMoved t bank) t := s.tilesBut_setTile _ _

section
variable {s : State} {x y bank : Nat} (hx : x < 220) (hy : y < 96) (hb : bank < 8) (hr : s.fab.retired.contains (tileNo x y) = false)
include hx hy hb hr

theorem bodyTileScrubAccess_reads (ws : List (MemResult × Option SlotWord)) :
    bodyTileScrubAccess x y bank ws s
      = (List.range 4).foldl (fun (u : State) j => u.scrubWord (tileNo x y)
          ((8 * (s.tile (tileNo x y)).scrubs.get bank 0 + bank) * 32 + 8 * j) (ws.getD j (.clean, none)))
          (s.scrubMoved (tileNo x y) bank) :=
  if_neg (by rw [hr]; simp; omega)

theorem bodyTileScrubAccess_clean {ws : List (MemResult × Option SlotWord)} (h : ∀ w ∈ ws, w.1 = .clean) :
    bodyTileScrubAccess x y bank ws s = s.scrubMoved (tileNo x y) bank := by
  have hword (j : Nat) : (ws.getD j (.clean, none)).1 = .clean := by
    by_cases hj : j < ws.length
    · rw [List.getD_eq_getElem _ _ hj]; exact h _ (List.getElem_mem hj)
    · rw [List.getD_eq_default _ _ (Nat.not_lt.mp hj)]
  rw [bodyTileScrubAccess_reads hx hy hb hr]
  simp only [State.scrubWord, hword]
  exact List.foldl_fixed _

/-- The first error of an access, in its word `j` and of no slot, is that word's alone. -/
theorem bodyTileScrubAccess_uncorrectable {j : Nat} (hj : j < 4) :
    bodyTileScrubAccess x y bank (List.replicate j (.clean, none) ++ [(.uncorrectable, none)]) s
      = (s.scrubMoved (tileNo x y) bank).sramFinds (tileNo x y) ((8 * (s.tile (tileNo x y)).scrubs.get bank 0 + bank) * 32 + 8 * j) 8
          (.uncorrectable ((8 * (s.tile (tileNo x y)).scrubs.get bank 0 + bank) * 32 + 8 * j)) := by
  rw [bodyTileScrubAccess_reads hx hy hb hr]
  interval_cases j <;> rfl

end

/-- An uncorrectable word of a tile is poisoned, counted and reported. -/
theorem State.sramFinds_uncorrectable (s : State) (t : Nat) {a n b : Nat} (h : a ≤ b ∧ b < a + n) :
    s.sramFinds t a n (.uncorrectable b)
      = ((s.setTile t { s.tile t with
            poison := if (s.tile t).poison.contains (b / 8) then (s.tile t).poison else (b / 8) :: (s.tile t).poison }).count64 .tileSunc
          (tileIdx t)).tileFault t 0x031 b := if_pos h

end Sys2Proof.Machine

open Sys2Proof Sys2Proof.Machine

/-- Settles O46: a LOAD and a STORE through the reads and writes of SRAM, whose halts end the bundle; the scrubber through the words of its
access. -/
theorem loadsStoresAndScrubbing : Obligations.LoadsStoresAndScrubbing := by
  refine ⟨fun s i n p vr addr size h hsize => ⟨fun hin hok => ?_, fun hin hok => ?_, fun hout => ?_,
      fun hin huser => ⟨fun hp => ?_, fun hp => ?_⟩⟩,
    fun s x y bank hs hx hy hb hr => ⟨fun ws hclean => ?_, fun j hj => ?_⟩⟩
  · obtain ⟨h0, h32⟩ := accessSize_bounds hsize
    have hlen := Memory.length_read ((s.issued i slotM).tile i.tile).sram addr size
    refine ⟨commit_of_keptParts (bodyLoad_loads h hsize vr hin hok)
      ((State.bundleDone_keptParts p).trans (State.poisonMet_keptParts (s.issued i slotM) i addr size)), ?_, fun r hr hne => ?_⟩
    · have hsame := Tile.vbytes_setVbytes_same ((s.issued i slotM).tile i.tile) vr (hlen.symm ▸ h0) (hlen.symm ▸ h32)
      rwa [hlen] at hsame
    · exact Tile.vreg_setVbytes_other _ vr (hlen.symm ▸ h0) (hlen.symm ▸ h32) hr hne
  · have hle := Tile.vbytes_length_le ((s.issued i slotM).tile i.tile) vr size
    refine ⟨commit_of_keptParts (bodyStore_stores h hsize vr (by omega) hok) (by simp), Tile.storeBytes_only _ _ _,
      fun hp => ⟨Tile.storeBytes_poison hp _ _, fun b hb => ?_, fun j hj => ?_⟩⟩
    · rw [Tile.byte_storeBytes hp, if_neg (by omega)]
    · rw [Tile.byte_storeBytes hp, if_pos (by omega), Nat.add_sub_cancel_left]
  · refine ⟨_, _, rfl, rfl, ?_, fun hlen => ?_⟩
    · refine (congrArg (fun u : State => u.tile i.tile) (bodyLoad_issues h hsize vr addr)).trans ?_
      rw [State.sramRead_outside _ hout, State.tile_bundleDone_haltTile _ _ _ (by decide)]
    · refine (congrArg (fun u : State => u.tile i.tile) (bodyStore_issues h hsize vr addr)).trans ?_
      rw [State.sramWrite_outside (by rw [hlen]; exact hout), State.tile_bundleDone_haltTile _ _ _ (by decide)]
  · refine ⟨_, rfl, (congrArg (fun u : State => u.tile i.tile) (bodyLoad_issues h hsize vr addr)).trans ?_⟩
    rw [huser, State.sramRead_poisoned _ hin hp, State.tile_bundleDone_haltTile _ _ _ (by decide)]
  · have hle := Tile.vbytes_length_le ((s.issued i slotM).tile i.tile) vr size
    obtain ⟨w, hw⟩ := State.sramWrite_poisoned (by omega) hp
    refine ⟨_, rfl, (congrArg (fun u : State => u.tile i.tile) (bodyStore_issues h hsize vr addr)).trans ?_⟩
    rw [huser, hw, State.tile_bundleDone_haltTile _ _ _ (by decide)]
  · exact commit_unlessSafe_of_keptParts hs (bodyTileScrubAccess_clean hx hy hb hr hclean) rfl
  · have hbody := bodyTileScrubAccess_uncorrectable hx hy hb hr hj
    rw [State.sramFinds_uncorrectable _ _ (by omega)] at hbody
    refine ⟨_, commit_unlessSafe_of_keptParts hs hbody (by simp [State.scrubMoved]), ?_, ?_, ?_, fun a => ?_, ?_⟩
    · exact ((s.tilesBut_scrubMoved _ bank).trans (State.tilesBut_setTile _ _ _)).trans
        (State.tilesBut_of_fab ((State.tileFault_fab _ _ _ _).trans (State.count64_fab _ _ _ _)) _)
    · simp [State.scrubMoved]
    · simp [State.scrubMoved]
    · have hword : ((8 * (s.tile (tileNo x y)).scrubs.get bank 0 + bank) * 32 + 8 * j) / 8
          = (8 * (s.tile (tileNo x y)).scrubs.get bank 0 + bank) * 4 + j := by omega
      rw [State.tile_tileFault, State.tile_count64, State.tile_setTile_same, hword]
      simp only [State.scrubMoved, State.tile_setTile_same]
      split
      · next hin => exact ⟨.inr, fun ha => ha.elim (fun he => he ▸ List.contains_iff_mem.mp hin) id⟩
      · exact List.mem_cons
    · exact (State.fld_tileSunc_tileFault _ _ _ _ _ _ _).trans (State.fld_count64_same _ _ _ _)
end

section
/-!
PROOFS. The vector unit: the integer lanes and the sign operations (R244).
-/

namespace Sys2Proof.Machine

/-! ### Bytes of a number -/

/-- The low bytes of a number are those of its residue. -/
theorem natBytes_mod (k n : Nat) : natBytes k (n % 256 ^ k) = natBytes k n := by
  induction k generalizing n with
  | zero => rfl
  | succ k ih =>
    have hhigh : n % 256 ^ (k + 1) / 256 = n / 256 % 256 ^ k := by rw [pow_succ', Nat.mod_mul_right_div_self]
    have hlow : BitVec.ofNat 8 (n % 256 ^ (k + 1)) = BitVec.ofNat 8 n :=
      BitVec.eq_of_toNat_eq (by rw [pow_succ', BitVec.toNat_ofNat, BitVec.toNat_ofNat]; exact Nat.mod_mul_right_mod n 256 _)
    simp only [natBytes, hhigh, ih, hlow]

/-! ### Integer lanes -/

/-- An operation that adds, subtracts or combines the bits of 64-bit lanes. -/
def wordOp (o : VOp) : Prop := o = .intAdd ∨ o = .intSub ∨ o = .intAnd ∨ o = .intOr ∨ o = .intXor

/-- What such an operation makes of two words. -/
def wordLane (o : VOp) (v w : Word) : Word :=
  if o = .intAdd then v + w else if o = .intSub then v - w else if o = .intAnd then v &&& w else if o = .intOr then v ||| w else v ^^^ w

theorem natBytes_intElem {o : VOp} (ho : wordOp o) (a b : Nat) :
    natBytes 8 (intElem o a b) = natBytes 8 (wordLane o (BitVec.ofNat 64 a) (BitVec.ofNat 64 b)).toNat := by
  have hlane : intElem o a b % 2 ^ 64 = (wordLane o (BitVec.ofNat 64 a) (BitVec.ofNat 64 b)).toNat := by
    rcases ho with rfl | rfl | rfl | rfl | rfl
    · simp [intElem, wordLane]
    · simp only [intElem, wordLane, BitVec.toNat_sub, BitVec.toNat_ofNat, reduceCtorEq, if_false, if_true]
      omega
    · simp only [intElem, wordLane, BitVec.toNat_and, BitVec.toNat_ofNat, reduceCtorEq, if_false, if_true]
      exact Nat.and_mod_two_pow
    · simp only [intElem, wordLane, BitVec.toNat_or, BitVec.toNat_ofNat, reduceCtorEq, if_false, if_true]
      exact Nat.or_mod_two_pow
    · simp only [intElem, wordLane, BitVec.toNat_xor, BitVec.toNat_ofNat, reduceCtorEq, if_false]
      exact Nat.xor_mod_two_pow
  exact hlane ▸ (natBytes_mod 8 _).symm

theorem vecEval_wordOp {x : Tile} {o : VOp} {rm : Nat} (ho : wordOp o) (hd : x.dir rm ≤ 4) (fmt : VFmt) (strict : Bool) (ra rb rc : Nat) :
    vecEval x o fmt rm strict ra rb rc
      = some (gather 8 (List.zipWith (fun a b => ⟨intElem o a b, 0⟩) (x.elems ra 8 4) (x.elems rb 8 4))) := by
  rcases ho with rfl | rfl | rfl | rfl | rfl <;> exact if_neg (Nat.not_lt.mpr hd)

/-- Elements that raise no flag raise none together. -/
theorem gather_noFlags (w : Nat) {rs : List Fl} (h : ∀ r ∈ rs, r.flags = 0) : (gather w rs).flags = 0 := by
  rw [gather, List.foldl_map]
  exact List.foldlRecOn (motive := fun n => n = 0) _ _ rfl fun n hn r hr => by rw [hn, h r hr]; rfl

theorem gather_wordLanes {o : VOp} (ho : wordOp o) (as bs : List Nat) :
    (gather 8 (List.zipWith (fun a b => ⟨intElem o a b, 0⟩) as bs)).bytes
      = (List.zipWith (fun a b => natBytes 8 (wordLane o (BitVec.ofNat 64 a) (BitVec.ofNat 64 b)).toNat) as bs).flatten := by
  simp only [gather, List.flatMap_def, List.map_zipWith, natBytes_intElem ho]

/-! ### Sign operations -/

theorem signOf_binary32 {a : Nat} (h : a < 2 ^ 32) : fFP32.signOf a = decide (2 ^ 31 ≤ a) := by
  rw [FloatFmt.signOf, show a % 2 ^ fFP32.width = a from Nat.mod_eq_of_lt h]; rfl

theorem floatElem_negate (dir : Nat) {a : Nat} (b c : Nat) (h : a < 2 ^ 32) :
    floatElem .negate .b32 dir a b c = ⟨if a < 2 ^ 31 then a + 2 ^ 31 else a - 2 ^ 31, 0⟩ := by
  change (⟨(if !fFP32.signOf a then 2 ^ 31 else 0) + a % 2 ^ 31, 0⟩ : Fl) = _
  simp only [signOf_binary32 h, Bool.not_eq_true', decide_eq_false_iff_not, Nat.not_le]
  congr 1
  by_cases hs : a < 2 ^ 31
  · rw [if_pos hs, if_pos hs, Nat.mod_eq_of_lt hs, Nat.add_comm]
  · rw [if_neg hs, if_neg hs]; omega

end Sys2Proof.Machine

open Sys2Proof Sys2Proof.Machine

/-- Settles O49: the operation's result from its evaluation, whose integer lanes are words' sums, differences and combinations of bits. -/
theorem vectorOperationsWriteTheirLanes : Obligations.VectorOperationsWriteTheirLanes := by
  refine fun s i n p op fmt rd ra rb rc rm strict r h => ⟨fun hr => ?_, fun hd o ho => ?_,
    fun a b c dir ha => ⟨floatElem_negate dir b c ha, ?_, ?_⟩⟩
  · refine commit_of ((h.issueAt _).trans ?_)
    simp only [hr]
  · refine ⟨_, vecEval_wordOp ho hd fmt strict ra rb rc, gather_noFlags 8 fun r hr => ?_, rfl, rfl, gather_wordLanes ho _ _⟩
    obtain ⟨j, hj, rfl⟩ := List.mem_iff_getElem.mp hr
    rw [List.getElem_zipWith]
  · rfl
  · exact congrArg (fun m => (⟨m, 0⟩ : Fl)) (Nat.mod_eq_of_lt ha)
end

section
/-!
PROOFS. The scalar slot: operations, SETRM, HALT and WAIT, and where a bundle goes on (R247 to R249, Table 10.5).
-/

namespace Sys2Proof.Machine

/-! ### Words and numbers -/

theorem toSigned_toNat (a : Word) : toSigned 64 a.toNat = a.toInt := by
  rw [toSigned, BitVec.toInt_eq_toNat_cond, Nat.mod_eq_of_lt a.isLt]
  exact if_congr (by omega) rfl rfl

theorem ofNat_ofSigned (z : Int) : BitVec.ofNat 64 (ofSigned 64 z) = BitVec.ofInt 64 z := by
  refine BitVec.eq_of_toNat_eq ?_
  rw [BitVec.toNat_ofNat, BitVec.toNat_ofInt, ofSigned]
  omega

theorem shiftOr_inside {op w a n : Nat} (h : n < w) (r : Nat) : shiftOr op w a n r = r := if_pos h

/-- What a scalar operation on words makes of them, as words. -/
theorem ofNat_scalar (a b : Word) :
    BitVec.ofNat 64 ((a.toNat + b.toNat) % 2 ^ 64) = a + b ∧ BitVec.ofNat 64 ((a.toNat + 2 ^ 64 - b.toNat) % 2 ^ 64) = a - b
      ∧ BitVec.ofNat 64 (Nat.land a.toNat b.toNat) = a &&& b ∧ BitVec.ofNat 64 (Nat.lor a.toNat b.toNat) = a ||| b
      ∧ BitVec.ofNat 64 (Nat.xor a.toNat b.toNat) = a ^^^ b := by
  refine ⟨?_, ?_, ?_, ?_, ?_⟩ <;> refine BitVec.eq_of_toNat_eq ?_
  · simp
  · simp only [BitVec.toNat_ofNat, BitVec.toNat_sub]
    omega
  · exact Nat.mod_eq_of_lt (a &&& b).isLt
  · exact Nat.mod_eq_of_lt (a ||| b).isLt
  · exact Nat.mod_eq_of_lt (a ^^^ b).isLt

/-- Shifts by less than a word's width. -/
theorem ofNat_shift {a b : Word} (h : b.toNat < 64) :
    BitVec.ofNat 64 (shiftOr 0 64 a.toNat b.toNat (a.toNat * 2 ^ (b.toNat % 64) % 2 ^ 64)) = a <<< b.toNat
      ∧ BitVec.ofNat 64 (shiftOr 1 64 a.toNat b.toNat (a.toNat / 2 ^ (b.toNat % 64))) = a >>> b.toNat
      ∧ BitVec.ofNat 64 (shiftOr 2 64 a.toNat b.toNat (ofSigned 64 (toSigned 64 a.toNat / 2 ^ (b.toNat % 64))))
        = a.sshiftRight b.toNat := by
  rw [Nat.mod_eq_of_lt h, shiftOr_inside h, shiftOr_inside h, shiftOr_inside h]
  refine ⟨BitVec.eq_of_toNat_eq ?_, BitVec.eq_of_toNat_eq ?_, ?_⟩
  · rw [BitVec.toNat_shiftLeft, Nat.shiftLeft_eq, BitVec.toNat_ofNat, Nat.mod_mod]
  · rw [BitVec.toNat_ushiftRight, Nat.shiftRight_eq_div_pow, BitVec.toNat_ofNat]
    exact Nat.mod_eq_of_lt (Nat.lt_of_le_of_lt (Nat.div_le_self _ _) a.isLt)
  · rw [ofNat_ofSigned, toSigned_toNat, BitVec.sshiftRight, Int.shiftRight_eq_div_pow]
    rfl

/-! ### Scalar operations -/

/-- A tile as its micro-operation issues does not wait. -/
theorem State.tile_issued_waiting (s : State) (i : Issue) (k : Nat) : ((s.issued i k).tile i.tile).waiting = false := by
  rw [State.issued, State.tile_setTile_same]

/-- An operation without a value does what it does to the state. -/
theorem exec_scalarOperation_acts {s u : State} {i : Issue} {op : SOp} {rd ra rb : Nat} {p : ImgSlot} (hk : u.keptParts = s.keptParts)
    (hu : bodyScalarOperation i op rd ra rb s = u.bundleDone p i) : exec (.scalarOperation i op rd ra rb) s = .next (u.bundleDone p i) :=
  commit_of_keptParts hu ((State.bundleDone_keptParts p).trans hk)

section
variable {s : State} {i : Issue} {n : Nat} {p : ImgSlot} (h : s.Issues i slotS n p) (rd ra rb : Nat)
include h

/-- An operation with a value writes it to its destination. -/
theorem exec_scalarOperation_writes {op : SOp} {m : Nat} {v : Word}
    (hm : scalarValue op (s.tileFl i.tile) (((s.issued i slotS).tile i.tile).greg ra).toNat
      (((s.issued i slotS).tile i.tile).greg rb).toNat = some m)
    (hv : BitVec.ofNat 64 m = v) :
    exec (.scalarOperation i op rd ra rb) s
      = .next (((s.issued i slotS).setTile i.tile (((s.issued i slotS).tile i.tile).setGreg rd v)).bundleDone p i) := by
  refine commit_of_keptParts ((h.issueAt _).trans ?_) (by simp)
  subst hv
  have hfl : (s.issued i slotS).tileFl i.tile = s.tileFl i.tile := rfl
  exact congrArg (fun u : State => u.bundleDone p i) (by dsimp only; rw [hfl, hm])

theorem exec_setrm_sets {rm : Nat} (hrm : rm ≤ 4) :
    exec (.setrm i rm) s
      = .next (((s.issued i slotS).setTile i.tile { (s.issued i slotS).tile i.tile with trm := rm }).bundleDone p i) :=
  commit_of_keptParts ((h.issueAt _).trans (by rw [if_pos hrm])) (by simp)

theorem exec_halt_halts :
    exec (.halt i) s = .next ((s.issued i slotS).setTile i.tile { (s.issued i slotS).tile i.tile with halt := 1 }) := by
  have hbody : bodyHalt i s = (s.issued i slotS).haltTile i.tile 1 0 false :=
    (h.issueAt _).trans (State.bundleDone_halted p (by simp))
  rw [State.haltTile_quiet, ← State.tile_issued_waiting s i slotS] at hbody
  exact commit_of_keptParts hbody rfl

end

theorem toNat_bne_zero (a : Word) : (a.toNat != 0) = (a != 0) := by
  rw [Bool.eq_iff_iff, bne_iff_ne, bne_iff_ne, ne_eq, ne_eq, ← BitVec.toNat_inj]; rfl

/-! ### The sticky flags -/

theorem State.tileFl_lt (s : State) (t : Nat) : s.tileFl t < 2 ^ 5 := Nat.mod_lt _ (by decide)

theorem State.tileFl_raiseFl (s : State) (t fl : Nat) : (s.raiseFl t (fl % 32)).tileFl t = Nat.lor (s.tileFl t) (fl % 32) :=
  (State.fld_setFld_same _ _ _ _ _ _).trans (Nat.mod_eq_of_lt (Nat.or_lt_two_pow (s.tileFl_lt t) (Nat.mod_lt _ (by decide))))

theorem State.tileFl_lowerFl (s : State) (t fl : Nat) : (s.lowerFl t fl).tileFl t = Nat.land (s.tileFl t) (31 - fl % 32) :=
  (State.fld_setFld_same _ _ _ _ _ _).trans (Nat.mod_eq_of_lt (Nat.lt_of_le_of_lt Nat.and_le_left (s.tileFl_lt t)))

/-! ### Where a bundle goes on -/

@[simp] theorem State.bundleDone_regs (s : State) (p : ImgSlot) (i : Issue) : (s.bundleDone p i).regs = s.regs := by
  unfold State.bundleDone State.toBundle
  dsimp only
  split_ifs
  · rfl
  · rw [State.haltTile_quiet]; rfl
  · rfl

theorem State.tileFl_bundleDone (s : State) (p : ImgSlot) (i : Issue) (t : Nat) : (s.bundleDone p i).tileFl t = s.tileFl t := by
  simp only [State.tileFl, State.fld, State.reg, State.bundleDone_regs]

/-- After its last micro-operation a bundle gives way to the next, or to the one a branch named; past the last one loaded the tile halts. -/
theorem State.bundleDone_goesOn {v : State} {i : Issue} (p : ImgSlot) (hh : (v.tile i.tile).halt = 0) (hl : i.last = true) :
    let y := v.tile i.tile
    let b := y.next.getD (y.pc + 1)
    ∃ z, v.bundleDone p i = v.setTile i.tile z
      ∧ z = { y with pc := b % 4096, slots := [], next := none, halt := z.halt, waiting := z.waiting }
      ∧ (b < v.storeUsed p → z.halt = 0 ∧ z.waiting = y.waiting) ∧ (v.storeUsed p ≤ b → z.halt = 1) := by
  intro y b
  rw [State.bundleDone_last p hh hl]
  by_cases hb : b < v.storeUsed p
  · exact ⟨_, v.toBundle_inside _ hb, rfl, fun _ => ⟨hh, rfl⟩, fun hn => absurd hb (Nat.not_lt.mpr hn)⟩
  · exact ⟨_, v.toBundle_past _ (Nat.not_lt.mp hb), rfl, fun hn => absurd hn hb, fun _ => rfl⟩

end Sys2Proof.Machine

open Sys2Proof Sys2Proof.Machine

/-- Settles O47: the operations with a value by that value, the others by what they change; the end of a bundle by its next one. -/
theorem scalarOperationsAndControl : Obligations.ScalarOperationsAndControl := by
  intro s i n p rd ra rb h t u x a b leaves writes
  obtain ⟨hadd, hsub, hand, hor, hxor⟩ := ofNat_scalar a b
  have hwrites {op : SOp} {m : Nat} {v : Word} (hm : scalarValue op (s.tileFl t) a.toNat b.toNat = some m) (hv : BitVec.ofNat 64 m = v) :
      writes op v := exec_scalarOperation_writes h rd ra rb hm hv
  refine ⟨hwrites rfl hadd, hwrites rfl hsub, hwrites rfl hand, hwrites rfl hor, hwrites rfl hxor, fun hb => ?_,
    fun v => hwrites rfl (BitVec.ofNat_toNat 64 v), hwrites rfl rfl, fun nz target => ?_, fun l => ?_, fun l target => ?_, ?_,
    fun rm hrm => exec_setrm_sets h hrm, exec_halt_halts h, fun on_ => ⟨fun hw => ?_, fun hw => ?_⟩,
    fun v hh => ⟨fun hl => ?_, fun hl => ?_⟩⟩
  · obtain ⟨hshl, hshr, hsar⟩ := ofNat_shift (a := a) hb
    exact ⟨hwrites rfl hshl, hwrites rfl hshr, hwrites rfl hsar⟩
  · have htaken : ((a.toNat != 0) == nz) = true ↔ (a != 0) = nz := by rw [toNat_bne_zero, beq_iff_eq]
    refine exec_scalarOperation_acts (by split <;> rfl) ((h.issueAt _).trans ?_)
    exact congrArg (fun v : State => v.bundleDone p i) (if_congr htaken rfl rfl)
  · exact exec_scalarOperation_acts rfl (h.issueAt _)
  · refine exec_scalarOperation_acts rfl ((h.issueAt _).trans ?_)
    exact congrArg (fun v : State => v.bundleDone p i) (apply_ite (u.setTile t) _ _ _).symm
  · refine ⟨_, _, exec_scalarOperation_acts (u := u.raiseFl t (a.toNat % 32)) rfl (h.issueAt _),
      exec_scalarOperation_acts (u := u.lowerFl t a.toNat) rfl (h.issueAt _), ?_, ?_, ?_, ?_⟩
    · rw [State.tileFl_bundleDone, State.tileFl_raiseFl]; rfl
    · rw [State.tileFl_bundleDone, State.tileFl_lowerFl]; rfl
    · exact (s.regsBut_setReg _ _ _).of_regs (State.bundleDone_regs _ _ _)
    · exact (s.regsBut_setReg _ _ _).of_regs (State.bundleDone_regs _ _ _)
  · exact commit_of_keptParts (h.issueAt_met (c := .wait on_) hw _) (State.bundleDone_keptParts p)
  · exact commit_of_keptParts (h.issueAt_unmet (c := .wait on_) hw _) rfl
  · exact State.bundleDone_notLast p hl
  · exact State.bundleDone_goesOn p hh hl
end

section
/-!
PROOFS. The cube and the long adder (R55 to R67, R238 to R246).
-/

namespace Sys2Proof.Machine

/-- Reads of sound SRAM, none outside it, go on. -/
theorem State.sramReads_sound {s : State} {i : Issue} (user : Bool) (act : State → State) (hp : (s.tile i.tile).poison = [])
    {ps : List (Nat × Nat)} (h : ∀ q ∈ ps, q.1 + q.2 ≤ sramBytes) : s.sramReads i user .clean act ps = act s := by
  induction ps with
  | nil => rfl
  | cons q ps ih =>
    obtain ⟨hq, hps⟩ := List.forall_mem_cons.mp h
    rw [State.sramReads, State.sramRead_sound _ hq (Tile.poisonIn_nil hp _ _)]
    exact ih hps

/-- The events of a tile's arithmetic leave its cube's cycle count alone. -/
theorem State.fld_tileCubecyc_events (s : State) (t : Nat) (user : Bool) (ctx sat flush : Nat) :
    (s.events t user ctx sat flush).fld .tileCubecyc (tileIdx t) 63 0 = s.fld .tileCubecyc (tileIdx t) 63 0 := by
  obtain ⟨hsat, hflush, -, hcyc⟩ := addr_tile_mod t
  have hctx : Reg.addr .ctxDup [ctx] % 64 = 0x28 := by simp [Reg.addr, Reg.place]
  have hkeeps {r : Reg} {is : List Nat} (h : Reg.addr r is % 64 ≠ 0x30) (v : State) (hi lo n : Nat) :
      (v.bump r is hi lo n).fld .tileCubecyc (tileIdx t) 63 0 = v.fld .tileCubecyc (tileIdx t) 63 0 :=
    v.fld_bump_other _ _ _ _ _ _ _ _ _ fun he => h (he ▸ hcyc)
  unfold State.events
  cases user with
  | true => exact (hkeeps (by omega) _ _ _ _).trans (hkeeps (by omega) _ _ _ _)
  | false =>
    rw [if_neg Bool.false_ne_true]
    cases s.ctx? ctx with
    | none => rfl
    | some c =>
      dsimp only
      split
      · exact (hkeeps (by omega) _ _ _ _).trans (hkeeps (by omega) _ _ _ _)
      · rfl

/-! ### The cube -/

section
variable {s : State} {i : Issue} {n : Nat} {p : ImgSlot} (h : s.Issues i slotC n p) {set_ : Nat} (hset : set_ < 4)
include h hset

theorem bodyCubeLdc_loads {addr : Nat} (hin : addr + 64 ≤ sramBytes) (hp : ((s.issued i slotC).tile i.tile).poisonIn addr 64 = false) :
    let x := (s.issued i slotC).tile i.tile
    bodyCubeLdc i set_ addr .clean s = ((s.issued i slotC).setTile i.tile { x with
      cube := x.cube.set set_ ((pieces 4 (Memory.read x.sram addr 64)).map beNat)
      cubeBad := x.cubeBad.filter fun c => c != set_ }).bundleDone p i := by
  refine (if_neg (Nat.not_le.mpr hset)).trans ((h.issueAt _).trans ?_)
  rw [State.sramRead_sound _ hin hp]

theorem bodyCubeStc_stores {addr : Nat} {bs : List Byte}
    (hbs : bs = (((s.issued i slotC).tile i.tile).cube.get set_ (List.replicate 16 0)).flatMap (natBytes 4))
    (hin : addr + bs.length ≤ sramBytes)
    (hok : p.image.user = true → ∀ w ∈ partWords addr bs.length, ((s.issued i slotC).tile i.tile).poison.contains w = false) :
    let x := (s.issued i slotC).tile i.tile
    bodyCubeStc i set_ addr .clean s = ((s.issued i slotC).setTile i.tile
      (if x.cubeBad.contains set_ then (x.storeBytes addr bs).poisonWords addr 64 else x.storeBytes addr bs)).bundleDone p i := by
  have hrun := h.tile_notHalted
  refine (if_neg (Nat.not_le.mpr hset)).trans ((h.issueAt _).trans ?_)
  dsimp only
  rw [← hbs, State.sramWrite_clean hin hok, State.tile_setTile_same, Tile.storeBytes_halt, hrun, State.setTile_setTile]
  rw [apply_ite ((s.issued i slotC).setTile i.tile)]
  exact congrArg (fun u : State => u.bundleDone p i) (if_congr (and_iff_left rfl) rfl rfl)

/-- The state after a CUBE_MM on sound SRAM whose accumulators come out as `cs`. -/
def State.cubeDone (u : State) (i : Issue) (user : Bool) (set_ : Nat) (cs : List Conv) (cycles : Nat) : State :=
  let x := u.tile i.tile
  ((u.setTile i.tile { x with cube := x.cube.set set_ (cs.map Conv.pat) }).events i.tile user i.ctx (cs.map Conv.sat).sum
    (cs.map Conv.flush).sum).count64 .tileCubecyc (tileIdx i.tile) cycles

theorem bodyCubeMm_multiplies {aFmt bFmt : Nat} {fa fb : Fmt} {int : Bool} (ha : Fmt.ofCode aFmt = some fa) (hb : Fmt.ofCode bFmt = some fb)
    (hia : fa.cubeInput = true) (hib : fb.cubeInput = true) (hint : int = true → fa = .int8 ∧ fb = .int8)
    (hp : ((s.issued i slotC).tile i.tile).poison = []) {aAddr aPitch bAddr bPitch depth : Nat}
    (hin : ∀ q ∈ rowPieces fa aAddr aPitch depth (cubeK fa fb) ++ rowPieces fb bAddr bPitch depth (cubeK fa fb), q.1 + q.2 ≤ sramBytes)
    (strict : Bool) :
    let x := (s.issued i slotC).tile i.tile
    bodyCubeMm i aAddr aPitch aFmt bAddr bPitch bFmt depth set_ int strict true .clean s
      = ((s.issued i slotC).cubeDone i p.image.user set_
          (cubeMM int strict (cubeK fa fb) (x.cubeRows fa aAddr aPitch depth (cubeK fa fb)) (x.cubeRows fb bAddr bPitch depth (cubeK fa fb))
            (x.cube.get set_ (List.replicate 16 0))) (cubeCycles fa fb)).bundleDone p i := by
  have hguard : (!fa.cubeInput || !fb.cubeInput || (int && !(fa == .int8 && fb == .int8)) || decide (4 ≤ set_)) = false := by
    cases int with
    | false => simp [hia, hib, hset]
    | true =>
      obtain ⟨rfl, rfl⟩ := hint rfl
      simp [hia, hset]
  intro x
  simp only [bodyCubeMm, ha, hb, hguard, Bool.false_eq_true, if_false]
  rw [h.issueAt, State.sramReads_sound _ _ hp hin]
  rfl

end

section
variable (u : State) (i : Issue) (user : Bool) (set_ : Nat) (cs : List Conv) (cycles : Nat)

@[simp] theorem State.cubeDone_keptParts : (u.cubeDone i user set_ cs cycles).keptParts = u.keptParts := by simp [State.cubeDone]

theorem State.cubeDone_fab : (u.cubeDone i user set_ cs cycles).fab
    = (u.setTile i.tile { u.tile i.tile with cube := (u.tile i.tile).cube.set set_ (cs.map Conv.pat) }).fab := by simp [State.cubeDone]

theorem State.tile_cubeDone : (u.cubeDone i user set_ cs cycles).tile i.tile
    = { u.tile i.tile with cube := (u.tile i.tile).cube.set set_ (cs.map Conv.pat) } := by
  rw [State.tile_of_fab (u.cubeDone_fab i user set_ cs cycles), State.tile_setTile_same]

theorem State.tilesBut_cubeDone : u.tilesBut (u.cubeDone i user set_ cs cycles) i.tile :=
  (u.tilesBut_setTile _ _).trans (State.tilesBut_of_fab (u.cubeDone_fab i user set_ cs cycles) _)

theorem State.cycles_cubeDone : (u.cubeDone i user set_ cs cycles).fld .tileCubecyc (tileIdx i.tile) 63 0
    = satAdd 64 (u.fld .tileCubecyc (tileIdx i.tile) 63 0) cycles := by
  rw [State.cubeDone, State.fld_count64_same, State.fld_tileCubecyc_events]; rfl

end

/-! ### The long adder -/

/-- An issue leaves the rounding direction. -/
theorem State.dir_issued (s : State) (i : Issue) (k rm : Nat) : ((s.issued i k).tile i.tile).dir rm = (s.tile i.tile).dir rm := by
  rw [State.issued, State.tile_setTile_same]; rfl

section
variable {s : State} {i : Issue} {n : Nat} {p : ImgSlot} (h : s.Issues i slotM n p) {addr wmode : Nat} {anchor : Int} {f : Fmt} {w : Window}
  (hw : windowOf wmode anchor f = some w) (hp : ((s.issued i slotM).tile i.tile).poison = [])
include h hw hp

theorem bodyLaAdd_adds {fmt vr : Nat} (hf : Fmt.ofCode fmt = some f) (hr : f.reductionInput = true)
    (hin : addr + w.width / 8 * (laElems ((s.issued i slotM).tile i.tile) f w vr).length ≤ sramBytes) :
    let u := s.issued i slotM
    let x := u.tile i.tile
    let es := laElems x f w vr
    let r := List.zipWith (fun b v => Accum.add w (Accum.ofPattern w (beNat b)) v)
      (pieces (w.width / 8) (Memory.read x.sram addr (w.width / 8 * es.length))) es
    bodyLaAdd i addr wmode anchor fmt vr .clean s
      = ((u.sramWrite i.tile p.image.user addr (r.flatMap fun a => natBytes (w.width / 8) (a.acc.pattern w)) .clean).events i.tile
          p.image.user i.ctx (r.map Added.sat).sum (r.map Added.flush).sum).bundleDone p i := by
  simp only [bodyLaAdd, hf, hw, hr]
  refine (h.issueAt _).trans ?_
  rw [State.sramRead_sound _ hin (Tile.poisonIn_nil hp _ _), Tile.poisonIn_nil hp]
  rfl

theorem bodyLaFin_rounds {src m divisor fmt dst rm : Nat} {g : Fmt} (hf : Fmt.ofCode src = some f) (hg : Fmt.ofCode fmt = some g)
    (ho : g.output = true) (hd : ((s.issued i slotM).tile i.tile).dir rm ≤ 4) (hin : addr + w.width / 8 * m ≤ sramBytes) (strict : Bool) :
    let u := s.issued i slotM
    let x := u.tile i.tile
    let e := encodePayload g (x.dir rm) strict
      ((pieces (w.width / 8) (Memory.read x.sram addr (w.width / 8 * m))).map fun b => (Accum.ofPattern w (beNat b)).value w divisor)
    bodyLaFin i addr wmode anchor src m divisor fmt dst rm strict .clean s
      = ((u.sramWrite i.tile p.image.user dst e.bytes .clean).events i.tile p.image.user i.ctx e.sat e.flush).bundleDone p i := by
  have hguard : (g.output && decide ((s.tile i.tile).dir rm ≤ 4)) = true := by simpa [ho, State.dir_issued] using hd
  simp only [bodyLaFin, hf, hg, hw, hguard]
  refine (h.issueAt _).trans ?_
  rw [State.sramRead_sound _ hin (Tile.poisonIn_nil hp _ _), Tile.poisonIn_nil hp]
  simp [eccBeyond]

end

end Sys2Proof.Machine

open Sys2Proof Sys2Proof.Machine

/-- Settles O50: each operation by its reads of sound SRAM, what it computes from them, and its one write. -/
theorem cubeAndLongAdder : Obligations.CubeAndLongAdder := by
  refine ⟨fun s i n p set_ h hset _ => ⟨fun addr hin hp => ?_, ?_, ?_⟩, fun s i n p addr h => ⟨?_, ?_⟩⟩
  · exact commit_of_keptParts (bodyCubeLdc_loads h hset hin hp) (by simp)
  · intro addr bs hin hok y
    exact commit_of_keptParts (bodyCubeStc_stores h hset rfl hin hok) (by simp)
  · intro aFmt bFmt fa fb aAddr aPitch bAddr bPitch depth int strict ha hb hia hib hint hp k hin rows cs
    have hbody := bodyCubeMm_multiplies h hset ha hb hia hib hint hp hin strict
    refine ⟨_, commit_of_keptParts hbody (by simp), ?_, State.tile_cubeDone _ _ _ _ _ _, State.cycles_cubeDone _ _ _ _ _ _⟩
    exact (s.tilesBut_setTile _ _).trans (State.tilesBut_cubeDone _ _ _ _ _ _)
  · intro wmode anchor fmt f w vr hf hr hw es z hin hp
    exact commit_of (bodyLaAdd_adds h hw hp hf hr hin)
  · intro wmode anchor src f w m divisor fmt g dst rm strict hf hw hg ho hd z hin hp
    exact commit_of (bodyLaFin_rounds h hw hp hf hg ho hd hin strict)
end

section
/-!
PROOFS. SEND and RECV (R248, R255 to R258, R260, Table 11.1).
-/

namespace Sys2Proof.Machine

/-! ### General registers -/

@[simp] theorem Tile.greg_setGreg_same (x : Tile) (r : Nat) (v : Word) : (x.setGreg r v).greg r = v := by simp [Tile.greg, Tile.setGreg]

theorem Tile.greg_setGreg_other (x : Tile) {r q : Nat} (v : Word) (hr : r < 64) (hq : q < 64) (h : q ≠ r) :
    (x.setGreg r v).greg q = x.greg q := by
  simp only [Tile.greg, Tile.setGreg, Nat.mod_eq_of_lt hr, Nat.mod_eq_of_lt hq]
  exact Tbl.get_set_other _ _ _ h

/-! ### SEND -/

theorem ite_not_eq_true {α : Type} (b : Bool) (x y : α) : (if (!b) = true then x else y) = if b = true then y else x := by cases b <;> rfl

section
variable {s : State} {i : Issue} {n : Nat} {p : ImgSlot} (h : s.Issues i slotM n p) {dst : SendTo}
  {addr len vc queue tag : Nat} {user : Word}
include h

theorem bodySend_delayed (hc : s.holdMet i.tile (.send (sendChannel dst vc) len) = false) :
    bodySend i dst addr len vc queue tag user .clean s
      = s.setTile i.tile { s.tile i.tile with pc := i.bundle % 4096, held := true, waiting := false } := by
  simp only [bodySend, h.issueAt_unmet hc, holdWaits]

variable (hc : s.holdMet i.tile (.send (sendChannel dst vc) len) = true)
include hc

theorem bodySend_foreign (hout : sendInside p dst = false) :
    bodySend i dst addr len vc queue tag user .clean s
      = ((s.issued i slotM).meshDrop i.tile (sendM0 p dst (sendChannel dst vc) len queue) 63 48).bundleDone p i :=
  by simp [bodySend, h.issueAt_met hc, hout]

theorem bodySend_formed (hin : sendInside p dst = true) (hsram : addr + len ≤ sramBytes)
    (hp : ((s.issued i slotM).tile i.tile).poisonIn addr len = false) :
    let u := s.issued i slotM
    let m0 := sendM0 p dst (sendChannel dst vc) len queue
    let pkt : MeshPkt := ⟨BitVec.ofNat 64 m0, BitVec.ofNat 64 (sendM1 i.x i.y n tag), user, Memory.read (u.tile i.tile).sram addr len⟩
    bodySend i dst addr len vc queue tag user .clean s
      = (if headerOk pkt then u.meshPush (meshAt i.tile 4 (sendChannel dst vc)) pkt else u.meshDrop i.tile m0 31 16).bundleDone p i := by
  intro u m0 pkt
  simp only [bodySend, h.issueAt_met hc, ite_not_eq_true, hin, if_true, State.sramRead_sound _ hsram hp]
  rfl

end

/-- The fields of M0 that a SEND to a tile puts together (Table 11.1), which a router accepts. -/
theorem mfield_sendM0 {p : ImgSlot} {dx dy len vc queue : Nat} {q : MeshPkt} (hx : p.x0 + dx < 220) (hy : p.y0 + dy < 96) (hvc : vc < 3)
    (hlen : len ≤ 4136) (hqueue : queue < 16) (hq : q.m0 = BitVec.ofNat 64 (sendM0 p (.tile dx dy) vc len queue)) :
    mfield q 63 62 = 0 ∧ mfield q 61 60 = vc ∧ mfield q 59 52 = p.x0 + dx ∧ mfield q 51 45 = p.y0 + dy ∧ mfield q 28 16 = len
      ∧ mfield q 15 8 = p.pgen % 256 ∧ mfield q 7 0 = queue := by
  have hword : q.m0.toNat = vc * 2 ^ 60 + (p.x0 + dx) * 2 ^ 52 + (p.y0 + dy) * 2 ^ 45 + len * 2 ^ 16 + p.pgen % 256 * 2 ^ 8 + queue := by
    rw [hq, BitVec.toNat_ofNat]
    simp only [sendM0]
    omega
  simp only [mfield, Word.field, hword]
  omega

theorem headerOk_unicast {q : MeshPkt} (hmode : mfield q 63 62 = 0) (hvc : mfield q 61 60 < 3) (hx : mfield q 59 52 < 220)
    (hy : mfield q 51 45 < 96) (hlen : mfield q 28 16 ≤ 4136) (hqueue : mfield q 7 0 < 16) : headerOk q = true := by
  have hok : unicastOk q = true := by simp [unicastOk, hx, hy]
  simp only [headerOk, hmode, hok, if_true, Bool.and_eq_true, Bool.or_eq_true, decide_eq_true_eq]
  exact ⟨⟨⟨⟨by decide, by omega⟩, hlen⟩, .inl (by omega)⟩, trivial⟩

/-! ### RECV -/

/-- The tile that has taken a packet's header into three registers (R248, R260). -/
def Tile.received (x : Tile) (queue rd : Nat) (p : MeshPkt) (rest : List MeshPkt) : Tile :=
  { (((x.setGreg rd p.m0).setGreg (rd + 1) p.m1).setGreg (rd + 2) p.m2) with inbox := x.inbox.set queue rest }

theorem bodyRecv_takes {s : State} {i : Issue} {n : Nat} {p : ImgSlot} (h : s.Issues i slotM n p) {queue : Nat} {pkt : MeshPkt}
    {rest : List MeshPkt} (hin : ((s.issued i slotM).tile i.tile).inbox.get queue [] = pkt :: rest) (rd : Nat) :
    bodyRecv i queue rd s
      = ((s.issued i slotM).setTile i.tile (((s.issued i slotM).tile i.tile).received queue rd pkt rest)).bundleDone p i :=
  (h.issueAt _).trans (by simp only [hin]; rfl)

theorem Tile.received_only (x : Tile) (queue rd : Nat) (p : MeshPkt) (rest : List MeshPkt) :
    x.received queue rd p rest = { x with gregs := (x.received queue rd p rest).gregs, inbox := x.inbox.set queue rest } := rfl

theorem Tile.greg_received (x : Tile) (queue : Nat) {rd : Nat} (p : MeshPkt) (rest : List MeshPkt) (hrd : rd + 2 < 64) :
    let v := x.received queue rd p rest
    v.greg rd = p.m0 ∧ v.greg (rd + 1) = p.m1 ∧ v.greg (rd + 2) = p.m2 ∧ ∀ r, r < 64 → r < rd ∨ rd + 2 < r → v.greg r = x.greg r := by
  intro v
  have hv (r : Nat) : v.greg r = (((x.setGreg rd p.m0).setGreg (rd + 1) p.m1).setGreg (rd + 2) p.m2).greg r := rfl
  refine ⟨?_, ?_, ?_, fun r hr hne => ?_⟩
  · rw [hv, Tile.greg_setGreg_other _ _ hrd (by omega) (by omega), Tile.greg_setGreg_other _ _ (by omega) (by omega) (by omega),
      Tile.greg_setGreg_same]
  · rw [hv, Tile.greg_setGreg_other _ _ hrd (by omega) (by omega), Tile.greg_setGreg_same]
  · rw [hv, Tile.greg_setGreg_same]
  · rw [hv, Tile.greg_setGreg_other _ _ hrd hr (by omega), Tile.greg_setGreg_other _ _ (by omega) hr (by omega),
      Tile.greg_setGreg_other _ _ (by omega) hr (by omega)]

end Sys2Proof.Machine
end

section
/-!
PROOFS. The way of mesh packets through the routers, their delivery, and the return of credits (R256 to R258, R260, R261, R278).
-/

namespace Sys2Proof.Machine

/-! ### Input buffers -/

theorem meshTile_meshAt (t : Nat) {d vc : Nat} (hd : d < 5) (hvc : vc < 3) : meshTile (meshAt t d vc) = t := by
  unfold meshTile meshAt; omega

theorem meshVc_meshAt (t d : Nat) {vc : Nat} (hvc : vc < 3) : meshVc (meshAt t d vc) = vc := by unfold meshVc meshAt; omega

theorem tileNo_mod {x : Nat} (y : Nat) (hx : x < 220) : tileNo x y % 220 = x ∧ tileNo x y / 220 = y := by unfold tileNo; omega

@[simp] theorem State.meshBuf_setMeshBuf_same (s : State) (b : Nat) (m : MeshBuf) : (s.setMeshBuf b m).meshBuf b = m := by
  simp [State.meshBuf]

theorem State.meshBuf_setMeshBuf_other (s : State) {b n : Nat} (m : MeshBuf) (h : n ≠ b) : (s.setMeshBuf b m).meshBuf n = s.meshBuf n :=
  Tbl.get_set_other _ _ _ h

theorem State.meshBuf_of_fab {s u : State} (h : u.fab = s.fab) (b : Nat) : u.meshBuf b = s.meshBuf b := by rw [State.meshBuf, h]; rfl

theorem State.meshBuf_meshPop_other (s : State) {b n : Nat} (h : n ≠ b) : (s.meshPop b).meshBuf n = s.meshBuf n := by
  unfold State.meshPop
  split
  · rfl
  · exact s.meshBuf_setMeshBuf_other _ h

theorem State.meshBuf_meshPush_same (s : State) (b : Nat) (p : MeshPkt) :
    ((s.meshPush b p).meshBuf b).pkts = (s.meshBuf b).pkts ++ [p] := by
  rw [State.meshPush, State.meshBuf_setMeshBuf_same]

/-- The buffer at the other end of an output is of another router. -/
theorem meshTile_beyond {t way vc nb : Nat} (hvc : vc < 3) (h : beyond t way vc = some nb) : meshTile nb ≠ t := by
  unfold beyond at h
  dsimp only at h
  split at h <;> split at h <;> cases h
  · rw [meshTile_meshAt _ (by decide) hvc]; omega
  · rw [meshTile_meshAt _ (by decide) hvc]; omega
  · rw [meshTile_meshAt _ (by decide) hvc]; omega
  · rw [meshTile_meshAt _ (by decide) hvc]; omega

/-! ### Delivery -/

theorem State.sramFinds_tilesBut (s : State) (t a n : Nat) (e : SramEcc) : s.tilesBut (s.sramFinds t a n e) t := by
  unfold State.sramFinds
  split
  · exact State.tilesBut_of_fab rfl t
  · split
    · exact State.tilesBut_of_fab ((State.tileFault_fab _ _ _ _).trans (State.count64_fab _ _ _ _)) t
    · exact State.tilesBut_of_fab rfl t
  · split
    · exact (State.tilesBut_setTile _ _ _).trans (State.tilesBut_of_fab ((State.tileFault_fab _ _ _ _).trans (State.count64_fab _ _ _ _)) t)
    · exact State.tilesBut_of_fab rfl t

theorem State.sramFinds_inbox (s : State) (t a n : Nat) (e : SramEcc) : ((s.sramFinds t a n e).tile t).inbox = (s.tile t).inbox := by
  unfold State.sramFinds
  split
  · rfl
  · split <;> simp
  · split <;> simp

theorem State.partFinds_tilesBut (s : State) (t a n : Nat) (e : SramEcc) : s.tilesBut (s.partFinds t a n e) t :=
  List.foldlRecOn (motive := fun u => s.tilesBut u t) _ _ (State.tilesBut_of_fab rfl t)
    fun u h _ _ => h.trans (u.sramFinds_tilesBut _ _ _ _)

theorem State.partFinds_inbox (s : State) (t a n : Nat) (e : SramEcc) : ((s.partFinds t a n e).tile t).inbox = (s.tile t).inbox :=
  foldl_keeps (fun u : State => (u.tile t).inbox) _ (fun u _ => u.sramFinds_inbox _ _ _ _) _ s

section
variable (s : State) (t base size place : Nat) (bs : List Byte) (e : SramEcc)

theorem State.ringWrite_tilesBut : s.tilesBut (s.ringWrite t base size place bs e) t :=
  ((s.partFinds_tilesBut _ _ _ _).trans (State.partFinds_tilesBut _ _ _ _ _)).trans (State.tilesBut_setTile _ _ _)

theorem State.ringWrite_inbox : ((s.ringWrite t base size place bs e).tile t).inbox = (s.tile t).inbox := by
  simp only [State.ringWrite, State.tile_setTile_same, Tile.storeBytes_inbox, State.partFinds_inbox]

end

/-- A packet that its queue takes is the queue's last, and no other tile sees it (R260). -/
theorem State.queueIn_takes {s z : State} {t : Nat} {p : MeshPkt} {e : SramEcc} (h : s.queueIn t p e = some z) :
    (z.tile t).inbox.get (mfield p 7 0) [] = (s.tile t).inbox.get (mfield p 7 0) [] ++ [p] ∧ s.tilesBut z t := by
  unfold State.queueIn at h
  dsimp only at h
  split at h
  · cases h
  · split at h
    · cases h
    · cases h
      refine ⟨?_, (s.ringWrite_tilesBut _ _ _ _ _ _).trans (State.tilesBut_setTile _ _ _)⟩
      rw [State.tile_setTile_same, Tbl.get_set_same, State.ringWrite_inbox]

section
variable {u : State} {t : Nat} {p : MeshPkt} {unicast : Bool} {e : SramEcc}

theorem State.meshLocal_unhoused (h : u.fab.retired.contains t = true ∨ u.partOf t = none) :
    u.meshLocal t p true e = some (u.meshDrop t p.m0.toNat 63 48) := by
  have hnone : (if u.fab.retired.contains t then none else u.partOf t) = none := by
    rcases h with h | h
    · exact if_pos h
    · rw [h]; exact ite_self _
  rw [State.meshLocal, hnone]; rfl

variable {n : Nat} {q : ImgSlot} (hr : u.fab.retired.contains t = false) (hq : u.partOf t = some (n, q))
include hr hq

theorem State.meshLocal_foreign (hn : p.m1.field 48 42 ≠ n) (he : p.m1.field 48 42 ≠ 127) :
    u.meshLocal t p true e = some (u.meshDrop t p.m0.toNat 63 48) := by
  simp only [State.meshLocal, hr, hq, Bool.false_eq_true, if_false, if_pos (And.intro hn he), if_true]

theorem State.meshLocal_stale (hn : p.m1.field 48 42 = n ∨ p.m1.field 48 42 = 127) (hg : mfield p 15 8 ≠ q.pgen % 256) :
    u.meshLocal t p unicast e = some (u.meshDrop t p.m0.toNat 47 32) := by
  have hin : ¬(p.m1.field 48 42 ≠ n ∧ p.m1.field 48 42 ≠ 127) := by omega
  simp only [State.meshLocal, hr, hq, Bool.false_eq_true, if_false, if_neg hin, if_pos hg]

theorem State.meshLocal_queued (hn : p.m1.field 48 42 = n ∨ p.m1.field 48 42 = 127) (hg : mfield p 15 8 = q.pgen % 256) :
    u.meshLocal t p unicast e = u.queueIn t p e := by
  have hin : ¬(p.m1.field 48 42 ≠ n ∧ p.m1.field 48 42 ≠ 127) := by omega
  simp only [State.meshLocal, hr, hq, Bool.false_eq_true, if_false, if_neg hin, if_neg (not_not_intro hg)]

end

/-! ### One router's work -/

section
variable {u : State} {b way nb : Nat} {p : MeshPkt}

theorem State.meshForward_leaves (h : beyond (meshTile b) way (meshVc b) = none) : u.meshForward b way p = some (u.meshPop b, none) := by
  rw [State.meshForward, h]

theorem State.meshForward_blocked (h : beyond (meshTile b) way (meshVc b) = some nb)
    (hb : u.fab.routers.contains (meshTile nb) = true ∨ u.meshCredit nb < flits p.data.length) : u.meshForward b way p = none := by
  rw [State.meshForward, h]; exact if_pos hb

theorem State.meshForward_passes (h : beyond (meshTile b) way (meshVc b) = some nb) (hr : u.fab.routers.contains (meshTile nb) = false)
    (hc : flits p.data.length ≤ u.meshCredit nb) : u.meshForward b way p = some ((u.meshPop b).meshPush nb p, some nb) := by
  rw [State.meshForward, h]; exact if_neg (by rw [hr]; simpa using hc)

end

section
variable {u : State} {b x y : Nat} {p : MeshPkt} {rest : List MeshPkt} (hpkts : (u.meshBuf b).pkts = p :: rest) (hx : x < 220)
  (ht : meshTile b = tileNo x y) (hr : u.fab.routers.contains (tileNo x y) = false) {e : SramEcc}
include hpkts hx ht hr

theorem State.meshHop_unicast (hm : mfield p 63 62 = 0) :
    u.meshHop b e = if unicastWay p x y = 4 then (u.meshLocal (tileNo x y) p true e).map fun s => (s.meshPop b, none)
      else u.meshForward b (unicastWay p x y) p := by
  obtain ⟨hcol, hrow⟩ := tileNo_mod y hx
  simp only [State.meshHop, hpkts, ht, hr, hcol, hrow, hm, Bool.false_eq_true, if_false, if_true]

theorem State.meshHop_multicast (hm : mfield p 63 62 ≠ 0) (hon : onSegment p (linePlace p x y) = true) :
    u.meshHop b e = (u.meshLocal (tileNo x y) p false e).bind fun z =>
      if linePlace p x y = mfield p 36 29 then some (z.meshPop b, none) else z.meshForward b (lineWay p (linePlace p x y)) p := by
  obtain ⟨hcol, hrow⟩ := tileNo_mod y hx
  simp only [State.meshHop, hpkts, ht, hr, hcol, hrow, hm, hon, Bool.false_eq_true, if_false, Bool.not_true]
  cases u.meshLocal (tileNo x y) p false e <;> rfl

end

/-! ### A packet's way -/

section
variable {u v : State} {b nb f : Nat} {e : SramEcc}

theorem State.meshRun_waits (h : u.meshHop b e = none) : State.meshRun (f + 1) u b e = u := by simp only [State.meshRun, h]

theorem State.meshRun_ends (h : u.meshHop b e = some (v, none)) : State.meshRun (f + 1) u b e = v := by simp only [State.meshRun, h]

end

section
variable {u : State} {b x y f : Nat} {p : MeshPkt} {rest : List MeshPkt} (hpkts : (u.meshBuf b).pkts = p :: rest) (hx : x < 220)
  (ht : meshTile b = tileNo x y) (hr : u.fab.routers.contains (tileNo x y) = false) {e : SramEcc}
include hpkts hx ht hr

section
variable (hm : mfield p 63 62 = 0)
include hm

theorem State.meshRun_delivers {z : State} (hway : unicastWay p x y = 4) (hz : u.meshLocal (tileNo x y) p true e = some z) :
    State.meshRun (f + 1) u b e = z.meshPop b :=
  State.meshRun_ends (by rw [State.meshHop_unicast hpkts hx ht hr hm, if_pos hway, hz]; rfl)

theorem State.meshRun_full (hway : unicastWay p x y = 4) (hz : u.meshLocal (tileNo x y) p true e = none) :
    State.meshRun (f + 1) u b e = u :=
  State.meshRun_waits (by rw [State.meshHop_unicast hpkts hx ht hr hm, if_pos hway, hz]; rfl)

variable (hway : unicastWay p x y ≠ 4)
include hway

theorem State.meshRun_leaves (hedge : beyond (meshTile b) (unicastWay p x y) (meshVc b) = none) :
    State.meshRun (f + 1) u b e = u.meshPop b :=
  State.meshRun_ends (by rw [State.meshHop_unicast hpkts hx ht hr hm, if_neg hway, State.meshForward_leaves hedge])

variable {nb : Nat} (hnb : beyond (meshTile b) (unicastWay p x y) (meshVc b) = some nb)
include hnb

theorem State.meshRun_blocked (hb : u.fab.routers.contains (meshTile nb) = true ∨ u.meshCredit nb < flits p.data.length) :
    State.meshRun (f + 1) u b e = u :=
  State.meshRun_waits (by rw [State.meshHop_unicast hpkts hx ht hr hm, if_neg hway, State.meshForward_blocked hnb hb])

/-- A unicast goes on at once from a next router whose buffer was empty. -/
theorem State.meshRun_passes (hne : nb ≠ b) (hfree : u.fab.routers.contains (meshTile nb) = false)
    (hc : flits p.data.length ≤ u.meshCredit nb) :
    State.meshRun (f + 1) u b e
      = if (u.meshBuf nb).pkts = [] then State.meshRun f ((u.meshPop b).meshPush nb p) nb e else (u.meshPop b).meshPush nb p := by
  have hhop : u.meshHop b e = some ((u.meshPop b).meshPush nb p, some nb) := by
    rw [State.meshHop_unicast hpkts hx ht hr hm, if_neg hway, State.meshForward_passes hnb hfree hc]
  simp [State.meshRun, hhop, hpkts, hm, State.meshBuf_meshPush_same, State.meshBuf_meshPop_other _ hne]

end

variable (hm : mfield p 63 62 ≠ 0) (hon : onSegment p (linePlace p x y) = true)
include hm hon

theorem State.meshRun_copyFull (hz : u.meshLocal (tileNo x y) p false e = none) : State.meshRun (f + 1) u b e = u :=
  State.meshRun_waits (by rw [State.meshHop_multicast hpkts hx ht hr hm hon, hz]; rfl)

variable {z : State} (hz : u.meshLocal (tileNo x y) p false e = some z)
include hz

theorem State.meshRun_lastCopy (hend : linePlace p x y = mfield p 36 29) : State.meshRun (f + 1) u b e = z.meshPop b :=
  State.meshRun_ends (by rw [State.meshHop_multicast hpkts hx ht hr hm hon, hz]; exact if_pos hend)

variable (hend : linePlace p x y ≠ mfield p 36 29) {nb : Nat}
  (hnb : beyond (meshTile b) (lineWay p (linePlace p x y)) (meshVc b) = some nb)
include hend hnb

theorem State.meshRun_copyBlocked (hb : z.fab.routers.contains (meshTile nb) = true ∨ z.meshCredit nb < flits p.data.length) :
    State.meshRun (f + 1) u b e = u :=
  State.meshRun_waits (by
    rw [State.meshHop_multicast hpkts hx ht hr hm hon, hz]
    exact (if_neg hend).trans (State.meshForward_blocked hnb hb))

/-- A multicast that has delivered a copy stops in the next router. -/
theorem State.meshRun_copies (hfree : z.fab.routers.contains (meshTile nb) = false) (hc : flits p.data.length ≤ z.meshCredit nb) :
    State.meshRun (f + 1) u b e = (z.meshPop b).meshPush nb p := by
  obtain ⟨hcol, hrow⟩ := tileNo_mod y hx
  have hhop : u.meshHop b e = some ((z.meshPop b).meshPush nb p, some nb) := by
    rw [State.meshHop_multicast hpkts hx ht hr hm hon, hz]
    exact (if_neg hend).trans (State.meshForward_passes hnb hfree hc)
  simp [State.meshRun, hhop, hpkts, hm, ht, hcol, hrow, hon]

end

/-! ### The commands -/

/-- The state with a packet from a stream engine, if one comes first, and with the ties at outputs counted. -/
def State.meshReady (s : State) (feed : Option Feed) (ties : List Nat) : State :=
  ties.foldl (fun (s : State) n => s.tieCount n 1) (feed.elim s s.feedMesh)

theorem State.foldl_tieCount_fab (s : State) (ties : List Nat) : (ties.foldl (fun (s : State) n => s.tieCount n 1) s).fab = s.fab :=
  foldl_keeps State.fab _ (fun u n => by rw [u.tieCount_only]) ties s

theorem State.meshBuf_meshReady (s : State) (feed : Option Feed) (ties : List Nat) (b : Nat) :
    (s.meshReady feed ties).meshBuf b = (feed.elim s s.feedMesh).meshBuf b := State.meshBuf_of_fab (State.foldl_tieCount_fab _ ties) b

theorem State.meshGo_first {s : State} {b : Nat} {feed : Option Feed} {p : MeshPkt} {rest : List MeshPkt} (ties : List Nat) {e : SramEcc}
    {multicast : Bool} (hpkts : ((s.meshReady feed ties).meshBuf b).pkts = p :: rest) (hm : (mfield p 63 62 != 0) = multicast) :
    s.meshGo b feed ties e multicast = State.meshRun meshSpan (s.meshReady feed ties) b e := by
  rw [State.meshBuf_meshReady] at hpkts
  cases feed with
  | none =>
    rw [Option.elim_none] at hpkts
    simp only [State.meshGo, hpkts, hm, bne_self_eq_false, Bool.false_eq_true, if_false]
    rfl
  | some f =>
    rw [Option.elim_some] at hpkts
    simp only [State.meshGo, hpkts, hm, bne_self_eq_false, Bool.false_eq_true, if_false]
    rfl

section
variable {s : State} {x y d : Nat} {feed : Option Feed} (ties : List Nat) (e : SramEcc) {p : MeshPkt} {rest : List MeshPkt}
  (hs : s.flt.safe = false) (hx : x < 220) (hy : y < 96) (hd : d < 5)
include hs hx hy hd

theorem exec_meshDeliver_runs {vc : Nat} (hvc : vc < 3)
    (hpkts : ((s.meshReady feed ties).meshBuf (meshAt (tileNo x y) d vc)).pkts = p :: rest) (hm : mfield p 63 62 = 0) :
    exec (.meshDeliver x y d vc feed ties e) s
      = .next (s.kept (State.meshRun (meshSpan - 1 + 1) (s.meshReady feed ties) (meshAt (tileNo x y) d vc) e)) :=
  commit_unlessSafe hs ((if_neg (by omega)).trans (State.meshGo_first ties hpkts (by rw [hm]; rfl)))

theorem exec_meshMulticastDeliver_runs
    (hpkts : ((s.meshReady feed ties).meshBuf (meshAt (tileNo x y) d 2)).pkts = p :: rest) (hm : mfield p 63 62 ≠ 0) :
    exec (.meshMulticastDeliver x y d feed ties e) s
      = .next (s.kept (State.meshRun (meshSpan - 1 + 1) (s.meshReady feed ties) (meshAt (tileNo x y) d 2) e)) :=
  commit_unlessSafe hs ((if_neg (by omega)).trans (State.meshGo_first ties hpkts (by simpa using hm)))

end

theorem exec_meshCreditReturn_returns {s : State} {x y d vc : Nat} (hs : s.flt.safe = false) (hx : x < 220) (hy : y < 96) (hd : d < 5)
    (hvc : vc < 3) (howed : 0 < (s.meshBuf (meshAt (tileNo x y) d vc)).owed) :
    exec (.meshCreditReturn x y d vc) s = .next (s.setMeshBuf (meshAt (tileNo x y) d vc)
      { s.meshBuf (meshAt (tileNo x y) d vc) with owed := (s.meshBuf (meshAt (tileNo x y) d vc)).owed - 1 }) :=
  commit_unlessSafe_of_keptParts hs (if_neg (by omega)) rfl

end Sys2Proof.Machine

open Sys2Proof Sys2Proof.Machine

/-- Settles O48: SEND and RECV through their issue; a packet's way by the work of the router that holds it first. -/
theorem tilesSendReceiveAndDeliver : Obligations.TilesSendReceiveAndDeliver := by
  refine ⟨fun s i n p h => ⟨?_, ?_, ?_⟩, ?_, fun s x y d vc hs hx hy hd hvc howed => exec_meshCreditReturn_returns hs hx hy hd hvc howed⟩
  · intro dst addr len vc queue tag user c m0 pkt
    refine ⟨fun hc => commit_of_keptParts (bodySend_delayed h hc) rfl, fun hc => ⟨fun hout => commit_of (bodySend_foreign h hc hout),
      fun hin hsram hp => ⟨fun hok => ?_, fun hok => ?_⟩⟩⟩
    · exact commit_of_keptParts ((bodySend_formed h hc hin hsram hp).trans (by rw [if_pos hok])) (by simp)
    · exact commit_of ((bodySend_formed h hc hin hsram hp).trans (by rw [if_neg (by rw [hok]; decide)]))
  · intro dx dy len vc queue q hx hy hvc hlen hqueue hq
    obtain ⟨hmode, hch, hcol, hrow, hbytes, hgen, hto⟩ := mfield_sendM0 hx hy hvc hlen hqueue hq
    exact ⟨hmode, hch, hcol, hrow, hbytes, hgen, hto,
      headerOk_unicast hmode (by omega) (by omega) (by omega) (by omega) (by omega)⟩
  · intro queue rd pkt rest hin hrd
    exact ⟨_, commit_of_keptParts (bodyRecv_takes h hin rd) (by simp), Tile.received_only _ queue rd pkt rest,
      Tile.greg_received _ queue pkt rest hrd⟩
  · intro s x y d vc feed ties e p rest hs hx hy hd hvc t b fed u hfirst hr spart
    have hu : u = s.meshReady feed ties := by cases feed <;> rfl
    have hpkts : (u.meshBuf b).pkts = p :: rest := (State.meshBuf_of_fab (State.foldl_tieCount_fab fed ties) b).symm ▸ hfirst
    have ht : meshTile b = tileNo x y := meshTile_meshAt t hd hvc
    have hch : meshVc b = vc := meshVc_meshAt t d hvc
    have hgo (hm : mfield p 63 62 = 0) {v : State} (hrun : State.meshRun (meshSpan - 1 + 1) u b e = v) :
        exec (.meshDeliver x y d vc feed ties e) s = .next (s.kept v) := by
      rw [← hrun, hu]; exact exec_meshDeliver_runs ties e hs hx hy hd hvc (hu ▸ hpkts) hm
    have hline (hm : mfield p 63 62 ≠ 0) (h2 : vc = 2) {v : State} (hrun : State.meshRun (meshSpan - 1 + 1) u b e = v) :
        exec (.meshMulticastDeliver x y d feed ties e) s = .next (s.kept v) := by
      subst h2
      rw [← hrun, hu]; exact exec_meshMulticastDeliver_runs ties e hs hx hy hd (hu ▸ hpkts) hm
    clear_value u fed b
    have hnb {way nb : Nat} (h : beyond t way vc = some nb) : beyond (meshTile b) way (meshVc b) = some nb := by rw [ht, hch]; exact h
    refine ⟨fun hm => ⟨fun hway => ?_, fun hway hedge => ?_, fun nb hway hbeyond => ⟨fun hblocked => ?_, fun hfree hcredit => ?_⟩⟩, ?_⟩
    · have hlocal {z : State} (hz : u.meshLocal t p true e = some z) := hgo hm (State.meshRun_delivers hpkts hx ht hr hm hway hz)
      refine ⟨fun hout => hlocal (State.meshLocal_unhoused hout),
        fun n q hret hq => ⟨fun hn he => hlocal (State.meshLocal_foreign hret hq hn he),
        fun hn hg => hlocal (State.meshLocal_stale hret hq hn hg), fun z hn hg hz => ⟨?_, State.queueIn_takes hz⟩, fun hn hg hz => ?_⟩⟩
      · exact hlocal ((State.meshLocal_queued hret hq hn hg).trans hz)
      · exact hgo hm (State.meshRun_full hpkts hx ht hr hm hway ((State.meshLocal_queued hret hq hn hg).trans hz))
    · exact hgo hm (State.meshRun_leaves hpkts hx ht hr hm hway (by rw [ht, hch]; exact hedge))
    · exact hgo hm (State.meshRun_blocked hpkts hx ht hr hm hway (hnb hbeyond) hblocked)
    · have hne : nb ≠ b := fun he => meshTile_beyond hvc hbeyond (he ▸ ht)
      exact hgo hm (State.meshRun_passes hpkts hx ht hr hm hway (hnb hbeyond) hne hfree hcredit)
    · intro n q hm h2 hon hret hq hn hg
      have hlocal := State.meshLocal_queued (unicast := false) (e := e) hret hq hn hg
      refine ⟨fun hz => ?_, fun z hz => ⟨fun hend => ?_, fun nb hend hbeyond => ⟨fun hblocked => ?_, fun hfree hcredit => ?_⟩⟩⟩
      · exact hline hm h2 (State.meshRun_copyFull hpkts hx ht hr hm hon (hlocal.trans hz))
      · exact hline hm h2 (State.meshRun_lastCopy hpkts hx ht hr hm hon (hlocal.trans hz) hend)
      · exact hline hm h2 (State.meshRun_copyBlocked hpkts hx ht hr hm hon (hlocal.trans hz) hend (hnb hbeyond) hblocked)
      · exact hline hm h2 (State.meshRun_copies hpkts hx ht hr hm hon (hlocal.trans hz) hend (hnb hbeyond) hfree hcredit)
end

section
/-!
PROOFS. What a port die does with a CONTRIB, an ABORT and a RESEND (O30).
-/

namespace Sys2Proof.Machine

/-! ### To the tile -/

/-- The tile of a service packet, by the condition under which it is a chunk's (R127, R149). -/
theorem CtxFix.tileFor_eq (x : CtxFix) (p : Packet) :
    x.tileFor p =
      if p.typ = tCONTRIB ∧ p.offset % max x.c 1 = 0 ∧ p.offset / max x.c 1 < x.n then x.tileOf (p.offset / max x.c 1) else x.home := by
  rw [CtxFix.tileFor, ← ite_not]
  simp only [ne_eq, not_or, not_not, not_le]

/-! ### The end of a gather context's generation -/

/-- A member's ABORT ends a gather context's generation and leaves through no hub die (R133). -/
theorem State.endAbort_gather {s : State} {n : Nat} {c : Ctx} (hc : s.ctx? n = some c) (hk : c.fix.kind = 3) (rank : Nat)
    (missing : List Nat) (except : Option Nat) :
    s.endAbort n stMEMBER_ABORT rank missing except = s.setCtx n (c.aborted stMEMBER_ABORT s.local) := by
  rw [State.endAbort, hc]
  exact if_pos ⟨hk, rfl⟩

/-! ### Packets that passed the receive checks, by what their context makes of them -/

section
variable {s t : State} {port : Nat} {f : Frame} {p : Packet} {c : Ctx} (hc : t.ctx? p.ctx = some c)
include hc

theorem bodyContrib_passed (hrx : s.serviceRx port f tCONTRIB = .pass p t) :
    bodyContrib port f s =
      if c.fix.kind = 3 then (t.ctxCount .ctxDrop p.ctx 63 48).nackAt port p stBADDESC
      else if c.steer = .held then t.heldDrop
      else if c.steer = .closed then t.ctxCount .ctxLate p.ctx 63 32
      else t.fly port p c := by
  rw [bodyContrib, hrx]
  dsimp only
  rw [hc]

theorem bodyAbort_passed (hrx : s.serviceRx port f tABORT = .pass p t) :
    bodyAbort port f s =
      if c.steer = .held then t.heldDrop
      else if c.fix.kind = 3 then (if c.runs then t.endAbort p.ctx stMEMBER_ABORT 0 [] none else t)
      else t.fly port p c := by
  rw [bodyAbort, hrx]
  dsimp only
  rw [hc]

end

/-! ### A RESEND and its parts -/

/-- The parts of a RESEND, one for each hub die that retains something it names (R157 step 2). -/
def CtxFix.resendParts (x : CtxFix) (p : Packet) : List ResendPart :=
  ((resendChunks x p).map (resendHub x)).eraseDups.map fun h =>
    let mine := (resendChunks x p).filter fun k => resendHub x k == h
    ⟨h, mine.filter (decide <| · < x.n), mine.contains x.n, none⟩

/-- A RESEND as its port die splits it. -/
def CtxFix.resend (x : CtxFix) (id port : Nat) (p : Packet) : Resend := ⟨id, port, p.ctx, p, x.resendParts p, [], none⟩

theorem CtxFix.resendParts_unanswered {x : CtxFix} {p : Packet} {q : ResendPart} (hq : q ∈ x.resendParts p) : q.answer = none := by
  obtain ⟨h, -, rfl⟩ := List.mem_map.1 hq
  rfl

/-- A RESEND that passes the checks names chunks, and at most the completion record past them (R156). -/
theorem le_of_resendOk {x : CtxFix} {p : Packet} (hok : resendOk x p = true) {k : Nat} (hk : k ∈ resendChunks x p) : k ≤ x.n := by
  simp only [resendOk, Bool.and_eq_true, List.all_eq_true] at hok
  exact of_decide_eq_true (hok.2 k hk).1

/-- Each chunk named is in the part of the hub die that retains it, and so is the completion record. -/
theorem CtxFix.resendParts_cover {x : CtxFix} {p : Packet} (hok : resendOk x p = true) {k : Nat} (hk : k ∈ resendChunks x p) :
    ∃ q ∈ x.resendParts p, q.hub = resendHub x k ∧ (if k < x.n then k ∈ q.chunks else q.record = true) := by
  refine ⟨_, List.mem_map.2 ⟨resendHub x k, List.mem_eraseDups.2 (List.mem_map_of_mem hk), rfl⟩, rfl, ?_⟩
  have hmine : k ∈ (resendChunks x p).filter fun j => resendHub x j == resendHub x k := List.mem_filter.2 ⟨hk, beq_self_eq_true _⟩
  split_ifs with hlt
  · exact List.mem_filter.2 ⟨hmine, decide_eq_true hlt⟩
  · have hn : k = x.n := le_antisymm (le_of_resendOk hok hk) (not_lt.1 hlt)
    exact List.contains_iff_mem.2 (hn ▸ hmine)

theorem bodyResend_passed {s t : State} {port : Nat} {f : Frame} {p : Packet} {c : Ctx} (hc : t.ctx? p.ctx = some c)
    (hrx : s.serviceRx port f tRESEND = .pass p t) :
    bodyResend port f s =
      if c.state = .draining then t.ctxCount .ctxLate p.ctx 63 32
      else if c.fix.kind = 3 ∨ resendOk c.fix p = false then t.nackAt port p stRANGE
      else { t with nextId := t.nextId + 1, svc := { t.svc with resends := t.svc.resends ++ [c.fix.resend t.nextId port p] } } := by
  rw [bodyResend, hrx]
  dsimp only
  rw [hc]
  rfl

end Sys2Proof.Machine

open Sys2Proof Sys2Proof.Machine

/-- Settles O30: each packet by the branch of its row that its context selects. -/
theorem dataPacketsLeaveThePortDie : Obligations.DataPacketsLeaveThePortDie := by
  intro s t port f p c hc k tile flies
  have hflies : t.fly port p c = flies p := by rw [State.fly, CtxFix.tileFor_eq]
  refine ⟨fun hrx => ?_, fun hrx hheld => ?_, fun hrx hheld => ?_, fun hrx => ?_⟩
  · have hbody := bodyContrib_passed hc hrx
    refine ⟨fun hk => ?_, fun hk hst => ?_, fun hk hst => ?_, fun hk hst => ?_⟩
    · exact commit_of (hbody.trans (if_pos hk))
    · exact commit_of (hbody.trans ((if_neg hk).trans (if_pos hst)))
    · rw [if_neg hk, hst] at hbody
      exact commit_of hbody
    · rw [if_neg hk, hst, hflies] at hbody
      exact commit_of hbody
  · exact commit_of ((bodyAbort_passed hc hrx).trans (if_pos hheld))
  · have hbody := (bodyAbort_passed hc hrx).trans (if_neg hheld)
    refine ⟨fun hk hrun => ?_, fun hk => ?_, fun hk hrun => ?_⟩
    · rw [if_pos hk, hrun] at hbody
      exact commit_of hbody
    · rw [if_neg hk, hflies] at hbody
      exact commit_of hbody
    · rw [if_pos hk, if_pos hrun, State.endAbort_gather hc hk] at hbody
      exact ⟨_, _, commit_of hbody, State.ctx?_setCtx_same _ _ _, fun n hn => Tbl.find?_set_other _ _ hn, rfl, rfl⟩
  · have hbody := bodyResend_passed hc hrx
    refine ⟨fun hst => ?_, fun hst hno => ?_, fun hst hk hok => ?_⟩
    · exact commit_of (hbody.trans (if_pos hst))
    · exact commit_of (hbody.trans ((if_neg hst).trans (if_pos hno)))
    · rw [if_neg hst, if_neg (by simp [hk, hok])] at hbody
      exact ⟨_, commit_of hbody, rfl, rfl, rfl, rfl, rfl, fun q hq => CtxFix.resendParts_unanswered hq,
        fun k hk => CtxFix.resendParts_cover hok hk⟩
end

section
/-!
PROOFS. A LOAD is checked and takes its slot (O51).
-/

namespace Sys2Proof.Machine

/-- The slot that a load of an image with tiles takes, with what it reserved, when its tiles wake and its regions. -/
def Load.slotOf (l : Load) (i : Image) (tokens pgen absent wakeAt : Nat) (regions : List Nat) : ImgSlot :=
  { state := .loading, image := i, job := l.job, pgen := pgen, x0 := l.x0, y0 := l.y0, w := l.w, h := l.h, absent := absent,
    actAt := if l.actAt = 0 then none else some l.actAt, tokens := tokens, regions := regions, wakeAt := wakeAt }

/-- A load of an image with tiles takes its slot LOADING, with its rectangle, its tokens and the next generation (R30, R256). -/
theorem State.loadImage_takes (s : State) (l : Load) {i : Image} (hi : i.hasTiles = true) :
    ∃ absent wakeAt regions, (s.loadImage i l).startView
      = (s.setIslot l.slot (l.slotOf i (s.imageCost i l) ((s.fab.pgens.get l.slot 0 + 1) % 256) absent wakeAt regions)).startView := by
  unfold State.loadImage
  simp only [hi, if_true]
  exact ⟨_, _, _, (State.startView_writeImage _ i l).trans
    (State.startView_setIslot ((State.startView_takeEngines _ _ _ _).trans (s.startView_imageRegions i l.job)) l.slot _)⟩

/-! ### The command, by its container and the reason of its first failed check -/

section
variable {s : State}

/-- The load that the words of a LOAD command ask for (Table 11.8). -/
def State.loadArg (s : State) : Load :=
  ⟨s.imgSlotArg, s.imgArg 0 49 38, s.imgArg 2 63 56, s.imgArg 2 55 49, s.imgArg 2 48 41, s.imgArg 2 40 34, s.imgArg 3 63 0⟩

/-- The container that a LOAD command names. -/
def State.loadBox (s : State) : Option (List Byte) :=
  s.containerAt (s.imgArg 0 37 22) (s.imgArg 0 21 6) (s.imgArg 1 63 0) (s.imgArg 0 49 38)

/-- The reason a LOAD command gives of a container: an empty rectangle fails after checks 1 to 5 and before all others. -/
def State.loadVerdict (s : State) (bs : List Byte) : Nat :=
  let r := s.loadReason bs s.loadArg
  if 6 < r ∨ r = 0 then (if s.loadArg.w = 0 ∨ s.loadArg.h = 0 then 0x06 else r) else r

variable (hbusy : s.imgBusy 1 = true) (hnew : s.fab.taken = false ∨ (s.islot s.imgSlotArg).state = .empty) (hhold : s.svc.holding = false)
include hbusy hnew hhold

theorem bodyImageLoad_eq :
    bodyImageLoad s = match s.loadBox with
      | none => s.imgDone s.imgSlotArg 0x01
      | some bs =>
        if s.loadVerdict bs ≠ 0 then s.imgDone s.imgSlotArg (s.loadVerdict bs)
        else
          match parseImage bs with
          | none => s.imgDone s.imgSlotArg 0x01
          | some i => { s.loadImage i s.loadArg with fab := { (s.loadImage i s.loadArg).fab with taken := true } } := by
  have hgo : (!s.imgBusy 1 || (s.fab.taken && (s.islot s.imgSlotArg).state != .empty) || s.svc.holding) = false := by
    rcases hnew with h | h <;> simp [hbusy, hhold, h]
  rw [bodyImageLoad, hgo]
  rfl

theorem bodyImageLoad_unread (hbox : s.loadBox = none) : bodyImageLoad s = s.imgDone s.imgSlotArg 0x01 := by
  rw [bodyImageLoad_eq hbusy hnew hhold, hbox]

theorem bodyImageLoad_fails {bs : List Byte} (hbox : s.loadBox = some bs) {r : Nat} (hr : s.loadVerdict bs = r) (hne : r ≠ 0) :
    bodyImageLoad s = s.imgDone s.imgSlotArg r := by
  rw [bodyImageLoad_eq hbusy hnew hhold, hbox]
  subst hr
  exact if_pos hne

theorem bodyImageLoad_loads {bs : List Byte} (hbox : s.loadBox = some bs) (hr : s.loadVerdict bs = 0) {i : Image}
    (hi : parseImage bs = some i) :
    bodyImageLoad s = { s.loadImage i s.loadArg with fab := { (s.loadImage i s.loadArg).fab with taken := true } } := by
  rw [bodyImageLoad_eq hbusy hnew hhold, hbox]
  dsimp only
  rw [hr, hi]
  rfl

end

/-! ### The reason -/

section
variable {s : State} {bs : List Byte}

theorem State.loadVerdict_placed (hw : s.loadArg.w ≠ 0) (hh : s.loadArg.h ≠ 0) : s.loadVerdict bs = s.loadReason bs s.loadArg := by
  simp [State.loadVerdict, hw, hh]

theorem State.loadVerdict_early (h0 : s.loadReason bs s.loadArg ≠ 0) (h6 : s.loadReason bs s.loadArg ≤ 6) :
    s.loadVerdict bs = s.loadReason bs s.loadArg := if_neg (by omega)

theorem State.loadVerdict_noTiles (hd : s.loadArg.w = 0 ∨ s.loadArg.h = 0)
    (hr : s.loadReason bs s.loadArg = 0 ∨ 6 ≤ s.loadReason bs s.loadArg) : s.loadVerdict bs = 0x06 := by
  by_cases h6 : s.loadReason bs s.loadArg = 6
  · rw [State.loadVerdict_early (by omega) (by omega), h6]
  · exact (if_pos (by omega)).trans (if_pos hd)

end

theorem State.imgDone_keptParts (s : State) (slot reason : Nat) : (s.imgDone slot reason).keptParts = s.keptParts := rfl

end Sys2Proof.Machine

open Sys2Proof Sys2Proof.Machine

/-- Settles O51: a refusal by the reason that the command gives of its container, a load by the slot that it takes. -/
theorem imageLoadsAreChecked : Obligations.ImageLoadsAreChecked := by
  intro s hs hbusy hnew hhold k job l box
  have hfails {bs : List Byte} {r : Nat} (hbox : box = some bs) (hr : s.loadVerdict bs = r) (hne : r ≠ 0) :
      exec .imageLoad s = .next (s.imgDone k r) :=
    commit_unlessSafe_of_keptParts hs (bodyImageLoad_fails hbusy hnew hhold hbox hr hne) (s.imgDone_keptParts _ _)
  refine ⟨fun hbox => ?_, fun bs hbox hw hh hne => ?_, fun bs hbox hd hr => ?_, fun bs hbox hne h6 => ?_,
    fun bs i hbox hw hh hr hi htiles => ?_⟩
  · exact commit_unlessSafe_of_keptParts hs (bodyImageLoad_unread hbusy hnew hhold hbox) (s.imgDone_keptParts _ _)
  · exact hfails hbox (State.loadVerdict_placed hw hh) hne
  · exact hfails hbox (State.loadVerdict_noTiles hd hr) (by decide)
  · exact hfails hbox (State.loadVerdict_early hne h6.le) hne
  · obtain ⟨absent, wakeAt, regions, hview⟩ := s.loadImage_takes l htiles
    have hslot : (s.loadImage i l).islot k = l.slotOf i (s.imageCost i l) ((s.fab.pgens.get k 0 + 1) % 256) absent wakeAt regions :=
      (State.islot_of_view hview k).trans (State.islot_setIslot_same _ _ _)
    refine ⟨_, commit_unlessSafe hs (bodyImageLoad_loads hbusy hnew hhold hbox ((State.loadVerdict_placed hw hh).trans hr) hi), ?_⟩
    refine ⟨congrArg ImgSlot.state hslot, congrArg ImgSlot.image hslot, congrArg ImgSlot.job hslot, congrArg ImgSlot.x0 hslot,
      congrArg ImgSlot.y0 hslot, congrArg ImgSlot.w hslot, congrArg ImgSlot.h hslot, congrArg ImgSlot.tokens hslot,
      congrArg ImgSlot.pgen hslot, congrArg ImgSlot.actAt hslot, rfl, fun j hj => ?_⟩
    exact (State.islot_of_view hview j).trans (s.islot_setIslot_other _ hj)
end

section
/-!
PROOFS. The moves of an image slot (O52).
-/

namespace Sys2Proof.Machine

/-! ### Tables whose entries are kept by their key -/

section
variable {α : Type} (t : Tbl α) (keep : Nat → Bool) {k : Nat}

theorem Tbl.find?_filter_kept (hk : keep k = true) : Tbl.find? (t.filter fun e => keep e.1) k = Tbl.find? t k := by
  induction t with
  | nil => rfl
  | cons e t ih =>
    obtain ⟨a, v⟩ := e
    by_cases ha : keep a = true
    · simp only [List.filter_cons, ha, if_true, Tbl.find?, ih]
    · have hne : a ≠ k := fun h => ha (h ▸ hk)
      simp only [List.filter_cons, ha, Bool.false_eq_true, if_false, Tbl.find?, if_neg hne, ih]

theorem Tbl.find?_filter_dropped (hk : keep k = false) : Tbl.find? (t.filter fun e => keep e.1) k = none := by
  induction t with
  | nil => rfl
  | cons e t ih =>
    obtain ⟨a, v⟩ := e
    by_cases ha : keep a = true
    · have hne : a ≠ k := fun h => by simp [h, hk] at ha
      simp only [List.filter_cons, ha, if_true, Tbl.find?, if_neg hne, ih]
    · simpa only [List.filter_cons, ha, Bool.false_eq_true, if_false] using ih

end

/-! ### A launch -/

/-- The state without its stream engines. -/
def State.sansEngines (s : State) : State := { s with fab := { s.fab with engines := [] } }

theorem State.sansEngines_streamIssue (s : State) (hub e : Nat) : (s.streamIssue hub e).sansEngines = s.sansEngines := by
  unfold State.streamIssue
  dsimp only
  split_ifs <;> rfl

theorem State.find?_engines_streamIssue (s : State) {hub e n : Nat} (hn : n ≠ 128 * hub + e) :
    (s.streamIssue hub e).fab.engines.find? n = s.fab.engines.find? n := by
  unfold State.streamIssue
  dsimp only
  split_ifs
  · exact Tbl.find?_set_other _ _ hn
  · rfl

/-- A slot as its sequencers start (R270). -/
def ImgSlot.started (p : ImgSlot) : ImgSlot := { p with state := .running, actAt := none }

/-- A launch writes its slot, and stream engines. -/
theorem State.sansEngines_launch (s : State) (k : Nat) : (s.launch k).sansEngines = (s.setIslot k (s.islot k).started).sansEngines :=
  foldl_keeps State.sansEngines (fun s n => s.streamIssue (n / 128) (n % 128)) (fun s _ => s.sansEngines_streamIssue _ _) _ _

/-- A launch changes the engines of its slot alone. -/
theorem State.find?_engines_launch (s : State) {k n : Nat} (hn : (s.fab.engines.get n {}).slot ≠ some k) :
    (s.launch k).fab.engines.find? n = s.fab.engines.find? n := by
  refine List.foldlRecOn (motive := fun t : State => t.fab.engines.find? n = s.fab.engines.find? n) _ _ rfl fun t ht m hm => ?_
  have hm' : (s.fab.engines.get m {}).slot = some k := eq_of_beq (List.mem_filter.1 hm).2
  refine (t.find?_engines_streamIssue fun h => hn ?_).trans ht
  rwa [h, Nat.div_add_mod]

/-- What a launch of slot `k` leaves: its slot RUNNING without an ACT_AT, its engines at work, and all else as it was. -/
def State.launchedTo (s : State) (k : Nat) (t : State) : Prop :=
  t = { s with fab := t.fab } ∧ t.islot k = (s.islot k).started ∧ (∀ j, j ≠ k → t.islot j = s.islot j) ∧ t.fab.tiles = s.fab.tiles
    ∧ ∀ n, (s.fab.engines.get n {}).slot ≠ some k → t.fab.engines.find? n = s.fab.engines.find? n

theorem State.launch_launchedTo (s : State) (k : Nat) : s.launchedTo k (s.launch k) := by
  have h := s.sansEngines_launch k
  have hislot (j : Nat) : (s.launch k).islot j = (s.setIslot k (s.islot k).started).islot j :=
    (congrArg (fun u : State => u.islot j) h :)
  have htiles : (s.launch k).fab.tiles = s.fab.tiles :=
    (congrArg (fun u : State => u.fab.tiles) h :)
  exact ⟨congrArg (fun u : State => { u with fab := (s.launch k).fab }) h, (hislot k).trans (State.islot_setIslot_same _ _ _),
    fun j hj => (hislot j).trans (s.islot_setIslot_other _ hj), htiles,
    fun n hn => s.find?_engines_launch hn⟩

theorem State.launchedTo.imgDone {s t : State} {k : Nat} (h : s.launchedTo k t) (slot reason : Nat) : s.launchedTo k (t.imgDone slot reason) := by
  obtain ⟨honly, hslot, hothers, htiles, hengines⟩ := h
  exact ⟨congrArg (fun u : State => { u with fab := (t.imgDone slot reason).fab }) honly, hslot, hothers, htiles, hengines⟩

theorem State.launchedTo.keptParts {s t : State} {k : Nat} (h : s.launchedTo k t) : t.keptParts = s.keptParts := by rw [h.1]; rfl

/-! ### A slot emptied -/

/-- A slot's regions as they start to drain (R191). -/
def State.drainRegions (s : State) (rs : List Nat) : State :=
  rs.foldl (fun (s : State) r => match s.liveRegion r with
    | some x => s.setRegion r { x with state := .draining, since := s.local }
    | none => s) s

/-- The fabric without slot `k`'s image: the slot EMPTY, its engines free, its tiles and their SRAM cleared (Table 11.7). -/
def Fabric.without (x : Fabric) (k : Nat) (p : ImgSlot) : Fabric :=
  { x with slots := x.slots.erase k
           engines := x.engines.filter fun e => e.2.slot != some k
           tiles := x.tiles.filter fun e => !(p.covers e.1) }

theorem State.drainRegions_only (s : State) (rs : List Nat) : s.drainRegions rs = { s with mp := (s.drainRegions rs).mp } := by
  have h : { s.drainRegions rs with mp := s.mp } = s := foldl_keeps (fun t : State => { t with mp := s.mp }) _ (fun t r => by split <;> rfl) rs s
  exact congrArg (fun u : State => { u with mp := (s.drainRegions rs).mp }) h

theorem State.emptySlot_only (s : State) (k : Nat) :
    s.emptySlot k = { s with mp := (s.drainRegions (s.islot k).regions).mp, fab := s.fab.without k (s.islot k) } := by
  have h : s.emptySlot k = { s.drainRegions (s.islot k).regions with fab := (s.drainRegions (s.islot k).regions).fab.without k (s.islot k) } := rfl
  rw [h, State.drainRegions_only]

section
variable (s : State) (k : Nat)

@[simp] theorem State.emptySlot_svc : (s.emptySlot k).svc = s.svc := by rw [State.emptySlot_only]

@[simp] theorem State.emptySlot_mops : (s.emptySlot k).mops = s.mops := by rw [State.emptySlot_only]

theorem State.islot_emptySlot_same : (s.emptySlot k).islot k = {} := by
  rw [State.emptySlot_only]
  simp [State.islot, Fabric.without, Tbl.get]

theorem State.islot_emptySlot_other {j : Nat} (hj : j ≠ k) : (s.emptySlot k).islot j = s.islot j := by
  rw [State.emptySlot_only]
  exact congrArg (Option.getD · {}) (Tbl.find?_filter_kept s.fab.slots (· != k) (bne_iff_ne.2 hj))

theorem State.tile_emptySlot_inside {j : Nat} (hj : (s.islot k).covers j = true) : (s.emptySlot k).tile j = {} := by
  rw [State.emptySlot_only]
  exact congrArg (Option.getD · {}) (Tbl.find?_filter_dropped s.fab.tiles (fun n => !(s.islot k).covers n) (k := j) (by simp [hj]))

theorem State.tile_emptySlot_outside {j : Nat} (hj : (s.islot k).covers j = false) : (s.emptySlot k).tile j = s.tile j := by
  rw [State.emptySlot_only]
  exact congrArg (Option.getD · {}) (Tbl.find?_filter_kept s.fab.tiles (fun n => !(s.islot k).covers n) (k := j) (by simp [hj]))

end

theorem State.tryDeferred_nothing {s : State} (h : s.svc.deferq = []) : s.tryDeferred = s := by
  rw [State.tryDeferred, h]
  rfl

/-! ### The commands on a slot -/

/-- A user slot in the state that a STOP or an UNLOAD asks for, unpaused, does not refuse it. -/
theorem ImgSlot.allows {k : Nat} {p : ImgSlot} {st : ImgSt} (h4 : 4 ≤ k) (hst : p.state = st) (hq : p.quiet = false) :
    ¬(k < 4 ∨ p.state ≠ st ∨ p.quiet = true) := by
  simp [h4, hst, hq]

section
variable {s : State} {k : Nat}

theorem bodyImageLoadComplete_loads (hst : (s.islot k).state = .loading) (hd : s.domBusy (1408 + k) = false)
    (hw : (s.islot k).wakeAt ≤ s.local) :
    bodyImageLoadComplete k s =
      if s.imgBusy 1 && s.fab.taken && s.imgSlotArg == k then (s.setIslot k { s.islot k with state := .loaded }).imgDone k 0
      else s.setIslot k { s.islot k with state := .loaded } := by
  simp only [bodyImageLoadComplete, if_pos (And.intro hst (And.intro hd hw)), State.islot_setIslot_same, beq_self_eq_true, Bool.and_true]
  rfl

theorem bodyImageLoadComplete_asleep (hst : (s.islot k).state = .loading) (hw : s.local < (s.islot k).wakeAt) :
    bodyImageLoadComplete k s = s := by
  simp [bodyImageLoadComplete, hst, hw.not_ge]

theorem bodyImageLaunch_due {a : Nat} (ha : (s.islot k).actAt = some a) (hst : (s.islot k).state = .loaded)
    (hq : (s.islot k).quiet = false) (hdue : a ≤ s.now) : bodyImageLaunch k s = s.launch k := by
  rw [bodyImageLaunch, ha]
  exact if_pos ⟨hst, hq, hdue⟩

variable (hhold : s.svc.holding = false) (hk : s.imgSlotArg = k)
include hhold hk

theorem bodyImageActivate_eq (hbusy : s.imgBusy 2 = true) :
    bodyImageActivate s =
      if (s.islot k).state ≠ .loaded ∨ (s.islot k).quiet = true then s.imgDone k 0x05
      else (if s.imgArg 3 63 0 = 0 then s.launch k
        else s.setIslot k { s.islot k with actAt := some (s.imgArg 3 63 0) }).imgDone k 0 := by
  subst hk
  exact if_neg (by simp [hbusy, hhold])

theorem bodyImageStop_eq (hbusy : s.imgBusy 3 = true) :
    bodyImageStop s =
      if k < 4 ∨ (s.islot k).state ≠ .running ∨ (s.islot k).quiet = true then s.imgDone k 0x05
      else (s.setIslot k { s.islot k with state := .loaded, actAt := none }).imgDone k 0 := by
  subst hk
  exact if_neg (by simp [hbusy, hhold])

theorem bodyImageUnload_eq (hbusy : s.imgBusy 4 = true) :
    bodyImageUnload s =
      if k < 4 ∨ (s.islot k).state ≠ .loaded ∨ (s.islot k).quiet = true then s.imgDone k 0x05
      else ((s.emptySlot k).imgDone k 0).tryDeferred := by
  subst hk
  exact if_neg (by simp [hbusy, hhold])

end

end Sys2Proof.Machine

open Sys2Proof Sys2Proof.Machine

/-- Settles O52: each command by the branch that the slot's state selects, and what a launch and an emptied slot leave alone. -/
theorem imageSlotsMoveThroughTheirStates : Obligations.ImageSlotsMoveThroughTheirStates := by
  intro s k hs p waits launched
  have hruns := s.launch_launchedTo k
  refine ⟨fun hst hd hw => ?_, fun hst hw => ?_, fun a ha hst hq hdue => ?_, fun hhold hk => ⟨fun hbusy => ?_, fun hbusy => ?_, fun hbusy => ?_⟩⟩
  · refine commit_unlessSafe_of_keptParts hs (bodyImageLoadComplete_loads hst hd hw) ?_
    split_ifs <;> rfl
  · exact commit_unlessSafe_of_keptParts hs (bodyImageLoadComplete_asleep hst hw) rfl
  · exact ⟨_, commit_unlessSafe_of_keptParts hs (bodyImageLaunch_due ha hst hq hdue) hruns.keptParts, hruns⟩
  · have hbody := bodyImageActivate_eq hhold hk hbusy
    refine ⟨fun hno => ?_, fun hst hq ha => ?_, fun hst hq ha => ?_⟩
    · exact commit_unlessSafe_of_keptParts hs (hbody.trans (if_pos hno)) rfl
    · have hdone := hruns.imgDone k 0
      rw [if_neg (not_or.2 ⟨not_not.2 hst, ne_true_of_eq_false hq⟩), if_pos ha] at hbody
      exact ⟨_, commit_unlessSafe_of_keptParts hs hbody hdone.keptParts, hdone, rfl, rfl⟩
    · rw [if_neg (not_or.2 ⟨not_not.2 hst, ne_true_of_eq_false hq⟩), if_neg ha] at hbody
      exact commit_unlessSafe_of_keptParts hs hbody rfl
  · have hbody := bodyImageStop_eq hhold hk hbusy
    refine ⟨fun hno => ?_, fun h4 hst hq => ?_⟩
    · exact commit_unlessSafe_of_keptParts hs (hbody.trans (if_pos hno)) rfl
    · exact commit_unlessSafe_of_keptParts hs (hbody.trans (if_neg (ImgSlot.allows h4 hst hq))) rfl
  · have hbody := bodyImageUnload_eq (s := s.fresh) hhold hk hbusy
    refine ⟨fun hno => ?_, fun h4 hst hq hdq _ => ?_⟩
    · refine (commitMem_unlessSafe hs (hbody.trans (if_pos hno))).trans rfl
    · have hdefer : ((s.fresh.emptySlot k).imgDone k 0).svc.deferq = [] :=
        (congrArg Svc.deferq (s.fresh.emptySlot_svc k)).trans hdq
      have hempties := (hbody.trans (if_neg (ImgSlot.allows h4 hst hq))).trans (State.tryDeferred_nothing hdefer)
      refine ⟨_, commitMem_unlessSafe hs hempties, s.fresh.islot_emptySlot_same k, fun j hj => s.fresh.islot_emptySlot_other k hj, ?_,
        fun j hj => s.fresh.tile_emptySlot_inside k hj, fun j hj => s.fresh.tile_emptySlot_outside k hj, rfl, rfl⟩
      exact congrArg (Memory.after s.mem) (s.fresh.emptySlot_mops k)
end

section
/-!
PROOFS. The front of the queue (O1), the safe state (O5), and accesses that reach no register (O20, O23).
-/

namespace Sys2Proof.Machine

/-! ### Commands that a condition holds back -/

/-- A command commits its body under the condition that the safe state is not entered. -/
def StopsInSafe (s : State) (o : Out) : Prop :=
  (∃ f, o = commit s (s.unlessSafe f)) ∨ ∃ f, o = commitMem s fun t => t.unlessSafe f

/-- In the safe state such a command changes nothing. -/
theorem StopsInSafe.answers {s : State} {o : Out} (h : StopsInSafe s o) (hs : s.flt.safe = true) : o = .next s := by
  rcases h with ⟨f, rfl⟩ | ⟨f, rfl⟩
  · exact commit_of (s.unlessSafe_safe f hs)
  · exact commitMem_of (f := fun t => t.unlessSafe f) (s.fresh.unlessSafe_safe f hs)

/-- Every command of the datapath, the services, the images and the stacks is such a command (R449). -/
theorem exec_stopsInSafe {c : Instr} (h : Instr.heldBySafe c = true) (s : State) : StopsInSafe s (exec c s) := by
  cases c with
  | mirrorBlockWrite | contextQuarantineEnd | releaseReport | stepAtHome | updateUnitDone | poolAccessPerform | pageZeroDone
  | imageUnload | spareSelftestDone | substitutionComplete | suspectCleared | stackRetrainDone | serviceSwapDone => exact .inr ⟨_, rfl⟩
  | hubAdmit | packetTailArrive | transmitSelect | hubReplicate | bpmAlloc | setupAssemblyTimeout | setupTablesWritten
  | genReuseHoldEnd | deferredSetupExpire | contextDrainEnd | gatherContextStart | contribTileArrival | grantDelayExpire
  | grantRepeat | completeSend | contextTimeout | closureEnd | abortAtHome | resendHubCheck | resendGo | resendDrop
  | optimizerStateStaged | orderedStreamExpire | regionCreate | regionDelete | regionRekey | regionGrow | regionDrainEnd
  | regionQuarantineEnd | gatherLineRead | gatherPlainResponse | gatherSegmentReduce | streamReadComplete | stackServe
  | stackSelfRefreshEnter | recalDue | recalForced | hbmScrubBurst | tileScrubAccess | meshDeliver | meshMulticastDeliver
  | meshCreditReturn | imageLoad | imageLoadComplete | imageActivate | imageLaunch | imageStop | serviceImageRetry =>
    exact .inl ⟨_, rfl⟩
  | _ => nomatch h

/-- A command that is a write of a main-domain register changes nothing while PWR_GOOD is low (R520). -/
theorem commit_ifMain_down {s : State} (h : s.pins.pwrGood = false) (f : State → State) : commit s (s.ifMain f) = .next s :=
  commit_of (s.ifMain_down f h)

/-- A command that is a write of an always-on register answers what its body makes of the state while those registers answer. -/
theorem commit_ifIslands {s t : State} {f : State → State} (hup : s.islandsUp = true) (h : f s = t) :
    commit s (s.ifIslands f) = .next (s.kept t) := commit_of ((s.ifIslands_up f hup).trans h)

/-- A command that is a write of a main-domain register answers what its body makes of the state while PWR_GOOD is high. -/
theorem commit_ifMain {s t : State} {f : State → State} (hup : s.islandsUp = true) (hp : s.pins.pwrGood = true) (h : f s = t) :
    commit s (s.ifMain f) = .next (s.kept t) := commit_of ((s.ifMain_up f hup hp).trans h)

theorem commitMem_ifIslands {s t : State} {f : State → State} (hup : s.islandsUp = true) (h : f s.fresh = t) :
    (commitMem s fun u => u.ifIslands f) = .next (s.keptMem t) :=
  commitMem_of (f := fun u => u.ifIslands f) ((s.fresh.ifIslands_up f hup).trans h)

theorem commitMem_ifIslands_unchanged {s : State} {f : State → State} (h : f s.fresh = s.fresh) :
    (commitMem s fun t => t.ifIslands f) = .next s := by
  refine commitMem_of (f := fun t => t.ifIslands f) (t := s.fresh) ?_
  rw [State.ifIslands, h, ite_self]

/-! ### Accesses that reach no register -/

theorem accessOk_iff (a size : Nat) : accessOk a size = true ↔ size = 8 ∧ a % 8 = 0 := by simp [accessOk]

theorem accessOk_refused {a size : Nat} (h : size ≠ 8 ∨ a % 8 ≠ 0) : accessOk a size = false := by
  rw [Bool.eq_false_iff, Ne, accessOk_iff]
  tauto

section
variable (s : State) {a : Nat}

theorem State.readAddr_unlocated (h : locate a = none) : s.readAddr a = 0 := by rw [State.readAddr, h]

theorem State.writeAddr_unlocated (h : locate a = none) (v : Nat) : s.writeAddr a v = s := by rw [State.writeAddr, h]

theorem State.busWriteAt_aligned (h : a % 8 = 0) (v : Nat) : s.busWriteAt a 8 v = s.writeAddr a v :=
  if_pos ((accessOk_iff a 8).2 ⟨rfl, h⟩)

theorem State.busReadAt_aligned (h : a % 8 = 0) : s.busReadAt a 8 = (s.readAddr a, s.tickFree) := if_pos ((accessOk_iff a 8).2 ⟨rfl, h⟩)

theorem State.busWriteAt_refused {size : Nat} (h : size ≠ 8 ∨ a % 8 ≠ 0) (v : Nat) : s.busWriteAt a size v = s.badAccess :=
  if_neg (by simp [accessOk_refused h])

theorem State.busReadAt_refused {size : Nat} (h : size ≠ 8 ∨ a % 8 ≠ 0) : s.busReadAt a size = (2 ^ 64 - 1, s.badAccess) :=
  if_neg (by simp [accessOk_refused h])

end

theorem bodyBadRegisterAccess_refused (s : State) {a size : Nat} (h : size ≠ 8 ∨ a % 8 ≠ 0) (isWrite : Bool) :
    bodyBadRegisterAccess a size isWrite s = if isWrite then s.badAccess else { s.badAccess with busRead := some (2 ^ 64 - 1) } :=
  if_neg (by simp [accessOk_refused h])

theorem natBytes_zero_reversed : (natBytes 8 0).reverse = List.replicate 8 0 := by decide

theorem natBytes_ones_reversed : (natBytes 8 (2 ^ 64 - 1)).reverse = List.replicate 8 0xFF := by decide

/-- A read of a register through I3C goes over the bus as PCIe's does. -/
theorem exec_i3cRead {s : State} {bs : List Byte} {a : Nat} (hlen : bs.length = 7) (hop : byteAt bs 0 = 1) (ha : i3cAddr bs = a)
    (hup : s.islandsUp = true) :
    exec (.i3cRead bs) s = .next (s.kept { (s.busReadAt a 8).2 with i3c := { addr := some a, out := (natBytes 8 (s.busReadAt a 8).1).reverse } }) := by
  subst ha
  exact commit_ifIslands hup (if_pos ⟨hlen, hop⟩)

/-- While PWR_GOOD is low no register at or past 0x500000 answers (R520). -/
theorem State.regAnswers_dark {s : State} {r : Reg} {is : List Nat} (hp : s.pins.pwrGood = false) (ha : 0x500000 ≤ r.addr is) :
    s.regAnswers r is = false := by
  simp [State.regAnswers, alwaysOn, hp, ha.not_gt]

section
variable {s : State} {a : Nat} (hp : s.pins.pwrGood = false) (ha : 0x500000 ≤ a)
include hp ha

theorem State.readAddr_dark : s.readAddr a = 0 := by
  cases h : locate a with
  | none => exact s.readAddr_unlocated h
  | some l =>
    obtain ⟨rfl, -⟩ := locate_some h
    simp [State.readAddr, h, State.readReg, State.regAnswers_dark hp ha]

theorem State.writeAddr_dark (v : Nat) : s.writeAddr a v = s := by
  cases h : locate a with
  | none => exact s.writeAddr_unlocated h v
  | some l =>
    obtain ⟨rfl, -⟩ := locate_some h
    simp [State.writeAddr, h, State.writeReg, State.regAnswers_dark hp ha]

end

end Sys2Proof.Machine

open Sys2Proof Sys2Proof.Machine

/-- Settles O1: the step looks at the queue alone to choose the command. -/
theorem stepRunsFrontCommand : Obligations.StepRunsFrontCommand := by
  intro s c rest h
  rw [step, h]

/-- Settles O5: each of these commands commits its body under the condition that the safe state fails. -/
theorem safeStateStopsTheDatapath : Obligations.SafeStateStopsTheDatapath :=
  fun _ s hc hs => (exec_stopsInSafe hc s).answers hs

/-- Settles O20: an access goes to the address it names, or is refused for its size or alignment, whichever way it comes. -/
theorem accessesWithoutARegister : Obligations.AccessesWithoutARegister := by
  refine ⟨fun s a ha hl => ⟨s.readAddr_unlocated hl, fun v => ?_, fun bs hlen hop haddr hup => ?_⟩,
    fun s a size hup hbad => ⟨?_, ?_, fun v => ?_, fun bs hlen hop haddr ha => ?_⟩⟩
  · exact commitMem_ifIslands_unchanged ((s.fresh.busWriteAt_aligned ha _).trans (s.fresh.writeAddr_unlocated hl _))
  · rw [exec_i3cRead hlen hop haddr hup, s.busReadAt_aligned ha, s.readAddr_unlocated hl]
    simp only [natBytes_zero_reversed]
    rfl
  · exact commit_ifIslands hup (bodyBadRegisterAccess_refused s hbad true)
  · exact commit_ifIslands hup (bodyBadRegisterAccess_refused s hbad false)
  · exact commitMem_ifIslands (f := bodyRegisterWrite a size v) hup (s.fresh.busWriteAt_refused hbad v.toNat)
  · rw [exec_i3cRead hlen hop haddr hup, s.busReadAt_refused (.inr ha)]
    exact ⟨_, rfl, natBytes_ones_reversed, rfl⟩

/-- Settles O23: no register outside the always-on blocks answers, and each of these rows is a write under the condition that PWR_GOOD is high. -/
theorem mainDomainIsDarkWithoutPower : Obligations.MainDomainIsDarkWithoutPower := by
  intro s hp
  refine ⟨fun a v ha h8 => ⟨State.readAddr_dark hp ha, ?_⟩, fun c hc => ?_, fun p v => ?_⟩
  · exact commitMem_ifIslands_unchanged ((s.fresh.busWriteAt_aligned h8 _).trans (State.writeAddr_dark (s := s.fresh) hp ha _))
  · fin_cases hc <;> exact commit_ifMain_down hp _
  · refine ⟨?_, ?_, ?_, ?_, ?_, ?_, ?_, ?_, ?_⟩ <;> exact commit_ifMain_down hp _
end

section
/-!
PROOFS. Gate lists are armed and change places (O15, O16).
-/

namespace Sys2Proof.Machine

@[simp] theorem GateList.any_rows_iff (l : GateList) :
    (l.rows.any fun e => e.2 == 0) = true ↔ ∃ i, i < min l.n 1024 ∧ (l.entryAt i).2 = 0 := by
  simp [GateList.rows]

theorem GateList.any_rows_false {l : GateList} (h : ∀ i, i < min l.n 1024 → (l.entryAt i).2 ≠ 0) : (l.rows.any fun e => e.2 == 0) = false := by
  rw [Bool.eq_false_iff, Ne, GateList.any_rows_iff]
  rintro ⟨i, hi, h0⟩
  exact h i hi h0

/-- The multiple of a cycle that follows a place is one cycle past the last at or before it. -/
theorem next_multiple {c d e : Nat} (hc : 0 < c) (hde : d < e) (hed : e ≤ d + c) (hm : e % c = 0) : e = (d / c + 1) * c := by
  obtain ⟨k, rfl⟩ := Nat.dvd_of_mod_eq_zero hm
  have hk : d / c + 1 = k := by
    have hlo : d / c < k := (Nat.div_lt_iff_lt_mul hc).2 (by rwa [Nat.mul_comm])
    have hhi : k ≤ d / c + 1 := by
      rw [← Nat.add_div_right d hc]
      exact (Nat.le_div_iff_mul_le hc).2 (by rwa [Nat.mul_comm])
    omega
  rw [hk, Nat.mul_comm]

/-- An armed list starts at the boundary that follows ACT_AT, or at ACT_AT where the running list has no cycle (R350). -/
theorem Gate.startsAt_eq {g : Gate} {b : Nat}
    (h : (g.run.cycle = 0 ∧ b = g.actAt) ∨ (0 < g.run.cycle ∧ g.b0 ≤ g.actAt ∧ g.actAt < b ∧ b ≤ g.actAt + g.run.cycle
      ∧ (b - g.b0) % g.run.cycle = 0)) : g.startsAt = b := by
  rcases h with ⟨hc, rfl⟩ | ⟨hc, h0, hlt, hle, hm⟩
  · exact if_pos hc
  · refine (if_neg hc.ne').trans ?_
    rw [← next_multiple hc (by omega) (by omega) hm]
    omega

section
variable {s : State} {p : Nat} (hp : s.isPort p = true)
include hp

section
variable (ha : (s.port p).gate.armed = false)
include ha

theorem bodyGateArm_emptyEntry (h : ∃ i, i < min (s.port p).gate.wait.n 1024 ∧ ((s.port p).gate.wait.entryAt i).2 = 0) :
    bodyGateArm p s = s.setGate p { (s.port p).gate with status := stBADDESC } := by
  simp only [bodyGateArm, hp, if_true, ha, Bool.false_eq_true, if_false, (GateList.any_rows_iff _).2 h]

/-- With a duration in every entry the cycle time is checked, and then the launch count (R348). -/
theorem bodyGateArm_entriesLast (h : ∀ i, i < min (s.port p).gate.wait.n 1024 → ((s.port p).gate.wait.entryAt i).2 ≠ 0) :
    bodyGateArm p s =
      if 2 ^ 34 < (s.port p).gate.wait.cycleField then s.setGate p { (s.port p).gate with status := stBADDESC }
      else if s.reg .gateActAt [p] ≤ s.now then s.setGate p { (s.port p).gate with status := stRANGE }
      else s.setGate p { (s.port p).gate with armed := true, actAt := s.reg .gateActAt [p], status := stOK } := by
  simp only [bodyGateArm, hp, if_true, ha, Bool.false_eq_true, if_false, GateList.any_rows_false h]

end

theorem bodyGateListStart_due (ha : (s.port p).gate.armed = true) (hn : (s.port p).gate.startsAt ≤ s.now) :
    ∃ m, bodyGateListStart p s = (s.setGate p { (s.port p).gate with
      run := (s.port p).gate.wait, wait := (s.port p).gate.run, b0 := (s.port p).gate.startsAt, armed := false, entry := 0, mask := m,
      longest := (s.port p).gate.wait.longestTable }).bumpMod .gateCnt [p] 31 0 :=
  ⟨_, if_pos ⟨hp, ha, hn⟩⟩

theorem bodyGateEntryChange_inForce {i m left : Nat} (hc : (s.port p).gate.run.cycle ≠ 0) (h0 : (s.port p).gate.b0 ≤ s.now)
    (hat : spanAt (s.port p).gate.run.span ((s.now - (s.port p).gate.b0) % (s.port p).gate.run.cycle) = some (i, m, left)) :
    bodyGateEntryChange p s = s.setGate p { (s.port p).gate with entry := i, mask := m } := by
  simp only [bodyGateEntryChange, hat]
  exact if_pos ⟨hp, hc, h0⟩

end

@[simp] theorem State.port_bumpMod (s : State) (r : Reg) (is : List Nat) (hi lo n p : Nat) : (s.bumpMod r is hi lo n).port p = s.port p := rfl

@[simp] theorem State.gate_setGate_same (s : State) (p : Nat) (g : Gate) : ((s.setGate p g).port p).gate = g := by
  rw [State.setGate, State.port_setPort_same]

theorem State.portsBut_setPort (s : State) (p : Nat) (q : PortSt) : s.portsBut (s.setPort p q) p :=
  fun x hx => s.port_setPort_other p x q hx

theorem State.regsBut_setFld (s : State) (r : Reg) (is : List Nat) (hi lo v : Nat) : s.regsBut (s.setFld r is hi lo v) [r.addr is] :=
  s.regsBut_setReg r is _

end Sys2Proof.Machine

open Sys2Proof Sys2Proof.Machine

/-- Settles O15: each check of R348 is one condition of the body, in the rule's order. -/
theorem gateArmIsChecked : Obligations.GateArmIsChecked := by
  intro s p hup hpwr hp ha g actAt answer
  have hans {g' : Gate} (h : bodyGateArm p s = s.setGate p g') : exec (.gateArm p) s = answer g' := commit_ifMain hup hpwr h
  refine ⟨fun h => hans (bodyGateArm_emptyEntry hp ha h), fun h => ?_⟩
  have hbody := bodyGateArm_entriesLast hp ha h
  refine ⟨fun hc => hans (hbody.trans (if_pos hc)), fun hc hn => hans ?_, fun hc hn => hans ?_⟩
  · exact hbody.trans ((if_neg hc.not_gt).trans (if_pos hn))
  · exact hbody.trans ((if_neg hc.not_gt).trans (if_neg hn.not_ge))

/-- Settles O16: the start of an armed list is the boundary that the hypothesis names, and the place in the cycle selects the entry. -/
theorem gateListsChangePlaces : Obligations.GateListsChangePlaces := by
  intro s p hp g
  refine ⟨fun hup hpwr ha => ?_, fun b ha hb h => ?_, fun i m left hc h0 hat => ?_⟩
  · exact commit_ifMain hup hpwr (if_pos ⟨hp, ha⟩)
  · have hst : (s.port p).gate.startsAt = b := Gate.startsAt_eq h
    obtain ⟨m, hm⟩ := bodyGateListStart_due hp ha (hst.trans_le hb)
    refine ⟨_, commit_of hm, rfl, ?_, ?_, ?_, ?_, ?_, ?_, ?_⟩
    · exact s.portsBut_setPort p _
    · exact State.regsBut_setFld (s.setGate p _) .gateCnt [p] 31 0 _
    · exact State.fld_setFld_same (s.setGate p _) .gateCnt [p] 31 0 _
    all_goals simp [g, hst]
  · exact commit_of (bodyGateEntryChange_inForce hp hc h0 hat)
end

section
/-!
PROOFS. Shapers and queue samples (O17).
-/

namespace Sys2Proof.Machine

/-! ### The meter of a port's shaper -/

/-- The other registers in the address range of the per-port scheduling registers. -/
def besideShaper : List Reg :=
  [.schWeight, .schPortLevel, .schClsShape, .schClsLevel, .gatePend, .gateActAt, .gateCmd, .gateStatus, .gateCnt, .polPort, .polPortDrop,
    .polCls, .polClsDrop]

theorem Reg.besideShaper_of_range (r : Reg) (hlo : r.place.base < 0x6060000)
    (hhi : 0x6000000 < r.place.base + (r.place.dims.map fun d => d.1 * d.2).sum) (hne : r ≠ .schPortShape) : r ∈ besideShaper := by
  revert hlo hhi hne
  cases r <;> decide

theorem addr_schPortShape (p : Nat) : Reg.addr .schPortShape [p] = 0x6000008 + 0x200 * p := rfl

/-- Every other register of the range lies elsewhere in a port's 512 bytes. -/
theorem Reg.eq_schPortShape_of_addr {r : Reg} {is : List Nat} {p : Nat} (hok : IndicesOk r.place.dims is) (hp : p < 768)
    (ha : r.addr is = Reg.addr .schPortShape [p]) : r = .schPortShape := by
  by_contra hne
  have hle := offsetOf_le hok
  rw [addr_schPortShape, Reg.addr_offsetOf] at ha
  have hr : r ∈ besideShaper := r.besideShaper_of_range (by omega) (by omega) hne
  obtain ⟨hlen, hlt⟩ := hok
  fin_cases hr <;> rcases is with _ | ⟨i, _ | ⟨j, _ | _⟩⟩ <;> simp [Reg.place] at hlen <;> simp [Reg.place, offsetOf] at ha hlt <;> omega

theorem locate_schPortShape {p : Nat} (hp : p < 768) : locate (Reg.addr .schPortShape [p]) = some (.schPortShape, [p]) := by
  have hat : Reg.indexAt .schPortShape (Reg.addr .schPortShape [p]) = some [p] := by
    simp [Reg.indexAt, addr_schPortShape, Reg.place, placeIndex, hp]
  cases hl : locate (Reg.addr .schPortShape [p]) with
  | none =>
    have hnone := List.findSome?_eq_none_iff.1 hl .schPortShape (by decide)
    simp [hat] at hnone
  | some l =>
    obtain ⟨r, is⟩ := l
    obtain ⟨ha, hok⟩ := locate_some hl
    obtain rfl := Reg.eq_schPortShape_of_addr hok hp ha
    obtain ⟨i, rfl⟩ := List.length_eq_one_iff.1 hok.1
    rw [addr_schPortShape, addr_schPortShape] at ha
    obtain rfl : i = p := by omega
    rfl

section
variable {s : State} {p : Nat}

theorem State.meterAt_schPortShape (hp : s.isPort p = true) (hlt : p < 768) : s.meterAt (Reg.addr .schPortShape [p]) = some (1, 1, true) := by
  rw [State.meterAt, locate_schPortShape hlt]
  exact if_pos hp

@[simp] theorem Meter.at_grow (m : Meter) (c : MeterCfg) (share t : Nat) : (m.grow c share t).at_ = t := by
  unfold Meter.grow
  dsimp only
  split_ifs <;> rfl

/-- What a write that keeps a shaper enabled at its mode makes of it: grown at the old rate, and cut to the new BURST (R343). -/
def Meter.cutTo (m : Meter) (burst t : Nat) : Meter := if ((256 * burst : Nat) : Int) < m.level then ⟨(256 * burst : Nat), 0, t⟩ else m

theorem Meter.level_cutTo (m : Meter) (burst t : Nat) : (m.cutTo burst t).level = min m.level (256 * burst : Nat) := by
  unfold Meter.cutTo
  split_ifs with h
  · exact (min_eq_right h.le).symm
  · exact (min_eq_left (not_lt.1 h)).symm

theorem Meter.at_cutTo {m : Meter} {burst t : Nat} (h : m.at_ = t) : (m.cutTo burst t).at_ = t := by
  unfold Meter.cutTo
  split_ifs
  · rfl
  · exact h

/-- A write of one shaper's word that keeps it enabled at its mode and does not forgive. -/
theorem State.meterWrite_kept (s : State) {a v : Nat} (ho : (meterCfg (s.regs.get a 0)).enable = true) (hn : (meterCfg v).enable = true)
    (hm : (meterCfg v).mode = (meterCfg (s.regs.get a 0)).mode) (hc : v / 2 ^ 61 % 2 = 0) :
    s.meterWrite a v 1 1 true = { s with
      regs := s.regs.set a (applyWrite (Reg.fields .schPortShape) (s.regs.get a 0) v)
      meters := s.meters.set a (((s.meters.get a {}).grow (meterCfg (s.regs.get a 0)) 1 s.local).cutTo (meterCfg v).burst s.local) } := by
  simp only [Nat.reducePow] at hc
  simp [State.meterWrite, ho, hn, hm, hc, Meter.cutTo]

end

/-! ### Folds over ports and classes -/

/-- A fold keeps what its step keeps at each element of the list. -/
theorem foldl_keeps_of_mem {α β γ : Type} {f : α → β → α} {g : α → γ} {l : List β} (h : ∀ a, ∀ x ∈ l, g (f a x) = g a) (a : α) :
    g (l.foldl f a) = g a := by
  induction l generalizing a with
  | nil => rfl
  | cons x l ih =>
    obtain ⟨hx, hl⟩ := forall_and.1 fun a => List.forall_mem_cons.1 (h a)
    exact (ih hl (f a x)).trans (hx a)

theorem foldl_invariant {α β : Type} {P : α → Prop} {f : α → β → α} (hP : ∀ a x, P a → P (f a x)) (l : List β) {a : α} (ha : P a) :
    P (l.foldl f a) := by
  induction l generalizing a with
  | nil => exact ha
  | cons x l ih => exact ih (hP a x ha)

/-- A fold over a list without repetitions changes what is seen at one element once, where no other element's step touches it. -/
theorem foldl_once {α β γ : Type} {P : α → Prop} {f : α → β → α} {g : α → γ} {F : γ → γ} {b : β} (hP : ∀ a x, P a → P (f a x))
    (hsame : ∀ a, P a → g (f a b) = F (g a)) {l : List β} (hother : ∀ a, ∀ x ∈ l, x ≠ b → g (f a x) = g a) (hl : l.Nodup) (hb : b ∈ l)
    {a : α} (ha : P a) : g (l.foldl f a) = F (g a) := by
  induction l generalizing a with
  | nil => cases hb
  | cons x l ih =>
    obtain ⟨hx, hl⟩ := List.nodup_cons.1 hl
    by_cases hxb : x = b
    · subst hxb
      exact (foldl_keeps_of_mem (fun a y hy => hother a y (List.mem_cons_of_mem _ hy) fun h => hx (h ▸ hy)) _).trans (hsame a ha)
    · refine (ih (fun a y hy => hother a y (List.mem_cons_of_mem _ hy)) hl ((List.mem_cons.1 hb).resolve_left (Ne.symm hxb)) (hP a x ha)).trans ?_
      exact congrArg F (hother a x List.mem_cons_self hxb)

/-! ### Samples -/

/-- A state that agrees with another but for its registers. -/
def State.sansRegs (s : State) : State := { s with regs := [] }

theorem State.eq_of_sansRegs {s t : State} (h : t.sansRegs = s.sansRegs) : t = { s with regs := t.regs } := by
  calc t = { t.sansRegs with regs := t.regs } := rfl
    _ = { s with regs := t.regs } := by rw [h]; rfl

/-- A command whose body changes registers alone answers the state with those registers. -/
theorem State.kept_of_sansRegs {s t : State} (h : t.sansRegs = s.sansRegs) : s.kept t = { s with regs := (s.kept t).regs } := by
  rw [State.eq_of_sansRegs h]
  rfl

section
variable (s : State) (p c : Nat)

/-- The cells a queue waits with, headroom included, and how long its head has waited (Table 14.6). -/
def State.queueDepth : Nat := fullCharge (s.classQueue p c) + ((s.classQueue p c).map QItem.hdrmC).sum

def State.queueHead : Option QItem :=
  (List.range 4).findSome? fun i => ((s.hub (((s.port p).sched.hubTurn.get c 0 + i) % 4)).sel p c).find? fun q => !q.started

def State.headDelay : Nat := match s.queueHead p c with | some q => s.local - q.enqAt | none => 0

/-- The word of SMP_LAST that a sample leaves, from the word before. -/
def sampleWord (depth delay w : Nat) : Nat :=
  let w' := Nat.withField (Nat.withField w 63 48 (depth / 32)) 47 32 (min (delay / 64) 0xFFFE)
  Nat.withField w' 31 0 (satAdd 32 (w' / 2 ^ 0 % 2 ^ 32) 1)

theorem State.fld_congr {s t : State} {r : Reg} {is : List Nat} (h : t.reg r is = s.reg r is) (hi lo : Nat) :
    t.fld r is hi lo = s.fld r is hi lo := by rw [State.fld, State.fld, h]

/-- The register and histogram updates of a sample after its SMP_LAST. -/
def State.sampleMax (i hi lo v : Nat) : State :=
  s.setFld .smpMax [i] hi lo (if s.fld .smpMax [i] hi lo = 0xFFFF then v else max (s.fld .smpMax [i] hi lo) v)

def State.sampleHist (g : Reg) (i b : Nat) : State := if b % 2 = 0 then s.bump g [i, b / 2] 63 32 else s.bump g [i, b / 2] 31 0

def State.sampleLast (i depth delay : Nat) : State :=
  ((s.setFld .smpLast [i] 63 48 (depth / 32)).setFld .smpLast [i] 47 32 (min (delay / 64) 0xFFFE)).bump .smpLast [i] 31 0

theorem State.sampleQueue_eq : s.sampleQueue p c =
    ((((s.sampleLast (8 * p + c) (s.queueDepth p c) (s.headDelay p c)).sampleMax (8 * p + c) 63 48 (s.queueDepth p c / 32)).sampleMax
      (8 * p + c) 47 32 (min (s.headDelay p c / 64) 0xFFFE)).sampleHist .smpDhist (8 * p + c) (bucketOf 0 (s.queueDepth p c))).sampleHist
      .smpThist (8 * p + c) (bucketOf 7 (s.headDelay p c)) := rfl

end

section
variable (s : State) (i : Nat)

theorem bucketOf_le (lo n : Nat) : bucketOf lo n ≤ 15 := by
  unfold bucketOf
  split_ifs <;> omega

theorem addr_smpLast : Reg.addr .smpLast [i] = 0x6080000 + 0x100 * i := rfl
theorem addr_smpMax : Reg.addr .smpMax [i] = 0x6080008 + 0x100 * i := rfl
theorem addr_smpDhist (k : Nat) : Reg.addr .smpDhist [i, k] = 0x6080040 + (0x100 * i + 8 * k) := rfl
theorem addr_smpThist (k : Nat) : Reg.addr .smpThist [i, k] = 0x6080080 + (0x100 * i + 8 * k) := rfl

theorem State.reg_setFld_other (s : State) (r q : Reg) (is js : List Nat) (hi lo v : Nat) (h : q.addr js ≠ r.addr is) :
    (s.setFld r is hi lo v).reg q js = s.reg q js := s.reg_setReg_other r q is js _ h

theorem State.reg_bump_other (s : State) (r q : Reg) (is js : List Nat) (hi lo n : Nat) (h : q.addr js ≠ r.addr is) :
    (s.bump r is hi lo n).reg q js = s.reg q js := s.reg_setReg_other r q is js _ h

@[simp] theorem State.smpLast_sampleMax (j hi lo v : Nat) : (s.sampleMax j hi lo v).reg .smpLast [i] = s.reg .smpLast [i] :=
  s.reg_setFld_other _ _ _ _ _ _ _ (by rw [addr_smpLast, addr_smpMax]; omega)

theorem State.smpLast_sampleHist {g : Reg} (hg : g = .smpDhist ∨ g = .smpThist) (j lo n : Nat) :
    (s.sampleHist g j (bucketOf lo n)).reg .smpLast [i] = s.reg .smpLast [i] := by
  have hb := bucketOf_le lo n
  have hne : Reg.addr .smpLast [i] ≠ Reg.addr g [j, bucketOf lo n / 2] := by
    rcases hg with rfl | rfl
    · rw [addr_smpLast, addr_smpDhist]; omega
    · rw [addr_smpLast, addr_smpThist]; omega
  unfold State.sampleHist
  split_ifs
  · exact s.reg_bump_other _ _ _ _ _ _ _ hne
  · exact s.reg_bump_other _ _ _ _ _ _ _ hne

theorem State.smpLast_sampleQueue (p c : Nat) :
    (s.sampleQueue p c).reg .smpLast [i] = (s.sampleLast (8 * p + c) (s.queueDepth p c) (s.headDelay p c)).reg .smpLast [i] := by
  rw [State.sampleQueue_eq, State.smpLast_sampleHist _ _ (.inr rfl), State.smpLast_sampleHist _ _ (.inl rfl), State.smpLast_sampleMax,
    State.smpLast_sampleMax]

theorem State.smpLast_sampleQueue_same (p c : Nat) :
    (s.sampleQueue p c).reg .smpLast [8 * p + c] = sampleWord (s.queueDepth p c) (s.headDelay p c) (s.reg .smpLast [8 * p + c]) := by
  rw [State.smpLast_sampleQueue]
  simp only [State.sampleLast, State.bump, State.setFld, State.reg_setReg_same, State.fld, sampleWord]

theorem State.smpLast_sampleQueue_other {p c : Nat} (h : i ≠ 8 * p + c) : (s.sampleQueue p c).reg .smpLast [i] = s.reg .smpLast [i] := by
  have hne : Reg.addr .smpLast [i] ≠ Reg.addr .smpLast [8 * p + c] := by rw [addr_smpLast, addr_smpLast]; omega
  rw [State.smpLast_sampleQueue, State.sampleLast, State.reg_bump_other _ _ _ _ _ _ _ _ hne, State.reg_setFld_other _ _ _ _ _ _ _ _ hne,
    State.reg_setFld_other _ _ _ _ _ _ _ _ hne]

@[simp] theorem State.sansRegs_setFld (r : Reg) (is : List Nat) (hi lo v : Nat) : (s.setFld r is hi lo v).sansRegs = s.sansRegs := rfl

@[simp] theorem State.sansRegs_bump (r : Reg) (is : List Nat) (hi lo n : Nat) : (s.bump r is hi lo n).sansRegs = s.sansRegs := rfl

@[simp] theorem State.sansRegs_sampleHist (g : Reg) (b : Nat) : (s.sampleHist g i b).sansRegs = s.sansRegs := by
  unfold State.sampleHist
  split_ifs <;> rfl

theorem State.sansRegs_sampleQueue (p c : Nat) : (s.sampleQueue p c).sansRegs = s.sansRegs := by
  rw [State.sampleQueue_eq, State.sansRegs_sampleHist, State.sansRegs_sampleHist, State.sampleMax, State.sampleMax, State.sampleLast,
    State.sansRegs_setFld, State.sansRegs_setFld, State.sansRegs_bump, State.sansRegs_setFld, State.sansRegs_setFld]

/-- A sample reads nothing but the switch. -/
theorem State.queueDepth_of_sansRegs {s t : State} (h : t.sansRegs = s.sansRegs) (p c : Nat) :
    t.queueDepth p c = s.queueDepth p c ∧ t.headDelay p c = s.headDelay p c := by
  rw [State.eq_of_sansRegs h]
  exact ⟨rfl, rfl⟩

/-- The eight queues of a port, and the queues of all ports in a list, sampled. -/
def State.samplePort (p : Nat) : State := (List.range 8).foldl (fun (s : State) c => s.sampleQueue p c) s

def State.sampleAll (ports : List Nat) : State := ports.foldl State.samplePort s

theorem State.sansRegs_samplePort (p : Nat) : (s.samplePort p).sansRegs = s.sansRegs :=
  foldl_keeps State.sansRegs _ (fun s c => s.sansRegs_sampleQueue p c) _ s

theorem State.sansRegs_sampleAll (ports : List Nat) : (s.sampleAll ports).sansRegs = s.sansRegs :=
  foldl_keeps State.sansRegs _ State.sansRegs_samplePort ports s

theorem State.smpLast_samplePort_other {p q c : Nat} (hc : c < 8) (h : q ≠ p) :
    (s.samplePort q).reg .smpLast [8 * p + c] = s.reg .smpLast [8 * p + c] :=
  foldl_keeps_of_mem (f := fun (s : State) d => s.sampleQueue q d) (g := fun u : State => u.reg .smpLast [8 * p + c]) (l := List.range 8)
    (fun u d hd => u.smpLast_sampleQueue_other _ (by have := List.mem_range.1 hd; omega)) s

/-- Each queue of a port is sampled once. -/
theorem State.smpLast_samplePort_same (p : Nat) {c : Nat} (hc : c < 8) :
    (s.samplePort p).reg .smpLast [8 * p + c] = sampleWord (s.queueDepth p c) (s.headDelay p c) (s.reg .smpLast [8 * p + c]) := by
  refine foldl_once (f := fun (s : State) d => s.sampleQueue p d) (P := fun u : State => u.sansRegs = s.sansRegs)
    (g := fun u : State => u.reg .smpLast [8 * p + c]) (l := List.range 8) (F := sampleWord (s.queueDepth p c) (s.headDelay p c))
    (fun u d hu => (u.sansRegs_sampleQueue p d).trans hu) (fun u hu => ?_) (fun u d _ hd => u.smpLast_sampleQueue_other _ (by omega))
    List.nodup_range (List.mem_range.2 hc) rfl
  obtain ⟨hdepth, hdelay⟩ := State.queueDepth_of_sansRegs hu p c
  rw [← hdepth, ← hdelay]
  exact u.smpLast_sampleQueue_same p c

/-- Each queue of the ports is sampled once. -/
theorem State.smpLast_sampleAll {ports : List Nat} (hn : ports.Nodup) {p c : Nat} (hp : p ∈ ports) (hc : c < 8) :
    (s.sampleAll ports).reg .smpLast [8 * p + c] = sampleWord (s.queueDepth p c) (s.headDelay p c) (s.reg .smpLast [8 * p + c]) := by
  refine foldl_once (f := State.samplePort) (P := fun u : State => u.sansRegs = s.sansRegs)
    (g := fun u : State => u.reg .smpLast [8 * p + c]) (F := sampleWord (s.queueDepth p c) (s.headDelay p c))
    (fun u q hu => (u.sansRegs_samplePort q).trans hu) (fun u hu => ?_) (fun u q _ hq => u.smpLast_samplePort_other hc hq) hn hp rfl
  obtain ⟨hdepth, hdelay⟩ := State.queueDepth_of_sansRegs hu p c
  rw [← hdepth, ← hdelay]
  exact u.smpLast_samplePort_same p hc

/-- The fields of SMP_LAST after a sample. -/
theorem sampleWord_depth (depth delay w : Nat) : sampleWord depth delay w / 2 ^ 48 % 2 ^ 16 = depth / 32 % 2 ^ 16 := by
  unfold sampleWord
  exact (Nat.field_withField_above _ 31 0 _ 63 48 (by decide) (by decide)).trans
    ((Nat.field_withField_above _ 47 32 _ 63 48 (by decide) (by decide)).trans (Nat.field_withField_same w 63 48 _))

theorem sampleWord_delay (depth delay w : Nat) : sampleWord depth delay w / 2 ^ 32 % 2 ^ 16 = min (delay / 64) 0xFFFE := by
  unfold sampleWord
  refine (Nat.field_withField_above _ 31 0 _ 47 32 (by decide) (by decide)).trans ((Nat.field_withField_same _ 47 32 _).trans ?_)
  exact Nat.mod_eq_of_lt (by omega)

theorem sampleWord_count (depth delay w : Nat) : sampleWord depth delay w / 2 ^ 0 % 2 ^ 32 = min (w / 2 ^ 0 % 2 ^ 32 + 1) (2 ^ 32 - 1) := by
  unfold sampleWord
  refine (Nat.field_withField_same _ 31 0 _).trans ((satAdd_mod 32 _ 1).trans ?_)
  rw [show 32 = 31 + 1 - 0 from rfl, Nat.field_withField_below _ 47 32 _ 31 0 (by decide), Nat.field_withField_below _ 63 48 _ 31 0 (by decide)]
  rfl

/-! ### The clearing of a sampler -/

/-- A queue's maxima as a clear leaves them. -/
def State.emptyMax : State := (s.setFld .smpMax [i] 63 48 0xFFFF).setFld .smpMax [i] 47 32 0xFFFF

theorem State.depthMax_emptyMax : (s.emptyMax i).fld .smpMax [i] 63 48 = 0xFFFF := by
  rw [State.emptyMax, State.fld_setFld_above _ _ _ 47 32 _ 63 48 (by decide) (by decide), State.fld_setFld_same]
  norm_num

theorem State.delayMax_emptyMax : (s.emptyMax i).fld .smpMax [i] 47 32 = 0xFFFF := by
  rw [State.emptyMax, State.fld_setFld_same]
  norm_num

/-- One bucket of each of a queue's histograms emptied, and all of them. -/
def State.emptyBucket (k : Nat) : State := (s.setReg .smpDhist [i, k] 0).setReg .smpThist [i, k] 0

def State.emptyHists : State := (List.range 8).foldl (fun (s : State) k => s.emptyBucket i k) s

theorem State.sansRegs_emptyHists : (s.emptyHists i).sansRegs = s.sansRegs :=
  foldl_keeps State.sansRegs (fun (s : State) k => s.emptyBucket i k) (fun _ _ => rfl) (List.range 8) s

theorem State.smpMax_emptyBucket {k : Nat} (hk : k < 8) : (s.emptyBucket i k).reg .smpMax [i] = s.reg .smpMax [i] := by
  have hd : Reg.addr .smpMax [i] ≠ Reg.addr .smpDhist [i, k] := by rw [addr_smpMax, addr_smpDhist]; omega
  have ht : Reg.addr .smpMax [i] ≠ Reg.addr .smpThist [i, k] := by rw [addr_smpMax, addr_smpThist]; omega
  rw [State.emptyBucket, State.reg_setReg_other _ _ _ _ _ _ ht, State.reg_setReg_other _ _ _ _ _ _ hd]

theorem State.smpMax_emptyHists : (s.emptyHists i).reg .smpMax [i] = s.reg .smpMax [i] :=
  foldl_keeps_of_mem (f := fun (s : State) k => s.emptyBucket i k) (g := fun u : State => u.reg .smpMax [i]) (l := List.range 8)
    (fun u _ hk => u.smpMax_emptyBucket i (List.mem_range.1 hk)) s

/-- A word that each bucket's step clears or leaves is clear at the end, if its own bucket's step clears it. -/
theorem State.emptyHists_clears {r : Reg} {k : Nat} (hk : k < 8) (hsame : ∀ u : State, (u.emptyBucket i k).reg r [i, k] = 0)
    (hother : ∀ (u : State) (j : Nat), j < 8 → j ≠ k → (u.emptyBucket i j).reg r [i, k] = u.reg r [i, k]) : (s.emptyHists i).reg r [i, k] = 0 :=
  foldl_once (f := fun (s : State) k => s.emptyBucket i k) (P := fun _ => True) (g := fun u : State => u.reg r [i, k])
    (F := fun _ => 0) (l := List.range 8) (fun _ _ _ => trivial) (fun u _ => hsame u) (fun u j hj => hother u j (List.mem_range.1 hj))
    List.nodup_range (List.mem_range.2 hk) trivial

theorem State.smpDhist_emptyHists {k : Nat} (hk : k < 8) : (s.emptyHists i).reg .smpDhist [i, k] = 0 := by
  refine s.emptyHists_clears i hk (fun u => ?_) (fun u j hj8 hj => ?_)
  · have ht : Reg.addr .smpDhist [i, k] ≠ Reg.addr .smpThist [i, k] := by rw [addr_smpDhist, addr_smpThist]; omega
    rw [State.emptyBucket, State.reg_setReg_other _ _ _ _ _ _ ht, State.reg_setReg_same]
  · have hd : Reg.addr .smpDhist [i, k] ≠ Reg.addr .smpDhist [i, j] := by rw [addr_smpDhist, addr_smpDhist]; omega
    have ht : Reg.addr .smpDhist [i, k] ≠ Reg.addr .smpThist [i, j] := by rw [addr_smpDhist, addr_smpThist]; omega
    rw [State.emptyBucket, State.reg_setReg_other _ _ _ _ _ _ ht, State.reg_setReg_other _ _ _ _ _ _ hd]

theorem State.smpThist_emptyHists {k : Nat} (hk : k < 8) : (s.emptyHists i).reg .smpThist [i, k] = 0 := by
  refine s.emptyHists_clears i hk (fun u => State.reg_setReg_same _ _ _ _) (fun u j hj8 hj => ?_)
  have hd : Reg.addr .smpThist [i, k] ≠ Reg.addr .smpDhist [i, j] := by rw [addr_smpThist, addr_smpDhist]; omega
  have ht : Reg.addr .smpThist [i, k] ≠ Reg.addr .smpThist [i, j] := by rw [addr_smpThist, addr_smpThist]; omega
  rw [State.emptyBucket, State.reg_setReg_other _ _ _ _ _ _ ht, State.reg_setReg_other _ _ _ _ _ _ hd]

end

section
variable {s : State} {p c : Nat}

/-- The state that a queue sample begins with: the count of the sample noted. -/
def State.sampleNoted (s : State) : State := { s with fwd := { s.fwd with sampledAt := some s.now } }

theorem State.isPort_lt (h : s.isPort p = true) : p < 768 := by
  simp only [State.isPort, Bool.and_eq_true, decide_eq_true_eq] at h
  exact h.1

/-- A due sample takes the queues of a list that holds each port once. -/
theorem bodyQueueSample_due (hn : s.now % (s.samplePeriod * 1000) = 0) (ha : s.fwd.sampledAt ≠ some s.now) :
    ∃ ports : List Nat, bodyQueueSample s = s.sampleNoted.sampleAll ports ∧ ports.Nodup ∧ ∀ p, s.isPort p = true → p ∈ ports :=
  ⟨(List.range 768).filter s.isPort, if_pos ⟨hn, ha⟩, List.nodup_range.filter _,
    fun _ hp => List.mem_filter.2 ⟨List.mem_range.2 (State.isPort_lt hp), hp⟩⟩

theorem bodySamplerClear_clears (hp : s.isPort p = true) (hc : c < 8) : bodySamplerClear p c s =
    (s.emptyMax (8 * p + c)).emptyHists (8 * p + c) := if_pos ⟨hp, hc⟩

end

end Sys2Proof.Machine

open Sys2Proof Sys2Proof.Machine

/-- Settles O17: the shaper's meter is grown before each command acts on it; the fold over ports and classes samples each queue once. -/
theorem shapersAndSamplers : Obligations.ShapersAndSamplers := by
  refine ⟨fun s p hp hup hpwr => ?_, fun s => ⟨fun hn ha => ?_, fun p c hp hc hup hpwr => ?_⟩⟩
  · intro a old now ho
    refine ⟨commit_ifMain hup hpwr (if_pos ⟨hp, ho⟩), fun v hlt hn hm hc => ?_, fun hneg hpos => ?_⟩
    · have hbody : bodyShaperConfigWrite a v s = s.meterWrite a v.toNat 1 1 true := by
        rw [bodyShaperConfigWrite, State.meterAt_schPortShape hp hlt]
      have hcut := Meter.at_cutTo (m := now) (burst := (meterCfg v.toNat).burst) (Meter.at_grow _ _ _ _)
      refine ⟨_, commit_ifMain hup hpwr (hbody.trans (s.meterWrite_kept ho hn hm hc)), rfl, ?_, ?_, ?_, ?_⟩
      · exact fun b hb => Tbl.find?_set_other _ _ (by simpa using hb)
      · simp only [State.kept_meters, Tbl.get_set_same]
        exact Meter.level_cutTo _ _ _
      · simp only [State.kept_meters, Tbl.get_set_same]
        exact hcut
      · exact fun b hb => Tbl.find?_set_other _ _ hb
    · have hdebt : s.inDebt a = false := by
        have : ¬(s.meterNow a 0 1).level < 0 := not_lt.2 hpos
        simp [State.inDebt, this]
      exact commit_of (if_pos ⟨hp, ho, hneg, hdebt⟩)
  · obtain ⟨ports, hbody, hnodup, hall⟩ := bodyQueueSample_due hn ha
    refine ⟨_, commit_of hbody, ?_, fun p c hp hc => ?_⟩
    · rw [State.eq_of_sansRegs (s.sampleNoted.sansRegs_sampleAll ports)]
      rfl
    · have hword := s.sampleNoted.smpLast_sampleAll hnodup (hall p hp) hc
      simp only [State.fld, State.kept_reg, hword]
      refine ⟨sampleWord_depth _ _ _, fun q hq => (sampleWord_delay _ _ _).trans ?_, sampleWord_count _ _ _⟩
      rw [State.headDelay, show s.sampleNoted.queueHead p c = some q from hq]
      rfl
  · have hbody : bodySamplerClear p c s = (s.emptyMax (8 * p + c)).emptyHists (8 * p + c) := bodySamplerClear_clears hp hc
    refine ⟨_, commit_ifMain hup hpwr hbody, ?_, ?_, ?_, fun k hk => ⟨?_, ?_⟩⟩
    · exact State.kept_of_sansRegs ((s.emptyMax (8 * p + c)).sansRegs_emptyHists (8 * p + c))
    · rw [State.kept_fld, State.fld_congr (State.smpMax_emptyHists _ _), s.depthMax_emptyMax]
    · rw [State.kept_fld, State.fld_congr (State.smpMax_emptyHists _ _), s.delayMax_emptyMax]
    · rw [State.kept_reg]
      exact State.smpDhist_emptyHists _ _ hk
    · rw [State.kept_reg]
      exact State.smpThist_emptyHists _ _ hk
end

section
/-!
PROOFS. The buffer pool manager (O18).
-/

namespace Sys2Proof.Machine

/-! ### The lowest free buffer -/

/-- In a rising list, the first gap at or above a number is missing from the list, and everything before it is listed. -/
theorem firstGap_spec {ks : List Nat} (hs : ks.Pairwise (· < ·)) (n : Nat) :
    n ≤ firstGap ks n ∧ firstGap ks n ∉ ks ∧ ∀ j, n ≤ j → j < firstGap ks n → j ∈ ks := by
  induction ks generalizing n with
  | nil => exact ⟨le_rfl, List.not_mem_nil, fun j hj hlt => absurd (hj.trans_lt hlt) (lt_irrefl _)⟩
  | cons k ks ih =>
    obtain ⟨hk, hs⟩ := List.pairwise_cons.1 hs
    by_cases h1 : k = n
    · obtain ⟨hle, hmem, hall⟩ := ih hs (n + 1)
      simp only [firstGap, if_pos h1]
      refine ⟨by omega, List.not_mem_cons_of_ne_of_not_mem (by omega) hmem, fun j hj hlt => List.mem_cons.2 ?_⟩
      rcases Nat.lt_or_eq_of_le hj with hj | rfl
      · exact .inr (hall j hj hlt)
      · exact .inl h1.symm
    · by_cases h2 : k < n
      · obtain ⟨hle, hmem, hall⟩ := ih hs n
        simp only [firstGap, if_neg h1, if_pos h2]
        exact ⟨hle, List.not_mem_cons_of_ne_of_not_mem (by omega) hmem, fun j hj hlt => List.mem_cons_of_mem _ (hall j hj hlt)⟩
      · simp only [firstGap, if_neg h1, if_neg h2]
        refine ⟨le_rfl, fun hn => ?_, fun j hj hlt => absurd (hj.trans_lt hlt) (lt_irrefl _)⟩
        rcases List.mem_cons.1 hn with rfl | hn
        · exact h1 rfl
        · exact h2 (hk n hn)

theorem Tbl.find?_eq_none_iff {α : Type} (t : Tbl α) (k : Nat) : Tbl.find? t k = none ↔ k ∉ t.keys := by
  induction t with
  | nil => simp [Tbl.keys, Tbl.find?]
  | cons e t ih =>
    obtain ⟨a, v⟩ := e
    by_cases h : a = k
    · simp [Tbl.find?, Tbl.keys, h]
    · simpa [Tbl.find?, Tbl.keys, h, Ne.symm h] using ih

theorem Tbl.find?_ne_none_iff {α : Type} (t : Tbl α) (k : Nat) : Tbl.find? t k ≠ none ↔ k ∈ t.keys := by
  rw [Ne, Tbl.find?_eq_none_iff, not_not]

section
variable {q : BpmPool} {p : Nat} (hp : 4 ≤ p) (hs : q.bufs.keys.Pairwise (· < ·))
include hp hs

/-- Pools other than the cell pools grant the free buffer with the lowest index (R323). -/
theorem BpmPool.nextFree_lowest {i : Nat} (hi : i < q.cap) (hfree : q.bufs.find? i = none) (hused : ∀ j, j < i → q.bufs.find? j ≠ none) :
    q.nextFree p = some i := by
  obtain ⟨-, hgap, hbefore⟩ := firstGap_spec hs 0
  have heq : firstGap q.bufs.keys 0 = i := by
    rcases Nat.lt_trichotomy (firstGap q.bufs.keys 0) i with h | h | h
    · exact absurd ((Tbl.find?_ne_none_iff _ _).1 (hused _ h)) hgap
    · exact h
    · exact absurd (hbefore i (Nat.zero_le i) h) ((Tbl.find?_eq_none_iff _ _).1 hfree)
  rw [BpmPool.nextFree, if_neg hp.not_gt]
  simp only [heq, if_pos hi]

theorem BpmPool.nextFree_none (hused : ∀ j, j < q.cap → q.bufs.find? j ≠ none) : q.nextFree p = none := by
  obtain ⟨-, hgap, -⟩ := firstGap_spec hs 0
  rw [BpmPool.nextFree, if_neg hp.not_gt]
  exact if_neg fun h => hgap ((Tbl.find?_ne_none_iff _ _).1 (hused _ h))

end

theorem BpmPool.alloc_free {q : BpmPool} {p i : Nat} (h : q.nextFree p = some i) (owner : Nat) :
    q.alloc p owner = some (i, { q with bufs := q.bufs.set i (.held owner), bank := (i % 16 + 1) % 16 }) := by rw [BpmPool.alloc, h]; rfl

theorem BpmPool.share_held {q : BpmPool} {i owner n : Nat} (hb : q.bufs.find? i = some (.held owner)) (h2 : 2 ≤ n) (hmax : n ≤ 65535)
    (tag last : Nat) : q.share i owner n tag last = { q with bufs := q.bufs.set i (.shared n tag last false) } := by
  rw [BpmPool.share, hb]
  exact if_pos ⟨rfl, h2, hmax⟩

theorem BpmPool.alloc_empty {q : BpmPool} {p : Nat} (h : q.nextFree p = none) (owner : Nat) : q.alloc p owner = none := by
  rw [BpmPool.alloc, h]; rfl

theorem State.pool_setPool_other (s : State) {p x : Nat} (q : BpmPool) (h : x ≠ p) : (s.setPool p q).pool x = s.pool x := by
  simp [State.pool, Tbl.get_set_other, h]

@[simp] theorem State.kept_pool (s t : State) (p : Nat) : (s.kept t).pool p = t.pool p := rfl

@[simp] theorem State.pool_bump (s : State) (r : Reg) (is : List Nat) (hi lo n p : Nat) : (s.bump r is hi lo n).pool p = s.pool p := rfl

@[simp] theorem State.setPool_setPool (s : State) (p : Nat) (q r : BpmPool) : (s.setPool p q).setPool p r = s.setPool p r := by
  simp [State.setPool]

/-- A buffer granted to an owner, with the next bank of the rotation. -/
def BpmPool.granted (q : BpmPool) (i owner : Nat) : BpmPool := { q with bufs := q.bufs.set i (.held owner), bank := (i % 16 + 1) % 16 }

section
variable {s : State} {p i : Nat}

theorem bodyBpmAlloc_grants (h : (s.pool p).nextFree p = some i) (owner : Nat) :
    bodyBpmAlloc p owner none s = s.setPool p ((s.pool p).granted i owner) := by
  simp only [bodyBpmAlloc, BpmPool.alloc_free h, BpmPool.granted]

theorem bodyBpmAlloc_empty (h : (s.pool p).nextFree p = none) (owner : Nat) : bodyBpmAlloc p owner none s = s.bump .bpmStat [p] 63 32 := by
  simp only [bodyBpmAlloc, BpmPool.alloc_empty h]

/-- The last free buffer goes to one of two requesters, the other finds none (R327). -/
theorem bodyBpmAlloc_arbitrates (hone : (s.pool p).freeCount = 1) (h : (s.pool p).nextFree p = some i) (a b : Nat) :
    ∃ win prio, (win = a ∨ win = b) ∧ bodyBpmAlloc p a (some b) s =
      ((s.setPool p { (s.pool p).granted i win with prio := prio }).bump .bpmStat [p] 63 32).bump .bpmStat [p] 31 0 := by
  have hwin := ite_eq_or_eq ((a + 65536 - (s.pool p).prio) % 65536 ≤ (b + 65536 - (s.pool p).prio) % 65536) a b
  generalize hw : (if (a + 65536 - (s.pool p).prio) % 65536 ≤ (b + 65536 - (s.pool p).prio) % 65536 then a else b) = win at hwin
  refine ⟨win, (win + 1) % 65536, hwin, ?_⟩
  simp only [bodyBpmAlloc, hone, h, Option.isSome_some, and_self, if_true, hw, BpmPool.alloc_free h, State.pool_setPool_same,
    State.setPool_setPool, BpmPool.granted]

end

theorem State.arbitrated_frame (s : State) (p : Nat) (q : BpmPool) :
    ∃ b r, ((s.setPool p q).bump .bpmStat [p] 63 32).bump .bpmStat [p] 31 0 = { s with bpm := b, regs := r } := ⟨_, _, rfl⟩

/-- A lost arbitration counts in the pool's own register. -/
theorem State.regsBut_arbitrated (s : State) (p : Nat) (q : BpmPool) :
    s.regsBut (s.kept (((s.setPool p q).bump .bpmStat [p] 63 32).bump .bpmStat [p] 31 0)) [Reg.addr .bpmStat [p]] :=
  have h1 := (s.setPool p q).regsBut_bump (r := .bpmStat) (is := [p]) List.mem_cons_self 63 32 1
  have h2 := ((s.setPool p q).bump .bpmStat [p] 63 32).regsBut_bump (r := .bpmStat) (is := [p]) List.mem_cons_self 31 0 1
  fun a ha => (h1.trans h2) a ha

/-! ### Releases -/

section
variable {s : State} {p i owner tag : Nat}

theorem State.bpmRelease_one_of_many {n last : Nat} {lr : Bool} (hb : (s.pool p).bufs.find? i = some (.shared n tag last lr)) (hn : 2 ≤ n)
    (hlast : ¬(owner = last ∧ lr = true)) : s.bpmRelease p i owner tag = s.setPool p { s.pool p with
      bufs := (s.pool p).bufs.set i (.shared (n - 1) tag last (lr || decide (owner = last))) } := by
  simp [State.bpmRelease, BpmPool.release, hb, hlast, show n ≠ 1 by omega, beq_eq_decide]

theorem State.bpmRelease_last {last : Nat} {lr : Bool} (hb : (s.pool p).bufs.find? i = some (.shared 1 tag last lr))
    (hlast : ¬(owner = last ∧ lr = true)) (hnamed : lr = true ∨ owner = last) (hrow : s.rowOut p i = false) :
    s.bpmRelease p i owner tag = s.setPool p { s.pool p with bufs := (s.pool p).bufs.erase i } := by
  simp [State.bpmRelease, BpmPool.release, hb, hlast, hnamed, hrow]

/-- The KIND of a refused release, and the field of BPM_POOL_ERR that counts it (Table 13.10). -/
def refusalField : Nat → Nat × Nat
  | 1 => (63, 32)
  | 2 => (31, 16)
  | _ => (15, 0)

def State.refusalCounted (s : State) (p k : Nat) : State := s.bump .bpmErr [p] (refusalField k).1 (refusalField k).2

/-- The word that BPM_ERR_FIRST keeps of a refused release. -/
def refusalWord (p i owner k : Nat) : Nat := 2 ^ 63 + k % 8 * 2 ^ 60 + p % 32 * 2 ^ 55 + i % 2 ^ 23 * 2 ^ 32 + owner % 65536 * 65536

def State.refusalKept (s : State) (p i owner k : Nat) : State :=
  if s.fld .bpmErrFirst [] 63 63 = 0 then s.setReg .bpmErrFirst [] (refusalWord p i owner k) else s

/-- A refused release is counted, kept where BPM_ERR_FIRST is armed, and reported (R326). -/
theorem State.bpmRelease_refused {k : Nat} (h : (s.pool p).release i owner tag = .refused k) : ∃ die addr, 8 ≤ die ∧
    s.bpmRelease p i owner tag = ((s.refusalCounted p k).refusalKept p i owner k).raise die 0x09 p 0x012 1 addr := by
  refine ⟨if p < 12 then 8 + p % 4 else 8 + (p - 16) / 4, p % 256 * 2 ^ 56 + i % 2 ^ 24 * 2 ^ 32 + owner % 65536, by split_ifs <;> omega, ?_⟩
  rw [State.bpmRelease, h]
  rcases k with _ | _ | _ | k <;> rfl

/-- What refuses a release (R325). -/
theorem BpmPool.release_refused {q : BpmPool} {kind hi lo : Nat}
    (h : (kind = 1 ∧ hi = 63 ∧ lo = 32 ∧ q.bufs.find? i = none)
      ∨ (kind = 2 ∧ hi = 31 ∧ lo = 16 ∧ (∃ o, q.bufs.find? i = some (.held o) ∧ o ≠ owner))
      ∨ (kind = 2 ∧ hi = 31 ∧ lo = 16 ∧ (∃ n g last lr, q.bufs.find? i = some (.shared n g last lr) ∧ g ≠ tag))
      ∨ (kind = 3 ∧ hi = 15 ∧ lo = 0 ∧ (∃ n, q.bufs.find? i = some (.shared n tag owner true)))
      ∨ (kind = 3 ∧ hi = 15 ∧ lo = 0 ∧ (∃ last, q.bufs.find? i = some (.shared 1 tag last false) ∧ owner ≠ last))) :
    q.release i owner tag = .refused kind ∧ (hi, lo) = refusalField kind ∧ kind % 8 = kind := by
  rcases h with ⟨rfl, rfl, rfl, hb⟩ | ⟨rfl, rfl, rfl, o, hb, hne⟩ | ⟨rfl, rfl, rfl, n, g, last, lr, hb, hne⟩ | ⟨rfl, rfl, rfl, n, hb⟩
    | ⟨rfl, rfl, rfl, last, hb, hne⟩
  · exact ⟨by rw [BpmPool.release, hb], rfl, rfl⟩
  · exact ⟨by simp [BpmPool.release, hb, hne], rfl, rfl⟩
  · exact ⟨by simp [BpmPool.release, hb, hne], rfl, rfl⟩
  · exact ⟨by simp [BpmPool.release, hb], rfl, rfl⟩
  · exact ⟨by simp [BpmPool.release, hb, hne], rfl, rfl⟩

theorem State.refusalKept_only (s : State) (k : Nat) : s.refusalKept p i owner k = { s with regs := (s.refusalKept p i owner k).regs } := by
  unfold State.refusalKept
  split_ifs <;> rfl

theorem addr_bpmErr_ne_fltCounts (p : Nat) : Reg.addr .bpmErr [p] ≠ Reg.addr .fltCounts [] := by
  simp [Reg.addr, Reg.place]; omega

theorem addr_bpmErr_ne_bpmErrFirst (p : Nat) : Reg.addr .bpmErr [p] ≠ Reg.addr .bpmErrFirst [] := by
  simp [Reg.addr, Reg.place]; omega

theorem State.fld_refusalKept (s : State) (k hi lo : Nat) : (s.refusalKept p i owner k).fld .bpmErr [p] hi lo = s.fld .bpmErr [p] hi lo := by
  unfold State.refusalKept
  split_ifs
  · exact s.fld_setReg_other _ _ _ _ _ _ _ (addr_bpmErr_ne_bpmErrFirst p)
  · rfl

theorem State.errFirst_refusalKept (s : State) (k : Nat) : (s.refusalKept p i owner k).reg .bpmErrFirst [] =
    if s.fld .bpmErrFirst [] 63 63 = 0 then refusalWord p i owner k else s.reg .bpmErrFirst [] := by
  unfold State.refusalKept
  split_ifs
  · exact s.reg_setReg_same _ _ _
  · rfl

theorem State.errFirst_refusalCounted (s : State) (p k : Nat) : (s.refusalCounted p k).reg .bpmErrFirst [] = s.reg .bpmErrFirst [] :=
  s.reg_bump_other _ _ _ _ _ _ _ (addr_bpmErr_ne_bpmErrFirst p).symm

theorem State.raise_frame (s : State) (die block inst kind sev addr : Nat) :
    ∃ r f, s.raise die block inst kind sev addr = { s with regs := r, flt := f } := ⟨_, _, State.raise_only _ _ _ _ _ _ _⟩

/-- A refused release changes registers and fault collection alone. -/
theorem State.bpmRelease_refused_frame (s : State) (p i owner k die addr : Nat) :
    ∃ r f, ((s.refusalCounted p k).refusalKept p i owner k).raise die 0x09 p 0x012 1 addr = { s with regs := r, flt := f } := by
  obtain ⟨r, f, h⟩ := ((s.refusalCounted p k).refusalKept p i owner k).raise_frame die 0x09 p 0x012 1 addr
  refine ⟨r, f, h.trans ?_⟩
  rw [State.refusalKept_only]
  rfl

end

end Sys2Proof.Machine

open Sys2Proof Sys2Proof.Machine

/-- Settles O18: a grant by the lowest gap in the list of buffers in use, a release by what the buffer is. -/
theorem buffersAreGrantedAndReleased : Obligations.BuffersAreGrantedAndReleased := by
  refine ⟨fun s p hsafe hp => ?_, fun s p i owner tag => ?_⟩
  · intro q hs
    refine ⟨fun owner i hi hfree hused => ?_, fun owner hused => ?_, fun a b i hone hi hfree hused => ?_, fun i owner n tag last hb h2 hmax => ?_⟩
    · have hnext := BpmPool.nextFree_lowest hp hs hi hfree hused
      refine ⟨_, commit_unlessSafe hsafe (bodyBpmAlloc_grants hnext owner), rfl, fun x hx => s.pool_setPool_other _ hx, ?_⟩
      have hpool : (s.kept (s.setPool p (q.granted i owner))).pool p = q.granted i owner := s.pool_setPool_same p _
      rw [hpool]
      exact ⟨rfl, rfl⟩
    · exact commit_unlessSafe hsafe (bodyBpmAlloc_empty (BpmPool.nextFree_none hp hs hused) owner)
    · have hnext := BpmPool.nextFree_lowest hp hs hi hfree hused
      obtain ⟨win, prio, hwin, hbody⟩ := bodyBpmAlloc_arbitrates hone hnext a b
      refine ⟨_, commit_unlessSafe hsafe hbody, ?_, ?_, ?_⟩
      · obtain ⟨bpm, regs, hframe⟩ := s.arbitrated_frame p { (s.pool p).granted i win with prio := prio }
        rw [hframe]
        rfl
      · exact State.regsBut_arbitrated s p _
      · simp only [State.kept_pool, State.pool_bump, State.pool_setPool_same]
        exact hwin.imp (fun h => by rw [h]; rfl) (fun h => by rw [h]; rfl)
    · exact commit_of (congrArg (s.setPool p) (BpmPool.share_held hb h2 hmax tag last))
  · intro q
    refine ⟨fun hb hrow => commit_of (State.bpmRelease_held tag hb hrow), fun n last lr hb hn hlast => commit_of (State.bpmRelease_one_of_many hb hn hlast),
      fun last lr hb hlast hnamed hrow => commit_of (State.bpmRelease_last hb hlast hnamed hrow), fun kind hi lo h => ?_,
      fun hup hpwr => commit_ifMain hup hpwr rfl⟩
    obtain ⟨hrel, hfield, hkind⟩ := BpmPool.release_refused h
    obtain ⟨die, addr, -, hbody⟩ := State.bpmRelease_refused hrel
    have hhi : hi = (refusalField kind).1 := congrArg Prod.fst hfield
    have hlo : lo = (refusalField kind).2 := congrArg Prod.snd hfield
    have hfirst : ((s.refusalCounted p kind).refusalKept p i owner kind).reg .bpmErrFirst []
        = if s.fld .bpmErrFirst [] 63 63 = 0 then refusalWord p i owner kind else s.reg .bpmErrFirst [] := by
      rw [State.errFirst_refusalKept, State.fld_congr (s.errFirst_refusalCounted p kind), s.errFirst_refusalCounted]
    refine ⟨_, commit_of hbody, ?_, ?_, fun hset => ?_, fun hclear => ?_⟩
    · obtain ⟨r, f, hframe⟩ := s.bpmRelease_refused_frame p i owner kind die addr
      rw [hframe]
      rfl
    · rw [State.kept_fld, State.fld_congr (State.reg_raise _ _ _ _ _ _ _ _ _ (addr_bpmErr_ne_fltCounts p)), State.fld_refusalKept,
        State.refusalCounted, ← hhi, ← hlo, State.fld_bump_same, satAdd_mod]
      rfl
    · rw [State.kept_reg, State.reg_raise _ _ _ _ _ _ _ _ _ (by decide), hfirst, hset]
      rfl
    · rw [State.kept_reg, State.reg_raise _ _ _ _ _ _ _ _ _ (by decide), hfirst, if_pos hclear, refusalWord, hkind]
end

section
/-!
PROOFS. The route tables: entries read back (O44), operations and banks (O43).
-/

namespace Sys2Proof.Machine

/-! ### Keyed lists -/

section
variable (l : List (Nat × Nat × Nat)) (a b : Nat)

theorem getKey_putKey (v : Nat) : getKey (putKey l a b v) a b = some v := by
  unfold putKey
  split_ifs with h
  · induction l with
    | nil => cases h
    | cons e l ih =>
      by_cases hk : e.1 = a ∧ e.2.1 = b
      · simp [getKey, hk]
      · have hl : (l.any fun e => e.1 == a && e.2.1 == b) = true := by simpa [hk] using h
        have htail := ih hl
        rw [getKey] at htail ⊢
        simpa [hk] using htail
  · rw [getKey, List.find?_append, List.find?_eq_none.2 fun e he hk => h (List.any_eq_true.2 ⟨e, he, hk⟩)]
    simp

theorem getKey_dropKey : getKey (dropKey l a b) a b = none := by
  have hnone : (dropKey l a b).find? (fun e => e.1 == a && e.2.1 == b) = none :=
    List.find?_eq_none.2 fun e he hk => by simpa [hk] using (List.mem_filter.1 he).2
  rw [getKey, hnone]
  rfl

end

/-! ### One operation -/

theorem TblOp.table_of_named {o : TblOp} (h : o.named = true) : 1 ≤ o.table ∧ o.table ≤ 8 := by
  unfold TblOp.named at h
  split at h
  case h_9 => cases h
  all_goals omega

/-- An entry of the endpoint table that may be written reads as it is stored. -/
theorem Bank.ep_set (b : Bank) {e v : Nat} (he : e ≠ 0 ∧ e ≠ 0xFFFFF) (hv : v < 65536) :
    ({ b with endpoint := b.endpoint.set e v } : Bank).ep e = v := by
  rw [Bank.ep, if_neg (by tauto)]
  simpa using Nat.mod_eq_of_lt hv

section
variable (o : TblOp) (b : Bank)

/-- A read of the entry that a write put there (Table 12.11). -/
theorem TblOp.read_write {isPort : Nat → Bool} (hn : o.named = true) (hv : o.valued isPort = true) :
    o.read (o.write b) = match o.table with
      | 1 => [o.d0 / 2 ^ 14 % 4 * 2 ^ 14 + o.d0 % 4096, 0, 0, 0]
      | 2 => [o.d0 / 2 ^ 24 * 2 ^ 24, 0, 0, 0]
      | 3 => [o.d0 / 2 ^ 61 * 2 ^ 61 + o.d0 % 2 ^ 60, o.d1, o.d2, 0]
      | 4 => [o.d0, o.d1 % 4096, 0, 0]
      | 5 => [o.d0, o.d1, o.d2, o.d3 % 4096]
      | 6 => [o.d0, o.d1 / 2 ^ 63 * 2 ^ 63 + o.d1 % 4096, 0, 0]
      | 7 => [o.d0, o.d1, o.d2, o.d3]
      | _ => [o.d0 % 8, 0, 0, 0] := by
  obtain ⟨hlo, hhi⟩ := TblOp.table_of_named hn
  obtain ⟨table, op, index, bank, d0, d1, d2, d3⟩ := o
  dsimp only at hlo hhi
  interval_cases table
  case _ =>
    have hi : index ≠ 0 ∧ index ≠ 0xFFFFF := by simpa [TblOp.valued] using hv
    simp only [TblOp.read, TblOp.write, Bank.ep_set b hi (show d0 / 2 ^ 14 % 4 * 2 ^ 14 + d0 % 4096 < 65536 by omega)]
  all_goals simp [TblOp.read, TblOp.write, getKey_putKey, nth]

/-- A write changes its own table alone. -/
theorem TblOp.write_keeps : (o.table ≠ 1 → (o.write b).endpoint = b.endpoint) ∧ (o.table ≠ 2 → (o.write b).member = b.member)
    ∧ (o.table ≠ 3 → (o.write b).nhr = b.nhr) ∧ (o.table ≠ 4 → (o.write b).v4 = b.v4) ∧ (o.table ≠ 5 → (o.write b).v6 = b.v6)
    ∧ (o.table ≠ 6 → (o.write b).bridge = b.bridge) ∧ (o.table ≠ 7 → (o.write b).vlan = b.vlan)
    ∧ (o.table ≠ 8 → (o.write b).cmap = b.cmap) := by
  unfold TblOp.write
  split <;> simp_all

theorem TblOp.read_write_other {q : TblOp} (h : q.table ≠ o.table) : q.read (o.write b) = q.read b := by
  obtain ⟨h1, h2, h3, h4, h5, h6, h7, h8⟩ := o.write_keeps b
  unfold TblOp.read
  split <;> rename_i hq
  · rw [Bank.ep, h1 (hq ▸ h.symm)]; rfl
  · rw [h2 (hq ▸ h.symm)]
  · rw [h3 (hq ▸ h.symm)]
  · rw [h4 (hq ▸ h.symm)]
  · rw [h5 (hq ▸ h.symm)]
  · rw [h6 (hq ▸ h.symm)]
  · rw [h7 (hq ▸ h.symm)]
  · rw [h8 (hq ▸ h.symm)]
  · rfl

/-- A deleted entry is found no more. -/
theorem TblOp.delete_some {b' : Bank} (h : o.delete b = some b') :
    (o.table = 4 → getKey b'.v4 o.v4.1 o.v4.2 = none) ∧ (o.table = 5 → getKey b'.v6 o.v6.1 o.v6.2 = none)
      ∧ (o.table = 6 → getKey b'.bridge o.vidMac.1 o.vidMac.2 = none) := by
  refine ⟨fun ht => ?_, fun ht => ?_, fun ht => ?_⟩ <;> simp only [TblOp.delete, ht, Option.map_eq_some_iff] at h <;>
    obtain ⟨_, -, rfl⟩ := h <;> exact getKey_dropKey _ _ _

end

/-! ### GO -/

section
variable {s : State} (hn : s.tblOp.named = true)

theorem State.tableGo_unnamed (h : s.tblOp.named = false) : s.tableGo = s.tblEnd stBADDESC := by simp [State.tableGo, h]

include hn

/-- A write is checked for its values, the bank, and room, in this order (R306). -/
theorem State.tableGo_write (ho : s.tblOp.op = 1) : s.tableGo =
    if s.tblOp.valued s.isPort = false then s.tblEnd stBADDESC
    else if s.bankWritable = false then s.tblEnd stRETRY
    else if s.tblOp.full (s.fwd.bankOf s.idleBank) = true then s.tblEnd stNOSPACE
    else ({ s with fwd := s.fwd.setBank s.idleBank (s.tblOp.write (s.fwd.bankOf s.idleBank)) } : State).tblEnd stOK := by
  simp [State.tableGo, hn, ho]

/-- A delete is checked for its table, the bank, and the entry (R306). -/
theorem State.tableGo_delete (ho : s.tblOp.op = 3) : s.tableGo =
    if 4 ≤ s.tblOp.table ∧ s.tblOp.table ≤ 6 then
      if s.bankWritable = false then s.tblEnd stRETRY
      else match s.tblOp.delete (s.fwd.bankOf s.idleBank) with
        | some b => ({ s with fwd := s.fwd.setBank s.idleBank b } : State).tblEnd stOK
        | none => s.tblEnd stRANGE
    else s.tblEnd stBADDESC := by
  simp [State.tableGo, hn, ho] <;> rfl

/-- The words of a read put into the data registers. -/
def State.tblWords (s : State) (ws : List Nat) : State := (List.range 4).foldl (fun (s : State) i => s.setReg .fwdTblData [i] (nth ws i)) s

theorem State.tableGo_read (ho : s.tblOp.op = 2) :
    s.tableGo = (s.tblWords (s.tblOp.read (s.fwd.bankOf s.tblOp.bank))).tblEnd stOK := by
  simp [State.tableGo, hn, ho]
  rfl

end

theorem State.tblWords_frame (s : State) (ws : List Nat) : ∃ r, s.tblWords ws = { s with regs := r } := ⟨_, rfl⟩

theorem State.tblWords_regsBut (s : State) (ws : List Nat) :
    s.regsBut (s.tblWords ws) ((List.range 4).map fun i => Reg.addr .fwdTblData [i]) :=
  State.regsBut_foldl _ _ _ (fun t i hi => (t.regsBut_setReg _ _ _).mono fun a ha => by
    rw [List.mem_singleton.1 ha]; exact List.mem_map_of_mem hi) s

theorem addr_fwdTblData (i : Nat) : Reg.addr .fwdTblData [i] = Reg.fwdTblData.place.base + 8 * i := by
  simp [Reg.addr, Reg.place, Nat.mul_comm]

theorem State.reg_tblWords (s : State) (ws : List Nat) {i : Nat} (h : i < 4) : (s.tblWords ws).reg .fwdTblData [i] = nth ws i := by
  have hother {j k : Nat} (hne : k ≠ j) (u : State) (v : Nat) : (u.setReg .fwdTblData [j] v).reg .fwdTblData [k] = u.reg .fwdTblData [k] :=
    u.reg_setReg_other _ _ _ _ _ fun ha => hne (by rw [addr_fwdTblData, addr_fwdTblData] at ha; omega)
  interval_cases i <;> simp [State.tblWords, List.range_succ, hother]

/-! ### Banks -/

theorem commit_ifMain_fwd {s : State} {f : State → State} {x : Fwd} (hup : s.islandsUp = true) (hp : s.pins.pwrGood = true)
    (h : f s = { s with fwd := x }) : commit s (s.ifMain f) = .next { s with fwd := x } := commit_ifMain hup hp h

theorem Fwd.bankOf_setBank_same (f : Fwd) {n : Nat} (b : Bank) : (f.setBank n b).bankOf n = b := by
  by_cases h : n = 0 <;> simp [Fwd.bankOf, Fwd.setBank, h]

theorem Fwd.bankOf_setBank_other (f : Fwd) {n m : Nat} (b : Bank) (h : (n = 0) ≠ (m = 0)) : (f.setBank n b).bankOf m = f.bankOf m := by
  by_cases hn : n = 0 <;> by_cases hm : m = 0 <;> simp_all [Fwd.bankOf, Fwd.setBank]

theorem Fwd.active_setBank (f : Fwd) (n : Nat) (b : Bank) : (f.setBank n b).active = f.active := by
  unfold Fwd.setBank
  split <;> rfl

end Sys2Proof.Machine

open Sys2Proof Sys2Proof.Machine

/-- Settles O44, table by table: the entry written is the one found, and a bank's other tables keep what they hold. -/
theorem tableWritesReadBack : Obligations.TableWritesReadBack := fun _ o b hn hv =>
  ⟨o.read_write b hn hv, fun _ hq => o.read_write_other b hq, fun _ _ _ h => o.delete_some b h⟩

/-- Settles O43: the checks of an operation are those of the lemmas about GO, and the moves of the banks change the forwarding state alone. -/
theorem tableOperationsAndBankSwap : Obligations.TableOperationsAndBankSwap := by
  refine ⟨fun s hup hp => ⟨fun ho => ?_, fun ho => ?_, fun ho => ?_⟩, fun s => ⟨fun hup hp hb => ?_, fun hb ha => ?_, fun a harm hnow ha => ?_,
    fun a hin hage => ?_⟩⟩
  · have hgo {x : Fwd} {st : Nat} (h : s.tableGo = ({ s with fwd := x } : State).tblEnd st) :
        exec .tableWrite s = .next (({ s with fwd := x } : State).tblEnd st) := commit_ifMain hup hp ((if_pos ho).trans h)
    refine ⟨fun h => hgo (x := s.fwd) ?_, fun hn hv => ⟨fun hw => hgo (x := s.fwd) ?_, fun hw hf => hgo (x := s.fwd) ?_, fun hw hf => hgo ?_⟩⟩
    · by_cases hn : s.tblOp.named = true
      · rw [State.tableGo_write hn ho, if_pos (h.resolve_left (by simp [hn]))]
      · exact State.tableGo_unnamed (by simpa using hn)
    all_goals rw [State.tableGo_write hn ho]
    · simp [hv, hw]
    all_goals simp [hv, hw, hf]
  · refine ⟨fun hn => ?_, fun hn => ?_⟩
    · exact commit_ifMain hup hp ((if_pos ho).trans (State.tableGo_unnamed hn))
    · obtain ⟨r, hr⟩ := s.tblWords_frame (s.tblOp.read (s.fwd.bankOf s.tblOp.bank))
      refine ⟨_, commit_ifMain hup hp ((if_pos ho).trans (State.tableGo_read hn ho)), ?_, ?_, State.tblWords_regsBut _ _,
        fun i hi => State.reg_tblWords s _ hi⟩
      all_goals rw [hr]; rfl
  · have hgo {x : Fwd} {st : Nat} (h : s.tableGo = ({ s with fwd := x } : State).tblEnd st) :
        exec .tableDelete s = .next (({ s with fwd := x } : State).tblEnd st) := commit_ifMain hup hp ((if_pos ho).trans h)
    refine ⟨fun h => hgo (x := s.fwd) ?_, fun hn hlo hhi => ⟨fun hw => hgo (x := s.fwd) ?_, fun hw hd => hgo (x := s.fwd) ?_, fun b hw hd => hgo ?_⟩⟩
    · by_cases hn : s.tblOp.named = true
      · rw [State.tableGo_delete hn ho, if_neg (by rcases h with h | h | h <;> [simp [hn] at h; omega; omega])]
      · exact State.tableGo_unnamed (by simpa using hn)
    · rw [State.tableGo_delete hn ho, if_pos ⟨hlo, hhi⟩, if_pos hw]
    all_goals rw [State.tableGo_delete hn ho, if_pos ⟨hlo, hhi⟩, if_neg (by simp [hw]), hd]
  · refine ⟨fun hw => commit_ifMain_fwd hup hp ?_, fun hw => commit_ifMain_fwd hup hp ?_, fun hat => commit_ifMain_fwd hup hp ?_,
      fun hat => commit_ifMain_fwd hup hp ?_, fun harm => commit_ifMain_fwd hup hp ?_⟩
    · simp [bodyBankCopy, hb, hw]
    · simp [bodyBankCopy, hb, hw]
    · simp [bodySwapArm, hb, hat]
    · simp [bodySwapArm, hb, hat.not_ge]
    · obtain ⟨a, ha⟩ := Option.ne_none_iff_exists'.1 harm
      simp [bodySwapDisarm, hb, ha]
  · refine ⟨_, commit_of (if_pos hb), rfl, Fwd.bankOf_setBank_same _ _, ?_, rfl, rfl⟩
    refine (congrArg (Fwd.bankOf _) (Fwd.active_setBank _ _ _)).trans (Fwd.bankOf_setBank_other _ _ ?_)
    simp only [State.idleBank]
    have : s.fwd.active = 0 ∨ s.fwd.active = 1 := by omega
    rcases this with h | h <;> simp [h]
  · refine ⟨_, commit_of (t := { s with fwd := { s.fwd with
      active := s.idleBank, armed := none, inactive := some s.local, swaps := (s.fwd.swaps + 1) % 2 ^ 32, lastSwap := a } }) ?_,
      rfl, rfl, rfl, rfl, rfl, rfl, rfl⟩
    simp [bodyBankSwap, harm, hnow]
  · refine ⟨_, commit_of (t := { s with fwd := { s.fwd with inactive := none } }) ?_, rfl, rfl⟩
    simp [bodyBankWritable, hin, hage]
end

section
/-!
PROOFS. Links start and are lost (O9, O10).
-/

namespace Sys2Proof.Machine

/-! ### Folds -/

/-- What one element's step of a fold establishes and no step ends holds after it. -/
theorem foldl_established {α β : Type} {f : α → β → α} {P : α → Prop} {b : β} (hkeep : ∀ a x, P a → P (f a x)) (hset : ∀ a, P (f a b))
    {l : List β} (hb : b ∈ l) (a : α) : P (l.foldl f a) := by
  induction l generalizing a with
  | nil => cases hb
  | cons x l ih =>
    rcases List.mem_cons.1 hb with rfl | hb
    · exact foldl_invariant hkeep l (hset a)
    · exact ih hb (f a x)

/-! ### Tables and ports -/

theorem Tbl.get_erase_other {α : Type} (t : Tbl α) {k j : Nat} (d : α) (h : j ≠ k) : (t.erase k).get j d = t.get j d :=
  congrArg (Option.getD · d) (Tbl.find?_filter_kept t (fun x => x != k) (by simpa using h))

theorem State.setPort_setPort (s : State) (p : Nat) (q x : PortSt) : (s.setPort p q).setPort p x = s.setPort p x := by
  rw [State.setPort, State.setPort, State.setPort, Tbl.set_set]

/-! ### What discards touch -/

/-- What identifies a packet of a hub die and where it goes. -/
def QItem.key (q : QItem) : Nat × Nat := (q.id, q.port)

/-- A state without what the switch changes as packets leave it. -/
def State.sansSwitch (s : State) : State := { s with regs := [], ports := [], hubs := [], bpm := [], mirror := [], flt := {}, sent := [] }

/-- Packets leave the switch: no hub die has a packet it had not, and every port keeps its link and the frames it holds for replay. -/
structure State.Loses (s t : State) : Prop where
  others : t.sansSwitch = s.sansSwitch
  link   : ∀ p, (t.port p).link = (s.port p).link
  rtx    : ∀ p, (t.port p).rtx = (s.port p).rtx
  keys   : ∀ h, (t.hub h).queue.map QItem.key ⊆ (s.hub h).queue.map QItem.key

section
variable {s t u : State}

theorem State.Loses.refl (s : State) : s.Loses s := ⟨rfl, fun _ => rfl, fun _ => rfl, fun _ _ h => h⟩

theorem State.Loses.trans (h : s.Loses t) (h' : t.Loses u) : s.Loses u :=
  ⟨h'.others.trans h.others, fun p => (h'.link p).trans (h.link p), fun p => (h'.rtx p).trans (h.rtx p),
    fun n _ hx => h.keys n (h'.keys n hx)⟩

theorem State.Loses.ite {c : Prop} [Decidable c] (ht : s.Loses t) (hu : s.Loses u) : s.Loses (if c then t else u) := by
  split
  · exact ht
  · exact hu

theorem State.Loses.of_ports_hubs (h : t.sansSwitch = s.sansSwitch) (hp : t.ports = s.ports) (hh : t.hubs = s.hubs) : s.Loses t := by
  refine ⟨h, fun p => ?_, fun p => ?_, fun n => ?_⟩
  · rw [State.port, hp]; rfl
  · rw [State.port, hp]; rfl
  · rw [State.hub, hh]; exact fun _ h => h

theorem State.Loses.setPort {p : Nat} {q : PortSt} (hl : q.link = (s.port p).link) (hr : q.rtx = (s.port p).rtx) : s.Loses (s.setPort p q) := by
  refine ⟨rfl, fun n => ?_, fun n => ?_, fun _ _ h => h⟩ <;> by_cases hn : n = p
  · rw [hn, State.port_setPort_same, hl]
  · rw [State.port_setPort_other s p n q hn]
  · rw [hn, State.port_setPort_same, hr]
  · rw [State.port_setPort_other s p n q hn]

/-- The scheduler of a port is no part of what it keeps. -/
theorem State.Loses.setSched (s : State) (p : Nat) (x : Sched) : s.Loses (s.setPort p { s.port p with sched := x }) := .setPort rfl rfl

theorem State.Loses.setHub {h : Nat} {x : Hub} (hk : x.queue.map QItem.key ⊆ (s.hub h).queue.map QItem.key) : s.Loses (s.setHub h x) := by
  refine ⟨rfl, fun _ => rfl, fun _ => rfl, fun n => ?_⟩
  by_cases hn : n = h
  · rw [hn, State.hub_setHub_same]; exact hk
  · rw [show (s.setHub h x).hub n = s.hub n from Tbl.get_set_other _ _ _ hn]; exact fun _ h => h

theorem State.Loses.foldl {β : Type} {f : State → β → State} (h : ∀ (t : State) (b : β), t.Loses (f t b)) (l : List β) (s : State) :
    s.Loses (l.foldl f s) :=
  foldl_invariant (fun t b (ht : s.Loses t) => ht.trans (h t b)) l (State.Loses.refl s)

end

section
variable (s : State)

theorem State.bump_loses (r : Reg) (is : List Nat) (hi lo n : Nat) : s.Loses (s.bump r is hi lo n) := .of_ports_hubs rfl rfl rfl

theorem State.bpmRelease_loses (p i owner tag : Nat) : s.Loses (s.bpmRelease p i owner tag) := by
  have h := s.bpmRelease_only p i owner tag
  exact .of_ports_hubs (by rw [h]; rfl) (by rw [h]) (by rw [h])

theorem State.mirrorAt_loses (die : Nat) (v : Seen) : s.Loses (s.mirrorAt die v) := by
  have h := s.mirrorAt_only die v
  exact .of_ports_hubs (by rw [h]; rfl) (by rw [h]) (by rw [h])

theorem State.creditItem_loses (q : QItem) (n : Nat) : s.Loses (s.creditItem q n) := by
  unfold State.creditItem State.creditBack
  split_ifs
  · exact .setPort rfl rfl
  · exact .refl s
  · exact .refl s

theorem State.deficitEnd_loses (port cls : Nat) : s.Loses (s.deficitEnd port cls) := by
  unfold State.deficitEnd
  split_ifs
  · exact .setPort rfl rfl
  · exact .refl s

theorem recharge_keys (port cls n : Nat) (l : List QItem) : (recharge port cls n l).map QItem.key = l.map QItem.key := by
  induction l generalizing n with
  | nil => rfl
  | cons q l ih =>
    rw [recharge]
    split_ifs <;> exact congrArg₂ List.cons rfl (ih _)

theorem State.recharged_loses (h port cls : Nat) : s.Loses (s.recharged h port cls) :=
  .setHub (by rw [recharge_keys]; exact fun _ h => h)

/-- A hub die without a packet: its charges return (R311, R315). -/
def Hub.without (u : Hub) (q : QItem) : Hub :=
  { u with
    queue := u.queue.filter fun x => x.id != q.id
    shared := u.shared + q.own
    floorU := u.floorU - q.floorC
    hdrm := if q.hdrmC = 0 then u.hdrm else u.hdrm.set q.inPort (u.hdrm.get q.inPort 0 - q.hdrmC) }

theorem State.releaseAll_loses (h owner tag : Nat) (bufs : List Nat) :
    s.Loses (bufs.foldl (fun (s : State) b => s.bpmRelease h b owner tag) s) := .foldl (fun t b => t.bpmRelease_loses h b owner tag) bufs s

/-- The cells that copies have in common return to FREE with the last of them (R324). -/
def State.groupEnds (s : State) (h tag : Nat) (g : CopyGroup) : State :=
  if g.bufs.all fun b => ((s.pool h).bufs.find? b).isNone then
    s.setHub h { s.hub h with shared := (s.hub h).shared + g.shared, groups := (s.hub h).groups.filter fun x => x.tag != tag }
  else s

/-- A packet that leaves gives back its share of the cells it has in common with other copies (R325). -/
def State.leaveGroup (s : State) (h : Nat) (q : QItem) : State :=
  match q.group with
  | none => s
  | some tag =>
    match (s.hub h).groups.find? fun (g : CopyGroup) => g.tag == tag with
    | none => s
    | some g => (g.bufs.foldl (fun (s : State) b =>
        s.bpmRelease h b (if g.lastId = q.id then queueOwner q.port q.cls else engineOwner) tag) s).groupEnds h tag g

theorem State.leaveGroup_loses (h : Nat) (q : QItem) : s.Loses (s.leaveGroup h q) := by
  unfold State.leaveGroup
  split
  · exact .refl s
  · split
    · exact .refl s
    · exact (s.releaseAll_loses h _ _ _).trans (.ite (.setHub fun _ h => h) (.refl _))

theorem State.leave_eq (h : Nat) (q : QItem) : s.leave h q =
    ((((q.bufs.foldl (fun (s : State) b => s.bpmRelease h b (queueOwner q.port q.cls) 0) (s.setHub h ((s.hub h).without q))).leaveGroup h q).recharged
      h q.port q.cls).creditItem q (q.cells - q.gone)).deficitEnd q.port q.cls := rfl

theorem State.leave_loses_more (h : Nat) (q : QItem) : (s.setHub h ((s.hub h).without q)).Loses (s.leave h q) := by
  rw [State.leave_eq]
  exact ((((State.releaseAll_loses _ h _ 0 q.bufs).trans (State.leaveGroup_loses _ _ _)).trans (State.recharged_loses _ _ _ _)).trans
    (State.creditItem_loses _ _ _)).trans (State.deficitEnd_loses _ _ _)

theorem Hub.without_keys (u : Hub) (q : QItem) : (u.without q).queue.map QItem.key ⊆ u.queue.map QItem.key :=
  List.map_subset _ (List.filter_subset_self _)

theorem State.leave_loses (h : Nat) (q : QItem) : s.Loses (s.leave h q) := .trans (.setHub ((s.hub h).without_keys q)) (s.leave_loses_more h q)

/-- A hub die has no packet with this number. -/
def State.hubLacks (s : State) (h id : Nat) : Prop := ∀ k ∈ (s.hub h).queue.map QItem.key, k.1 ≠ id

theorem State.Loses.hubLacks {s t : State} (hl : s.Loses t) {h id : Nat} (hs : s.hubLacks h id) : t.hubLacks h id :=
  fun k hk => hs k (hl.keys h hk)

theorem State.leave_lacks (h : Nat) (q : QItem) : (s.leave h q).hubLacks h q.id := by
  refine (s.leave_loses_more h q).hubLacks fun k hk => ?_
  rw [State.hub_setHub_same] at hk
  obtain ⟨x, hx, rfl⟩ := List.mem_map.1 hk
  simpa [QItem.key] using (List.mem_filter.1 hx).2

theorem State.pfcPort_loses (h port : Nat) : s.Loses (s.pfcPort h port) := by
  have hsend (x : Sched) (time : Nat) : s.Loses ((s.setPort port { s.port port with sched := x }).sendPfc port time) :=
    (State.Loses.setSched s port x).trans (.setPort rfl rfl)
  unfold State.pfcPort
  dsimp only
  cases (s.port port).sched.xoffAt with
  | none => exact .ite (hsend _ _) (.refl s)
  | some a => exact .ite (hsend _ _) (.refl s)

theorem State.pfcWatch_loses (h : Nat) : s.Loses (s.pfcWatch h) := .foldl (fun t p => t.pfcPort_loses h p) _ s

theorem State.discard_leaves (h : Nat) (q : QItem) (i why : Nat) :
    s.Loses (s.discard h q i why) ∧ (s.discard h q i why).hubLacks h q.id := by
  have hafter (t : State) : t.Loses ((t.bufCount h q.cls i).pfcWatch h) := (t.bump_loses _ _ _ _ _).trans (State.pfcWatch_loses _ _)
  exact ⟨(s.mirrorAt_loses _ _).trans ((State.leave_loses _ _ _).trans (hafter _)), (hafter _).hubLacks (State.leave_lacks _ _ _)⟩

theorem State.cutLine_loses (port : Nat) : s.Loses (s.cutLine port) := by
  unfold State.cutLine
  dsimp only
  split_ifs
  · exact .refl s
  · exact (State.Loses.setSched s port { (s.port port).sched with busyTo := s.local, busy := none }).trans (.of_ports_hubs rfl rfl rfl)

/-! ### A flush (R321) -/

/-- One packet of a hub die is lost with its port's link. -/
def State.flushItem (s : State) (h : Nat) (q : QItem) : State := if q.started then (s.leave h q).pfcWatch h else s.discard h q 7 8

/-- One hub die loses the packets queued for a port. -/
def State.flushHub (s : State) (port h : Nat) : State :=
  ((s.hub h).queue.filter fun q => q.port == port).foldl (fun (s : State) q => s.flushItem h q) s

theorem State.flushPort_eq (port : Nat) : s.flushPort port = (List.range 4).foldl (fun (s : State) h => s.flushHub port h) (s.cutLine port) := rfl

theorem State.flushItem_leaves (h : Nat) (q : QItem) : s.Loses (s.flushItem h q) ∧ (s.flushItem h q).hubLacks h q.id := by
  unfold State.flushItem
  split_ifs
  · exact ⟨(s.leave_loses h q).trans (State.pfcWatch_loses _ _), (State.pfcWatch_loses _ _).hubLacks (s.leave_lacks h q)⟩
  · exact s.discard_leaves h q 7 8

theorem State.flushHub_loses (port h : Nat) : s.Loses (s.flushHub port h) := .foldl (fun t q => (t.flushItem_leaves h q).1) _ s

/-- A hub die keeps no packet for the port. -/
def State.hubClear (s : State) (port h : Nat) : Prop := ∀ k ∈ (s.hub h).queue.map QItem.key, k.2 ≠ port

theorem State.flushHub_clear (port h : Nat) : (s.flushHub port h).hubClear port h := by
  rintro k hk rfl
  obtain ⟨q, hq, rfl⟩ := List.mem_map.1 ((s.flushHub_loses k.2 h).keys h hk)
  have hlacks : (s.flushHub q.key.2 h).hubLacks h q.id :=
    foldl_established (fun t x ht => (t.flushItem_leaves h x).1.hubLacks ht) (fun t => (t.flushItem_leaves h q).2)
      (List.mem_filter.2 ⟨hq, by simp [QItem.key]⟩) s
  exact hlacks _ hk rfl

theorem State.flushPort_loses (port : Nat) : s.Loses (s.flushPort port) :=
  (s.cutLine_loses port).trans (.foldl (fun t h => t.flushHub_loses port h) _ _)

theorem State.flushPort_clear (port : Nat) {h : Nat} (hh : h < 4) : ∀ q ∈ ((s.flushPort port).hub h).queue, q.port ≠ port := by
  have hclear : (s.flushPort port).hubClear port h :=
    foldl_established (f := fun (s : State) h => s.flushHub port h) (P := fun t => t.hubClear port h)
      (fun t x ht k hk => ht k ((t.flushHub_loses port x).keys h hk)) (fun t => t.flushHub_clear port h) (List.mem_range.2 hh) _
  exact fun q hq => hclear q.key (List.mem_map_of_mem hq)

end

end Sys2Proof.Machine
end

section
/-!
PROOFS. Links start, fail and are lost (O9, O10).
-/

namespace Sys2Proof.Machine

/-! ### A lane that did not train (Table 18.5) -/

/-- A state without its ports, registers and fault collection. -/
def State.sansPorts (s : State) : State := { s with ports := [], regs := [], flt := {} }

theorem State.sansPorts_kept {s t : State} (h : t.sansPorts = s.sansPorts) : (s.kept t).sansPorts = s.sansPorts := by
  change s.kept t.sansPorts = s.sansPorts
  rw [h]
  rfl

theorem State.eq_of_sansPorts {s t : State} (h : t.sansPorts = s.sansPorts) : t = { s with ports := t.ports, regs := t.regs, flt := t.flt } := by
  calc t = { t.sansPorts with ports := t.ports, regs := t.regs, flt := t.flt } := rfl
    _ = _ := by rw [h]; rfl

section
variable (s : State) (p i : Nat)

/-- The failures in a row of a lane of a port. -/
def State.fails (s : State) (p i : Nat) : Nat := (s.port p).trainFails.get i 0

/-- A lane that trained, or failed fewer than three times in a row, changes its count alone. -/
theorem State.laneTrained_counts {failed : Bool} (h : failed = false ∨ s.fails p i + 1 ≠ 3) :
    s.laneTrained p i failed = s.setPort p { s.port p with
      trainFails := if failed then (s.port p).trainFails.set i (s.fails p i + 1) else (s.port p).trainFails.erase i } := by
  cases failed with
  | false => rfl
  | true => exact if_neg (h.resolve_left (by simp))

/-- The third failure in a row is reported, and the count starts again. -/
theorem State.laneTrained_reports (h : s.fails p i + 1 = 3) :
    s.laneTrained p i true =
      (s.setPort p { s.port p with trainFails := (s.port p).trainFails.erase i }).raise (p / 96) 0x01 (p % 96 + i) 0x002 1 0 := if_pos h

theorem State.fails_setPort (f : Tbl Nat) (j : Nat) : (s.setPort p { s.port p with trainFails := f }).fails p j = f.get j 0 := by
  rw [State.fails, State.port_setPort_same]

/-- A lane that trains or fails touches its own count, and may be reported. -/
theorem State.laneTrained_frame (failed : Bool) :
    ∃ f r l, (∀ j, j ≠ i → f.get j 0 = s.fails p j)
      ∧ s.laneTrained p i failed = ({ s with regs := r, flt := l } : State).setPort p { s.port p with trainFails := f } := by
  by_cases h : failed = false ∨ s.fails p i + 1 ≠ 3
  · refine ⟨_, _, _, fun j hj => ?_, s.laneTrained_counts p i h⟩
    split
    · exact Tbl.get_set_other _ _ _ hj
    · exact Tbl.get_erase_other _ _ hj
  · obtain ⟨hf, h3⟩ := not_or.1 h
    obtain ⟨r, l, hr⟩ := (s.setPort p { s.port p with trainFails := (s.port p).trainFails.erase i }).raise_frame (p / 96) 0x01 (p % 96 + i) 0x002 1 0
    obtain rfl : failed = true := by simpa using hf
    exact ⟨_, r, l, fun j hj => Tbl.get_erase_other _ _ hj, (s.laneTrained_reports p i (not_not.1 h3)).trans hr⟩

/-- What keeps a port's link as it trains: other ports, and all but its counts. -/
def State.trains (s : State) (p : Nat) (t : State) : Prop :=
  t.sansPorts = s.sansPorts ∧ s.portsBut t p ∧ (t.port p).link = (s.port p).link

theorem State.laneTrained_trains (failed : Bool) : s.trains p (s.laneTrained p i failed) := by
  obtain ⟨f, r, l, -, h⟩ := s.laneTrained_frame p i failed
  rw [h]
  refine ⟨rfl, State.portsBut_setPort _ p _, ?_⟩
  rw [State.port_setPort_same]

/-- Every lane of a port, failed or trained. -/
def State.lanesTrained (s : State) (p failed n : Nat) : State :=
  (List.range n).foldl (fun (s : State) i => s.laneTrained p i (failed / 2 ^ i % 2 == 1)) s

theorem State.lanesTrained_trains (failed n : Nat) : s.trains p (s.lanesTrained p failed n) :=
  foldl_invariant (f := fun (s : State) i => s.laneTrained p i (failed / 2 ^ i % 2 == 1)) (P := s.trains p)
    (fun t j ht => by
      obtain ⟨h, hb, hl⟩ := t.laneTrained_trains p j (failed / 2 ^ j % 2 == 1)
      exact ⟨h.trans ht.1, fun q hq => (hb q hq).trans (ht.2.1 q hq), hl.trans ht.2.2⟩) _ ⟨rfl, fun _ _ => rfl, rfl⟩

theorem State.fails_laneTrained_other (failed : Bool) {j : Nat} (h : j ≠ i) : (s.laneTrained p i failed).fails p j = s.fails p j := by
  obtain ⟨f, r, l, hf, hs⟩ := s.laneTrained_frame p i failed
  rw [hs, State.fails, State.port_setPort_same]
  exact hf j h

theorem State.fails_laneTrained_same : (s.laneTrained p i true).fails p i = if s.fails p i + 1 = 3 then 0 else s.fails p i + 1 := by
  split_ifs with h
  · obtain ⟨r, l, hr⟩ := (s.setPort p { s.port p with trainFails := (s.port p).trainFails.erase i }).raise_frame (p / 96) 0x01 (p % 96 + i) 0x002 1 0
    rw [s.laneTrained_reports p i h, hr]
    exact (s.fails_setPort p _ i).trans (by rw [Tbl.get, Tbl.find?_erase_same]; rfl)
  · rw [s.laneTrained_counts p i (.inr h), State.fails_setPort]
    exact Tbl.get_set_same _ _ _ _

/-- No lane failed: nothing is reported. -/
theorem State.lanesTrained_none (n : Nat) : ∃ q, s.lanesTrained p 0 n = { s with ports := q } :=
  foldl_invariant (f := fun (s : State) i => s.laneTrained p i (0 / 2 ^ i % 2 == 1)) (P := fun t => ∃ q, t = { s with ports := q })
    (fun t j ht => by
      obtain ⟨q, rfl⟩ := ht
      exact ⟨_, State.laneTrained_counts _ p j (.inl (by simp))⟩) (List.range n) ⟨_, rfl⟩

end

/-- A lane that failed for the first or second time in a row is counted once. -/
theorem State.fails_lanesTrained {s : State} {p failed n i : Nat} (hi : i < n) (hf : failed / 2 ^ i % 2 = 1) (h : s.fails p i < 2) :
    (s.lanesTrained p failed n).fails p i = s.fails p i + 1 := by
  have honce := foldl_once (f := fun (s : State) i => s.laneTrained p i (failed / 2 ^ i % 2 == 1)) (g := fun u : State => u.fails p i)
    (P := fun _ => True) (F := fun m => if m + 1 = 3 then 0 else m + 1) (b := i) (l := List.range n) (a := s) (fun _ _ h => h)
    (fun t _ => by rw [hf]; exact t.fails_laneTrained_same p i) (fun t j _ hj => t.fails_laneTrained_other p j _ hj.symm)
    List.nodup_range (List.mem_range.2 hi) trivial
  exact honce.trans (if_neg (by omega))

/-! ### A move of a link (Table 15.3) -/

/-- A port that has moved to a state other than UP: nothing is negotiated, and no frame is held or waits. -/
def PortSt.reset (q : PortSt) (st : LinkState) (now : Nat) : PortSt :=
  { q with
    link := { q.link with
      state := st, since := now, negotiated := false, retryAct := 0, creditRx := 0, creditTx := 0, peerRbuf := 0
      helloGot := false, helloMore := 0, helloAt := none, retryFail := false }
    ctx := [], crx := [], rtx := [], rrx := [], localTx := [], replays := []
    sched := { q.sched with paused := [], xoffAt := none, waitAt := [] } }

/-- A port moved; whatever the hub dies hold for it stays. -/
def State.resetPort (s : State) (p : Nat) (st : LinkState) : State := s.setPort p ((s.port p).reset st s.local)

section
variable {s : State} {p : Nat} {st : LinkState}

theorem State.linkTo_of_down (h : s.linkState p ≠ .up) : s.linkTo p st = s.resetPort p st := by
  have hne : ((s.port p).link.state == LinkState.up) = false := by simpa [State.linkState] using h
  rw [State.linkTo, hne]
  rfl

theorem State.linkTo_of_up (h : s.linkState p = .up) :
    s.linkTo p st = (((s.resetPort p st).portCount p 12).reportLive p false).flushPort p := by
  have heq : ((s.port p).link.state == LinkState.up) = true := by simpa [State.linkState] using h
  rw [State.linkTo, heq]
  rfl

theorem State.linkMoves_setPort {q : PortSt} (hst : q.link.state = st) (hat : q.link.since = s.local) : s.linkMoves (s.setPort p q) p st := by
  refine ⟨?_, ?_, State.portsBut_setPort s p q⟩
  · rw [State.linkState, State.port_setPort_same, hst]
  · rw [State.port_setPort_same, hat]

theorem State.resetPort_moves : s.linkMoves (s.resetPort p st) p st := State.linkMoves_setPort rfl rfl

/-- A command that moves a port that is down answers the state with that port moved. -/
theorem commit_linkTo {b : State} (hd : s.linkState p ≠ .up) (hb : b = s.linkTo p st) :
    ∃ t, commit s b = .next t ∧ t = { s with ports := t.ports } ∧ s.linkMoves t p st :=
  ⟨_, commit_of (hb.trans (State.linkTo_of_down hd)), rfl, State.resetPort_moves⟩

end

theorem State.trains.down {s t : State} {p : Nat} (h : s.trains p t) (hd : s.linkState p ≠ .up) : t.linkState p ≠ .up := by
  rwa [State.linkState, h.2.2]

/-- A port that is down and may have trained moves from where it was. -/
theorem State.trains.moves {s t : State} {p : Nat} {st : LinkState} (h : s.trains p t) (hd : s.linkState p ≠ .up) :
    (t.linkTo p st).sansPorts = s.sansPorts ∧ s.linkMoves (t.linkTo p st) p st ∧ ∀ i, (t.linkTo p st).fails p i = t.fails p i := by
  have ⟨hs, hb, hl⟩ := h
  have hlocal : t.local = s.local := by
    change t.sansPorts.local = s.sansPorts.local
    rw [hs]
  rw [State.linkTo_of_down (h.down hd)]
  refine ⟨hs, ⟨?_, ?_, fun q hq => ?_⟩, fun i => ?_⟩
  · rw [State.linkState, State.resetPort, State.port_setPort_same]; rfl
  · rw [State.resetPort, State.port_setPort_same]; exact hlocal
  · exact (State.portsBut_setPort t p _ q hq).trans (hb q hq)
  · rw [State.fails, State.resetPort, State.port_setPort_same]; rfl

/-! ### A link is lost (R321, R366) -/

theorem State.port_resetPort (s : State) (p : Nat) (st : LinkState) : (s.resetPort p st).port p = (s.port p).reset st s.local :=
  s.port_setPort_same p _

theorem State.setLink_setPort (s : State) (p : Nat) (q : PortSt) (l : Link) : (s.setPort p q).setLink p l = s.setPort p { q with link := l } := by
  rw [State.setLink, State.port_setPort_same, State.setPort_setPort]

theorem State.link_setLink (s : State) (p : Nat) (l : Link) : ((s.setLink p l).port p).link = l := congrArg PortSt.link (s.port_setPort_same p _)

/-- A state's part the switch leaves alone is its part with the change of liveness reported. -/
def State.LostLink (s : State) (p : Nat) (st : LinkState) (t : State) : Prop :=
  t.linkState p = st ∧ (t.port p).link.negotiated = false ∧ (t.port p).rtx = []
    ∧ t.sansSwitch = (s.reportLive p false).sansSwitch ∧ ∀ h, h < 4 → ∀ q ∈ (t.hub h).queue, q.port ≠ p

theorem State.linkTo_lostLink {s : State} {p : Nat} {st : LinkState} (h : s.linkState p = .up) : s.LostLink p st (s.linkTo p st) := by
  rw [State.linkTo_of_up h]
  have hloss := (((s.resetPort p st).portCount p 12).reportLive p false).flushPort_loses p
  have hport : (((s.resetPort p st).portCount p 12).reportLive p false).port p = (s.port p).reset st s.local := s.port_resetPort p st
  refine ⟨?_, ?_, ?_, hloss.others, fun n hn => State.flushPort_clear _ p hn⟩
  · rw [State.linkState, hloss.link, hport]; rfl
  · rw [hloss.link, hport]; rfl
  · rw [hloss.rtx, hport]; rfl

theorem State.LostLink.setLink {s t : State} {p : Nat} {st : LinkState} (h : s.LostLink p st t) {l : Link} (hl : l.state = (t.port p).link.state)
    (hn : l.negotiated = (t.port p).link.negotiated) : s.LostLink p st (t.setLink p l) := by
  obtain ⟨hst, hneg, hr, hs, hh⟩ := h
  have hport : (t.setLink p l).port p = { t.port p with link := l } := t.port_setPort_same p _
  refine ⟨?_, ?_, ?_, hs, hh⟩
  · rw [State.linkState, hport]; exact hl.trans hst
  · rw [hport]; exact hn.trans hneg
  · rw [hport]; exact hr

/-- A command that ends with a lost link changes no part of the state but the switch's. -/
theorem State.LostLink.answers {s t : State} {p : Nat} {st : LinkState} (h : s.LostLink p st t) {o : Out} (ho : o = .next (s.kept t)) :
    ∃ t, o = .next t ∧ t.linkState p = st ∧ (t.port p).link.negotiated = false ∧ (t.port p).rtx = []
      ∧ t.fwd = { s.fwd with reports := s.fwd.reports ++ [(p, false, s.local + 1000)] }
      ∧ (∀ h, h < 4 → ∀ q ∈ (t.hub h).queue, q.port ≠ p)
      ∧ t = { s with regs := t.regs, ports := t.ports, hubs := t.hubs, bpm := t.bpm, mirror := t.mirror, flt := t.flt, fwd := t.fwd
                     sent := t.sent } := by
  obtain ⟨hst, hneg, hr, hs, hh⟩ := h
  have hall : s.kept t = { s.reportLive p false with
      regs := t.regs, ports := t.ports, hubs := t.hubs, bpm := t.bpm, mirror := t.mirror, flt := t.flt, sent := t.sent } := by
    calc s.kept t = { s.kept t.sansSwitch with
          regs := t.regs, ports := t.ports, hubs := t.hubs, bpm := t.bpm, mirror := t.mirror, flt := t.flt, sent := t.sent } := rfl
      _ = _ := by rw [hs]; rfl
  have hf : (s.kept t).fwd = { s.fwd with reports := s.fwd.reports ++ [(p, false, s.local + 1000)] } := congrArg State.fwd hall
  refine ⟨s.kept t, ho, hst, hneg, hr, hf, hh, ?_⟩
  rw [hf]
  exact hall

/-! ### The bodies -/

section
variable {s : State} {p : Nat}

/-- A fault in UP moves the link to FAULT and notes what was found. -/
theorem bodyLinkFault_up {lf rf : Bool} (hport : s.isPort p = true) (h : s.linkState p = .up) :
    ∃ l, l.state = ((s.linkTo p .fault).port p).link.state ∧ l.negotiated = ((s.linkTo p .fault).port p).link.negotiated
      ∧ bodyLinkFault p lf rf s = (s.linkTo p .fault).setLink p l := by
  simp only [bodyLinkFault, hport, if_true, h]
  refine ⟨_, ?_, ?_, rfl⟩ <;> rfl

theorem bodyLinkFault_hold {lf rf : Bool} (hport : s.isPort p = true) (h : s.linkState p = .hold) :
    bodyLinkFault p lf rf s = s.setPort p { (s.port p).reset .hold s.local with
      link := { ((s.port p).reset .hold s.local).link with lf := (s.port p).link.lf || lf, rf := (s.port p).link.rf || rf } } := by
  simp only [bodyLinkFault, hport, if_true, h]
  rw [State.linkTo_of_down (by simp [h]), State.port_resetPort]
  exact s.setLink_setPort p _ _

theorem bodyLinkFaultClear_inTime (hport : s.isPort p = true) (hf : (s.port p).link.state = .fault) (hr : (s.port p).link.retryFail = false)
    (hat : s.local < (s.port p).link.since + 50000000) : bodyLinkFaultClear p s = s.setPort p (PortSt.reset
      { s.port p with link := { (s.port p).link with lf := false, rf := false } } .hold s.local) := by
  have hd : (s.setLink p { (s.port p).link with lf := false, rf := false }).linkState p ≠ .up := by
    rw [State.linkState, State.link_setLink]
    exact Eq.trans_ne hf (by decide)
  refine (if_pos hport).trans ((if_pos hf).trans ((if_neg (by simp [hr])).trans ((if_pos hat).trans ((State.linkTo_of_down hd).trans ?_))))
  rw [State.resetPort, State.setLink, State.port_setPort_same, State.setPort_setPort]
  rfl

end

end Sys2Proof.Machine

open Sys2Proof Sys2Proof.Machine

/-- Settles O9: each move is `linkTo` of a port that is down, which sets the port alone. -/
theorem linkStartMoves : Obligations.LinkStartMoves := by
  intro s p restart
  refine ⟨fun hport hst hctl hpwr hsafe hheld => ?_, fun able hst => ?_, fun hst => ?_, fun failed hst hat => ?_, fun hst => ?_⟩
  · exact commit_linkTo (by simp [hst]) (if_pos ⟨hport, hst, hctl, hpwr, hsafe, hheld⟩)
  · exact commit_linkTo (by simp [hst]) (if_pos hst)
  · have hd : (s.setPort p { s.port p with trainFails := [] }).linkState p ≠ .up := by
      rw [State.linkState, State.port_setPort_same]
      exact (Eq.trans_ne hst (by decide))
    refine ⟨_, commit_of ((if_pos hst).trans (State.linkTo_of_down hd)), rfl, ?_⟩
    rw [State.resetPort, State.port_setPort_same, State.setPort_setPort]
    exact State.linkMoves_setPort rfl rfl
  · have hd : s.linkState p ≠ .up := by simp [hst]
    have htr := s.lanesTrained_trains p failed (s.lanes p)
    obtain ⟨hs, hm, hf⟩ := htr.moves (st := restart) hd
    refine ⟨_, commit_of (t := (s.lanesTrained p failed (s.lanes p)).linkTo p restart) (if_pos ⟨hst, hat⟩),
      State.eq_of_sansPorts (State.sansPorts_kept hs), hm, fun h0 => ?_, fun i hi hbit h2 => ?_⟩
    · subst h0
      rw [State.linkTo_of_down (htr.down hd)]
      obtain ⟨q, hq⟩ := s.lanesTrained_none p (s.lanes p)
      rw [hq]
      rfl
    · exact (hf i).trans (State.fails_lanesTrained hi hbit h2)
  · exact commit_linkTo (by simp [hst]) (if_pos hst)

/-- Settles O10: a port that is down moves by `linkTo` alone; one that is up also reports it and flushes its queues. -/
theorem linkFaultsAndLoss : Obligations.LinkFaultsAndLoss := by
  refine ⟨fun s p => ?_, fun s p c st hport hst hup hpwr hc => ?_⟩
  · intro restart l
    refine ⟨fun hh hat hlf hrf hlane => ?_, fun lf rf hport hh => ?_, fun hport hf hr hat => ?_, fun hf h => ?_, fun hup hpwr hport hd => ?_,
      fun hup hpwr hf => ?_⟩
    · refine ⟨_, commit_of (if_pos ⟨hh, hat, hlf, hrf, hlane⟩), State.linkMoves_setPort rfl rfl, rfl, ?_⟩
      exact ⟨congrArg (fun q : PortSt => q.link.retryOwn) (s.port_setPort_same p _), congrArg (fun q : PortSt => q.link.creditOwn) (s.port_setPort_same p _)⟩
    · refine ⟨_, commit_of (bodyLinkFault_hold hport hh), rfl, State.linkMoves_setPort rfl rfl, ?_⟩
      exact ⟨congrArg (fun q : PortSt => q.link.lf) (s.port_setPort_same p _), congrArg (fun q : PortSt => q.link.rf) (s.port_setPort_same p _)⟩
    · refine ⟨_, commit_of (bodyLinkFaultClear_inTime hport hf hr hat), rfl, State.linkMoves_setPort rfl rfl, ?_⟩
      exact ⟨congrArg (fun q : PortSt => q.link.lf) (s.port_setPort_same p _), congrArg (fun q : PortSt => q.link.rf) (s.port_setPort_same p _)⟩
    · exact commit_linkTo (Eq.trans_ne hf (by decide)) (if_pos ⟨hf, h⟩)
    · refine ⟨_, commit_ifMain hup hpwr ((if_pos hport).trans (State.linkTo_of_down hd)), rfl, State.resetPort_moves,
        s.regsBut_setFld _ _ _ _ _, ?_⟩
      exact s.fld_setFld_same _ _ _ _ _
    · exact commit_linkTo (Eq.trans_ne hf (by decide)) ((s.ifMain_up _ hup hpwr).trans (if_pos (.inr hf)))
  · rcases hc with ⟨lf, rf, rfl, rfl⟩ | ⟨rfl, rfl⟩ | ⟨rfl, rfl⟩
    · obtain ⟨l, hl, hn, hbody⟩ := bodyLinkFault_up (lf := lf) (rf := rf) hport hst
      exact ((State.linkTo_lostLink hst).setLink hl hn).answers (commit_of hbody)
    · have hlost : (s.setFld .prtPortCtl (portIdx p) 63 63 1).LostLink p .disabled _ := State.linkTo_lostLink hst
      exact State.LostLink.answers (s := s) hlost (commit_ifMain hup hpwr (if_pos hport))
    · exact (State.linkTo_lostLink hst).answers (commit_ifMain hup hpwr (if_pos (.inl hst)))
end

section
/-!
PROOFS. Copies for lookups, negotiation, credit and link-level retry (O11, O12).
-/

namespace Sys2Proof.Machine

/-! ### Estimates (R288) -/

/-- A table with the entries of a list that are not 0. -/
def Tbl.putAll (t : Tbl Nat) (l : List (Nat × Nat)) : Tbl Nat := l.foldl (fun t e => if e.2 = 0 then t else t.set e.1 e.2) t

theorem Tbl.get_putAll {l : List (Nat × Nat)} {k n : Nat} (hall : ∀ e ∈ l, e.1 = k → e.2 = n) {t : Tbl Nat}
    (h : t.get k 0 = n ∨ (t.get k 0 = 0 ∧ (k, n) ∈ l)) : (t.putAll l).get k 0 = n := by
  induction l generalizing t with
  | nil => exact h.resolve_right fun ⟨_, hm⟩ => by cases hm
  | cons e l ih =>
    refine ih (fun x hx => hall x (List.mem_cons_of_mem _ hx)) (t := if e.2 = 0 then t else t.set e.1 e.2) ?_
    by_cases hk : e.1 = k
    · have hn := hall e List.mem_cons_self hk
      refine .inl ?_
      split_ifs with h0
      · rcases h with h | h
        · exact h
        · omega
      · rw [hk, Tbl.get_set_same, hn]
    · have hkeep : (if e.2 = 0 then t else t.set e.1 e.2).get k 0 = t.get k 0 := by
        split_ifs
        · rfl
        · exact Tbl.get_set_other _ _ _ (Ne.symm hk)
      rw [hkeep]
      refine h.imp_right (And.imp_right fun hm => (List.mem_cons.1 hm).resolve_left fun he => hk ?_)
      rw [← he]

/-- The copies of one value of every port and class, one for each port die. -/
def copies (ports : List Nat) (v : Nat → Nat → Nat) : List (Nat × Nat) :=
  (List.range 8).flatMap fun die => ports.flatMap fun p => (List.range 8).map fun c => ((die * 768 + p) * 8 + c, v p c)

theorem get_copies {ports : List Nat} (hp : ∀ p ∈ ports, p < 768) (v : Nat → Nat → Nat) {die p c : Nat} (hd : die < 8) (hm : p ∈ ports) (hc : c < 8) :
    (Tbl.putAll [] (copies ports v)).get ((die * 768 + p) * 8 + c) 0 = v p c := by
  refine Tbl.get_putAll (fun e he hk => ?_) (.inr ⟨rfl, ?_⟩)
  · simp only [copies, List.mem_flatMap, List.mem_map, List.mem_range] at he
    obtain ⟨d, -, q, hq, x, hx, rfl⟩ := he
    have hplt := hp p hm
    have hqlt := hp q hq
    dsimp only at hk ⊢
    rw [show x = c by omega, show q = p by omega]
  · simp only [copies, List.mem_flatMap, List.mem_map, List.mem_range]
    exact ⟨die, hd, p, hm, c, hc, rfl⟩

theorem bodyAdaptEstimateUpdate_due {s : State} (h : s.fwd.estAt + 512 ≤ s.local) :
    bodyAdaptEstimateUpdate s = { s with fwd := { s.fwd with
      estAt := s.local
      qEst := Tbl.putAll [] (copies s.ports.keys fun p c => ((s.classQueue p c).map QItem.cells).sum)
      dEst := Tbl.putAll [] (copies s.ports.keys fun p c => min ((s.port p).sched.delay.get c 0 / 16) 65535) } } := by
  refine (if_pos h).trans ?_
  simp only [Tbl.putAll, copies, List.foldl_flatMap, List.foldl_map]

/-! ### Frames of a link -/

section
variable (s : State) (p : Nat)

theorem State.pushLink_eq (typ cls : Nat) (ws : List Nat) (note : LocalNote) :
    s.pushLink p typ cls ws note = s.setPort p { s.port p with
      localTx := (s.port p).localTx ++ [⟨s.linkFrame p typ cls ws, note⟩], seq := ((s.port p).seq + 1) % 2 ^ 32 } := by
  simp only [State.pushLink, State.pushLocal, State.port_setPort_same, State.setPort_setPort]

theorem State.link_pushLink (typ cls : Nat) (ws : List Nat) (note : LocalNote) :
    ((s.pushLink p typ cls ws note).port p).link = (s.port p).link := by
  rw [State.pushLink_eq, State.port_setPort_same]

theorem State.pushLink_keptParts (typ cls : Nat) (ws : List Nat) (note : LocalNote) : (s.pushLink p typ cls ws note).keptParts = s.keptParts := rfl

theorem State.linkFrame_setPort {q : PortSt} (h : q.seq = (s.port p).seq) (typ cls : Nat) (ws : List Nat) :
    (s.setPort p q).linkFrame p typ cls ws = s.linkFrame p typ cls ws := by
  simp only [State.linkFrame, State.port_setPort_same, h]
  rfl

/-- A port that takes a frame of its own: the frame waits, and the rest of the port is as given. -/
theorem State.pushLink_setPort {q : PortSt} (h : q.seq = (s.port p).seq) (typ cls : Nat) (ws : List Nat) (note : LocalNote) :
    (s.setPort p q).pushLink p typ cls ws note = s.setPort p { q with
      localTx := q.localTx ++ [⟨s.linkFrame p typ cls ws, note⟩], seq := (q.seq + 1) % 2 ^ 32 } := by
  rw [State.pushLink_eq, State.port_setPort_same, State.linkFrame_setPort s p h, State.setPort_setPort]

end

/-! ### Negotiation (R372) -/

section
variable {s : State} {p : Nat}

theorem bodyHelloSend_due (hst : (s.port p).link.state = .up) (hgot : (s.port p).link.helloGot = false)
    (hat : (s.port p).link.helloAt = none ∨ ∃ a, (s.port p).link.helloAt = some a ∧ a + 10000 ≤ s.local) :
    bodyHelloSend p s = s.setPort p { s.port p with
      link := { (s.port p).link with helloAt := some s.local, helloMore := 0 }
      localTx := (s.port p).localTx ++ [⟨s.linkFrame p tLINK_RETRY 0
        [2 ^ 56 + (s.port p).link.retryOwn * 2 ^ 48 + (s.port p).link.creditOwn * 2 ^ 40, s.lanes p * 32 * 2 ^ 48], .plain⟩]
      seq := ((s.port p).seq + 1) % 2 ^ 32 } := by
  have hdue : (match (s.port p).link.helloAt with | none => true | some t => decide (t + 10000 ≤ s.local)) = true := by
    rcases hat with h | ⟨a, h, hle⟩
    · rw [h]
    · rw [h]; exact decide_eq_true hle
  refine (if_pos ⟨hst, hdue, .inl hgot⟩).trans ?_
  rw [State.pushLink_eq, State.setLink_setPort, if_neg (by simp [hgot])]
  rfl

theorem State.grantWindows_link (s : State) (p classes : Nat) : ((s.grantWindows p classes).port p).link = (s.port p).link := by
  refine foldl_keeps (fun t : State => (t.port p).link) _ (fun t c => ?_) _ s
  dsimp only
  rw [State.link_pushLink, State.port_setPort_same]

theorem State.linkLocalIn_passed {f : Frame} {h k : Packet} {u : State} {typ len : Nat} (hh : s.header? f = some h) (ht : h.typ = typ)
    (hr : s.receive p f = .linkLocal k u) (hlen : k.len = len) (act : Packet → State → State) :
    s.linkLocalIn p f typ len act = act k (u.qftCount p 0) := by
  simp only [State.linkLocalIn, hh, ht, hr, hlen, if_true]

theorem State.retryIn_passed {f : Frame} {h k : Packet} {u : State} {op : Nat} (hh : s.header? f = some h) (ht : h.typ = tLINK_RETRY)
    (hop : (h.word 0).field 63 56 = op) (hr : s.receive p f = .linkLocal k u) (hlen : k.len = 16) (act : Packet → State → State) :
    s.retryIn p f op act = act k (u.qftCount p 0) := by
  simp only [State.retryIn, hh, hop, if_true]
  exact State.linkLocalIn_passed hh ht hr hlen act

/-! ### Credit and retry (R375 to R382) -/

theorem bodyCreditUpdateSend_due {c : Nat} (hup : s.linkUp p = true) (hact : (s.port p).link.creditRx / 2 ^ c % 2 = 1)
    (hdue : ((s.port p).crx.get c {}).due s.local = true) :
    bodyCreditUpdateSend p c s = s.setPort p { s.port p with
      crx := (s.port p).crx.set c { (s.port p).crx.get c {} with
        sentRel := some ((s.port p).crx.get c {}).released, sentAt := s.local, grewAt := none }
      localTx := (s.port p).localTx ++ [⟨s.linkFrame p tLINK_CREDIT c
        [(((s.port p).crx.get c {}).window + ((s.port p).crx.get c {}).released) % 2 ^ 32 * 2 ^ 32], .plain⟩]
      seq := ((s.port p).seq + 1) % 2 ^ 32 } := by
  refine (if_pos ⟨hup, hact, hdue⟩).trans ((State.pushLink_setPort s p ?_ _ _ _ _).trans ?_) <;> rfl

/-- What an ACK leaves of a class's frames: those from its LSEQ on (R379). -/
def RetryTx.acked (r : RetryTx) (lseq : Nat) : RetryTx :=
  { r.freeBelow lseq with naks := if (r.freeBelow lseq).held.length < r.held.length then 0 else r.naks }

theorem RetryTx.acked_held (r : RetryTx) (lseq : Nat) : (r.acked lseq).held = (r.freeBelow lseq).held := rfl

theorem RetryTx.acked_nextSeq (r : RetryTx) (lseq : Nat) : (r.acked lseq).nextSeq = r.nextSeq := by
  obtain ⟨l, hl⟩ : ∃ l, r.freeBelow lseq = { r with held := l } := ⟨_, rfl⟩
  rw [RetryTx.acked, hl]

theorem bodyAck_frees {f : Frame} {h k : Packet} {u : State} (hh : s.header? f = some h) (ht : h.typ = tLINK_RETRY)
    (hop : (h.word 0).field 63 56 = 2) (hr : s.receive p f = .linkLocal k u) (hlen : k.len = 16)
    (hon : (u.qftCount p 0).retryOn p k.cls = true) (hacc : (((u.qftCount p 0).port p).rtx.get k.cls {}).accounts ((k.word 0).field 31 0) = true) :
    bodyAck p f s = (u.qftCount p 0).setPort p { (u.qftCount p 0).port p with
      rtx := ((u.qftCount p 0).port p).rtx.set k.cls ((((u.qftCount p 0).port p).rtx.get k.cls {}).acked ((k.word 0).field 31 0)) } := by
  refine (State.retryIn_passed hh ht hop hr hlen _).trans ?_
  generalize u.qftCount p 0 = v at *
  generalize (k.word 0).field 31 0 = lseq at *
  dsimp only
  rw [if_pos hon, if_pos hacc]
  rfl

/-- The frames of a class from an LSEQ on are sent again, behind a REPLAY (R381). -/
theorem State.replayFrom_setPort {q : PortSt} (hq : q.seq = (s.port p).seq) (c lseq : Nat) :
    (s.setPort p q).replayFrom p c lseq = s.setPort p { q with
      localTx := q.localTx.filter (fun x => !x.replays c)
        ++ [⟨s.linkFrame p tLINK_RETRY c [4 * 2 ^ 56 + lseq % 2 ^ 32, 0], .replay c lseq⟩]
      replays := if (((q.rtx.get c {}).freeBelow lseq).held.map Prod.snd).isEmpty then q.replays.filter (fun e => e.1 != c)
        else q.replays.filter (fun e => e.1 != c) ++ [(c, ((q.rtx.get c {}).freeBelow lseq).held.map Prod.snd)]
      seq := (q.seq + 1) % 2 ^ 32 } := by
  rw [State.replayFrom, State.sendRetry]
  simp only [State.port_setPort_same, State.setPort_setPort]
  refine (State.pushLink_setPort s p ?_ _ _ _ _).trans ?_
  · exact hq
  · rfl

/-- A NAK is counted, and the frames from its LSEQ on are sent again (R381, R382). -/
def State.naked (s : State) (p c lseq : Nat) : State :=
  ((s.portCount p 14).setPort p { s.port p with
    rtx := (s.port p).rtx.set c { (s.port p).rtx.get c {} with naks := ((s.port p).rtx.get c {}).naks + 1 } }).replayFrom p c lseq

theorem State.port_naked (s : State) (p c lseq : Nat) :
    ((s.naked p c lseq).port p).rtx.get c {} = { (s.port p).rtx.get c {} with naks := ((s.port p).rtx.get c {}).naks + 1 }
    ∧ ((s.naked p c lseq).port p).localTx = (s.port p).localTx.filter (fun x => !x.replays c)
        ++ [⟨s.linkFrame p tLINK_RETRY c [4 * 2 ^ 56 + lseq % 2 ^ 32, 0], .replay c lseq⟩]
    ∧ ((s.naked p c lseq).port p).replays = (s.port p).replays.filter (fun e => e.1 != c)
        ++ (if (((s.port p).rtx.get c {}).freeBelow lseq).held.isEmpty then []
          else [(c, (((s.port p).rtx.get c {}).freeBelow lseq).held.map Prod.snd)]) := by
  rw [State.naked, State.replayFrom_setPort (s := s.portCount p 14) (by rfl), State.port_setPort_same]
  refine ⟨Tbl.get_set_same _ _ _ _, rfl, ?_⟩
  rw [Tbl.get_set_same]
  change (if ((((s.port p).rtx.get c {}).freeBelow lseq).held.map Prod.snd).isEmpty then (s.port p).replays.filter (fun e => e.1 != c)
    else (s.port p).replays.filter (fun e => e.1 != c) ++ [(c, (((s.port p).rtx.get c {}).freeBelow lseq).held.map Prod.snd)]) = _
  rw [List.isEmpty_map]
  split_ifs
  · exact (List.append_nil _).symm
  · rfl

theorem bodyNak_replays {f : Frame} {h k : Packet} {u : State} (hh : s.header? f = some h) (ht : h.typ = tLINK_RETRY)
    (hop : (h.word 0).field 63 56 = 3) (hr : s.receive p f = .linkLocal k u) (hlen : k.len = 16)
    (hon : (u.qftCount p 0).retryOn p k.cls = true) (hacc : (((u.qftCount p 0).port p).rtx.get k.cls {}).accounts ((k.word 0).field 31 0) = true)
    (hnaks : (((u.qftCount p 0).port p).rtx.get k.cls {}).naks + 1 < 16)
    (hnone : (((u.qftCount p 0).port p).rtx.get k.cls {}).replayed = none) :
    bodyNak p f s = (u.qftCount p 0).naked p k.cls ((k.word 0).field 31 0) := by
  refine (State.retryIn_passed hh ht hop hr hlen _).trans ?_
  generalize u.qftCount p 0 = v at *
  have hon' : (v.portCount p 14).retryOn p k.cls = true := hon
  have hport : (v.portCount p 14).port p = v.port p := rfl
  refine (if_pos hon').trans ((if_neg ?_).trans ((if_neg ?_).trans ?_))
  · rw [hport, hacc]
    simp only [Bool.true_eq_false, or_false]
    omega
  · rw [hport, hnone]
    exact Bool.false_ne_true
  · rfl

theorem State.negotiate_link (s : State) (p retry creditPeer : Nat) : ((s.negotiate p retry creditPeer).port p).link = { (s.port p).link with
    negotiated := true, retryAct := Nat.land (s.port p).link.retryOwn retry, creditRx := (s.port p).link.creditOwn, creditTx := creditPeer } := by
  rw [State.negotiate, State.grantWindows_link, State.link_setLink]

end

end Sys2Proof.Machine

open Sys2Proof Sys2Proof.Machine

/-- Settles O11. -/
theorem lookupCopiesAndNegotiation : Obligations.LookupCopiesAndNegotiation := by
  refine ⟨fun s => ⟨fun p r hr => ?_, fun hat hports => ?_⟩, fun s p => ?_⟩
  · exact commit_of_keptParts (by rw [bodyLivenessUpdate, hr]) rfl
  · refine ⟨_, commit_of (bodyAdaptEstimateUpdate_due hat), rfl, fun die p c hd hm hc => ⟨?_, ?_⟩⟩
    · exact get_copies hports _ hd hm hc
    · exact get_copies hports _ hd hm hc
  · intro l
    refine ⟨fun hst hat hgot => ?_, fun f h k u hh ht hop hr hlen hneg => ?_, fun hst hneg hat => ?_⟩
    · refine ⟨_, commit_of (bodyHelloSend_due hst hgot hat), rfl, State.portsBut_setPort s p _, ?_, ?_⟩
      · exact congrArg PortSt.link (s.port_setPort_same p _)
      · exact congrArg PortSt.localTx (s.port_setPort_same p _)
    · refine ⟨_, commit_of (State.retryIn_passed hh ht hop hr hlen _), ?_⟩
      have hv : ((u.qftCount p 0).port p).link.negotiated = false := hneg
      refine (congrArg (fun t : State => (t.port p).link) (if_neg (by simp [hv]))).trans ?_
      rw [State.negotiate_link, State.link_setLink]
      rfl
    · exact commit_of_keptParts (if_pos ⟨hst, hneg, hat⟩) rfl

/-- Settles O12. -/
theorem creditAndRetryRunPerClass : Obligations.CreditAndRetryRunPerClass := by
  refine ⟨fun s p => ⟨fun f h k u hh ht hr hlen => ?_, fun c hup hact hdue => ?_⟩, fun s p => ⟨fun f h k u hh ht hop hr hlen => ?_,
    fun f h k u hh ht hop hr hlen => ?_, fun c => ?_, fun c d hw hon hat => ?_, fun f h k u hh ht hop hr hlen => ?_⟩⟩
  · exact commit_of (State.linkLocalIn_passed hh ht hr hlen _)
  · refine ⟨_, commit_of (bodyCreditUpdateSend_due hup hact hdue), rfl, State.portsBut_setPort s p _, ?_, ?_⟩
    · exact (congrArg (fun q : PortSt => q.crx.get c {}) (s.port_setPort_same p _)).trans (Tbl.get_set_same _ _ _ _)
    · exact congrArg PortSt.localTx (s.port_setPort_same p _)
  · intro v r lseq hon hacc
    have hrtx : ((v.setPort p { v.port p with rtx := (v.port p).rtx.set k.cls (r.acked lseq) }).port p).rtx.get k.cls {} = r.acked lseq := by
      rw [State.port_setPort_same, Tbl.get_set_same]
    exact ⟨_, commit_of (bodyAck_frees hh ht hop hr hlen hon hacc), rfl, State.portsBut_setPort v p _,
      (congrArg RetryTx.held hrtx).trans (r.acked_held lseq), (congrArg RetryTx.nextSeq hrtx).trans (r.acked_nextSeq lseq)⟩
  · intro v r lseq hon hacc hnaks hnone
    obtain ⟨hrtx, hloc, hrep⟩ := v.port_naked p k.cls lseq
    exact ⟨_, commit_of (bodyNak_replays hh ht hop hr hlen hon hacc hnaks hnone), hrtx, hloc, hrep⟩
  · intro r hon hun hdue
    have hd : (decide (64 ≤ r.unacked) || (match r.ackDueAt with | some t => decide (t ≤ s.local) | none => false)) = true := by
      rcases hdue with h | ⟨d, h, hle⟩
      · rw [decide_eq_true h, Bool.true_or]
      · rw [h]
        exact (Bool.or_eq_true _ _).mpr (.inr (decide_eq_true hle))
    exact commit_of_keptParts (if_pos ⟨hon, hun, hd⟩) (State.pushLink_keptParts _ _ _ _ _ _)
  · exact commit_of_keptParts (by rw [bodyNakResendTimer, hw]; exact if_pos ⟨hon, hat⟩) (State.pushLink_keptParts _ _ _ _ _ _)
  · intro v r hon hw hexp
    exact commit_of ((State.retryIn_passed hh ht hop hr hlen _).trans (if_pos ⟨hon, hw, hexp⟩))
end

section
/-!
PROOFS. Priority flow control (O13).
-/

namespace Sys2Proof.Machine

theorem State.Loses.keptParts {s t : State} (h : s.Loses t) : t.keptParts = s.keptParts := by
  change t.sansSwitch.keptParts = s.sansSwitch.keptParts
  rw [h.others]

section
variable (s : State) (p : Nat)

/-- The pauses of a port replaced. -/
def State.withPaused (p : Nat) (x : Tbl Nat) : State := s.setPort p { s.port p with sched := { (s.port p).sched with paused := x } }

/-- One priority of a PFC frame: paused for its time, or released (R370). -/
def State.pfcTake (rx enable : Nat) (times : List Nat) (i : Nat) : State :=
  if enable / 2 ^ i % 2 = 1 ∧ rx / 2 ^ i % 2 = 1 then
    s.withPaused p (if nth times i % 65536 = 0 then (s.port p).sched.paused.erase i
      else (s.port p).sched.paused.set i (s.local + s.quantaNs p (nth times i % 65536)))
  else s

/-- A PFC frame counts as a good frame of 64 bytes, and as one more PFC frame (R386). -/
def State.pfcCounted : State := ((s.portCount p 0).portCount p 1 64).portCount p 10

theorem bodyPfcFrameReceive_up (enable : Nat) (times : List Nat) (h : s.linkUp p = true) :
    bodyPfcFrameReceive p enable times s = (List.range 8).foldl
      (fun (t : State) i => t.pfcTake p ((s.pfcCounted p).fld .prtPortCtl (portIdx p) 61 54) enable times i) (s.pfcCounted p) := if_pos h

theorem State.fld_pfcCounted : (s.pfcCounted p).fld .prtPortCtl (portIdx p) 61 54 = s.fld .prtPortCtl (portIdx p) 61 54 := by
  rw [State.pfcCounted, State.ctl_portCount, State.ctl_portCount, State.ctl_portCount]

theorem State.pfcCounted_regsBut :
    s.regsBut (s.pfcCounted p) [Reg.addr .prtCnt (portIdx p ++ [0]), Reg.addr .prtCnt (portIdx p ++ [1]), Reg.addr .prtCnt (portIdx p ++ [10])] :=
  ((State.regsBut_bump s (by simp) _ _ _).trans (State.regsBut_bump _ (by simp) _ _ _)).trans (State.regsBut_bump _ (by simp) _ _ _)

theorem State.quantaNs_pfcCounted (q : Nat) : (s.pfcCounted p).quantaNs p q = s.quantaNs p q := by
  have hspeed : (s.pfcCounted p).speed p = s.speed p := by
    rw [State.speed, State.pfcCounted, State.cfg_portCount, State.cfg_portCount, State.cfg_portCount]; rfl
  simp only [State.quantaNs, State.bytesPerNs, State.lanes, hspeed]

/-- One priority's pause after a PFC frame. -/
def State.pauseTaken (rx enable : Nat) (times : List Nat) (x : Tbl Nat) (i : Nat) : Tbl Nat :=
  if enable / 2 ^ i % 2 = 1 ∧ rx / 2 ^ i % 2 = 1 then
    if nth times i % 65536 = 0 then x.erase i else x.set i (s.local + s.quantaNs p (nth times i % 65536))
  else x

variable (rx enable : Nat) (times : List Nat) (x : Tbl Nat)

/-- What a PFC frame makes of a state: one port's pauses as its priorities leave them. -/
structure State.PausesTo (s : State) (p : Nat) (x : Tbl Nat) (t : State) : Prop where
  only   : ∃ ps, t = { s with ports := ps }
  others : s.portsBut t p
  link   : (t.port p).link = (s.port p).link
  paused : (t.port p).sched.paused = x

theorem State.withPaused_pausesTo : s.PausesTo p x (s.withPaused p x) := by
  refine ⟨⟨_, rfl⟩, State.portsBut_setPort s p _, ?_, ?_⟩ <;> rw [State.withPaused, State.port_setPort_same]

theorem State.pfcTake_pausesTo (i : Nat) :
    s.PausesTo p (s.pauseTaken p rx enable times (s.port p).sched.paused i) (s.pfcTake p rx enable times i) := by
  unfold State.pfcTake State.pauseTaken
  split_ifs
  · exact s.withPaused_pausesTo p _
  · exact s.withPaused_pausesTo p _
  · exact ⟨⟨_, rfl⟩, fun _ _ => rfl, rfl, rfl⟩

theorem State.foldl_pfcTake (l : List Nat) : s.PausesTo p (l.foldl (s.pauseTaken p rx enable times) (s.port p).sched.paused)
    (l.foldl (fun (t : State) i => t.pfcTake p rx enable times i) s) := by
  induction l generalizing s with
  | nil => exact ⟨⟨_, rfl⟩, fun _ _ => rfl, rfl, rfl⟩
  | cons i l ih =>
    rw [List.foldl_cons, List.foldl_cons]
    have hstep := s.pfcTake_pausesTo p rx enable times i
    have hrest := ih (s.pfcTake p rx enable times i)
    have hsame : (s.pfcTake p rx enable times i).pauseTaken p rx enable times = s.pauseTaken p rx enable times := by
      obtain ⟨ps, hps⟩ := hstep.only
      rw [hps]
      rfl
    rw [hstep.paused, hsame] at hrest
    refine ⟨?_, fun q hq => (hrest.others q hq).trans (hstep.others q hq), hrest.link.trans hstep.link, hrest.paused⟩
    obtain ⟨ps, hps⟩ := hstep.only
    obtain ⟨qs, hqs⟩ := hrest.only
    exact ⟨qs, by rw [hqs, hps]⟩

theorem State.find?_pauseTaken_other {i j : Nat} (h : j ≠ i) : (s.pauseTaken p rx enable times x i).find? j = x.find? j := by
  unfold State.pauseTaken
  split_ifs
  · exact Tbl.find?_filter_kept x (fun k => k != i) (by simpa using h)
  · exact Tbl.find?_set_other x _ h
  · rfl

/-- The pause of a priority after a PFC frame: its time, none, or as it was (R370). -/
theorem State.find?_pausesTaken {i : Nat} (hi : i < 8) : ((List.range 8).foldl (s.pauseTaken p rx enable times) x).find? i =
    if enable / 2 ^ i % 2 = 1 ∧ rx / 2 ^ i % 2 = 1 then
      if nth times i % 65536 = 0 then none else some (s.local + s.quantaNs p (nth times i % 65536))
    else x.find? i := by
  refine foldl_once (f := s.pauseTaken p rx enable times) (g := fun y : Tbl Nat => y.find? i) (P := fun _ => True)
    (F := fun o => if enable / 2 ^ i % 2 = 1 ∧ rx / 2 ^ i % 2 = 1 then
      if nth times i % 65536 = 0 then none else some (s.local + s.quantaNs p (nth times i % 65536)) else o) (fun _ _ h => h) (fun y _ => ?_)
    (fun y j _ hj => s.find?_pauseTaken_other p rx enable times y hj.symm) List.nodup_range (List.mem_range.2 hi) trivial
  unfold State.pauseTaken
  split_ifs
  · exact Tbl.find?_erase_same y _
  · exact Tbl.find?_set_same y _ _
  · rfl

end

end Sys2Proof.Machine

open Sys2Proof Sys2Proof.Machine

/-- Settles O13. -/
theorem pfcPausesAndThresholdsAgree : Obligations.PfcPausesAndThresholdsAgree := by
  refine ⟨fun s p => ?_, fun s d v hup hp hd => ?_⟩
  · intro rx
    refine ⟨fun enable times hup => ?_, fun i e he hle => ?_, fun a ha hle hup => ?_⟩
    · have hres := (s.pfcCounted p).foldl_pfcTake p rx enable times (List.range 8)
      have hbody := bodyPfcFrameReceive_up s p enable times hup
      rw [State.fld_pfcCounted] at hbody
      refine ⟨_, commit_of hbody, ?_, hres.others, ?_, hres.link, fun i hi => ?_⟩
      · obtain ⟨ps, hps⟩ := hres.only
        rw [show List.foldl _ _ _ = _ from hps]
        rfl
      · obtain ⟨ps, hps⟩ := hres.only
        rw [show List.foldl _ _ _ = _ from hps]
        exact s.pfcCounted_regsBut p
      · have hp := congrArg (fun y : Tbl Nat => y.find? i) hres.paused
        refine hp.trans (((s.pfcCounted p).find?_pausesTaken p rx enable times _ hi).trans ?_)
        rw [State.quantaNs_pfcCounted]
        rfl
    · exact commit_of_keptParts (by rw [bodyPfcPauseExpire, he]; exact if_pos hle) rfl
    · refine commit_of_keptParts ?_ rfl
      rw [bodyPfcXoffRepeat, ha]
      refine (if_pos ⟨hle, hup⟩).trans ?_
      rw [State.sendPfc, State.port_setPort_same]
      rfl
  · intro xoff xon
    refine ⟨fun h0 hlt => ?_, fun h => ?_⟩
    · refine commit_ifMain (t := s) hup hp ((if_pos hd).trans (if_neg ?_))
      have hne : xon ≠ 0 := h0.ne'
      have hle : ¬xoff ≤ xon := by omega
      simp [pfcThreshOk, xon, xoff] at hne hle ⊢
      exact ⟨hne, hle⟩
    · refine commit_of_keptParts ((s.ifMain_up _ hup hp).trans ((if_pos hd).trans (if_pos ?_))) (State.pfcWatch_loses _ _).keptParts
      exact (Bool.or_eq_true _ _).mpr (h.imp (by simp [xon]) decide_eq_true)
end

section
/-!
PROOFS. Packets enter and leave a hub die (O14).
-/

namespace Sys2Proof.Machine

/-! ### What a discard keeps (R317) -/

/-- What a packet's discard keeps beside its own place: the packets of its hub die, what was sent, and the class's settings. -/
def State.queueParts (s : State) (h c : Nat) : List QItem × List (Nat × Frame) × Nat := ((s.hub h).queue, s.sent, s.reg .hubBufClass [h, c])

theorem addr_hubBufClass (h c : Nat) : Reg.addr .hubBufClass [h, c] = 0x2000000 + 0x400000 * h + 8 * c := by
  simp [Reg.addr, Reg.place]; omega

theorem addr_bufCnt (h c i : Nat) : Reg.addr .bufCnt [h, c, i] = 0x2001000 + 0x400000 * h + 0x80 * c + 8 * i := by
  simp [Reg.addr, Reg.place]; omega

section
variable (s : State) {h c : Nat}

theorem State.creditItem_queueParts (q : QItem) (n : Nat) : (s.creditItem q n).queueParts h c = s.queueParts h c := by
  unfold State.creditItem State.creditBack
  split_ifs <;> rfl

theorem State.deficitEnd_queueParts (port cls : Nat) : (s.deficitEnd port cls).queueParts h c = s.queueParts h c := by
  unfold State.deficitEnd
  split_ifs <;> rfl

theorem State.pfcPort_queueParts (n port : Nat) : (s.pfcPort n port).queueParts h c = s.queueParts h c := by
  have hite {b : Prop} [Decidable b] {x : State} (hx : x.queueParts h c = s.queueParts h c) : (if b then x else s).queueParts h c = s.queueParts h c := by
    split_ifs
    · exact hx
    · rfl
  unfold State.pfcPort
  dsimp only
  cases (s.port port).sched.xoffAt with
  | none => exact hite rfl
  | some a => exact hite rfl

theorem State.pfcWatch_queueParts (n : Nat) : (s.pfcWatch n).queueParts h c = s.queueParts h c :=
  foldl_keeps (fun t : State => t.queueParts h c) _ (fun t p => t.pfcPort_queueParts n p) _ s

theorem State.raise_queueParts (hc : c < 8) (die block inst kind sev addr : Nat) :
    (s.raise die block inst kind sev addr).queueParts h c = s.queueParts h c := by
  have hreg := s.reg_raise die block inst kind sev addr .hubBufClass [h, c] (by rw [addr_hubBufClass]; simp [Reg.addr, Reg.place]; omega)
  rw [State.queueParts, hreg]
  obtain ⟨r, f, hf⟩ := s.raise_frame die block inst kind sev addr
  rw [hf]
  rfl

theorem State.bufCount_queueParts (hc : c < 8) (cls i : Nat) : (s.bufCount h cls i).queueParts h c = s.queueParts h c := by
  rw [State.queueParts, State.bufCount, State.count64, s.reg_bump_other _ _ _ _ _ _ _ (by rw [addr_hubBufClass, addr_bufCnt]; omega)]
  rfl

section
variable (hh : h < 4) (hc : c < 8)
include hh hc

theorem State.setReg_queueParts {r : Reg} {is : List Nat} (hr : 0x3000000 ≤ r.addr is) (v : Nat) :
    (s.setReg r is v).queueParts h c = s.queueParts h c := by
  rw [State.queueParts, s.reg_setReg_other _ _ _ _ _ (by rw [addr_hubBufClass]; omega)]
  rfl

theorem State.mirrorAt_queueParts (die : Nat) (v : Seen) : (s.mirrorAt die v).queueParts h c = s.queueParts h c := by
  have hreg : (s.mirrorAt die v).reg .hubBufClass [h, c] = s.reg .hubBufClass [h, c] := by
    refine congrArg (Option.getD · _) (s.mirrorAt_regsBut die v _ fun hm => ?_)
    obtain ⟨n, -, hn⟩ := List.mem_map.1 hm
    rw [addr_hubBufClass] at hn
    simp [Reg.addr, Reg.place] at hn
    omega
  rw [State.queueParts, hreg, s.mirrorAt_only]
  rfl

theorem State.bpmRelease_queueParts (p i owner tag : Nat) : (s.bpmRelease p i owner tag).queueParts h c = s.queueParts h c := by
  cases hrel : (s.pool p).release i owner tag with
  | done q => rw [State.bpmRelease, hrel]; rfl
  | refused k =>
    obtain ⟨die, addr, -, hr⟩ := s.bpmRelease_refused hrel
    have herr : 0x3000000 ≤ Reg.addr .bpmErr [p] := by simp [Reg.addr, Reg.place]; omega
    have hfirst : 0x3000000 ≤ Reg.addr .bpmErrFirst [] := by simp [Reg.addr, Reg.place]
    rw [hr, State.raise_queueParts _ hc, State.refusalKept]
    split_ifs
    · rw [State.setReg_queueParts _ hh hc hfirst]
      exact s.setReg_queueParts hh hc herr _
    · exact s.setReg_queueParts hh hc herr _

theorem State.releaseAll_queueParts (owner tag : Nat) (bufs : List Nat) :
    (bufs.foldl (fun (s : State) b => s.bpmRelease h b owner tag) s).queueParts h c = s.queueParts h c :=
  foldl_keeps (fun t : State => t.queueParts h c) _ (fun t b => t.bpmRelease_queueParts hh hc h b owner tag) bufs s

omit hh hc in
theorem State.groupEnds_queueParts (tag : Nat) (g : CopyGroup) : (s.groupEnds h tag g).queueParts h c = s.queueParts h c := by
  unfold State.groupEnds
  split_ifs
  · rw [State.queueParts, State.hub_setHub_same]; rfl
  · rfl

theorem State.leaveGroup_queueParts (q : QItem) : (s.leaveGroup h q).queueParts h c = s.queueParts h c := by
  unfold State.leaveGroup
  split
  · rfl
  · split
    · rfl
    · exact (State.groupEnds_queueParts _ _ _).trans (s.releaseAll_queueParts hh hc _ _ _)

end

/-- A packet that leaves its hub die: the queue's other packets charge anew (R311, R315). -/
theorem State.leave_queueParts (hh : h < 4) (q : QItem) (hc : q.cls < 8) : (s.leave h q).queueParts h q.cls =
    (recharge q.port q.cls (s.fld .hubBufClass [h, q.cls] 63 54) ((s.hub h).queue.filter fun x => x.id != q.id), s.sent,
      s.reg .hubBufClass [h, q.cls]) := by
  have hbefore := ((State.leaveGroup_queueParts _ hh hc q).trans
    (State.releaseAll_queueParts (s.setHub h ((s.hub h).without q)) hh hc (queueOwner q.port q.cls) 0 q.bufs))
  rw [State.leave_eq, State.deficitEnd_queueParts, State.creditItem_queueParts]
  generalize State.leaveGroup _ h q = t at hbefore ⊢
  rw [State.queueParts, State.queueParts, State.hub_setHub_same] at hbefore
  obtain ⟨hqueue, hsent, hreg⟩ : _ ∧ _ ∧ _ := by simpa only [Prod.mk.injEq] using hbefore
  rw [State.queueParts, State.recharged, State.hub_setHub_same]
  refine congrArg₂ Prod.mk ?_ (congrArg₂ Prod.mk hsent hreg)
  rw [hqueue, State.fld, hreg]
  rfl

theorem State.discard_queueParts (hh : h < 4) (q : QItem) (hc : q.cls < 8) (i why : Nat) : (s.discard h q i why).queueParts h q.cls =
    (recharge q.port q.cls (s.fld .hubBufClass [h, q.cls] 63 54) ((s.hub h).queue.filter fun x => x.id != q.id), s.sent,
      s.reg .hubBufClass [h, q.cls]) := by
  have hmirror := s.mirrorAt_queueParts hh hc (8 + h) ((s.hub h).seen q 2 why)
  rw [State.discard, State.pfcWatch_queueParts, State.bufCount_queueParts _ hc, State.leave_queueParts _ hh q hc]
  obtain ⟨hqueue, hsent, hreg⟩ : _ ∧ _ ∧ _ := by simpa only [State.queueParts, Prod.mk.injEq] using hmirror
  rw [hqueue, hsent, hreg, State.fld, hreg]
  rfl

end

/-! ### Tails (R317) -/

section
variable {s : State} {h id : Nat} {tail : TailFault} {q : QItem} (hq : (s.hub h).queue.filter (QItem.named id) = [q])

theorem State.cellFault_frame (s : State) (h : Nat) (q : QItem) (tail : TailFault) : ∃ r f, s.cellFault h q tail = { s with regs := r, flt := f } := by
  unfold State.cellFault
  split
  · exact s.raise_frame _ _ _ _ _ _
  · exact s.raise_frame _ _ _ _ _ _
  · exact ⟨_, _, rfl⟩

theorem State.cellFault_queueParts (s : State) {h c : Nat} (hc : c < 8) (n : Nat) (q : QItem) (tail : TailFault) :
    (s.cellFault n q tail).queueParts h c = s.queueParts h c := by
  unfold State.cellFault
  split
  · exact s.raise_queueParts hc _ _ _ _ _ _
  · exact s.raise_queueParts hc _ _ _ _ _ _
  · rfl

theorem State.hub_cellFault (s : State) (h : Nat) (q : QItem) (tail : TailFault) (n : Nat) : (s.cellFault h q tail).hub n = s.hub n := by
  obtain ⟨r, f, hf⟩ := s.cellFault_frame h q tail
  rw [hf]
  rfl

include hq

theorem bodyPacketTailArrive_queued : bodyPacketTailArrive h id tail s = (s.cellFault h q tail).tailIn h tail q := by
  rw [bodyPacketTailArrive, hq]
  rfl

theorem bodyPacketTailArrive_stays (hs : q.started = false) (hok : q.tailOf tail = .none ∨ q.cut = true) :
    bodyPacketTailArrive h id tail s = (s.cellFault h q tail).setHub h { s.hub h with
      queue := (s.hub h).queue.map fun x => if x.id == q.id then { x with whole := true, tail := q.tailOf tail } else x } := by
  rw [bodyPacketTailArrive_queued hq, State.tailIn, State.hub_cellFault]
  exact (if_neg (by simp [hs])).trans (if_pos hok)

theorem bodyPacketTailArrive_discards (hs : q.started = false) (hbad : q.tailOf tail ≠ .none) (hcut : q.cut = false) :
    bodyPacketTailArrive h id tail s = (s.cellFault h q tail).discard h q 6 7 := by
  rw [bodyPacketTailArrive_queued hq, State.tailIn]
  exact (if_neg (by simp [hs])).trans (if_neg (by simp [hbad, hcut]))

end

/-! ### Frames of the port's own (R373, R381) -/

section
variable (s : State) (p : Nat)

/-- A port takes a frame to the line: other ports stay, and nothing but registers, ports and the log of frames sent changes. -/
structure State.Sends (s : State) (p : Nat) (f : Frame) (t : State) : Prop where
  only   : ∃ r ps, t = { s with regs := r, ports := ps, sent := s.sent ++ [(p, f)] }
  others : s.portsBut t p
  busyTo : (t.port p).sched.busyTo = s.local + s.txTime p f.len

theorem State.txTime_congr {s t : State} {p : Nat} (h : t.speed p = s.speed p) (n : Nat) : t.txTime p n = s.txTime p n := by
  simp only [State.txTime, State.bytesPerNs, State.lanes, h]

theorem State.speed_portCount (i n : Nat) : (s.portCount p i n).speed p = s.speed p := s.cfg_portCount p i n 63 61

theorem State.putOnLine_sends (f : Frame) : s.Sends p f (s.putOnLine p f) := by
  refine ⟨⟨_, _, rfl⟩, fun q hq => Tbl.get_set_other _ _ _ hq, ?_⟩
  refine (congrArg (fun q : PortSt => q.sched.busyTo) (Tbl.get_set_same _ _ _ _)).trans (congrArg (s.local + ·) (State.txTime_congr ?_ _))
  rw [State.speed_portCount, State.speed_portCount]

/-- What a port notes of a frame leaves the frames that wait, and its rate. -/
structure State.Notes (s : State) (p : Nat) (t : State) : Prop where
  only    : ∃ r ps, t = { s with regs := r, ports := ps }
  others  : s.portsBut t p
  localTx : (t.port p).localTx = (s.port p).localTx
  speed   : t.speed p = s.speed p

theorem State.noted_notes (note : LocalNote) : s.Notes p (s.noted p note) := by
  cases note with
  | plain => exact ⟨⟨_, _, rfl⟩, fun _ _ => rfl, rfl, rfl⟩
  | counted i => exact ⟨⟨_, _, rfl⟩, fun _ _ => rfl, rfl, s.speed_portCount p i 1⟩
  | replay c l =>
    refine ⟨⟨_, _, rfl⟩, State.portsBut_setPort s p _, ?_, rfl⟩
    rw [State.noted, State.port_setPort_same]

/-- A frame goes out after a change of the port alone that leaves its rate. -/
theorem State.Sends.after {s t u : State} {p : Nat} {f : Frame} (hsend : t.Sends p f u) (honly : ∃ r ps, t = { s with regs := r, ports := ps })
    (hothers : s.portsBut t p) (hspeed : t.speed p = s.speed p) : s.Sends p f u := by
  obtain ⟨r, ps, ht⟩ := honly
  obtain ⟨r', ps', hu⟩ := hsend.only
  refine ⟨⟨r', ps', by rw [hu, ht]⟩, fun q hq => (hsend.others q hq).trans (hothers q hq), ?_⟩
  rw [hsend.busyTo, State.txTime_congr hspeed, ht]
  rfl

theorem State.Sends.counted {s t : State} {p : Nat} {f : Frame} (h : s.Sends p f t) (i : Nat) : s.Sends p f (t.portCount p i) := by
  obtain ⟨r, ps, ht⟩ := h.only
  exact ⟨⟨_, ps, by rw [ht]; rfl⟩, h.others, h.busyTo⟩

theorem State.Sends.answers {s t : State} {p : Nat} {f : Frame} (h : s.Sends p f t) :
    s.kept t = { s with regs := (s.kept t).regs, ports := (s.kept t).ports, sent := (s.kept t).sent } ∧ (s.kept t).sent = s.sent ++ [(p, f)] := by
  obtain ⟨r, ps, ht⟩ := h.only
  rw [ht]
  exact ⟨rfl, rfl⟩

/-- What goes out leaves the rest of the port. -/
theorem State.port_putOnLine (f : Frame) : ∃ x, (s.putOnLine p f).port p = { s.port p with sched := x } := ⟨_, Tbl.get_set_same _ _ _ _⟩

end

/-! ### Replication (R26) -/

theorem bodyHubReplicate_first {s : State} {h ties : Nat} {m : MeshOut} {rest : List MeshOut} {r : List QItem × State}
    (hm : (s.hub h).meshOut = m :: rest)
    (hr : (((s.setHub h { s.hub h with meshOut := rest }).tieCount m.ctx ties).drain h).copies h m = r) :
    (r.1 = [] → bodyHubReplicate h ties s = r.2)
    ∧ (∀ q, r.1 = [q] → bodyHubReplicate h ties s = (({ r.2 with nextId := r.2.nextId + 1 } : State).admitItem h q).2)
    ∧ (∀ q q' qs, r.1 = q :: q' :: qs →
        bodyHubReplicate h ties s = ({ r.2 with nextId := r.2.nextId + 1 } : State).admitCopies h r.2.nextId r.1) := by
  refine ⟨fun h0 => ?_, fun q h1 => ?_, fun q q' qs h2 => ?_⟩
  · simp only [bodyHubReplicate, hm, hr, h0]
  · simp only [bodyHubReplicate, hm, hr, h1]
  · simp only [bodyHubReplicate, hm, hr, h2]

end Sys2Proof.Machine

open Sys2Proof Sys2Proof.Machine

/-- Settles O14. -/
theorem packetsEnterAndLeaveTheHub : Obligations.PacketsEnterAndLeaveTheHub := by
  intro s hs
  refine ⟨fun h a ha hc => ?_, fun h id tail q hq hst => ⟨fun hok => ?_, fun hbad hcut hh hc => ?_⟩, fun p x rest hf hl => ?_,
    fun p c f fs rest hf hl hr => ?_, fun p hf hl hr => ?_, fun h ties m rest hm => ?_⟩
  · intro u q hup htail
    have hbody : bodyHubAdmit h s = (u.admitItem h q).2 := by
      rw [bodyHubAdmit, ha]
      dsimp only
      rw [hc]
    have ht : (q.tail != .none && !q.cut) = false := by
      rcases htail with h | h <;> simp [h]
    refine ⟨fun c v hv => commit_unlessSafe hs (hbody.trans ?_), fun hv => commit_unlessSafe hs (hbody.trans ?_)⟩
    · simp [State.admitItem, hup, ht, hv]
    · simp [State.admitItem, hup, ht, hv]
  · exact commit_unlessSafe hs (bodyPacketTailArrive_stays hq hst hok)
  · refine ⟨_, commit_unlessSafe hs (bodyPacketTailArrive_discards hq hst hbad hcut), ?_⟩
    have hparts := (s.cellFault h q tail).discard_queueParts hh q hc 6 7
    rw [State.hub_cellFault] at hparts
    have hbefore := s.cellFault_queueParts (h := h) hc h q tail
    simp only [State.queueParts, Prod.mk.injEq] at hparts hbefore
    obtain ⟨hqueue, hsent, -⟩ := hparts
    obtain ⟨-, hsent', hreg⟩ := hbefore
    refine ⟨hqueue.trans ?_, hsent.trans hsent'⟩
    rw [State.fld, hreg]
    rfl
  · have hbody : bodyTransmitSelect p s = ((s.setPort p { s.port p with localTx := rest }).noted p x.note).putOnLine p x.frame := by
      refine (if_pos hf).trans ?_
      rw [hl]
    have hnote := (s.setPort p { s.port p with localTx := rest }).noted_notes p x.note
    have hsend : s.Sends p x.frame (((s.setPort p { s.port p with localTx := rest }).noted p x.note).putOnLine p x.frame) := by
      refine (State.putOnLine_sends _ p x.frame).after ?_ (fun q hq => (hnote.others q hq).trans (State.portsBut_setPort s p _ q hq)) hnote.speed
      obtain ⟨r, ps, h⟩ := hnote.only
      exact ⟨r, ps, h⟩
    obtain ⟨y, hy⟩ := State.port_putOnLine ((s.setPort p { s.port p with localTx := rest }).noted p x.note) p x.frame
    refine ⟨_, commit_unlessSafe hs hbody, hsend.answers.1, hsend.others, hsend.answers.2, ?_, hsend.busyTo⟩
    exact (congrArg PortSt.localTx hy).trans (hnote.localTx.trans (congrArg PortSt.localTx (s.port_setPort_same p _)))
  · have hbody : bodyTransmitSelect p s =
        ((s.setPort p { s.port p with replays := if fs.isEmpty then rest else (c, fs) :: rest }).putOnLine p f).portCount p 15 := by
      refine (if_pos hf).trans ?_
      rw [hl, hr]
    have hsend : s.Sends p f (((s.setPort p { s.port p with replays := if fs.isEmpty then rest else (c, fs) :: rest }).putOnLine p f).portCount p 15) :=
      ((State.putOnLine_sends _ p f).after ⟨_, _, rfl⟩ (State.portsBut_setPort s p _) rfl).counted 15
    obtain ⟨y, hy⟩ := State.port_putOnLine (s.setPort p { s.port p with replays := if fs.isEmpty then rest else (c, fs) :: rest }) p f
    rw [State.port_setPort_same] at hy
    exact ⟨_, commit_unlessSafe hs hbody, hsend.answers.1, hsend.others, hsend.answers.2, (congrArg PortSt.replays hy :), (congrArg PortSt.rtx hy :),
      hsend.busyTo⟩
  · exact commit_unlessSafe hs ((if_pos hf).trans (by rw [hl, hr]))
  · intro r u
    obtain ⟨hnone, hone, hmore⟩ := bodyHubReplicate_first (ties := ties) hm (r := r) rfl
    exact ⟨fun h0 => commit_unlessSafe hs (hnone h0), fun q h1 => commit_unlessSafe hs (hone q h1),
      fun q q' qs h2 => commit_unlessSafe hs (hmore q q' qs h2)⟩

end

section
/-!
PROOFS. Frames are forwarded, and receive errors start the wait (O26).
-/

namespace Sys2Proof.Machine

/-! ### The way to the hub die (R23, R280) -/

/-- What an arrival of a forwarded frame carries. -/
structure Arrival.Carries (a : Arrival) (cls : Nat) (f : Frame) (out : Nat × Frame) (p : Option Packet) : Prop where
  copies : a.copies = []
  port   : a.item.port = out.1
  cls    : a.item.cls = cls
  frame  : a.item.frame = out.2
  pkt    : a.item.pkt = p
  cells  : a.item.cells = cellsOf f.len
  rcvd   : a.item.rcvd = some f
  tail   : a.item.tail = if f.fcsOk then .none else .fcs

section
variable {s : State} {port : Nat} (hb : s.domBusy (1492 + port / 96 % 4) = false) (cls : Nat) (f : Frame) (out : Nat × Frame) (p : Option Packet)

include hb

/-- A frame for one port joins the arrivals of its ingress die's hub die. -/
theorem State.toHub_single : ∃ a : Arrival, a.Carries cls f out p ∧ s.toHub port cls f [out] p = { s with
      nextId := s.nextId + 1
      hubs := s.hubs.set (port / 96 % 4) { s.hub (port / 96 % 4) with arrive := (s.hub (port / 96 % 4)).arrive ++ [a] } } := by
  refine ⟨_, ⟨?_, ?_, ?_, ?_, ?_, ?_, ?_, ?_⟩, if_neg (by rw [show hubOfDie (port / 96) = port / 96 % 4 from rfl, hb]; exact Bool.false_ne_true)⟩ <;> rfl

end

/-! ### Forwarding a QFT frame (R280, R282, R289) -/

section
variable {s w : State} {port : Nat} {f : Frame} {k : Packet} {m : Member}

/-- Cells sent toward a port change the forwarding core's own copies alone. -/
theorem State.toHub_sentToward (die cls n : Nat) (e : Nat × Frame) (p : Option Packet) (hb : w.domBusy (1492 + port / 96 % 4) = false) :
    ∃ a : Arrival, a.Carries cls f e p ∧ (w.sentToward die e.1 n (cellsOf f.len)).toHub port cls f [e] p = { w with
      fwd := (w.sentToward die e.1 n (cellsOf f.len)).fwd
      nextId := w.nextId + 1
      hubs := w.hubs.set (port / 96 % 4) { w.hub (port / 96 % 4) with arrive := (w.hub (port / 96 % 4)).arrive ++ [a] } } := by
  have honly := w.sentToward_only die e.1 n (cellsOf f.len)
  obtain ⟨a, ha, hto⟩ := State.toHub_single (s := w.sentToward die e.1 n (cellsOf f.len)) (port := port) (by rw [honly]; exact hb) cls f e p
  refine ⟨a, ha, hto.trans ?_⟩
  rw [honly]
  rfl

theorem State.forwardQft_forwards {u v : State} (hl : (if f.fcsOk then u.qftCount port 0 else u).lookupQft (port / 96) k = .found m v)
    (hp : v.police port k.cls f.len none = (true, w)) (hfit : (w.encapsulate w.activeBank m k.decTtl).len ≤ w.maxFrame m.port) :
    u.forwardQft port f k = (w.sentToward (port / 96) m.port k.cls (cellsOf f.len)).toHub port k.cls f
      [(m.port, w.encapsulate w.activeBank m k.decTtl)] (some k.decTtl) := by
  simp only [State.forwardQft]
  rw [show (if f.fcsOk = true then u.qftCount port 0 else u).lookupQft (port / 96) k = .found m v from hl]
  simp only [hp, Bool.not_true, Bool.false_eq_true, if_false]
  exact if_neg (Nat.not_lt.2 hfit)

theorem bodyQftForward_forwards {u : State} (hq : s.recognise f ≠ .other) (ho : s.ownRow f = false) (hr : s.receive port f = .forward k u) :
    bodyQftForward port f s = u.forwardQft port f k := by
  refine (if_neg (by simp [hq, ho])).trans ?_
  rw [hr]

/-! ### Routed and bridged frames (R294 to R296) -/

theorem State.routeIp_routes {v : State} {g i : Nat} (htags : f.tags.length ≤ 1) (het : f.etype = 0x0800)
    (hown : v.keys.ip4.vals.contains (numAt f.body 16 4) = false) (hg : longestMatch 32 (numAt f.body 16 4) v.activeBank.v4 = some g)
    (hi : v.pinned v.activeBank g (v.ip4HashIn f.body) = some (i, false)) (hver : byteAt f.body 0 / 16 = 4) (hihl : 5 ≤ byteAt f.body 0 % 16)
    (hsum : onesSum (f.body.take (byteAt f.body 0 % 16 * 4)) = 0xFFFF) (httl : 1 < byteAt f.body 8)
    (hp : v.police port (v.activeBank.dscpClass (byteAt f.body 1 / 4)) f.len none = (true, w))
    (hfit : (w.routedFrame (v.activeBank.mem g i) (v.activeBank.dscpClass (byteAt f.body 1 / 4)) f (decTtl4 f.body)).len
      ≤ w.maxFrame (v.activeBank.mem g i).port) :
    v.routeIp port f = ((w.fwdCount (port / 96) 1).sentToward (port / 96) (v.activeBank.mem g i).port
      (v.activeBank.dscpClass (byteAt f.body 1 / 4)) (cellsOf f.len)).toHub port (v.activeBank.dscpClass (byteAt f.body 1 / 4)) f
        [((v.activeBank.mem g i).port, w.routedFrame (v.activeBank.mem g i) (v.activeBank.dscpClass (byteAt f.body 1 / 4)) f (decTtl4 f.body))] none := by
  have hroute : v.routeIp port f = v.routeTo port f g (v.ip4HashIn f.body) true := by
    refine (if_pos ⟨htags, het⟩).trans ((if_neg (by rw [hown]; exact Bool.false_ne_true)).trans ?_)
    rw [hg]
  have hgood : (true && (byteAt f.body 0 / 16 != 4 || decide (byteAt f.body 0 % 16 < 5)
      || onesSum (f.body.take (byteAt f.body 0 % 16 * 4)) != 0xFFFF)) = false := by
    simp [hver, hsum]
    omega
  rw [hroute, State.routeTo]
  simp only [hi, hgood, Bool.false_eq_true, if_false, if_true, hp, Bool.not_true]
  rw [if_neg (by omega), if_neg (Nat.not_lt.2 hfit)]

theorem State.bridgeTo_single {v : State} {vid cls out : Nat} (hp : v.police port cls f.len none = (true, w))
    (hfit : (w.bridgedFrame f vid out).len ≤ w.maxFrame out) :
    v.bridgeTo port f vid cls [out] = (w.fwdCount (port / 96) 2).toHub port cls f [(out, w.bridgedFrame f vid out)] none := by
  have hlarge : decide (w.maxFrame out < (w.bridgedFrame f vid out).len) = false := decide_eq_false (Nat.not_lt.2 hfit)
  simp [State.bridgeTo, hp, hlarge, hfit]

/-- A frame with one known destination in its VLAN goes to that port (R295). -/
theorem State.bridge_known {v : State} {tv vid : Nat} {e : Nat × Nat × Nat}
    (htv : (f.tags.head? = none ∧ tv = 0) ∨ ∃ t, f.tags.head? = some t ∧ tv = t % 4096) (hvid : (if tv = 0 then v.keys.pvid.get port 1 else tv) = vid)
    (hvlan : v.activeBank.inVlan vid port false = true) (hu : f.dmac / 2 ^ 40 % 2 = 0)
    (he : v.activeBank.bridge.find? (fun e => e.1 == vid && e.2.1 == f.dmac) = some e) (h0 : e.2.2 / 2 ^ 63 = 0) :
    v.bridge port f = v.bridgeTo port f vid (v.plainClass port f) [e.2.2 % 4096] := by
  have hgroup : ¬f.dmac / 2 ^ 40 % 2 = 1 := by omega
  rcases htv with ⟨hh, rfl⟩ | ⟨t, hh, rfl⟩
  all_goals
    rw [State.bridge, hh]
    dsimp only
    rw [hvid]
    simp only [hvlan, he, h0, hgroup, Bool.not_true, Bool.false_eq_true, if_false, if_true]

end

/-! ### Receive errors (R380) -/

section
variable (s : State) (p : Nat)

/-- What receive errors make of a port: classes that wait, NAKs among its own frames, and nothing else. -/
structure State.Naks (s : State) (p : Nat) (t : State) : Prop where
  only   : ∃ ps, t = { s with ports := ps }
  others : s.portsBut t p
  link   : (t.port p).link = (s.port p).link
  rtx    : (t.port p).rtx = (s.port p).rtx

theorem State.Naks.refl : s.Naks p s := ⟨⟨_, rfl⟩, fun _ _ => rfl, rfl, rfl⟩

variable {s p} in
theorem State.Naks.trans {t u : State} (h : s.Naks p t) (h' : t.Naks p u) : s.Naks p u := by
  obtain ⟨ps, hps⟩ := h.only
  obtain ⟨qs, hqs⟩ := h'.only
  exact ⟨⟨qs, by rw [hqs, hps]⟩, fun q hq => (h'.others q hq).trans (h.others q hq), h'.link.trans h.link, h'.rtx.trans h.rtx⟩

/-- A class that waits from now on has sent a NAK (R380). -/
theorem State.nakClass_eq (c : Nat) : ∃ l n, s.nakClass p c = s.setPort p { s.port p with
    rrx := (s.port p).rrx.set c { (s.port p).rrx.get c {} with waiting := some s.local }, localTx := l, seq := n } :=
  ⟨_, _, State.pushLink_setPort s p (q := { s.port p with
    rrx := (s.port p).rrx.set c { (s.port p).rrx.get c {} with waiting := some s.local } }) rfl _ _ _ _⟩

/-- A class begins to wait, unless it waits already. -/
def State.nakOnce (s : State) (p c : Nat) : State := if ((s.port p).rrx.get c {}).waiting.isSome then s else s.nakClass p c

theorem State.nakOnce_naks (c : Nat) : s.Naks p (s.nakOnce p c) := by
  unfold State.nakOnce
  split_ifs
  · exact .refl s p
  · obtain ⟨l, n, h⟩ := s.nakClass_eq p c
    rw [h]
    refine ⟨⟨_, rfl⟩, State.portsBut_setPort s p _, ?_, ?_⟩ <;> rw [State.port_setPort_same]

/-- What a class's receiver holds after a receive error. -/
def RetryRx.errored (r : RetryRx) (now : Nat) : RetryRx := if r.waiting.isSome then r else { r with waiting := some now }

theorem RetryRx.errored_waiting (r : RetryRx) (now : Nat) : (r.errored now).waiting = some (r.waiting.getD now) ∧ (r.errored now).expected = r.expected := by
  unfold RetryRx.errored
  cases h : r.waiting with
  | none => exact ⟨rfl, rfl⟩
  | some a => exact ⟨h, rfl⟩

theorem State.nakOnce_same (c : Nat) : ((s.nakOnce p c).port p).rrx.get c {} = ((s.port p).rrx.get c {}).errored s.local := by
  unfold State.nakOnce RetryRx.errored
  split_ifs
  · rfl
  · obtain ⟨l, n, h⟩ := s.nakClass_eq p c
    rw [h, State.port_setPort_same]
    exact Tbl.get_set_same _ _ _ _

theorem State.nakOnce_other {c d : Nat} (hd : d ≠ c) : ((s.nakOnce p c).port p).rrx.get d {} = (s.port p).rrx.get d {} := by
  unfold State.nakOnce
  split_ifs
  · rfl
  · obtain ⟨l, n, h⟩ := s.nakClass_eq p c
    rw [h, State.port_setPort_same]
    exact Tbl.get_set_other _ _ _ hd

theorem State.receiveErr_eq : s.receiveErr p =
    ((List.range 8).filter fun c => (s.port p).link.retryAct / 2 ^ c % 2 == 1).foldl (fun (t : State) c => t.nakOnce p c) s := rfl

theorem State.receiveErr_naks : s.Naks p (s.receiveErr p) := by
  rw [State.receiveErr_eq]
  exact foldl_invariant (fun t c ht => ht.trans (t.nakOnce_naks p c)) _ (State.Naks.refl s p)

theorem State.receiveErr_waits {c : Nat} (hc : c < 8) (ha : (s.port p).link.retryAct / 2 ^ c % 2 = 1) :
    ((s.receiveErr p).port p).rrx.get c {} = ((s.port p).rrx.get c {}).errored s.local := by
  rw [State.receiveErr_eq]
  refine foldl_once (f := fun (t : State) c => t.nakOnce p c) (g := fun t : State => (t.port p).rrx.get c {}) (P := fun t => t.local = s.local)
    (F := fun r => r.errored s.local) (fun t d ht => ?_) (fun t ht => ?_) (fun t d _ hd => t.nakOnce_other p hd.symm)
    (List.nodup_range.filter _) (List.mem_filter.2 ⟨List.mem_range.2 hc, by simpa using ha⟩) rfl
  · obtain ⟨ps, h⟩ := (t.nakOnce_naks p d).only
    rw [h]
    exact ht
  · rw [← ht]
    exact t.nakOnce_same p c

/-- A state with an error counted by its kind. -/
def State.errCounted (s : State) (p : Nat) (k : RxErr) : State :=
  match k with
  | .codeword lane => (s.portCount p 8).noteCodeword p lane
  | .fcs => s.portCount p 4
  | .runt => s.portCount p 5
  | _ => s

theorem State.fecLocked_of_up (h : s.linkUp p = true) : s.fecLocked p = true := by
  have hst : (s.port p).link.state = .up := by simpa [State.linkUp] using h
  simp [State.fecLocked, hst]

/-- What the count of an error leaves of a port: all but its log of codewords. -/
structure State.Counts (s : State) (p : Nat) (t : State) : Prop where
  only   : ∃ r ps l, t = { s with regs := r, ports := ps, flt := l }
  others : s.portsBut t p
  port   : ∃ l, t.port p = { s.port p with cwLog := l }

theorem State.portCount_counts (i : Nat) : s.Counts p (s.portCount p i) := ⟨⟨_, _, _, rfl⟩, fun _ _ => rfl, _, rfl⟩

theorem State.noteCodeword_counts (lane : Nat) : s.Counts p (s.noteCodeword p lane) := by
  have hset (l : List (Nat × Nat)) : s.Counts p (s.setPort p { s.port p with cwLog := l }) :=
    ⟨⟨_, _, _, rfl⟩, State.portsBut_setPort s p _, _, s.port_setPort_same p _⟩
  unfold State.noteCodeword
  dsimp only
  split
  · obtain ⟨r, f, hf⟩ := State.raise_frame (s.setPort p { s.port p with cwLog := _ }) (p / 96) 0x01 (p % 96 + lane % max (s.lanes p) 1) 0x001 1 0
    rw [hf]
    exact ⟨⟨_, _, _, rfl⟩, (hset _).others, (hset _).port⟩
  · exact hset _

theorem State.errCounted_counts (k : RxErr) : s.Counts p (s.errCounted p k) := by
  cases k with
  | codeword lane =>
    have h := (s.portCount p 8).noteCodeword_counts p lane
    obtain ⟨r, ps, l, ht⟩ := h.only
    exact ⟨⟨r, ps, l, ht⟩, h.others, h.port⟩
  | fcs => exact s.portCount_counts p 4
  | runt => exact s.portCount_counts p 5
  | pcs => exact ⟨⟨_, _, _, rfl⟩, fun _ _ => rfl, _, rfl⟩
  | corrected n => exact ⟨⟨_, _, _, rfl⟩, fun _ _ => rfl, _, rfl⟩

variable {s p} in
theorem bodyReceiveError_up {k : RxErr} (hup : s.linkUp p = true) (hk : ∀ n, k ≠ .corrected n) :
    bodyReceiveError p k s = (s.errCounted p k).receiveErr p := by
  cases k with
  | codeword lane =>
    have hstill : ((s.portCount p 8).noteCodeword p lane).linkUp p = true := by
      obtain ⟨l, hl⟩ := ((s.portCount p 8).noteCodeword_counts p lane).port
      rw [State.linkUp, hl]
      exact hup
    exact (if_pos (s.fecLocked_of_up p hup)).trans (if_pos hstill)
  | fcs => exact if_pos hup
  | runt => exact if_pos hup
  | pcs => exact if_pos hup
  | corrected n => exact absurd rfl (hk n)

/-- Counting an error adds 1 to the counter of its kind (Table 15.8). -/
theorem State.fld_errCounted {k : RxErr} {i : Nat} (hi : ((∃ lane, k = .codeword lane) ∧ i = 8) ∨ (k = .fcs ∧ i = 4) ∨ (k = .runt ∧ i = 5)) :
    (s.errCounted p k).fld .prtCnt (portIdx p ++ [i]) 63 0 = min (s.fld .prtCnt (portIdx p ++ [i]) 63 0 + 1) (2 ^ 64 - 1) := by
  have hbump (j : Nat) : (s.portCount p j).fld .prtCnt (portIdx p ++ [j]) 63 0 = min (s.fld .prtCnt (portIdx p ++ [j]) 63 0 + 1) (2 ^ 64 - 1) :=
    (s.fld_bump_same _ _ _ _ _).trans (satAdd_mod _ _ _)
  rcases hi with ⟨⟨lane, rfl⟩, rfl⟩ | ⟨rfl, rfl⟩ | ⟨rfl, rfl⟩
  · refine Eq.trans (State.fld_congr ?_ 63 0) (hbump 8)
    have hne : Reg.addr .prtCnt (portIdx p ++ [8]) ≠ Reg.addr .fltCounts [] := by
      rw [addr_prtCnt]; simp [Reg.addr, Reg.place]; omega
    rw [State.errCounted, State.noteCodeword]
    split
    · exact State.reg_raise _ _ _ _ _ _ _ _ _ hne
    · rfl
  · exact hbump 4
  · exact hbump 5

/-- The 64th uncorrectable codeword of a lane within 1 ms is a LANE_CW_BURST (Table 18.5). -/
theorem State.noteCodeword_burst {lane : Nat} (hl : lane < s.lanes p)
    (h63 : 63 ≤ ((s.port p).cwLog.filter fun e => e.1 == lane && decide (s.local < e.2 + 1000000)).length)
    (hq : s.flt.queues.get (p / 96) [] = []) :
    (s.noteCodeword p lane).flt.queues.get (p / 96) [] = [⟨p / 96, 0x01, p % 96 + lane, 0x001, 1, s.now, 0⟩] := by
  have hmod : lane % max (s.lanes p) 1 = lane := Nat.mod_eq_of_lt (lt_max_of_lt_left hl)
  have hlog : 64 ≤ ((((s.port p).cwLog.filter fun e => decide (s.local < e.2 + 1000000)) ++ [(lane, s.local)]).filter fun e => e.1 == lane).length := by
    rw [List.filter_append, List.filter_filter, List.length_append]
    simpa using h63
  rw [State.noteCodeword]
  simp only [hmod, hlog, if_true]
  exact State.raise_first (s := s.setPort p _) hq _ _ _ _

end

end Sys2Proof.Machine

open Sys2Proof Sys2Proof.Machine

/-- Settles O26. -/
theorem framesAreForwarded : Obligations.FramesAreForwarded := by
  refine ⟨fun s p f k u v w m hrec hown hr hl hpol => ?_, fun s p f u hmac hr => ?_, fun s p kind hup => ⟨fun n hk => ?_, fun hk => ?_⟩⟩
  · intro out h hfit hb
    obtain ⟨a, ha, hto⟩ := State.toHub_sentToward (w := w) (port := p) (f := f) (p / 96) k.cls k.cls (m.port, out) (some k.decTtl) hb
    have hbody := (bodyQftForward_forwards hrec hown hr).trans ((State.forwardQft_forwards hl hpol hfit).trans hto)
    refine ⟨_, a, commit_of hbody, rfl, ?_, fun x hx => ?_, ha.copies, ha.port, ha.cls, ha.frame, ha.pkt, ha.cells, ha.rcvd, ha.tail⟩
    · exact congrArg Hub.arrive (Tbl.get_set_same w.hubs h _ {})
    · exact Tbl.get_set_other w.hubs _ _ hx
  · intro v h
    refine ⟨fun g i w hself htags het hip hg hi hver hihl hsum httl => ?_, fun e w hself => ?_⟩
    · intro cls hpol m out hfit hb
      obtain ⟨a, ha, hto⟩ := State.toHub_sentToward (w := w.fwdCount (p / 96) 1) (port := p) (f := f) (p / 96) cls cls (m.port, out) none hb
      have hbody : bodyIpRoute p f s = v.routeIp p f := by
        refine (if_pos (by simp [hself, hmac])).trans ?_
        rw [hr]
      have hroute := State.routeIp_routes htags het hip hg hi hver hihl hsum httl hpol hfit
      exact ⟨_, a, commit_of (hbody.trans (hroute.trans hto)), congrArg Hub.arrive (Tbl.get_set_same w.hubs h _ {}), ha.copies, ha.port, ha.cls, ha.frame,
        ha.pkt⟩
    · intro tv vid hvlan hu he h0 hpol out hfit hb
      obtain ⟨a, ha, hto⟩ := State.toHub_single (s := w.fwdCount (p / 96) 2) (port := p) hb (v.plainClass p f) f (e.2.2 % 4096, out) none
      have htv : (f.tags.head? = none ∧ tv = 0) ∨ ∃ t, f.tags.head? = some t ∧ tv = t % 4096 := by
        dsimp only [tv]
        cases f.tags.head? with
        | none => exact .inl ⟨rfl, rfl⟩
        | some t => exact .inr ⟨t, rfl, rfl⟩
      have hbody : bodyEthernetBridge p f s = v.bridge p f := by
        refine (if_neg (by simp [hself, hmac])).trans ?_
        rw [hr]
      have hbridge := (State.bridge_known htv rfl hvlan hu he h0).trans (State.bridgeTo_single hpol hfit)
      exact ⟨_, a, commit_of (hbody.trans (hbridge.trans hto)), congrArg Hub.arrive (Tbl.get_set_same w.hubs h _ {}), ha.copies, ha.port, ha.cls, ha.frame⟩
  · subst hk
    exact commit_of_keptParts (if_pos (s.fecLocked_of_up p hup)) rfl
  · have hcount := s.errCounted_counts p kind
    have hnak := (s.errCounted p kind).receiveErr_naks p
    obtain ⟨r, ps, l, honly⟩ := hcount.only
    obtain ⟨qs, hqs⟩ := hnak.only
    obtain ⟨log, hport⟩ := hcount.port
    refine ⟨_, commit_of (bodyReceiveError_up hup hk), ?_, fun q hq => (hnak.others q hq).trans (hcount.others q hq), ?_, ?_, fun i hi => ?_,
      fun hne => ?_, fun lane hlane hlt h63 hq => ?_, fun c hc hact => ?_⟩
    · rw [hqs, honly]
      rfl
    · exact hnak.link.trans (congrArg PortSt.link hport :)
    · exact hnak.rtx.trans (congrArg PortSt.rtx hport :)
    · rw [hqs]
      exact s.fld_errCounted p hi
    · rw [hqs]
      cases kind with
      | codeword lane => exact absurd rfl (hne lane)
      | _ => rfl
    · subst hlane
      rw [hqs]
      refine State.noteCodeword_burst (s.portCount p 8) p ?_ h63 hq
      have hlanes : (s.portCount p 8).lanes p = s.lanes p := by simp only [State.lanes, State.speed_portCount]
      rwa [hlanes]
    · have hrrx : ((s.errCounted p kind).port p).rrx = (s.port p).rrx := by rw [hport]
      have hact' : ((s.errCounted p kind).port p).link.retryAct / 2 ^ c % 2 = 1 := by rw [hport]; exact hact
      have hwait := (s.errCounted p kind).receiveErr_waits p hc hact'
      rw [hrrx, show (s.errCounted p kind).local = s.local by rw [honly]; rfl] at hwait
      have herr := ((s.port p).rrx.get c {}).errored_waiting s.local
      exact ⟨(congrArg RetryRx.waiting hwait).trans herr.1, (congrArg RetryRx.expected hwait).trans herr.2⟩

end

section
/-!
PROOFS. Mirror sessions (O53).
-/

namespace Sys2Proof.Machine

/-! ### A session is enabled (R334) -/

/-- What a staging block keeps when its session is enabled again. -/
def StageBlock.kept (b : StageBlock) : Nat × Nat × Nat × List (List Byte) := (b.die, b.buf, b.at_, b.recs.map StageRec.bytes)

/-- One block with its records' places, after the records of the blocks before it. -/
def MirSess.placeBlock (m : MirSess) (a : Nat × List StageBlock) (b : StageBlock) : Nat × List StageBlock :=
  let rs := b.recs.zipIdx.map fun r => { r.1 with place := some (r.1.place.getD (m.place (a.1 + r.2))) }
  (a.1 + rs.length, a.2 ++ [{ b with recs := rs }])

theorem MirSess.placed_eq (m : MirSess) : m.placed = (m.staged.foldl m.placeBlock (m.written, [])).2 := rfl

theorem MirSess.foldl_placeBlock (m : MirSess) (l : List StageBlock) (a : Nat × List StageBlock) :
    ∃ bs, (l.foldl m.placeBlock a).2 = a.2 ++ bs ∧ bs.map StageBlock.kept = l.map StageBlock.kept ∧ ∀ b ∈ bs, ∀ r ∈ b.recs, r.place ≠ none := by
  induction l generalizing a with
  | nil => exact ⟨[], (List.append_nil _).symm, rfl, fun b hb => by cases hb⟩
  | cons b l ih =>
    obtain ⟨bs, hbs, hkept, hplace⟩ := ih (m.placeBlock a b)
    refine ⟨{ b with recs := b.recs.zipIdx.map fun r => { r.1 with place := some (r.1.place.getD (m.place (a.1 + r.2))) } } :: bs, ?_, ?_,
      List.forall_mem_cons.2 ⟨fun r hr => ?_, hplace⟩⟩
    · rw [List.foldl_cons, hbs, MirSess.placeBlock, List.append_assoc]
      rfl
    · rw [List.map_cons, List.map_cons, hkept]
      refine congrArg₂ List.cons ?_ rfl
      have hbytes : b.recs.zipIdx.map (fun x => x.1.bytes) = b.recs.map StageRec.bytes :=
        (List.map_map (f := Prod.fst) (g := StageRec.bytes)).symm.trans (congrArg _ (List.zipIdx_map_fst 0 b.recs))
      simp [StageBlock.kept, Function.comp_def, hbytes]
    · obtain ⟨x, -, rfl⟩ := List.mem_map.1 hr
      exact Option.some_ne_none _

/-- The staged records keep their bytes, and each has a place (R334). -/
theorem MirSess.placed_keeps (m : MirSess) : m.placed.map StageBlock.kept = m.staged.map StageBlock.kept
    ∧ ∀ b ∈ m.placed, ∀ r ∈ b.recs, r.place ≠ none := by
  obtain ⟨bs, hbs, hkept, hplace⟩ := m.foldl_placeBlock m.staged (m.written, [])
  rw [m.placed_eq, hbs]
  exact ⟨hkept, hplace⟩

/-! ### A block is written (R331, R333) -/

section
variable {s : State} {i die : Nat} {b : StageBlock}

theorem State.fresh_of_noOps (h : s.mops = []) : s.fresh = s := by
  rw [State.fresh, ← h]

theorem bodyMirrorBlockWrite_waits (hf : (s.sess i).staged.find? (fun b => b.die == die && s.blockDue b) = some b)
    (ho : (s.blockStacks i b).all s.stackOpen = false) : bodyMirrorBlockWrite i die s = s := by
  rw [bodyMirrorBlockWrite, hf]
  exact if_pos (by simp [ho])

/-- A session without one of its staging blocks. -/
def State.unstaged (s : State) (i : Nat) (b : StageBlock) : State := s.setSess i { s.sess i with staged := (s.sess i).staged.erase b }

theorem bodyMirrorBlockWrite_writes {r : StageRec} (hf : (s.sess i).staged.find? (fun b => b.die == die && s.blockDue b) = some b)
    (ho : (s.blockStacks i b).all s.stackOpen = true) (hb : b.recs = [r]) :
    bodyMirrorBlockWrite i die s = ((s.unstaged i b).writeRecord i r).bpmRelease (stagePool die) b.buf (0x8000 + i) 0 := by
  rw [bodyMirrorBlockWrite, hf]
  refine (if_neg (by simp [ho])).trans ?_
  rw [hb]
  rfl

/-- The count of a session after a record is written (R333, R334). -/
def MirSess.counted (m : MirSess) (r : StageRec) : MirSess :=
  if r.place.isSome then m
  else { m with written := satAdd 64 m.written 1, overwritten := if m.capacity ≤ m.written then satAdd 32 m.overwritten 1 else m.overwritten }

/-- The sessions, and the changes of HBM under way. -/
def State.mirrorView (s : State) : Tbl MirSess × List MemOp := (s.mirror, s.mops)

/-- The stacks and lines of a record's place take it; the sessions stay. -/
def State.recordPut (s : State) (x : Region) (r off : Nat) (bs : List Byte) : State :=
  (spanCuts off 144).foldl (fun (s : State) c => s.cleanLines ((x.phys r c.1 + 63) / 64) ((x.phys r c.1 + c.2) / 64))
    (((spanCuts off 144).foldl (fun (s : State) c => s.useStack (x.stackOf r (c.1 / pageBytes))) s).writeRgn r x off bs)

theorem State.cleanLines_mirrorView (s : State) (lo hi : Nat) : (s.cleanLines lo hi).mirrorView = s.mirrorView := rfl

theorem State.useStack_mirrorView (s : State) (k : Nat) : (s.useStack k).mirrorView = s.mirrorView := by
  rw [s.useStack_only]
  rfl

theorem State.writeRgn_mirrorView (s : State) (x : Region) (r off : Nat) (bs : List Byte) :
    (s.writeRgn r x off bs).mirrorView = (s.mirrorView.1, s.mirrorView.2 ++ (x.puts r off bs).map fun w => .put w.1 w.2) := by
  rw [State.writeRgn_putAll, State.putAll_only]
  rfl

theorem State.recordPut_mirrorView (s : State) (x : Region) (r off : Nat) (bs : List Byte) :
    (s.recordPut x r off bs).mirrorView = (s.mirror, s.mops ++ (x.puts r off bs).map fun w => .put w.1 w.2) := by
  rw [State.recordPut, foldl_keeps State.mirrorView _ (fun t _ => t.cleanLines_mirrorView _ _), State.writeRgn_mirrorView,
    foldl_keeps State.mirrorView _ (fun t _ => t.useStack_mirrorView _)]
  rfl

/-- A record is written at its place, and counted unless it is one of an earlier enable. -/
theorem State.writeRecord_writes {x : Region} (r : StageRec) (hx : s.mirrorRegion = some x) :
    ((s.writeRecord i r).sess i = (s.sess i).counted r)
    ∧ (s.writeRecord i r).mops = s.mops ++ (x.puts s.mp.mirrorRgn (r.place.getD ((s.sess i).place (s.sess i).written)) r.bytes).map fun w => .put w.1 w.2 := by
  have hview := s.recordPut_mirrorView x s.mp.mirrorRgn (r.place.getD ((s.sess i).place (s.sess i).written)) r.bytes
  have hput : s.writeRecord i r = if r.place.isSome then s.recordPut x s.mp.mirrorRgn (r.place.getD ((s.sess i).place (s.sess i).written)) r.bytes
      else (s.recordPut x s.mp.mirrorRgn (r.place.getD ((s.sess i).place (s.sess i).written)) r.bytes).setSess i ((s.sess i).counted r) := by
    rw [State.writeRecord, hx, MirSess.counted]
    cases r.place.isSome <;> rfl
  rw [hput]
  split_ifs with h
  · rw [MirSess.counted, if_pos h]
    exact ⟨congrArg (fun v : Tbl MirSess × List MemOp => v.1.get i {}) hview, congrArg Prod.snd hview⟩
  · exact ⟨State.sess_setSess_same _ _ _, congrArg Prod.snd hview⟩

end

end Sys2Proof.Machine

open Sys2Proof Sys2Proof.Machine

/-- Settles O53. -/
theorem mirrorSessionsWriteTheirRing : Obligations.MirrorSessionsWriteTheirRing := by
  intro s i
  refine ⟨fun hi hup hp => ⟨fun hok => ?_, fun hbad => ?_, ?_⟩, fun die b rec_ x hs hm hf hb hx hlen => ?_⟩
  · obtain ⟨hkept, hplace⟩ := (s.sess i).placed_keeps
    exact ⟨_, commit_of_keptParts ((s.ifMain_up _ hup hp).trans ((if_pos hi).trans (if_pos hok))) rfl, rfl, rfl, rfl, rfl, rfl, hkept, hplace⟩
  · exact commit_of_keptParts ((s.ifMain_up _ hup hp).trans ((if_pos hi).trans (if_neg (by simp [hbad])))) rfl
  · exact commit_of_keptParts ((s.ifMain_up _ hup hp).trans (if_pos hi)) rfl
  · intro off
    have hfresh := State.fresh_of_noOps hm
    refine ⟨fun ho => ?_, fun ho => ?_⟩
    · have hbody : bodyMirrorBlockWrite i die s.fresh = s.fresh := by rw [hfresh]; exact bodyMirrorBlockWrite_waits hf ho
      exact commitMem_unlessSafe hs hbody
    · have hbody : bodyMirrorBlockWrite i die s.fresh = ((s.unstaged i b).writeRecord i rec_).bpmRelease (stagePool die) b.buf (0x8000 + i) 0 := by
        rw [hfresh]; exact bodyMirrorBlockWrite_writes hf ho hb
      obtain ⟨hsess, hmops⟩ := State.writeRecord_writes (s := s.unstaged i b) (i := i) rec_ hx
      have hun : (s.unstaged i b).sess i = { s.sess i with staged := (s.sess i).staged.erase b } := State.sess_setSess_same s i _
      rw [hun] at hsess hmops
      refine ⟨_, commitMem_unlessSafe hs hbody, ?_, ?_, ?_⟩
      · rw [State.bpmRelease_only]
        refine (congrArg MirSess.staged hsess).trans ?_
        rw [MirSess.counted]
        split_ifs <;> rfl
      · rw [State.bpmRelease_only]
        refine (congrArg MirSess.written hsess).trans ?_
        cases hp : rec_.place <;> simp [MirSess.counted, hp]
      · change Memory.after s.mem (((s.unstaged i b).writeRecord i rec_).bpmRelease _ _ _ _).mops = _
        rw [State.bpmRelease_only]
        refine (congrArg (Memory.after s.mem) (hmops.trans ?_)).trans (Memory.after_puts _ _)
        rw [show (s.unstaged i b).mops = [] from hm]
        rfl

end

section
/-!
PROOFS. An idle step is one nanosecond; epoch words are checked and sent (O7).
-/

namespace Sys2Proof.Machine

theorem crcBit_lt {w poly reg : Nat} (hp : poly < 2 ^ w) (bit : Bool) : crcBit w poly reg bit < 2 ^ w := by
  have hs : reg * 2 % 2 ^ w < 2 ^ w := Nat.mod_lt _ (Nat.two_pow_pos w)
  by_cases h : (decide (2 ^ (w - 1) ≤ reg) != bit) = true
  · exact (if_pos h).trans_lt (Nat.xor_lt_two_pow hs hp)
  · exact (if_neg h).trans_lt hs

theorem crcByte_lt {w poly : Nat} (hp : poly < 2 ^ w) (reg : Nat) (b : Byte) : crcByte w poly reg b < 2 ^ w := by
  simp only [crcByte, List.foldl_cons, List.foldl_nil]
  exact crcBit_lt hp _

theorem crc8_lt (bs : List Byte) : crc8 bs < 2 ^ 8 := by
  rcases List.eq_nil_or_concat bs with rfl | ⟨l, b, rfl⟩
  · exact Nat.two_pow_pos 8
  · rw [crc8, List.concat_eq_append, List.foldl_append, List.foldl_cons, List.foldl_nil]
    exact crcByte_lt (w := 8) (by decide) _ b

/-- The first bytes of a number are those of its part above the last byte. -/
theorem take_natBytes_succ (k n : Nat) : (natBytes (k + 1) n).take k = natBytes k (n / 256) := by
  rw [natBytes, List.take_left' (natBytes_length k _)]

/-- A multiple of 2^20 below 2^64 with a CRC below it, as the word a source sends (Table 16.2). -/
theorem epochWord_toNat (c : Nat) :
    (epochWord c).toNat = (c / 2 ^ 20 + 1) % 2 ^ 44 * 2 ^ 20 + crc8 ((natBytes 8 ((c / 2 ^ 20 + 1) % 2 ^ 44 * 2 ^ 20)).take 7) := by
  have hk : (c / 2 ^ 20 + 1) % 2 ^ 44 < 2 ^ 44 := Nat.mod_lt _ (Nat.two_pow_pos 44)
  have hc := crc8_lt ((natBytes 8 ((c / 2 ^ 20 + 1) % 2 ^ 44 * 2 ^ 20)).take 7)
  rw [epochWord, BitVec.toNat_ofNat]
  refine Nat.mod_eq_of_lt ?_
  omega

theorem epochWord_next (c : Nat) : (epochWord c).field 63 20 = (c / 2 ^ 20 + 1) % 2 ^ 44 := by
  have hc := crc8_lt ((natBytes 8 ((c / 2 ^ 20 + 1) % 2 ^ 44 * 2 ^ 20)).take 7)
  rw [Word.field, epochWord_toNat]
  omega

theorem epochOk_epochWord (c : Nat) : epochOk (epochWord c) = true := by
  have hc := crc8_lt ((natBytes 8 ((c / 2 ^ 20 + 1) % 2 ^ 44 * 2 ^ 20)).take 7)
  rw [epochOk, beq_iff_eq, wordBytes, Word.field, epochWord_toNat, take_natBytes_succ]
  rw [take_natBytes_succ] at hc ⊢
  have hb : ∀ k r : Nat, r < 2 ^ 8 → (k * 2 ^ 20 + r) / 256 = k * 2 ^ 20 / 256 := by intro k r h; omega
  rw [hb _ _ hc]
  omega

theorem slewNow_cases (t : TimeSt) :
    (slewNow t = 0 ∧ (t.lock = .locked → (t.localNs + 1) % 10000 = 0 → (0 < t.slew → (t.count + 1) % 2 ^ 20 = 0) ∧ 0 ≤ t.slew))
    ∨ (slewNow t = 1 ∧ t.lock = .locked ∧ (t.localNs + 1) % 10000 = 0 ∧ 0 < t.slew)
    ∨ (slewNow t = -1 ∧ t.lock = .locked ∧ (t.localNs + 1) % 10000 = 0 ∧ t.slew < 0) := by
  by_cases h : t.lock = .locked ∧ (t.localNs + 1) % 10000 = 0
  · rw [slewNow, if_pos h]
    by_cases hu : 0 < t.slew ∧ (t.count + 1) % 2 ^ 20 ≠ 0
    · exact .inr (.inl ⟨if_pos hu, h.1, h.2, hu.1⟩)
    · rw [if_neg hu]
      by_cases hd : t.slew < 0
      · exact .inr (.inr ⟨if_pos hd, h.1, h.2, hd⟩)
      · exact .inl ⟨if_neg hd, fun _ _ => ⟨fun h0 => not_not.1 fun hne => hu ⟨h0, hne⟩, Int.not_lt.1 hd⟩⟩
  · rw [slewNow, if_neg h]
    exact .inl ⟨rfl, fun hl hn => absurd ⟨hl, hn⟩ h⟩

theorem step_of_idle {s : State} (h : s.pending = []) : step s = .next (tick s) := by
  simp only [step, h]

theorem tick_down {s : State} (h : s.islandsUp = false) : tick s = s := by
  rw [tick, if_neg (by rw [h]; exact Bool.false_ne_true)]

theorem tick_up {s : State} (h : s.islandsUp = true) :
    tick s = { s with time := { s.time with
        localNs := s.time.localNs + 1
        count := (s.time.count + (1 + slewNow s.time)).toNat % 2 ^ 64
        slew := s.time.slew - slewNow s.time } } := by
  rw [tick, if_pos h, Int.add_assoc]

end Sys2Proof.Machine

open Sys2Proof Sys2Proof.Machine

/-- Settles O7: an idle step is one tick, by what slewing adds to it, and the word a source sends passes its own check. -/
theorem timeAdvancesAndEpochWordsAreKept : Obligations.TimeAdvancesAndEpochWordsAreKept := by
  refine ⟨fun s hq => ⟨fun hd => ?_, fun hup => ⟨1 + slewNow s.time, s.time.slew - slewNow s.time, ?_, ?_⟩⟩, fun s w => ⟨?_, ?_, ?_, ?_⟩⟩
  · rw [step_of_idle hq, tick_down hd]
  · rw [step_of_idle hq, tick_up hup]
  · rcases slewNow_cases s.time with ⟨h, hno⟩ | ⟨h, hl, hn, h0⟩ | ⟨h, hl, hn, h0⟩
    · refine ⟨by omega, by omega, by omega, fun _ => by omega, fun hl hn => ?_, by omega⟩
      obtain ⟨hup0, hge⟩ := hno hl hn
      exact ⟨fun hp hne => absurd (hup0 hp) hne, fun hlt => by omega⟩
    · refine ⟨by omega, by omega, by omega, ?_, fun _ _ => ⟨fun _ _ => by omega, fun _ => by omega⟩, by omega⟩
      rintro (h' | h' | h')
      · exact absurd hl h'
      · omega
      · omega
    · refine ⟨by omega, by omega, by omega, ?_, fun _ _ => ⟨fun _ _ => by omega, fun _ => by omega⟩, by omega⟩
      rintro (h' | h' | h')
      · exact absurd hl h'
      · omega
      · omega
  · intro hs hok
    exact commit_of_keptParts ((if_pos hs).trans (if_pos hok)) rfl
  · intro hs hbad
    exact commit_of_keptParts ((if_pos hs).trans (if_neg (by rw [hbad]; exact Bool.false_ne_true))) rfl
  · intro hen hm haux hne
    exact ⟨epochOk_epochWord _, epochWord_next _, commit_of_keptParts (if_pos ⟨hen, hm, haux, hne⟩) rfl⟩
  · intro hsent
    exact commit_of_keptParts (if_neg fun h => h.2.2.2 hsent) rfl
end

section
/-!
PROOFS. Pulses, missed pulses and PTP messages move the lock of the global count (O8).
-/

namespace Sys2Proof.Machine

/-! ### Registers and the counts alone -/

section
variable {s t u : State}

/-- A state that agrees with another but for its registers and its counts. -/
def State.sansClock (s : State) : State := { s with regs := [], time := {} }

theorem State.eq_of_sansClock (h : t.sansClock = s.sansClock) : t = { s with regs := t.regs, time := t.time } := by
  calc t = { t.sansClock with regs := t.regs, time := t.time } := rfl
    _ = { s with regs := t.regs, time := t.time } := by rw [h]; rfl

/-- A state that agrees with another but for its registers, its counts and its hub dies. -/
def State.sansClockHubs (s : State) : State := { s with regs := [], time := {}, hubs := [] }

theorem State.eq_of_sansClockHubs (h : t.sansClockHubs = s.sansClockHubs) : t = { s with regs := t.regs, time := t.time, hubs := t.hubs } := by
  calc t = { t.sansClockHubs with regs := t.regs, time := t.time, hubs := t.hubs } := rfl
    _ = { s with regs := t.regs, time := t.time, hubs := t.hubs } := by rw [h]; rfl

theorem State.sansClockHubs_of (h : t.sansClock = s.sansClock) : t.sansClockHubs = s.sansClockHubs :=
  congrArg (fun u : State => { u with hubs := [] }) h

theorem State.keptParts_of_sansClockHubs (h : t.sansClockHubs = s.sansClockHubs) : t.keptParts = s.keptParts :=
  (congrArg State.keptParts h :)

theorem State.hubs_of_sansClock (h : t.sansClock = s.sansClock) : t.hubs = s.hubs := (congrArg State.hubs h :)

/-- A command whose body changes registers and counts alone answers that body's state. -/
theorem commit_of_sansClock {b : State} (h : b.sansClock = s.sansClock) : commit s b = .next b :=
  commit_of_keptParts rfl (State.keptParts_of_sansClockHubs (State.sansClockHubs_of h))

theorem State.regsBut.reg_eq {as : List Nat} {r : Reg} {is : List Nat} (h : s.regsBut t as) (hr : r.addr is ∉ as) : t.reg r is = s.reg r is := by
  rw [State.reg, State.reg, Tbl.get, Tbl.get, h _ hr]

theorem State.regsBut_setReg_mem (s : State) {r : Reg} {is as : List Nat} (h : r.addr is ∈ as) (v : Nat) : s.regsBut (s.setReg r is v) as :=
  (s.regsBut_setReg r is v).mono fun a ha => by rwa [List.mem_singleton.1 ha]

theorem State.regsBut.fld_eq {as : List Nat} {r : Reg} {is : List Nat} (h : s.regsBut t as) (hr : r.addr is ∉ as) (hi lo : Nat) :
    t.fld r is hi lo = s.fld r is hi lo := by
  rw [State.fld, State.fld, h.reg_eq hr]

end

/-! ### The lock state and the measured error -/

section
variable (s : State)

theorem State.setLock_sansClock (l : LockState) : (s.setLock l).sansClock = s.sansClock := by
  unfold State.setLock
  dsimp only
  split_ifs <;> rfl

theorem State.setLock_time (l : LockState) : (s.setLock l).time =
    if l = .unlocked ∧ (s.time.lock = .locked ∨ s.time.lock = .holdover) then
      { s.time with lock := l, slew := 0, prev := none, base := none, good := 0 }
    else { s.time with lock := l } := by
  unfold State.setLock
  dsimp only
  by_cases hl : l = .locked ∧ s.time.lock = .acquiring
  · rw [if_pos hl, if_neg fun h => by rw [hl.1] at h; exact LockState.noConfusion h.1]
    rfl
  · rw [if_neg hl]
    split_ifs <;> rfl

theorem State.setLock_time_kept {l : LockState} (h : l ≠ .unlocked) : (s.setLock l).time = { s.time with lock := l } := by
  rw [State.setLock_time, if_neg fun hl => h hl.1]

theorem State.setLock_lost (h : s.time.lock = .locked ∨ s.time.lock = .holdover) :
    (s.setLock .unlocked).time = { s.time with lock := .unlocked, slew := 0, prev := none, base := none, good := 0 } := by
  rw [State.setLock_time, if_pos ⟨rfl, h⟩]

theorem State.setLock_regsBut {as : List Nat} (h : Reg.addr .timStatus [] ∈ as) (l : LockState) : s.regsBut (s.setLock l) as := by
  unfold State.setLock
  dsimp only
  split_ifs
  · exact State.regsBut_bump { s with time := { s.time with lock := l } } h 57 42 1
  · exact State.regsBut_bump { s with time := { s.time with lock := l, slew := 0, prev := none, base := none, good := 0 } } h 41 26 1
  · exact State.regsBut_refl _ _

theorem State.noteError_time (e : Int) : (s.noteError e).time = s.time := rfl

theorem State.noteError_regsBut {as : List Nat} (h : Reg.addr .timOffset [] ∈ as) (e : Int) : s.regsBut (s.noteError e) as := by
  have h1 (t : State) (hi lo v : Nat) : t.regsBut (t.setFld .timOffset [] hi lo v) as :=
    t.regsBut_setReg_mem h _
  exact (h1 s 63 32 _).trans (h1 _ 31 0 _)

theorem State.noteError_last (e : Int) : (s.noteError e).fld .timOffset [] 63 32 = ofSigned 32 (clampNs e) % 2 ^ 32 := by
  rw [State.noteError, State.fld_setFld_above _ _ _ _ _ _ _ _ (by omega) (by omega), State.fld_setFld_same]

theorem State.trackCount_sansClock (e : Int) : (s.trackCount e).sansClock = s.sansClock := by
  unfold State.trackCount
  split_ifs
  · exact s.setLock_sansClock _
  · exact s.setLock_sansClock .locked

theorem State.trackCount_regsBut {as : List Nat} (h : Reg.addr .timStatus [] ∈ as) (e : Int) : s.regsBut (s.trackCount e) as := by
  unfold State.trackCount
  split_ifs
  · exact s.setLock_regsBut h _
  · exact (s.setLock_regsBut h .locked).of_regs rfl

theorem State.trackCount_far (h : s.time.lock = .locked ∨ s.time.lock = .holdover) {e : Int} (he : 1000 < e.natAbs) :
    (s.trackCount e).time = { s.time with lock := .unlocked, slew := 0, prev := none, base := none, good := 0 } := by
  rw [State.trackCount, if_pos he, s.setLock_lost h]

theorem State.trackCount_word (e : Int) : (s.trackCount e).time.word = s.time.word := by
  unfold State.trackCount
  split_ifs
  · rw [State.setLock_time]
    split_ifs <;> rfl
  · rw [State.setLock_time_kept _ (by decide)]

theorem State.trackCount_near {e : Int} (he : e.natAbs ≤ 1000) :
    (s.trackCount e).time = { s.time with lock := .locked, slew := e, misses := 0 } := by
  rw [State.trackCount, if_neg (Nat.not_lt.2 he), s.setLock_time_kept (by decide)]

end

/-! ### Launches that a step passes -/

/-- The counts and the registers that a comparison writes and no launch does. -/
def State.clockView (s : State) : TimeSt × Nat × Nat := (s.time, s.reg .timOffset [], s.reg .timStep [])

theorem addr_gateCnt (p : Nat) : Reg.addr .gateCnt [p] = 0x60000E0 + 0x200 * p := rfl

theorem State.clockView_unlessSafe {s : State} {f : State → State} (h : (f s).clockView = s.clockView) : (s.unlessSafe f).clockView = s.clockView := by
  unfold State.unlessSafe
  split_ifs
  · rfl
  · exact h

theorem State.clockView_streamSlot (s : State) (k : Nat) : (s.streamSlot k).clockView = s.clockView :=
  foldl_keeps State.clockView (fun (s : State) n => s.streamIssue (n / 128) (n % 128)) (fun s n => by rw [State.streamIssue_only]; rfl) _ s

theorem State.clockView_launchNow (s : State) (l : Launch) : (s.launchNow l).clockView = s.clockView := by
  cases l with
  | context n =>
    refine State.clockView_unlessSafe ?_
    unfold bodyGatherContextStart
    split
    · split_ifs <;> rfl
    · rfl
  | gates p =>
    change (bodyGateListStart p s).clockView = s.clockView
    unfold bodyGateListStart
    dsimp only
    split_ifs
    · have hother (g : Gate) {r : Reg} (hr : r.addr [] < 0x60000E0) :
          ((s.setGate p g).bumpMod .gateCnt [p] 31 0).reg r [] = s.reg r [] :=
        State.reg_setFld_other (s.setGate p g) _ _ _ _ _ _ _ (by rw [addr_gateCnt]; omega)
      exact Prod.ext rfl (Prod.ext (hother _ (by decide)) (hother _ (by decide)))
    · rfl
  | bank =>
    change (bodyBankSwap s).clockView = s.clockView
    unfold bodyBankSwap
    split
    · split_ifs <;> rfl
    · rfl
  | image k =>
    refine State.clockView_unlessSafe ?_
    unfold bodyImageLaunch
    split
    · split_ifs
      · exact State.clockView_streamSlot _ k
      · rfl
    · rfl
  | firmware =>
    change (bodyLiveActivation s).clockView = s.clockView
    unfold bodyLiveActivation
    split
    · rfl
    · split_ifs <;> rfl

theorem State.clockView_takeLaunches (s : State) : s.takeLaunches.clockView = s.clockView :=
  foldl_keeps State.clockView State.launchNow State.clockView_launchNow _ s

theorem State.takeLaunches_none {s : State} (h : s.launchesDue = []) : s.takeLaunches = s := by
  rw [State.takeLaunches, h]
  rfl

/-- What is due depends on the count and on none of the registers. -/
theorem State.launchesDue_of_sansClock {s t : State} (h : t.sansClock = s.sansClock) :
    t.launchesDue = ({ s with time := { s.time with count := t.time.count } } : State).launchesDue :=
  (congrArg State.launchesDue (State.eq_of_sansClock h)).trans rfl

/-! ### The step into LOCKED -/

/-- The count at its new value, LOCKED, before the launches that the step passes. -/
def State.stepped (s : State) (value : Nat) : State :=
  (({ s with time := { s.time with count := value, behind := false, resync := false, slew := 0, misses := 0 } } : State).setReg .timStep []
    (ofSigned 64 (value - s.time.count))).setLock .locked

section
variable (s : State) (value : Nat)

theorem State.stepTo_eq : s.stepTo value = if (value : Int) - s.time.count < 0 then (s.stepped value).ageBySojourn else (s.stepped value).takeLaunches :=
  rfl

theorem State.stepped_sansClock : (s.stepped value).sansClock = s.sansClock := State.setLock_sansClock _ _

theorem State.stepped_time : (s.stepped value).time =
    { s.time with count := value, behind := false, resync := false, slew := 0, misses := 0, lock := .locked } :=
  State.setLock_time_kept _ (by decide)

theorem State.stepped_regsBut {as : List Nat} (hs : Reg.addr .timStep [] ∈ as) (ht : Reg.addr .timStatus [] ∈ as) : s.regsBut (s.stepped value) as := by
  have h1 : s.regsBut (s.setReg .timStep [] (ofSigned 64 (value - s.time.count))) as :=
    s.regsBut_setReg_mem hs _
  exact (h1.of_regs (u := ({ s with time := { s.time with count := value, behind := false, resync := false, slew := 0, misses := 0 } } : State).setReg
    .timStep [] (ofSigned 64 (value - s.time.count))) rfl).trans (State.setLock_regsBut _ ht _)

theorem State.stepTo_forward (h : s.time.count ≤ value) : s.stepTo value = (s.stepped value).takeLaunches :=
  (s.stepTo_eq value).trans (if_neg (by omega))

theorem State.lockAt_forward (hb : s.time.behind = false) (h : s.time.count ≤ value) : s.lockAt value = (s.stepped value).takeLaunches := by
  rw [State.lockAt, if_neg (by rw [hb]; exact Bool.false_ne_true), if_pos (.inl h), s.stepTo_forward value h]

/-- A step into LOCKED is taken forward or backward, or not taken; without one at most BEHIND is set. -/
theorem State.lockAt_cases : s.lockAt value = (s.stepped value).takeLaunches ∨ s.lockAt value = (s.stepped value).ageBySojourn
    ∨ s.lockAt value = s ∨ s.lockAt value = { s with time := { s.time with behind := true } } := by
  have hstep : s.stepTo value = (s.stepped value).takeLaunches ∨ s.stepTo value = (s.stepped value).ageBySojourn := by
    rw [State.stepTo_eq]
    split_ifs
    · exact .inr rfl
    · exact .inl rfl
  unfold State.lockAt
  split_ifs
  · exact hstep.imp_right .inl
  · exact .inr (.inr (.inl rfl))
  · exact hstep.imp_right .inl
  · exact .inr (.inr (.inr rfl))

theorem State.stepped_launchesDue : (s.stepped value).launchesDue = ({ s with time := { s.time with count := value } } : State).launchesDue := by
  rw [State.launchesDue_of_sansClock (s.stepped_sansClock value), State.stepped_time]

theorem State.stepped_timStep : (s.stepped value).reg .timStep [] = ofSigned 64 (value - s.time.count) :=
  ((State.setLock_regsBut (as := [Reg.addr .timStatus []]) _ List.mem_cons_self .locked).reg_eq (by decide)).trans (State.reg_setReg_same _ _ _ _)

end

/-! ### Pulses -/

/-- What a pulse that follows an epoch word leaves before it moves the lock: the word taken, the pulse noted, and its error. -/
def State.pulsed (s : State) (w : Word) : State :=
  ({ s with time := { s.time with syncAt := some s.local, word := none, prev := some (w.field 63 20), pulseAt := some s.local } } : State).noteError
    ((w.field 63 20 * 2 ^ 20 + s.fld .timCfg [] 63 48 : Nat) - s.time.count)

section
variable {s : State} {w : Word}

theorem State.pulsed_regsBut {as : List Nat} (h : Reg.addr .timOffset [] ∈ as) : s.regsBut (s.pulsed w) as :=
  State.noteError_regsBut { s with time := _ } h _

theorem State.pulsed_last : (s.pulsed w).fld .timOffset [] 63 32
    = ofSigned 32 (clampNs ((w.field 63 20 * 2 ^ 20 + s.fld .timCfg [] 63 48 : Nat) - s.time.count)) % 2 ^ 32 := State.noteError_last _ _

variable (hs : s.keys.timeSrc = 1) (hw : s.time.word = some w)
include hs hw

theorem bodySyncPulse_unlocked (hl : s.time.lock = .unlocked) : bodySyncPulse s = (s.pulsed w).setLock .acquiring := by
  simp only [bodySyncPulse, State.pulsed, hs, if_true, hw, State.noteError_time, hl]
  rfl

theorem bodySyncPulse_acquiring (hl : s.time.lock = .acquiring) : bodySyncPulse s =
    if s.time.prev.map (· + 1) = some (w.field 63 20) then (s.pulsed w).lockAt (w.field 63 20 * 2 ^ 20 + s.fld .timCfg [] 63 48)
    else s.pulsed w := by
  cases hp : s.time.prev with
  | none =>
    simp only [bodySyncPulse, State.pulsed, hs, if_true, hw, State.noteError_time, hl, hp, Bool.false_eq_true, if_false, Option.map_none, reduceCtorEq]
    rfl
  | some p =>
    by_cases hn : p + 1 = w.field 63 20
    · simp only [bodySyncPulse, State.pulsed, hs, if_true, hw, State.noteError_time, hl, hp, Option.map_some, hn, BEq.rfl]
      rfl
    · have hne : (p + 1 == w.field 63 20) = false := beq_eq_false_iff_ne.2 hn
      simp only [bodySyncPulse, State.pulsed, hs, if_true, hw, State.noteError_time, hl, hp, Option.map_some, Option.some.injEq, hn, hne, Bool.false_eq_true,
        if_false]
      rfl

theorem bodySyncPulse_tracking (hl : s.time.lock = .locked ∨ s.time.lock = .holdover) : bodySyncPulse s =
    (s.pulsed w).trackCount ((w.field 63 20 * 2 ^ 20 + s.fld .timCfg [] 63 48 : Nat) - s.time.count) := by
  rcases hl with hl | hl <;> simp only [bodySyncPulse, State.pulsed, hs, if_true, hw, State.noteError_time, hl] <;> rfl

theorem bodySyncPulse_lock_steps (hl : s.time.lock = .acquiring) (hp : s.time.prev.map (· + 1) = some (w.field 63 20))
    (hb : s.time.behind = false) (hv : s.time.count ≤ w.field 63 20 * 2 ^ 20 + s.fld .timCfg [] 63 48) :
    bodySyncPulse s = ((s.pulsed w).stepped (w.field 63 20 * 2 ^ 20 + s.fld .timCfg [] 63 48)).takeLaunches := by
  rw [bodySyncPulse_acquiring hs hw hl, if_pos hp, (s.pulsed w).lockAt_forward _ hb hv]

end

section
variable (s : State) (value : Nat)

theorem State.stepped_offset (hi lo : Nat) : (s.stepped value).fld .timOffset [] hi lo = s.fld .timOffset [] hi lo :=
  (s.stepped_regsBut value (as := [Reg.addr .timStep [], Reg.addr .timStatus []]) (by simp) (by simp)).fld_eq (by decide) hi lo

theorem State.takeLaunches_offset (hi lo : Nat) : s.takeLaunches.fld .timOffset [] hi lo = s.fld .timOffset [] hi lo :=
  congrArg (fun v : TimeSt × Nat × Nat => v.2.1 / 2 ^ lo % 2 ^ (hi + 1 - lo)) s.clockView_takeLaunches

theorem State.takeLaunches_time : s.takeLaunches.time = s.time := congrArg Prod.fst s.clockView_takeLaunches

theorem State.takeLaunches_timStep : s.takeLaunches.reg .timStep [] = s.reg .timStep [] := congrArg (fun v => v.2.2) s.clockView_takeLaunches

/-- A comparison in ACQUIRING leaves the epoch word and the measured error alone. -/
theorem State.lockAt_keeps : (s.lockAt value).time.word = s.time.word
    ∧ (s.lockAt value).fld .timOffset [] 63 32 = s.fld .timOffset [] 63 32 := by
  have hw : (s.stepped value).time.word = s.time.word := by rw [State.stepped_time]
  rcases s.lockAt_cases value with h | h | h | h <;> rw [h]
  · rw [State.takeLaunches_time, State.takeLaunches_offset, State.stepped_offset]
    exact ⟨hw, rfl⟩
  · exact ⟨hw, s.stepped_offset value 63 32⟩
  · exact ⟨rfl, rfl⟩
  · exact ⟨rfl, rfl⟩

/-- It changes the counts, their registers and the age of packets alone where the step passes no launch. -/
theorem State.lockAt_quiet (h0 : ({ s with time := { s.time with count := value } } : State).launchesDue = []) :
    (s.lockAt value).sansClockHubs = s.sansClockHubs
      ∧ s.regsBut (s.lockAt value) [Reg.addr .timOffset [], Reg.addr .timStatus [], Reg.addr .timStep []] := by
  have hsans := State.sansClockHubs_of (s.stepped_sansClock value)
  have hregs := s.stepped_regsBut value (as := [Reg.addr .timOffset [], Reg.addr .timStatus [], Reg.addr .timStep []]) (by simp) (by simp)
  rcases s.lockAt_cases value with h | h | h | h <;> rw [h]
  · rw [State.takeLaunches_none ((s.stepped_launchesDue value).trans h0)]
    exact ⟨hsans, hregs⟩
  · exact ⟨hsans, hregs.of_regs rfl⟩
  · exact ⟨rfl, State.regsBut_refl _ _⟩
  · exact ⟨rfl, State.regsBut_refl _ _⟩

end

section
variable {s : State} {w : Word} (hs : s.keys.timeSrc = 1) (hw : s.time.word = some w)
include hs hw

/-- Whatever the lock state, a pulse uses up the epoch word and notes its error. -/
theorem bodySyncPulse_keeps : (bodySyncPulse s).time.word = none ∧ (bodySyncPulse s).fld .timOffset [] 63 32
    = ofSigned 32 (clampNs ((w.field 63 20 * 2 ^ 20 + s.fld .timCfg [] 63 48 : Nat) - s.time.count)) % 2 ^ 32 := by
  have hstatus {t : State} (h : (s.pulsed w).regsBut t [Reg.addr .timStatus []]) :
      t.fld .timOffset [] 63 32 = (s.pulsed w).fld .timOffset [] 63 32 := h.fld_eq (by decide) 63 32
  rw [← State.pulsed_last]
  cases hl : s.time.lock with
  | unlocked =>
    rw [bodySyncPulse_unlocked hs hw hl, State.setLock_time_kept _ (by decide)]
    exact ⟨rfl, hstatus (State.setLock_regsBut _ List.mem_cons_self _)⟩
  | acquiring =>
    rw [bodySyncPulse_acquiring hs hw hl]
    split_ifs
    · exact State.lockAt_keeps _ _
    · exact ⟨rfl, rfl⟩
  | locked =>
    rw [bodySyncPulse_tracking hs hw (.inl hl)]
    exact ⟨State.trackCount_word _ _, hstatus (State.trackCount_regsBut _ List.mem_cons_self _)⟩
  | holdover =>
    rw [bodySyncPulse_tracking hs hw (.inr hl)]
    exact ⟨State.trackCount_word _ _, hstatus (State.trackCount_regsBut _ List.mem_cons_self _)⟩

/-- A pulse changes the counts, their registers and the age of packets alone where it passes no launch. -/
theorem bodySyncPulse_quiet (h : s.time.lock ≠ .acquiring
      ∨ ({ s with time := { s.time with count := w.field 63 20 * 2 ^ 20 + s.fld .timCfg [] 63 48 } } : State).launchesDue = []) :
    (bodySyncPulse s).sansClockHubs = s.sansClockHubs
      ∧ s.regsBut (bodySyncPulse s) [Reg.addr .timOffset [], Reg.addr .timStatus [], Reg.addr .timStep []] := by
  have hp : s.regsBut (s.pulsed w) [Reg.addr .timOffset [], Reg.addr .timStatus [], Reg.addr .timStep []] := State.pulsed_regsBut (by simp)
  have htrack (e : Int) : ((s.pulsed w).trackCount e).sansClockHubs = s.sansClockHubs
      ∧ s.regsBut ((s.pulsed w).trackCount e) [Reg.addr .timOffset [], Reg.addr .timStatus [], Reg.addr .timStep []] :=
    ⟨State.sansClockHubs_of (State.trackCount_sansClock _ e), hp.trans (State.trackCount_regsBut _ (by simp) e)⟩
  cases hl : s.time.lock with
  | unlocked =>
    rw [bodySyncPulse_unlocked hs hw hl]
    exact ⟨State.sansClockHubs_of (State.setLock_sansClock _ _), hp.trans (State.setLock_regsBut _ (by simp) _)⟩
  | acquiring =>
    rw [bodySyncPulse_acquiring hs hw hl]
    split_ifs
    · obtain ⟨hsans, hregs⟩ := (s.pulsed w).lockAt_quiet _ (h.resolve_left fun hne => hne hl)
      exact ⟨hsans, hp.trans hregs⟩
    · exact ⟨rfl, hp⟩
  | locked =>
    rw [bodySyncPulse_tracking hs hw (.inl hl)]
    exact htrack _
  | holdover =>
    rw [bodySyncPulse_tracking hs hw (.inr hl)]
    exact htrack _

end

/-! ### Missed pulses and messages -/

section
variable {s : State}

/-- A comparison that did not come, counted: `τ` are the counts with what is missing noted. -/
def State.missed (s : State) (τ : TimeSt) (n : Nat) : State := ({ s with time := τ } : State).bump .timErr [] 31 0 n

theorem State.missed_regsBut (τ : TimeSt) (n : Nat) : s.regsBut (s.missed τ n) [Reg.addr .timErr [], Reg.addr .timStatus []] :=
  State.regsBut_bump { s with time := τ } List.mem_cons_self 31 0 n

theorem bodySyncPulseMissing_tracking (hl : s.time.lock = .locked ∨ s.time.lock = .holdover) {p : Nat} (hs : s.keys.timeSrc = 1)
    (hp : s.time.pulseAt = some p) (h : p + 2 ^ 20 < s.local) : bodySyncPulseMissing s =
      (s.missed { s.time with pulseAt := some (p + 2 ^ 20), word := none, misses := s.time.misses + 1 } 1).setLock
        (if 4 ≤ s.time.misses + 1 then .unlocked else .holdover) := by
  unfold bodySyncPulseMissing
  rw [hp]
  refine (if_pos ⟨hs, h⟩).trans ((if_pos hl).trans ?_)
  by_cases h4 : 4 ≤ s.time.misses + 1
  · exact (if_pos h4).trans (by rw [if_pos h4]; rfl)
  · exact (if_neg h4).trans (by rw [if_neg h4]; rfl)

theorem bodySyncPulseMissing_acquiring (hl : s.time.lock = .acquiring) {p : Nat} (hs : s.keys.timeSrc = 1) (hp : s.time.pulseAt = some p)
    (h : p + 2 ^ 20 < s.local) :
    bodySyncPulseMissing s = { s with time := { s.time with pulseAt := some (p + 2 ^ 20), word := none, prev := none } } := by
  have hno : ¬(s.time.lock = .locked ∨ s.time.lock = .holdover) := by rw [hl]; decide
  unfold bodySyncPulseMissing
  rw [hp]
  exact (if_pos ⟨hs, h⟩).trans (if_neg hno)

theorem bodyPtpSyncTimeout_due (hl : s.time.lock = .locked ∨ s.time.lock = .holdover) {n : Nat} (hs : s.keys.timeSrc = 2)
    (hn : n = (s.local - s.time.lastAt) / max s.ptpInterval 1) (h : s.time.misses < n) : bodyPtpSyncTimeout s =
      if 16 ≤ n then (s.missed { s.time with misses := n } (n - s.time.misses)).setLock .unlocked
      else if 4 ≤ n then (s.missed { s.time with misses := n } (n - s.time.misses)).setLock .holdover
      else s.missed { s.time with misses := n } (n - s.time.misses) := by
  subst hn
  exact if_pos ⟨hs, hl, h⟩

/-- A missed comparison counts and moves the lock; the global count goes on. -/
theorem State.missed_setLock (τ : TimeSt) (n : Nat) (l : LockState) :
    ((s.missed τ n).setLock l).sansClock = s.sansClock
      ∧ s.regsBut ((s.missed τ n).setLock l) [Reg.addr .timErr [], Reg.addr .timStatus []]
      ∧ ((s.missed τ n).setLock l).time.misses = τ.misses ∧ ((s.missed τ n).setLock l).time.pulseAt = τ.pulseAt
      ∧ ((s.missed τ n).setLock l).time.word = τ.word ∧ ((s.missed τ n).setLock l).time.count = τ.count
      ∧ ((s.missed τ n).setLock l).time.lock = l := by
  refine ⟨State.setLock_sansClock _ _, (State.missed_regsBut τ n).trans (State.setLock_regsBut _ (by simp) l), ?_⟩
  rw [State.setLock_time]
  split_ifs <;> exact ⟨rfl, rfl, rfl, rfl, rfl⟩

theorem State.maxFrame_portCount (p i n : Nat) : (s.portCount p i n).maxFrame p = s.maxFrame p := s.cfg_portCount p i n 45 32

section
variable {port : Nat} {f : Frame} (hup : s.linkUp port = true) (hsafe : s.flt.safe = false) (hptp : s.takesPtp port f = true) (hfcs : f.fcsOk = true)
  (hmin : 64 ≤ f.len) (hmax : f.len ≤ s.maxFrame port)
include hup hsafe hptp hfcs hmin hmax

theorem bodyPtpMessage_counted (isSync fromMaster : Bool) (ns : Nat) : bodyPtpMessage port f isSync fromMaster ns s =
    if s.keys.timeSrc = 2 ∧ isSync = true ∧ fromMaster = true then ((s.portCount port 0).portCount port 1 f.len).ptpCompare ns
    else (s.portCount port 0).portCount port 1 f.len := by
  have hfit : ¬((s.portCount port 0).portCount port 1 f.len).maxFrame port < f.len := by
    rw [State.maxFrame_portCount, State.maxFrame_portCount]
    exact Nat.not_lt.2 hmax
  exact (if_pos ⟨hup, hsafe, hptp⟩).trans ((if_pos hfcs).trans ((if_neg (Nat.not_lt.2 hmin)).trans (if_neg hfit)))

end

/-- A comparison point of a device that follows PTP in LOCKED, near enough to slew. -/
theorem State.ptpCompare_locked (hl : s.time.lock = .locked) {ns : Nat} (he : ((ns : Int) - s.time.count).natAbs ≤ 1000) :
    (s.ptpCompare ns).sansClock = s.sansClock
      ∧ (s.ptpCompare ns).time = { s.time with lastAt := s.local, slew := ns - s.time.count, misses := 0 } := by
  have h : s.ptpCompare ns = { (({ s with time := { s.time with lastAt := s.local } } : State).noteError (ns - s.time.count)).trackCount
      (ns - s.time.count) with time := { ((({ s with time := { s.time with lastAt := s.local } } : State).noteError (ns - s.time.count)).trackCount
      (ns - s.time.count)).time with misses := 0 } } := by
    unfold State.ptpCompare
    dsimp only
    rw [State.noteError_time]
    simp only [hl]
  rw [h]
  refine ⟨State.trackCount_sansClock _ _, ?_⟩
  rw [State.trackCount_near _ he, ← hl]
  rfl

/-- A message in ACQUIRING that does not complete the 16 intervals (log entry 7). -/
theorem State.ptpCompare_acquiring (hl : s.time.lock = .acquiring) {b : Int} (hb : s.time.base = some b) {ns n : Nat}
    (hn : n = if ((ns - s.time.count : Int) - b).natAbs ≤ 50 ∧ s.local < s.time.lastAt + 2 * s.ptpInterval then s.time.good + 1 else 0)
    (h : n < 16) : (s.ptpCompare ns).sansClock = s.sansClock
      ∧ (s.ptpCompare ns).time = { s.time with lastAt := s.local, base := some (ns - s.time.count), good := n } := by
  have h' : s.ptpCompare ns = { (s.noteError (ns - s.time.count)) with
      time := { s.time with lastAt := s.local, base := some (ns - s.time.count), good := n } } := by
    subst hn
    unfold State.ptpCompare
    dsimp only
    rw [State.noteError_time]
    simp only [hl, hb, Bool.and_eq_true, decide_eq_true_eq]
    exact if_neg (Nat.not_le.2 h)
  rw [h']
  exact ⟨rfl, rfl⟩

end

end Sys2Proof.Machine

open Sys2Proof Sys2Proof.Machine

/-- Settles O8: each row of Table 16.1 is one case of the lock state, and no launch writes what the comparison wrote. -/
theorem comparisonsMoveTheLock : Obligations.ComparisonsMoveTheLock := by
  refine ⟨fun s w hs hw => ?_, fun s p hl hs hp h => commit_of_keptParts (bodySyncPulseMissing_acquiring hl hs hp h) rfl,
    fun s hl => ⟨fun p hs hp h => ?_, fun n hs hn h => ?_⟩, fun s => ⟨fun port f isSync fromMaster ns hup hsafe hptp hfcs hmin hmax => ⟨?_, ?_, ?_⟩,
      fun hup hb => ?_, fun hup => ?_⟩⟩
  · intro value e passed
    obtain ⟨hword, hlast⟩ := bodySyncPulse_keeps hs hw
    refine ⟨_, commit_of rfl, fun hq => ?_, hword, (State.kept_fld ..).trans hlast, fun hl => ?_, fun hl hp hb hv => ?_, fun hl he => ?_, fun hl he => ?_⟩
    · obtain ⟨hsans, hregs⟩ := bodySyncPulse_quiet hs hw hq
      rw [State.kept_of_keptParts (State.keptParts_of_sansClockHubs hsans)]
      exact ⟨State.eq_of_sansClockHubs hsans, hregs⟩
    · rw [State.kept_time, State.kept_hubs, bodySyncPulse_unlocked hs hw hl, State.setLock_time_kept _ (by decide)]
      exact ⟨rfl, rfl, State.hubs_of_sansClock (State.setLock_sansClock (s.pulsed w) _)⟩
    · have ht : ((s.pulsed w).stepped value).takeLaunches.time = ((s.pulsed w).stepped value).time := State.takeLaunches_time _
      rw [bodySyncPulse_lock_steps hs hw hl hp hb hv]
      have hstep : ((s.pulsed w).stepped value).takeLaunches.reg .timStep [] = ofSigned 64 e :=
        (State.takeLaunches_timStep _).trans ((s.pulsed w).stepped_timStep value)
      refine ⟨?_, ?_, (State.kept_reg ..).trans hstep, (s.pulsed w).stepped value, rfl, State.eq_of_sansClock ((s.pulsed w).stepped_sansClock value),
        (s.pulsed w).stepped_launchesDue value⟩
      · rw [State.kept_time, ht, State.stepped_time]
      · rw [State.kept_time, ht, State.stepped_time]
    · rw [State.kept_time, State.kept_hubs, bodySyncPulse_tracking hs hw hl, (s.pulsed w).trackCount_near he]
      exact ⟨rfl, rfl, rfl, State.hubs_of_sansClock (State.trackCount_sansClock (s.pulsed w) _)⟩
    · rw [State.kept_time, State.kept_hubs, bodySyncPulse_tracking hs hw hl, (s.pulsed w).trackCount_far hl he]
      exact ⟨rfl, rfl, rfl, State.hubs_of_sansClock (State.trackCount_sansClock (s.pulsed w) _)⟩
  · obtain ⟨hsans, hregs, hmiss, hat, hword, hcount, hlock⟩ := s.missed_setLock
      { s.time with pulseAt := some (p + 2 ^ 20), word := none, misses := s.time.misses + 1 } 1 (if 4 ≤ s.time.misses + 1 then .unlocked else .holdover)
    rw [← bodySyncPulseMissing_tracking hl hs hp h] at hsans hregs hmiss hat hword hcount hlock
    exact ⟨_, commit_of_sansClock hsans, State.eq_of_sansClock hsans, hregs, hmiss, hat, hword, hcount, hlock⟩
  · have hmoved (l : LockState) (hb : bodyPtpSyncTimeout s = (s.missed { s.time with misses := n } (n - s.time.misses)).setLock l) :
        ∃ t, exec .ptpSyncTimeout s = .next t ∧ t = { s with regs := t.regs, time := t.time }
          ∧ s.regsBut t [Reg.addr .timErr [], Reg.addr .timStatus []] ∧ t.time.misses = n ∧ t.time.count = s.time.count ∧ t.time.lock = l := by
      obtain ⟨hsans, hregs, hmiss, -, -, hcount, hlock⟩ := s.missed_setLock { s.time with misses := n } (n - s.time.misses) l
      rw [← hb] at hsans hregs hmiss hcount hlock
      exact ⟨_, commit_of_sansClock hsans, State.eq_of_sansClock hsans, hregs, hmiss, hcount, hlock⟩
    have hdue := bodyPtpSyncTimeout_due hl hs hn h
    by_cases h16 : 16 ≤ n
    · rw [if_pos h16]
      exact hmoved _ (hdue.trans (if_pos h16))
    · rw [if_neg h16]
      rw [if_neg h16] at hdue
      by_cases h4 : 4 ≤ n
      · rw [if_pos h4]
        exact hmoved _ (hdue.trans (if_pos h4))
      · rw [if_neg h4]
        exact ⟨_, commit_of_keptParts (hdue.trans (if_neg h4)) rfl, rfl, State.missed_regsBut _ _, rfl, rfl, rfl⟩
  · exact fun hno => commit_of_keptParts ((bodyPtpMessage_counted hup hsafe hptp hfcs hmin hmax _ _ _).trans (if_neg hno)) rfl
  · intro hs hsync hmaster hl he
    obtain ⟨hsans, htime⟩ := State.ptpCompare_locked (s := (s.portCount port 0).portCount port 1 f.len) hl he
    rw [← (bodyPtpMessage_counted hup hsafe hptp hfcs hmin hmax _ _ _).trans (if_pos ⟨hs, hsync, hmaster⟩)] at hsans htime
    exact ⟨_, commit_of_sansClock hsans, State.eq_of_sansClock hsans, htime⟩
  · intro b hs hsync hmaster hl hb e n hn
    obtain ⟨hsans, htime⟩ := State.ptpCompare_acquiring (s := (s.portCount port 0).portCount port 1 f.len) hl hb rfl hn
    rw [← (bodyPtpMessage_counted hup hsafe hptp hfcs hmin hmax _ _ _).trans (if_pos ⟨hs, hsync, hmaster⟩)] at hsans htime
    exact ⟨_, commit_of_sansClock hsans, State.eq_of_sansClock hsans, htime⟩
  · exact commit_of_keptParts ((s.ifIslands_up _ hup).trans (if_pos hb)) rfl
  · refine ⟨_, commit_of_keptParts (s.ifIslands_up _ hup) rfl, rfl, s.regsBut_setFld .timOffset [] 31 0 0, ?_, ?_⟩
    · exact s.fld_setFld_same .timOffset [] 31 0 0
    · exact s.fld_setFld_above .timOffset [] 31 0 0 63 32 (by omega) (by omega)
end

section
/-!
PROOFS. What entering the safe state and a FATAL detection change and leave (R449), for the chapters on power, faults and resets.
-/

namespace Sys2Proof.Machine

/-- A state without what the entry of the safe state changes. -/
def State.sansSafe (s : State) : State := { s with regs := [], ports := [], sent := [], fwd := {}, mp := {}, fab := {}, flt := {} }

/-- What a substitution of a spare column is about. -/
def State.fabView (s : State) : Option Subst × List Nat × List FaultMsg := (s.fab.subst, s.fab.retired, s.fab.substq)

/-- Something stops: no port leaves DISABLED, no stack that is off comes back, the frames sent stay sent, and no always-on register changes. -/
structure State.Stops (s t : State) : Prop where
  others   : t.sansSafe = s.sansSafe
  regs     : ∀ a, a < 0x500000 → t.regs.find? a = s.regs.find? a
  sent     : t.sent.map Prod.fst = s.sent.map Prod.fst
  disabled : ∀ p, s.linkState p = .disabled → t.linkState p = .disabled
  off      : ∀ k, (s.stack k).off = true → (t.stack k).off = true
  flt      : t.flt = s.flt
  fab      : t.fabView = s.fabView
  slots    : ∀ k, t.islot k = s.islot k ∨ t.islot k = {}

section
variable {s t u : State}

theorem State.Stops.refl (s : State) : s.Stops s := ⟨rfl, fun _ _ => rfl, rfl, fun _ h => h, fun _ h => h, rfl, rfl, fun _ => .inl rfl⟩

theorem State.Stops.trans (h : s.Stops t) (h' : t.Stops u) : s.Stops u :=
  ⟨h'.others.trans h.others, fun a ha => (h'.regs a ha).trans (h.regs a ha), h'.sent.trans h.sent, fun p hp => h'.disabled p (h.disabled p hp),
    fun k hk => h'.off k (h.off k hk), h'.flt.trans h.flt, h'.fab.trans h.fab,
    fun k => (h'.slots k).elim (fun e => (h.slots k).imp e.trans e.trans) .inr⟩

theorem State.Stops.ite {c : Prop} [Decidable c] (ht : s.Stops t) (hu : s.Stops u) : s.Stops (if c then t else u) := by
  split
  · exact ht
  · exact hu

theorem State.Stops.foldl {β : Type} {f : State → β → State} (h : ∀ (t : State) (b : β), t.Stops (f t b)) (l : List β) (s : State) :
    s.Stops (l.foldl f s) :=
  foldl_invariant (fun t b (ht : s.Stops t) => ht.trans (h t b)) l (State.Stops.refl s)

/-- A change of the fabric, of the switch's reports or of regions stops nothing more. -/
theorem State.Stops.of_others (h : t.sansSafe = s.sansSafe) (hr : t.regs = s.regs) (hs : t.sent = s.sent) (hp : t.ports = s.ports)
    (hm : t.mp.hbm = s.mp.hbm) (hf : t.flt = s.flt) (hb : t.fab = s.fab) : s.Stops t := by
  refine ⟨h, fun a _ => by rw [hr], by rw [hs], fun p hd => ?_, fun k hk => ?_, hf, by rw [State.fabView, hb]; rfl, fun k => .inl (by rw [State.islot, hb]; rfl)⟩
  · rw [State.linkState, State.port, hp]; exact hd
  · rw [State.stack, hm]; exact hk

/-- What a state without the parts that stop keeps. -/
theorem State.Stops.keeps (h : s.Stops t) : t.pins = s.pins ∧ t.nvm = s.nvm ∧ t.pow = s.pow ∧ t.time = s.time ∧ t.svc = s.svc :=
  ⟨(congrArg State.pins h.others :), (congrArg State.nvm h.others :), (congrArg State.pow h.others :), (congrArg State.time h.others :),
    (congrArg State.svc h.others :)⟩

end

section
variable (s : State)

theorem State.linkState_setPort_other {p n : Nat} (q : PortSt) (h : n ≠ p) : (s.setPort p q).linkState n = s.linkState n := by
  rw [State.linkState, State.port_setPort_other s p n q h, State.linkState]

theorem State.linkState_setPort_same (p : Nat) (q : PortSt) : (s.setPort p q).linkState p = q.link.state := by
  rw [State.linkState, State.port_setPort_same]

theorem State.stops_setPort (p : Nat) (q : PortSt) (hq : q.link.state = .disabled ∨ q.link.state = s.linkState p) : s.Stops (s.setPort p q) := by
  refine ⟨rfl, fun _ _ => rfl, rfl, fun n hn => ?_, fun _ h => h, rfl, rfl, fun _ => .inl rfl⟩
  by_cases h : n = p
  · subst h
    rw [State.linkState_setPort_same]
    exact hq.elim id fun he => he.trans hn
  · rw [s.linkState_setPort_other q h]
    exact hn

theorem State.stops_portCount (p i n : Nat) : s.Stops (s.portCount p i n) := by
  refine ⟨rfl, fun a ha => ?_, rfl, fun _ h => h, fun _ h => h, rfl, rfl, fun _ => .inl rfl⟩
  refine s.regsBut_bump (r := .prtCnt) (is := portIdx p ++ [i]) (as := [Reg.addr .prtCnt (portIdx p ++ [i])]) List.mem_cons_self 63 0 n a ?_
  rw [List.mem_singleton, addr_prtCnt]
  omega

/-- The line of a port that is cut keeps the ports of the frames sent. -/
theorem cut_sent {α β : Type} (l : List (α × β)) (f : α × β → α × β) (hf : ∀ e, (f e).1 = e.1) (i : Nat) :
    (l.take i ++ ((l.drop i).take 1).map f ++ l.drop (i + 1)).map Prod.fst = l.map Prod.fst := by
  have hmid : (((l.drop i).take 1).map f).map Prod.fst = ((l.drop i).take 1).map Prod.fst := by
    rw [List.map_map]
    exact List.map_congr_left fun e _ => hf e
  have hsplit : l.take i ++ ((l.drop i).take 1) ++ l.drop (i + 1) = l := by
    rw [List.append_assoc, ← List.drop_drop, List.take_append_drop, List.take_append_drop]
  rw [List.map_append, List.map_append, hmid, ← List.map_append, ← List.map_append, hsplit]

theorem State.stops_cutLine (p : Nat) : s.Stops (s.cutLine p) := by
  unfold State.cutLine
  dsimp only
  split_ifs
  · exact .refl s
  · have h := s.stops_setPort p { s.port p with sched := { (s.port p).sched with busyTo := s.local, busy := none } } (.inr rfl)
    refine ⟨h.others, h.regs, cut_sent _ _ (fun e => ?_) _, h.disabled, h.off, h.flt, h.fab, h.slots⟩
    split_ifs <;> rfl

theorem State.stopPort_stops (p : Nat) : s.Stops (s.stopPort p) := by
  unfold State.stopPort
  dsimp only
  refine (s.stops_cutLine p).trans ((State.stops_setPort _ p _ (.inl rfl)).trans (.ite ?_ (.refl _)))
  exact (State.stops_portCount _ p 12 1).trans (.of_others rfl rfl rfl rfl rfl rfl rfl)

theorem State.stopPort_disabled (p : Nat) : (s.stopPort p).linkState p = .disabled := by
  unfold State.stopPort
  dsimp only
  split_ifs
  · exact State.linkState_setPort_same _ p _
  · exact State.linkState_setPort_same _ p _

theorem State.stopUp_stops (p : Nat) : s.Stops (if s.linkState p = .disabled then s else s.stopPort p) := .ite (.refl s) (s.stopPort_stops p)

theorem State.stopUp_disabled (p : Nat) : (if s.linkState p = .disabled then s else s.stopPort p).linkState p = .disabled := by
  split_ifs with h
  · exact h
  · exact s.stopPort_disabled p

theorem State.sleeps_stops (k : Nat) : s.Stops (if (s.stack k).up then s.setStack k { s.stack k with asleep := true } else s) := by
  refine .ite ⟨rfl, fun _ _ => rfl, rfl, fun _ h => h, fun n hn => ?_, rfl, rfl, fun _ => .inl rfl⟩ (.refl s)
  by_cases h : n = k
  · subst h
    rw [State.stack, State.setStack, Tbl.get_set_same]
    exact hn
  · rw [State.stack, State.setStack, Tbl.get_set_other _ _ _ h]
    exact hn

/-- A slot whose regions drain and whose tiles and engines are gone is empty. -/
theorem State.Stops.emptied {s t : State} (h : s.Stops t) (k : Nat) (engines : Tbl StreamEng) (tiles : Tbl Tile) :
    s.Stops { t with fab := { t.fab with slots := t.fab.slots.erase k, engines := engines, tiles := tiles } } := by
  refine ⟨h.others, h.regs, h.sent, h.disabled, h.off, h.flt, h.fab, fun n => ?_⟩
  by_cases hn : n = k
  · subst hn
    refine .inr ?_
    rw [State.islot, Tbl.get, Tbl.find?_erase_same]
    rfl
  · exact (h.slots n).imp (Tbl.get_erase_other t.fab.slots {} hn).trans (Tbl.get_erase_other t.fab.slots {} hn).trans

theorem State.emptySlot_stops (k : Nat) : s.Stops (s.emptySlot k) := by
  unfold State.emptySlot
  dsimp only
  refine .emptied (.foldl (fun t r => ?_) _ s) k _ _
  split
  · exact .of_others rfl rfl rfl rfl rfl rfl rfl
  · exact .refl t

theorem State.servicesOff_stops : s.Stops s.servicesOff :=
  .ite (.foldl (fun t k => .ite (.refl t) (t.emptySlot_stops k)) _ s) (.refl s)

/-- The state as its ports and stacks have stopped. -/
def State.stopped (s : State) : State :=
  (List.range 16).foldl (fun (s : State) k => if (s.stack k).up then s.setStack k { s.stack k with asleep := true } else s)
    (s.ports.keys.foldl (fun (s : State) p => if s.linkState p = .disabled then s else s.stopPort p) s)

theorem State.enterSafe_of_safe (h : s.flt.safe = true) : s.enterSafe = s := if_pos h

theorem State.enterSafe_of_running (h : s.flt.safe = false) :
    s.enterSafe = ({ s.stopped with flt := { s.stopped.flt with safe := true, safeSeq := none } } : State).servicesOff := by
  simp only [State.enterSafe, State.stopped, h, Bool.false_eq_true, if_false]

theorem State.stopped_stops : s.Stops s.stopped :=
  .trans (.foldl State.stopUp_stops _ s) (.foldl State.sleeps_stops _ _)

theorem State.stopped_disabled (p : Nat) : s.stopped.linkState p = .disabled ∨ s.ports.find? p = none := by
  by_cases hp : s.ports.find? p = none
  · exact .inr hp
  · refine .inl ((State.Stops.foldl State.sleeps_stops _ _).disabled p ?_)
    exact foldl_established (P := fun t => t.linkState p = .disabled) (fun t q ht => (t.stopUp_stops q).disabled p ht)
      (fun t => t.stopUp_disabled p) ((Tbl.find?_ne_none_iff _ _).1 hp) s

/-- The entry of the safe state stops what it finds and marks the state. -/
theorem State.enterSafe_stops : ∃ f, s.Stops { s.enterSafe with flt := s.flt } ∧ s.enterSafe.flt = { s.flt with safe := true, safeSeq := f } := by
  cases h : s.flt.safe with
  | true => rw [s.enterSafe_of_safe h]; exact ⟨s.flt.safeSeq, .refl s, by rw [← h]⟩
  | false =>
    have h1 := s.stopped_stops
    rw [s.enterSafe_of_running h]
    generalize s.stopped = t at h1 ⊢
    have h2 := State.servicesOff_stops { t with flt := { t.flt with safe := true, safeSeq := none } }
    exact ⟨none, ⟨h2.others.trans h1.others, fun a ha => (h2.regs a ha).trans (h1.regs a ha), h2.sent.trans h1.sent,
      fun p hp => h2.disabled p (h1.disabled p hp), fun k hk => h2.off k (h1.off k hk), rfl, h2.fab.trans h1.fab,
      fun k => (h2.slots k).elim (fun e => (h1.slots k).imp e.trans e.trans) .inr⟩, h2.flt.trans (by rw [h1.flt])⟩

theorem State.enterSafe_disabled (h : s.flt.safe = false) (p : Nat) : s.enterSafe.linkState p = .disabled ∨ s.ports.find? p = none := by
  rw [s.enterSafe_of_running h]
  have hd := s.stopped_disabled p
  generalize s.stopped = t at hd ⊢
  exact hd.imp_left ((State.servicesOff_stops { t with flt := { t.flt with safe := true, safeSeq := none } }).disabled p)

end

/-! ### Detections -/

/-- A state without what a detection, the safe state that a FATAL one enters, and THERM_N change. -/
def State.sansFault (s : State) : State := { s.sansSafe with nvm := {}, pins := {} }

/-- Faults are detected: what stops stays stopped, the crash dumps under way and the messages that wait grow, and of the always-on registers
the count of lost messages alone changes. -/
structure State.Faults (s t : State) : Prop where
  others   : t.sansFault = s.sansFault
  regs     : ∀ a, a < 0x500000 → a ≠ Reg.addr .fltCounts [] → t.regs.find? a = s.regs.find? a
  sent     : t.sent.map Prod.fst = s.sent.map Prod.fst
  disabled : ∀ p, s.linkState p = .disabled → t.linkState p = .disabled
  off      : ∀ k, (s.stack k).off = true → (t.stack k).off = true
  nvm      : ∃ d, t.nvm = { s.nvm with dumping := d }
  pins     : ∃ b, t.pins = { s.pins with thermLow := b } ∧ (s.pins.thermLow = true → b = true)
  safe     : s.flt.safe = true → t.flt.safe = true

section
variable {s t u : State}

theorem State.Faults.refl (s : State) : s.Faults s :=
  ⟨rfl, fun _ _ _ => rfl, rfl, fun _ h => h, fun _ h => h, ⟨_, rfl⟩, ⟨_, rfl, id⟩, id⟩

theorem State.Faults.trans (h : s.Faults t) (h' : t.Faults u) : s.Faults u := by
  obtain ⟨d, hd⟩ := h.nvm
  obtain ⟨e, he⟩ := h'.nvm
  obtain ⟨b, hb, hbt⟩ := h.pins
  obtain ⟨c, hc, hct⟩ := h'.pins
  refine ⟨h'.others.trans h.others, fun a ha hne => (h'.regs a ha hne).trans (h.regs a ha hne), h'.sent.trans h.sent,
    fun p hp => h'.disabled p (h.disabled p hp), fun k hk => h'.off k (h.off k hk), ⟨e, by rw [he, hd]⟩, ⟨c, by rw [hc, hb], fun ht => hct ?_⟩,
    fun hs => h'.safe (h.safe hs)⟩
  rw [hb]
  exact hbt ht

theorem State.Faults.foldl {β : Type} {f : State → β → State} (h : ∀ (t : State) (b : β), t.Faults (f t b)) (l : List β) (s : State) :
    s.Faults (l.foldl f s) :=
  foldl_invariant (fun t b (ht : s.Faults t) => ht.trans (h t b)) l (State.Faults.refl s)

theorem State.Faults.parts (h : s.Faults t) : t.pow = s.pow ∧ t.time = s.time ∧ t.svc = s.svc ∧ t.keptParts = s.keptParts :=
  ⟨(congrArg State.pow h.others :), (congrArg State.time h.others :), (congrArg State.svc h.others :), (congrArg State.keptParts h.others :)⟩

theorem State.Faults.reg_eq (h : s.Faults t) {r : Reg} {is : List Nat} (ha : r.addr is < 0x500000) (hne : r.addr is ≠ Reg.addr .fltCounts []) :
    t.reg r is = s.reg r is := by
  rw [State.reg, State.reg, Tbl.get, Tbl.get, h.regs _ ha hne]

theorem State.Faults.fld_eq (h : s.Faults t) {r : Reg} {is : List Nat} (ha : r.addr is < 0x500000) (hne : r.addr is ≠ Reg.addr .fltCounts [])
    (hi lo : Nat) : t.fld r is hi lo = s.fld r is hi lo := by
  rw [State.fld, State.fld, h.reg_eq ha hne]

end

section
variable (s : State)

theorem State.raise_flt (die block inst kind sev addr : Nat) :
    ∃ q h, (s.raise die block inst kind sev addr).flt = { s.flt with queues := q, holding := h } := by
  unfold State.raise
  dsimp only
  split_ifs <;> exact ⟨_, _, rfl⟩

theorem State.raise_regs (die block inst kind sev addr : Nat) : s.regsBut (s.raise die block inst kind sev addr) [Reg.addr .fltCounts []] := by
  unfold State.raise
  dsimp only
  split_ifs
  · exact fun _ _ => rfl
  · exact s.regsBut_bump List.mem_cons_self _ _ _
  · exact fun _ _ => rfl
  · exact fun _ _ => rfl
  · exact fun _ _ => rfl

theorem State.raise_faults (die block inst kind sev addr : Nat) : s.Faults (s.raise die block inst kind sev addr) := by
  obtain ⟨q, w, hf⟩ := s.raise_flt die block inst kind sev addr
  have hr := s.raise_regs die block inst kind sev addr
  obtain ⟨r, f, h⟩ := s.raise_frame die block inst kind sev addr
  generalize s.raise die block inst kind sev addr = t at hf hr h
  subst h
  exact ⟨rfl, fun a _ ha => hr a (by simpa using ha), rfl, fun _ h => h, fun _ h => h, ⟨_, rfl⟩, ⟨_, rfl, id⟩,
    fun hs => (congrArg FltSt.safe hf).trans hs⟩

theorem State.enterSafe_faults : s.Faults s.enterSafe := by
  obtain ⟨f, h, hflt⟩ := s.enterSafe_stops
  exact ⟨congrArg (fun u : State => { u with nvm := {}, pins := {} }) h.others, fun a ha _ => h.regs a ha, h.sent, h.disabled, h.off,
    ⟨s.nvm.dumping, h.keeps.2.1⟩, ⟨s.pins.thermLow, h.keeps.1, id⟩, fun _ => by rw [hflt]⟩

theorem State.enterSafe_safe : s.enterSafe.flt.safe = true := by
  obtain ⟨f, -, hflt⟩ := s.enterSafe_stops
  rw [hflt]

/-- The crash dump that a FATAL detection may begin. -/
def State.dumpsAt (s : State) (at_ : Nat) : State :=
  if s.nvm.dumping.length < 2 ∧ s.nvm.badB = false then { s with nvm := { s.nvm with dumping := s.nvm.dumping ++ [at_] } } else s

theorem State.dumpsAt_faults (at_ : Nat) : s.Faults (s.dumpsAt at_) := by
  unfold State.dumpsAt
  split_ifs
  · exact ⟨rfl, fun _ _ _ => rfl, rfl, fun _ h => h, fun _ h => h, ⟨_, rfl⟩, ⟨_, rfl, id⟩, id⟩
  · exact .refl s

theorem State.fatal_eq (die block inst kind addr : Nat) :
    s.fatal die block inst kind addr = ((s.raise die block inst kind 3 addr).dumpsAt s.now).enterSafe := rfl

theorem State.fatal_faults (die block inst kind addr : Nat) : s.Faults (s.fatal die block inst kind addr) := by
  rw [State.fatal_eq]
  exact ((s.raise_faults _ _ _ _ _ _).trans (State.dumpsAt_faults _ _)).trans (State.enterSafe_faults _)

theorem State.fatal_safe (die block inst kind addr : Nat) : (s.fatal die block inst kind addr).flt.safe = true := by
  rw [State.fatal_eq]
  exact State.enterSafe_safe _

end

end Sys2Proof.Machine
end

section
/-!
PROOFS. Sensors, the supply of tokens, the clock step and the supplies (O54).
-/

namespace Sys2Proof.Machine

/-! ### Readings -/

theorem ofSigned_lt (w : Nat) (i : Int) : ofSigned w i < 2 ^ w := by
  have hpos : (0 : Int) < (2 ^ w : Nat) := by exact_mod_cast Nat.two_pow_pos w
  have := Int.emod_lt_of_pos i hpos
  have := Int.emod_nonneg i hpos.ne'
  unfold ofSigned
  omega

theorem tempField_lt (r : Reading) : tempField r < 2 ^ 12 := by
  cases r with
  | none => decide
  | some v => exact ofSigned_lt 12 _

theorem hotter_lt {a b n : Nat} (ha : a < n) (hb : b < n) : hotter a b < n := by
  unfold hotter
  split_ifs <;> assumption

theorem hottest_cons_none (i : Nat) (l : List (Nat × Reading)) : hottest ((i, none) :: l) = hottest l := by
  rw [hottest]

theorem hottest_cons_some (i : Nat) (t : Int) (l : List (Nat × Reading)) :
    (hottest l = none → hottest ((i, some t) :: l) = some (i, t))
      ∧ ∀ j u, hottest l = some (j, u) → hottest ((i, some t) :: l) = if u ≤ t then some (i, t) else some (j, u) :=
  ⟨fun h => by simp only [hottest, h], fun j u h => by simp only [hottest, h]⟩

theorem hottest_none {l : List (Nat × Reading)} (h : hottest l = none) (j : Nat) (u : Int) : (j, some u) ∉ l := by
  induction l with
  | nil => exact List.not_mem_nil
  | cons e l ih =>
    obtain ⟨i, r⟩ := e
    cases r with
    | none =>
      rw [hottest_cons_none] at h
      exact fun hm => (List.mem_cons.1 hm).elim (fun he => nomatch he) (ih h)
    | some t =>
      cases hl : hottest l with
      | none => rw [(hottest_cons_some i t l).1 hl] at h; exact nomatch h
      | some w =>
        rw [(hottest_cons_some i t l).2 w.1 w.2 hl] at h
        split_ifs at h

/-- The hottest reading is that of one of the sensors, and none is above it. -/
theorem hottest_max {l : List (Nat × Reading)} {i : Nat} {v : Int} (h : hottest l = some (i, v)) :
    (∃ e ∈ l, e.1 = i) ∧ ∀ j u, (j, some u) ∈ l → u ≤ v := by
  induction l generalizing i v with
  | nil => exact nomatch h
  | cons e l ih =>
    obtain ⟨k, r⟩ := e
    cases r with
    | none =>
      rw [hottest_cons_none] at h
      obtain ⟨⟨e, he, hi⟩, hmax⟩ := ih h
      exact ⟨⟨e, List.mem_cons_of_mem _ he, hi⟩, fun j u hm =>
        (List.mem_cons.1 hm).elim (fun he => nomatch he) (hmax j u)⟩
    | some t =>
      have hhead {j : Nat} {u : Int} (he : (j, some u) = (k, some t)) : u = t := Option.some.inj (congrArg Prod.snd he :)
      cases hl : hottest l with
      | none =>
        rw [(hottest_cons_some k t l).1 hl] at h
        obtain ⟨rfl, rfl⟩ := Prod.mk.inj (Option.some.inj h)
        exact ⟨⟨_, List.mem_cons_self, rfl⟩, fun j u hm => (List.mem_cons.1 hm).elim (fun he => (hhead he).le) fun hm => absurd hm (hottest_none hl j u)⟩
      | some w =>
        obtain ⟨⟨e, he, hi⟩, hmax⟩ := ih hl
        rw [(hottest_cons_some k t l).2 w.1 w.2 hl] at h
        split_ifs at h with hle
        · obtain ⟨rfl, rfl⟩ := Prod.mk.inj (Option.some.inj h)
          exact ⟨⟨_, List.mem_cons_self, rfl⟩, fun j u hm => (List.mem_cons.1 hm).elim (fun he => (hhead he).le) fun hm => (hmax j u hm).trans hle⟩
        · obtain ⟨rfl, rfl⟩ := Prod.mk.inj (Option.some.inj h)
          exact ⟨⟨e, List.mem_cons_of_mem _ he, hi⟩, fun j u hm =>
            (List.mem_cons.1 hm).elim (fun he => (hhead he).le.trans (Int.not_le.1 hle).le) (hmax j u)⟩

theorem sources_lt {dieT stackT : List Reading} {e : Nat × Reading} (h : e ∈ sources dieT stackT) : e.1 < 48 := by
  simp only [sources, List.mem_append, List.mem_map, List.mem_range] at h
  rcases h with ⟨d, hd, rfl⟩ | ⟨k, hk, rfl⟩ <;> dsimp only <;> omega

/-! ### The sensors' registers -/

theorem addr_pwrDieTemp (d : Nat) : Reg.addr .pwrDieTemp [d] = 0x200100 + 8 * d := rfl
theorem addr_pwrStackTemp (k : Nat) : Reg.addr .pwrStackTemp [k] = 0x200200 + 8 * k := rfl
theorem addr_pwrMem (k : Nat) : Reg.addr .pwrMem [k] = 0x200400 + 8 * k := rfl

section
variable (s : State)

/-- READING and MAX of a sensor's register. -/
def State.sensorAt (s : State) (r : Reg) (i : Nat) : Nat × Nat := (s.fld r [i] 63 52, s.fld r [i] 51 40)

theorem State.sensorAt_noteTemp_same (r : Reg) (i : Nat) (t : Reading) :
    (s.noteTemp r i t).sensorAt r i = (tempField t, hotter (s.sensorAt r i).2 (tempField t)) := by
  have hm : hotter (s.fld r [i] 51 40) (tempField t) < 2 ^ 12 := hotter_lt (Nat.mod_lt _ (Nat.two_pow_pos 12)) (tempField_lt t)
  refine Prod.ext ?_ ?_
  · change (s.noteTemp r i t).fld r [i] 63 52 = _
    rw [State.noteTemp, State.fld_setFld_above _ _ _ _ _ _ _ _ (by omega) (by omega), State.fld_setFld_same]
    exact Nat.mod_eq_of_lt (tempField_lt t)
  · change (s.noteTemp r i t).fld r [i] 51 40 = _
    rw [State.noteTemp, State.fld_setFld_same]
    exact Nat.mod_eq_of_lt hm

theorem State.sensorAt_congr {s t : State} {r : Reg} {i : Nat} (h : t.reg r [i] = s.reg r [i]) : t.sensorAt r i = s.sensorAt r i := by
  rw [State.sensorAt, State.sensorAt, State.fld, State.fld, State.fld, State.fld, h]

theorem State.sensorAt_noteTemp_other {r q : Reg} {i j : Nat} (h : q.addr [j] ≠ r.addr [i]) (t : Reading) :
    (s.noteTemp r i t).sensorAt q j = s.sensorAt q j :=
  State.sensorAt_congr ((State.reg_setFld_other _ _ _ _ _ _ _ _ h).trans (State.reg_setFld_other _ _ _ _ _ _ _ _ h))

/-- A stack's register and the bit of its rate, as a reading sets them. -/
def State.stackTemped (s : State) (k : Nat) (t : Reading) : State :=
  (s.noteTemp .pwrStackTemp k t).setFld .pwrMem [k] 61 61
    (if (match t with | some v => decide (680 < v) | none => s.fld .pwrMem [k] 61 61 == 1) = true then 1 else 0)

/-- The registers of the dies, as a reading sets them. -/
def State.diesTemped (s : State) (dieT : List Reading) : State :=
  (List.range 20).foldl (fun (s : State) d => s.noteTemp .pwrDieTemp d (dieT.getD d none)) s

theorem State.takeTemps_eq (dieT stackT : List Reading) :
    s.takeTemps dieT stackT = (List.range 16).foldl (fun (s : State) k => s.stackTemped k (stackT.getD k none)) (s.diesTemped dieT) := rfl

theorem State.reg_stackTemped {q : Reg} {j k : Nat} (hs : q.addr [j] ≠ Reg.addr .pwrStackTemp [k]) (hm : q.addr [j] ≠ Reg.addr .pwrMem [k])
    (t : Reading) : (s.stackTemped k t).sensorAt q j = s.sensorAt q j :=
  (State.sensorAt_congr (State.reg_setFld_other _ _ _ _ _ _ _ _ hm)).trans (State.sensorAt_noteTemp_other _ hs _)

theorem State.sensorAt_stackTemped_same (k : Nat) (t : Reading) :
    (s.stackTemped k t).sensorAt .pwrStackTemp k = (tempField t, hotter (s.sensorAt .pwrStackTemp k).2 (tempField t)) :=
  (State.sensorAt_congr (State.reg_setFld_other _ _ _ _ _ _ _ _ (by rw [addr_pwrStackTemp, addr_pwrMem]; omega))).trans
    (s.sensorAt_noteTemp_same _ _ _)

/-- The registers of the dies after a reading of all sensors. -/
theorem State.takeTemps_die (dieT stackT : List Reading) {d : Nat} (hd : d < 20) :
    (s.takeTemps dieT stackT).sensorAt .pwrDieTemp d
      = (tempField (dieT.getD d none), hotter (s.sensorAt .pwrDieTemp d).2 (tempField (dieT.getD d none))) := by
  have hdies : (s.diesTemped dieT).sensorAt .pwrDieTemp d
      = (tempField (dieT.getD d none), hotter (s.sensorAt .pwrDieTemp d).2 (tempField (dieT.getD d none))) := by
    refine foldl_once (P := fun _ => True) (f := fun (s : State) d => s.noteTemp .pwrDieTemp d (dieT.getD d none))
      (g := fun t : State => t.sensorAt .pwrDieTemp d) (F := fun w => (tempField (dieT.getD d none), hotter w.2 (tempField (dieT.getD d none))))
      (fun _ _ h => h) (fun t _ => t.sensorAt_noteTemp_same _ _ _) (fun t e _ he => t.sensorAt_noteTemp_other ?_ _) List.nodup_range
      (List.mem_range.2 hd) trivial
    rw [addr_pwrDieTemp, addr_pwrDieTemp]
    omega
  rw [State.takeTemps_eq, ← hdies]
  refine foldl_keeps_of_mem (f := fun (s : State) k => s.stackTemped k (stackT.getD k none)) (g := fun t : State => t.sensorAt .pwrDieTemp d)
    (fun t k hk => t.reg_stackTemped ?_ ?_ _) _
  · rw [addr_pwrDieTemp, addr_pwrStackTemp]
    omega
  · rw [addr_pwrDieTemp, addr_pwrMem]
    omega

/-- The registers of the stacks likewise. -/
theorem State.takeTemps_stack (dieT stackT : List Reading) {k : Nat} (hk : k < 16) :
    ((s.takeTemps dieT stackT).sensorAt .pwrStackTemp k).1 = tempField (stackT.getD k none) := by
  rw [State.takeTemps_eq]
  refine congrArg Prod.fst (foldl_once (P := fun _ => True) (f := fun (s : State) k => s.stackTemped k (stackT.getD k none))
    (g := fun t : State => t.sensorAt .pwrStackTemp k) (F := fun w => (tempField (stackT.getD k none), hotter w.2 (tempField (stackT.getD k none))))
    (fun _ _ h => h) (fun t _ => t.sensorAt_stackTemped_same _ _) (fun t e _ he => t.reg_stackTemped ?_ ?_ _) List.nodup_range
    (List.mem_range.2 hk) (a := s.diesTemped dieT) trivial)
  · rw [addr_pwrStackTemp, addr_pwrStackTemp]
    omega
  · rw [addr_pwrStackTemp, addr_pwrMem]
    omega

theorem State.takeTemps_sansRegs (dieT stackT : List Reading) : (s.takeTemps dieT stackT).sansRegs = s.sansRegs := by
  rw [State.takeTemps_eq]
  refine (foldl_keeps State.sansRegs (fun (s : State) k => s.stackTemped k (stackT.getD k none)) (fun _ _ => rfl) _ _).trans ?_
  exact foldl_keeps State.sansRegs (fun (s : State) d => s.noteTemp .pwrDieTemp d (dieT.getD d none)) (fun _ _ => rfl) _ s

end

/-! ### Missing sensors, the hottest reading, and the limit -/

section
variable (s : State)

/-- The sensors without a reading are reported. -/
def State.missingReported (s : State) (l : List (Nat × Reading)) : State := l.foldl (fun (s : State) e => s.sensorFail e.1) s

theorem State.missingReported_faults (l : List (Nat × Reading)) : s.Faults (s.missingReported l) :=
  .foldl (fun t _ => t.raise_faults _ _ _ _ _ _) l s

theorem State.missingReported_calm (l : List (Nat × Reading)) :
    (s.missingReported l).pins = s.pins ∧ (s.missingReported l).flt.safe = s.flt.safe := by
  have h := foldl_keeps (fun t : State => (t.pins, t.flt.safe)) (fun (s : State) (e : Nat × Reading) => s.sensorFail e.1) (fun t e => by
    obtain ⟨q, w, hf⟩ := t.raise_flt (sensorDie e.1).1 0x1A (sensorDie e.1).2 0x058 1 0
    rw [State.sensorFail, State.raise_pins, hf]) l s
  exact ⟨congrArg Prod.fst h, congrArg Prod.snd h⟩

theorem State.takeHottest_frame (h : Option (Nat × Int)) : ∃ r j, s.takeHottest h = { s with regs := r, pow := { s.pow with tj := j } } := by
  unfold State.takeHottest
  split
  · exact ⟨_, _, rfl⟩
  · dsimp only
    split_ifs <;> exact ⟨_, _, rfl⟩

theorem State.takeHottest_regs (h : Option (Nat × Int)) : s.regsBut (s.takeHottest h) [Reg.addr .pwrTemp [], Reg.addr .pwrStatus []] := by
  unfold State.takeHottest
  split
  · exact s.regsBut_setReg_mem (by simp) _
  · rename_i i t
    have htemp : s.regsBut ((({ s with pow := { s.pow with tj := (t :: s.pow.tj).take 10 } } : State).setFld .pwrTemp [] 63 52 (tempField (some t))).setFld
        .pwrTemp [] 51 46 i) [Reg.addr .pwrTemp [], Reg.addr .pwrStatus []] :=
      (State.regsBut_setReg_mem { s with pow := { s.pow with tj := (t :: s.pow.tj).take 10 } } (by simp) _).trans (State.regsBut_setReg_mem _ (by simp) _)
    dsimp only
    split_ifs
    · exact htemp.trans (State.regsBut_setReg_mem _ (by simp) _)
    · exact htemp

theorem State.takeHottest_some {i : Nat} {t : Int} (hi : i < 64) :
    (s.takeHottest (some (i, t))).fld .pwrTemp [] 63 52 = tempField (some t) ∧ (s.takeHottest (some (i, t))).fld .pwrTemp [] 51 46 = i := by
  have hboth (u : State) : ((u.setFld .pwrTemp [] 63 52 (tempField (some t))).setFld .pwrTemp [] 51 46 i).fld .pwrTemp [] 63 52 = tempField (some t)
      ∧ ((u.setFld .pwrTemp [] 63 52 (tempField (some t))).setFld .pwrTemp [] 51 46 i).fld .pwrTemp [] 51 46 = i := by
    rw [State.fld_setFld_above _ _ _ _ _ _ _ _ (by omega) (by omega), State.fld_setFld_same, State.fld_setFld_same]
    exact ⟨Nat.mod_eq_of_lt (tempField_lt _), Nat.mod_eq_of_lt hi⟩
  unfold State.takeHottest
  dsimp only
  split_ifs
  · have hother (u : State) (hi lo : Nat) : (u.setFld .pwrStatus [] 45 45 0).fld .pwrTemp [] hi lo = u.fld .pwrTemp [] hi lo :=
      u.fld_setFld_other _ _ _ _ _ _ _ _ _ (by decide)
    rw [hother, hother]
    exact hboth { s with pow := { s.pow with tj := (t :: s.pow.tj).take 10 } }
  · exact hboth { s with pow := { s.pow with tj := (t :: s.pow.tj).take 10 } }

theorem State.thermCrit_faults (source : Nat) (t : Int) : s.Faults (s.thermCrit source t) := by
  have hlow : s.Faults { s with pins := { s.pins with thermLow := true } } :=
    ⟨rfl, fun _ _ _ => rfl, rfl, fun _ h => h, fun _ h => h, ⟨s.nvm.dumping, rfl⟩, ⟨true, rfl, fun _ => rfl⟩, id⟩
  exact hlow.trans (State.fatal_faults _ _ _ _ _ _)

/-- The device is in the safe state with THERM_N low. -/
def State.Limited (s : State) : Prop := s.flt.safe = true ∧ s.pins.thermLow = true

theorem State.Faults.limited {s t : State} (h : s.Faults t) (hs : s.Limited) : t.Limited := by
  obtain ⟨b, hb, hlow⟩ := h.pins
  exact ⟨h.safe hs.1, by rw [hb]; exact hlow hs.2⟩

theorem State.thermCrit_limited (source : Nat) (t : Int) : (s.thermCrit source t).Limited := by
  refine ⟨State.fatal_safe _ _ _ _ _ _, ?_⟩
  obtain ⟨b, hb, hlow⟩ := (State.fatal_faults ({ s with pins := { s.pins with thermLow := true } }) (sensorDie source).1 0x1A (sensorDie source).2 0x070
    (ofSigned 64 t)).pins
  rw [State.thermCrit, hb]
  exact hlow rfl

/-- The sensors that read 105.0 °C or more. -/
def hotSources (l : List (Nat × Reading)) : List (Nat × Int) :=
  l.filterMap fun e => e.2.bind fun t => if 840 ≤ t then some (e.1, t) else none

theorem mem_hotSources {l : List (Nat × Reading)} {i : Nat} {v : Int} : (i, v) ∈ hotSources l ↔ (i, some v) ∈ l ∧ 840 ≤ v := by
  rw [hotSources, List.mem_filterMap]
  constructor
  · rintro ⟨⟨j, r⟩, hm, he⟩
    obtain ⟨t, rfl, he⟩ := Option.bind_eq_some_iff.1 he
    split_ifs at he with ht
    obtain ⟨rfl, rfl⟩ := Prod.mk.inj (Option.some.inj he)
    exact ⟨hm, ht⟩
  · rintro ⟨hm, hv⟩
    exact ⟨_, hm, by rw [Option.bind_some, if_pos hv]⟩

theorem State.critical_eq (l : List (Nat × Reading)) : s.critical l =
    ((hotSources l).filter fun e => !s.pow.crit.contains e.1).foldl (fun (s : State) e => s.thermCrit e.1 e.2)
      { s with pow := { s.pow with crit := (hotSources l).map Prod.fst } } := by
  simp only [State.critical, hotSources]

theorem State.critical_faults (l : List (Nat × Reading)) :
    ({ s with pow := { s.pow with crit := (hotSources l).map Prod.fst } } : State).Faults (s.critical l) := by
  rw [State.critical_eq]
  exact .foldl (f := fun (s : State) (e : Nat × Int) => s.thermCrit e.1 e.2) (fun t e => t.thermCrit_faults e.1 e.2) _ _

theorem State.critical_none {l : List (Nat × Reading)} (h : hotSources l = []) : s.critical l = { s with pow := { s.pow with crit := [] } } := by
  rw [State.critical_eq, h]
  rfl

theorem State.critical_new {l : List (Nat × Reading)} {i : Nat} {v : Int} (h : (i, some v) ∈ l) (hv : 840 ≤ v) (hn : i ∉ s.pow.crit) :
    (s.critical l).Limited := by
  have hnew : (i, v) ∈ (hotSources l).filter fun e => !s.pow.crit.contains e.1 :=
    List.mem_filter.2 ⟨mem_hotSources.2 ⟨h, hv⟩, by simpa using hn⟩
  have hstep (t : State) : (t.thermCrit (i, v).1 (i, v).2).Limited := t.thermCrit_limited i v
  rw [State.critical_eq]
  exact foldl_established (f := fun (s : State) (e : Nat × Int) => s.thermCrit e.1 e.2) (P := State.Limited)
    (fun t e ht => (t.thermCrit_faults e.1 e.2).limited ht) hstep hnew _

/-- The state once the registers of every sensor and PWR_TEMP have their readings. -/
def State.sensed (s : State) (dieT stackT : List Reading) : State :=
  ((({ s with pow := { s.pow with readAt := some s.local } } : State).takeTemps dieT stackT).missingReported
    ((sources dieT stackT).filter fun e => e.2.isNone)).takeHottest (hottest (sources dieT stackT))

theorem bodySensorRead_due {s : State} (h : s.sensorsDue = true) (dieT stackT : List Reading) :
    bodySensorRead dieT stackT s = (s.sensed dieT stackT).critical (sources dieT stackT) :=
  if_neg (by rw [h]; exact Bool.false_ne_true)

theorem State.sensed_pow (dieT stackT : List Reading) : ∃ j, (s.sensed dieT stackT).pow = { s.pow with readAt := some s.local, tj := j } := by
  have ht := State.eq_of_sansRegs (State.takeTemps_sansRegs { s with pow := { s.pow with readAt := some s.local } } dieT stackT)
  obtain ⟨hp, -, -, -⟩ := (State.missingReported_faults
    (({ s with pow := { s.pow with readAt := some s.local } } : State).takeTemps dieT stackT) ((sources dieT stackT).filter fun e => e.2.isNone)).parts
  obtain ⟨r, j, hh⟩ := State.takeHottest_frame ((({ s with pow := { s.pow with readAt := some s.local } } : State).takeTemps dieT stackT).missingReported
    ((sources dieT stackT).filter fun e => e.2.isNone)) (hottest (sources dieT stackT))
  refine ⟨j, ?_⟩
  rw [State.sensed, hh, hp, ht]

theorem State.sensed_calm (dieT stackT : List Reading) : (s.sensed dieT stackT).pins = s.pins ∧ (s.sensed dieT stackT).flt.safe = s.flt.safe := by
  have ht := State.eq_of_sansRegs (State.takeTemps_sansRegs { s with pow := { s.pow with readAt := some s.local } } dieT stackT)
  obtain ⟨hpins, hsafe⟩ := State.missingReported_calm
    (({ s with pow := { s.pow with readAt := some s.local } } : State).takeTemps dieT stackT) ((sources dieT stackT).filter fun e => e.2.isNone)
  obtain ⟨r, j, hh⟩ := State.takeHottest_frame ((({ s with pow := { s.pow with readAt := some s.local } } : State).takeTemps dieT stackT).missingReported
    ((sources dieT stackT).filter fun e => e.2.isNone)) (hottest (sources dieT stackT))
  rw [State.sensed, hh]
  exact ⟨hpins.trans (by rw [ht]), hsafe.trans (by rw [ht])⟩

/-- What is reported and limited after the registers took their readings leaves those of the sensors. -/
theorem State.sensed_register (dieT stackT : List Reading) {r : Reg} {i : Nat} (hlo : 0x200100 ≤ r.addr [i]) (hhi : r.addr [i] < 0x300000) :
    ((s.sensed dieT stackT).critical (sources dieT stackT)).sensorAt r i
      = (({ s with pow := { s.pow with readAt := some s.local } } : State).takeTemps dieT stackT).sensorAt r i := by
  have hcounts : r.addr [i] ≠ Reg.addr .fltCounts [] := fun h => absurd hhi (by rw [h]; decide)
  have hnot : r.addr [i] ∉ [Reg.addr .pwrTemp [], Reg.addr .pwrStatus []] := by
    intro h
    rcases List.mem_pair.1 h with h | h <;> exact absurd hlo (by rw [h]; decide)
  have hcrit := (State.critical_faults (s.sensed dieT stackT) (sources dieT stackT)).reg_eq (by omega) hcounts
  have hmiss := (State.missingReported_faults (({ s with pow := { s.pow with readAt := some s.local } } : State).takeTemps dieT stackT)
    ((sources dieT stackT).filter fun e => e.2.isNone)).reg_eq (by omega) hcounts
  exact State.sensorAt_congr (hcrit.trans (((State.takeHottest_regs _ _).reg_eq hnot).trans hmiss))

end

/-! ### The evaluation -/

/-- What the evaluation reads beside its own registers, and what it does not change. -/
def State.evalView (s : State) : List Deferred × List MemOp × (Int × Nat) × Nat := (s.svc.deferq, s.mops, s.tjSum, s.pow.evalAt)

section
variable (s : State)

theorem State.clockStep_lt : s.clockStep < 16 := Nat.mod_lt _ (Nat.two_pow_pos 4)

theorem State.minStep_lt : s.minStep < 16 := Nat.mod_lt _ (Nat.two_pow_pos 4)

/-- A register of the evaluation other than PWR_STATUS leaves the input power, STEP and MIN_STEP as they are. -/
theorem State.regsBut.clockStep {s t : State} {as : List Nat} (h : s.regsBut t as) (hs : Reg.addr .pwrStatus [] ∉ as) : t.clockStep = s.clockStep :=
  h.fld_eq hs 49 46

theorem State.regsBut.minStep {s t : State} {as : List Nat} (h : s.regsBut t as) (hs : Reg.addr .pwrClkLimit [] ∉ as) : t.minStep = s.minStep :=
  h.fld_eq hs 63 60

theorem State.regsBut.capW {s t : State} {as : List Nat} (h : s.regsBut t as) (hs : Reg.addr .pwrCap [] ∉ as) : t.capW = s.capW := by
  rw [State.capW, State.capW, h.fld_eq hs]

/-! #### The step -/

theorem State.setStep_regs (m step : Nat) (forCap : Bool) : s.regsBut (s.setStep m step forCap) [Reg.addr .pwrStatus [], Reg.addr .pwrThrCnt []] := by
  have h1 : s.regsBut (({ s with pow := { s.pow with stepAt := m } } : State).setFld .pwrStatus [] 49 46 step)
      [Reg.addr .pwrStatus [], Reg.addr .pwrThrCnt []] := State.regsBut_setReg_mem { s with pow := { s.pow with stepAt := m } } (by simp) _
  unfold State.setStep
  dsimp only
  split_ifs
  · exact (h1.trans (State.regsBut_bump _ (by simp) _ _ _)).trans (State.regsBut_setReg_mem _ (by simp) _)
  · exact (h1.trans (State.regsBut_bump _ (by simp) _ _ _)).trans (State.regsBut_setReg_mem _ (by simp) _)
  · exact h1

theorem State.setStep_status (m : Nat) {step : Nat} (hstep : step < 16) (forCap : Bool) :
    (s.setStep m step forCap).clockStep = step ∧ (s.setStep m step forCap).fld .pwrStatus [] 63 50 = s.fld .pwrStatus [] 63 50 := by
  have h1 : (({ s with pow := { s.pow with stepAt := m } } : State).setFld .pwrStatus [] 49 46 step).clockStep = step
      ∧ (({ s with pow := { s.pow with stepAt := m } } : State).setFld .pwrStatus [] 49 46 step).fld .pwrStatus [] 63 50 = s.fld .pwrStatus [] 63 50 := by
    exact ⟨(State.fld_setFld_same _ _ _ _ _ _).trans (Nat.mod_eq_of_lt hstep), State.fld_setFld_above _ _ _ _ _ _ _ _ (by omega) (by omega)⟩
  have h2 (u : State) (v : Nat) : ((u.bump .pwrThrCnt [] 63 32).setFld .pwrStatus [] 44 44 v).clockStep = u.clockStep
      ∧ ((u.bump .pwrThrCnt [] 63 32).setFld .pwrStatus [] 44 44 v).fld .pwrStatus [] 63 50 = u.fld .pwrStatus [] 63 50 :=
    ⟨(State.fld_setFld_above _ _ _ _ _ _ _ _ (by omega) (by omega)).trans (u.fld_bump_other _ _ _ _ _ _ _ _ _ (by decide)),
      (State.fld_setFld_above _ _ _ _ _ _ _ _ (by omega) (by omega)).trans (u.fld_bump_other _ _ _ _ _ _ _ _ _ (by decide))⟩
  unfold State.setStep
  dsimp only
  split_ifs
  · exact ⟨(h2 _ _).1.trans h1.1, (h2 _ _).2.trans h1.2⟩
  · exact ⟨(h2 _ _).1.trans h1.1, (h2 _ _).2.trans h1.2⟩
  · exact h1

theorem State.setStep_view (m step : Nat) (forCap : Bool) : (s.setStep m step forCap).evalView = s.evalView := by
  unfold State.setStep
  dsimp only
  split_ifs <;> rfl

/-- The fabric clock's STEP after the rules of R423, for an average that is hot or not and an input power. -/
structure State.Steps (s : State) (hot : Prop) (w x : Nat) : Prop where
  lt    : x < 16
  rises : hot ∨ s.capW < w → x = max (min 15 (s.clockStep + 1)) s.minStep
  least : ¬hot → w ≤ s.capW → s.clockStep < s.minStep → x = s.minStep
  falls : ¬hot → w ≤ s.capW → s.minStep ≤ s.clockStep → x = s.clockStep ∨ x + 1 = s.clockStep

/-- The state with the run of multiples at which the step may fall. -/
def State.okRunTo (s : State) (n : Nat) : State := { s with pow := { s.pow with okRun := n } }

/-- The rules of R423 leave the step, or set it, with TEMP where heat raised it. -/
theorem State.moveStep_cases (m w : Nat) (hn : s.tjSum.2 ≠ 0) : ∃ n x, s.Steps (760 * (s.tjSum.2 : Int) ≤ s.tjSum.1) w x
    ∧ ((s.moveStep m w = s.okRunTo n ∧ x = s.clockStep) ∨ ∃ b, s.moveStep m w = (s.okRunTo n).setStep m x b
      ∨ s.moveStep m w = ((s.okRunTo n).setStep m x b).setFld .pwrStatus [] 45 45 1) := by
  have hc := s.clockStep_lt
  have hm := s.minStep_lt
  have hh : (s.tjSum.2 != 0 && decide (760 * (s.tjSum.2 : Int) ≤ s.tjSum.1)) = decide (760 * (s.tjSum.2 : Int) ≤ s.tjSum.1) := by
    rw [bne_iff_ne.2 hn, Bool.true_and]
  refine ⟨if s.tjSum.2 != 0 && decide (s.tjSum.1 < 744 * (s.tjSum.2 : Int)) && decide (w * 100 ≤ 97 * s.capW) then s.pow.okRun + 1 else 0, ?_⟩
  unfold State.moveStep
  dsimp only
  rw [hh]
  generalize (if (s.tjSum.2 != 0 && decide (s.tjSum.1 < 744 * (s.tjSum.2 : Int)) && decide (w * 100 ≤ 97 * s.capW)) = true then s.pow.okRun + 1
    else 0) = n
  by_cases hho : 760 * (s.tjSum.2 : Int) ≤ s.tjSum.1 ∨ s.capW < w
  · have hb : (decide (760 * (s.tjSum.2 : Int) ≤ s.tjSum.1) || decide (s.capW < w)) = true := by
      rwa [Bool.or_eq_true, decide_eq_true_eq, decide_eq_true_eq]
    by_cases h15 : s.clockStep < 15
    · refine ⟨max (s.clockStep + 1) s.minStep, ⟨by omega, fun _ => by omega, fun h1 h2 => ?_, fun h1 h2 => ?_⟩, .inr ⟨decide (s.capW < w), ?_⟩⟩
      · exact absurd hho (not_or.2 ⟨h1, Nat.not_lt.2 h2⟩)
      · exact absurd hho (not_or.2 ⟨h1, Nat.not_lt.2 h2⟩)
      · by_cases hhot : 760 * (s.tjSum.2 : Int) ≤ s.tjSum.1
        · exact .inr ((if_pos hb).trans ((if_pos h15).trans (if_pos (decide_eq_true hhot))))
        · exact .inl ((if_pos hb).trans ((if_pos h15).trans (if_neg (by rw [decide_eq_true_eq]; exact hhot))))
    · refine ⟨s.clockStep, ⟨hc, fun _ => by omega, fun h1 h2 => ?_, fun _ _ _ => .inl rfl⟩, .inl ⟨(if_pos hb).trans (if_neg h15), rfl⟩⟩
      exact absurd hho (not_or.2 ⟨h1, Nat.not_lt.2 h2⟩)
  · have hb : ¬(decide (760 * (s.tjSum.2 : Int) ≤ s.tjSum.1) || decide (s.capW < w)) = true := by
      rwa [Bool.or_eq_true, decide_eq_true_eq, decide_eq_true_eq]
    by_cases hlow : s.clockStep < s.minStep
    · exact ⟨s.minStep, ⟨hm, fun h => absurd h hho, fun _ _ _ => rfl, fun _ _ h => absurd hlow (Nat.not_lt.2 h)⟩,
        .inr ⟨false, .inl ((if_neg hb).trans (if_pos hlow))⟩⟩
    · by_cases hfall : 10 ≤ n ∧ s.pow.stepAt + 10 ≤ m ∧ s.minStep < s.clockStep
      · exact ⟨s.clockStep - 1, ⟨by omega, fun h => absurd h hho, fun _ _ h => absurd h hlow, fun _ _ _ => .inr (by omega)⟩,
          .inr ⟨false, .inl ((if_neg hb).trans ((if_neg hlow).trans (if_pos hfall)))⟩⟩
      · exact ⟨s.clockStep, ⟨hc, fun h => absurd h hho, fun _ _ h => absurd h hlow, fun _ _ _ => .inl rfl⟩,
          .inl ⟨(if_neg hb).trans ((if_neg hlow).trans (if_neg hfall)), rfl⟩⟩

/-- What the rules of R423 make of PWR_STATUS, and what they leave. -/
theorem State.moveStep_spec (m w : Nat) (hn : s.tjSum.2 ≠ 0) :
    s.Steps (760 * (s.tjSum.2 : Int) ≤ s.tjSum.1) w (s.moveStep m w).clockStep
      ∧ (s.moveStep m w).fld .pwrStatus [] 63 50 = s.fld .pwrStatus [] 63 50
      ∧ s.regsBut (s.moveStep m w) [Reg.addr .pwrStatus [], Reg.addr .pwrThrCnt []] ∧ (s.moveStep m w).evalView = s.evalView := by
  obtain ⟨n, x, hx, ⟨h, rfl⟩ | ⟨b, h | h⟩⟩ := s.moveStep_cases m w hn <;> rw [h]
  · exact ⟨hx, rfl, State.regsBut_refl _ _, rfl⟩
  · obtain ⟨hstep, hin⟩ := (s.okRunTo n).setStep_status m hx.lt b
    exact ⟨by rw [hstep]; exact hx, hin, (s.okRunTo n).setStep_regs m x b, (s.okRunTo n).setStep_view m x b⟩
  · obtain ⟨hstep, hin⟩ := (s.okRunTo n).setStep_status m hx.lt b
    have hregs := (s.okRunTo n).setStep_regs m x b
    have hview := (s.okRunTo n).setStep_view m x b
    generalize (s.okRunTo n).setStep m x b = u at hstep hin hregs hview ⊢
    have hkeep (hi lo : Nat) (h : 45 < lo) : (u.setFld .pwrStatus [] 45 45 1).fld .pwrStatus [] hi lo = u.fld .pwrStatus [] hi lo :=
      u.fld_setFld_above _ _ _ _ _ _ _ h (by omega)
    refine ⟨?_, (hkeep 63 50 (by omega)).trans hin, fun a ha => ?_, hview⟩
    · rw [show (u.setFld .pwrStatus [] 45 45 1).clockStep = u.clockStep from hkeep 49 46 (by omega), hstep]
      exact hx
    · exact (State.regsBut_setReg_mem u (by simp) _ a ha).trans (hregs a ha)

/-! #### The other registers -/

/-- The state with what the evaluation notes before it sets the supply: the costs, the time throttled, the input power and the measurements. -/
def State.evalNoted (s : State) (w : Nat) : State :=
  let s := { s with pow := { s.pow with evalAt := s.now / 1000000, costs := (List.range 16).map fun k => (k, s.reg .pwrClass [k]) } }
  let s := if s.minStep < s.clockStep then s.bump .pwrThrCnt [] 31 0 else s
  (s.setFld .pwrStatus [] 63 50 (min w (2 ^ 14 - 1))).measure

/-- One measured field. -/
def State.measureField (s : State) (hi lo : Nat) : State := (s.setFld .pwrInput [] hi lo s.freeVal).tickFree

theorem State.measureField_regs (hi lo : Nat) : s.regsBut (s.measureField hi lo) [Reg.addr .pwrInput []] :=
  (s.regsBut_setFld .pwrInput [] hi lo s.freeVal).of_regs (State.tickFree_regs _)

theorem State.measureField_view (hi lo : Nat) : (s.measureField hi lo).evalView = s.evalView := rfl

theorem State.measure_eq : s.measure = ((s.measureField 47 32).measureField 31 16).measureField 15 0 := rfl

theorem State.measure_spec : s.regsBut s.measure [Reg.addr .pwrInput []] ∧ s.measure.evalView = s.evalView := by
  rw [State.measure_eq]
  exact ⟨((s.measureField_regs 47 32).trans (State.measureField_regs _ 31 16)).trans (State.measureField_regs _ 15 0),
    ((State.measureField_view _ 15 0).trans (State.measureField_view _ 31 16)).trans (s.measureField_view 47 32)⟩

theorem State.evalNoted_spec (w : Nat) :
    s.regsBut (s.evalNoted w) [Reg.addr .pwrStatus [], Reg.addr .pwrThrCnt [], Reg.addr .pwrInput []]
      ∧ (s.evalNoted w).clockStep = s.clockStep ∧ (s.evalNoted w).fld .pwrStatus [] 63 50 = min w (2 ^ 14 - 1)
      ∧ (s.evalNoted w).evalView = (s.svc.deferq, s.mops, s.tjSum, s.now / 1000000) := by
  obtain ⟨u, hu, hthr, hview⟩ : ∃ u : State, s.evalNoted w = (u.setFld .pwrStatus [] 63 50 (min w (2 ^ 14 - 1))).measure
      ∧ s.regsBut u [Reg.addr .pwrThrCnt []] ∧ u.evalView = (s.svc.deferq, s.mops, s.tjSum, s.now / 1000000) := by
    refine ⟨_, rfl, ?_, ?_⟩
    · split_ifs
      · exact (s.regsBut_bump List.mem_cons_self 31 0 1).of_regs rfl
      · exact fun _ _ => rfl
    · split_ifs <;> rfl
  rw [hu]
  have hset := u.regsBut_setFld .pwrStatus [] 63 50 (min w (2 ^ 14 - 1))
  have hin : (u.setFld .pwrStatus [] 63 50 (min w (2 ^ 14 - 1))).fld .pwrStatus [] 63 50 = min w (2 ^ 14 - 1) :=
    (u.fld_setFld_same _ _ _ _ _).trans (Nat.mod_eq_of_lt (by omega))
  have hstep : (u.setFld .pwrStatus [] 63 50 (min w (2 ^ 14 - 1))).clockStep = u.clockStep := u.fld_setFld_below _ _ _ _ _ _ _ (by omega)
  have hv : (u.setFld .pwrStatus [] 63 50 (min w (2 ^ 14 - 1))).evalView = u.evalView := rfl
  generalize u.setFld .pwrStatus [] 63 50 (min w (2 ^ 14 - 1)) = v at hset hin hstep hv ⊢
  obtain ⟨hmeas, hmview⟩ := v.measure_spec
  refine ⟨?_, ?_, (hmeas.fld_eq (by decide) _ _).trans hin, (hmview.trans hv).trans hview⟩
  · exact ((hthr.mono (by simp)).trans (hset.mono (by simp))).trans (hmeas.mono (by simp))
  · exact ((hmeas.clockStep (by decide)).trans hstep).trans (hthr.clockStep (by decide))

theorem State.setSupply_spec (hn : s.tjSum.2 ≠ 0) :
    s.regsBut s.setSupply [Reg.addr .pwrTokens [], Reg.addr .pwrTemp []]
      ∧ s.setSupply.fld .pwrTokens [] 63 48 = supplyOf s.capW (thermalFactor s.tjSum.1 s.tjSum.2) (s.fld .pwrTokens [] 31 16) % 2 ^ 16
      ∧ s.setSupply.evalView = s.evalView := by
  have h : s.setSupply = (s.setFld .pwrTokens [] 63 48 (supplyOf s.capW (thermalFactor s.tjSum.1 s.tjSum.2) (s.fld .pwrTokens [] 31 16))).setFld
      .pwrTemp [] 45 36 ((thermalFactor s.tjSum.1 s.tjSum.2).1 * 1000 / (thermalFactor s.tjSum.1 s.tjSum.2).2) := by
    simp only [State.setSupply, hn, if_false]
  rw [h]
  exact ⟨(State.regsBut_setReg_mem s (by simp) _).trans (State.regsBut_setReg_mem _ (by simp) _),
    (State.fld_setFld_other _ _ _ _ _ _ _ _ _ _ (by decide)).trans (s.fld_setFld_same _ _ _ _ _), rfl⟩

theorem State.stepFlags_spec (w : Nat) : s.regsBut (s.stepFlags w) [Reg.addr .pwrStatus []] ∧ (s.stepFlags w).clockStep = s.clockStep
    ∧ (s.stepFlags w).fld .pwrStatus [] 63 50 = s.fld .pwrStatus [] 63 50 ∧ (s.stepFlags w).evalView = s.evalView := by
  have hkeep (a b hi lo : Nat) (h : 43 < lo) : ((s.setFld .pwrStatus [] 43 43 a).setFld .pwrStatus [] 42 42 b).fld .pwrStatus [] hi lo
      = s.fld .pwrStatus [] hi lo :=
    (State.fld_setFld_above _ _ _ _ _ _ _ _ (by omega) (by omega)).trans (State.fld_setFld_above _ _ _ _ _ _ _ _ h (by omega))
  exact ⟨(State.regsBut_setReg_mem s (by simp) _).trans (State.regsBut_setReg_mem _ (by simp) _), hkeep _ _ 49 46 (by omega), hkeep _ _ 63 50 (by omega), rfl⟩

theorem bodyPowerEvaluation_due (hup : s.islandsUp = true) (hm : s.now / 1000000 ≠ s.pow.evalAt) (inputW : Nat) :
    bodyPowerEvaluation inputW s = ((((s.evalNoted (if s.mainRuns then inputW else 0)).setSupply).moveStep (s.now / 1000000)
      (if s.mainRuns then inputW else 0)).stepFlags (if s.mainRuns then inputW else 0)).unlessSafe State.tryDeferred := by
  refine if_neg ?_
  rw [hup, beq_eq_false_iff_ne.2 hm]
  exact Bool.false_ne_true

/-- An evaluation with nothing in the deferral queue, from the parts above (R416, R423). -/
theorem bodyPowerEvaluation_spec (hup : s.islandsUp = true) (hm : s.now / 1000000 ≠ s.pow.evalAt) (hd : s.svc.deferq = []) (hn : s.tjSum.2 ≠ 0)
    (inputW : Nat) :
    let w := if s.mainRuns = true then inputW else 0
    let t := bodyPowerEvaluation inputW s
    t.evalView = (s.svc.deferq, s.mops, s.tjSum, s.now / 1000000)
      ∧ t.fld .pwrTokens [] 63 48 = supplyOf s.capW (thermalFactor s.tjSum.1 s.tjSum.2) (s.fld .pwrTokens [] 31 16) % 2 ^ 16
      ∧ t.fld .pwrStatus [] 63 50 = min w (2 ^ 14 - 1) ∧ s.Steps (760 * (s.tjSum.2 : Int) ≤ s.tjSum.1) w t.clockStep := by
  intro w t
  have ht : t = ((((s.evalNoted w).setSupply).moveStep (s.now / 1000000) w).stepFlags w).unlessSafe State.tryDeferred :=
    bodyPowerEvaluation_due s hup hm inputW
  obtain ⟨hregs1, hstep1, hin1, hview1⟩ := s.evalNoted_spec w
  generalize s.evalNoted w = u1 at ht hregs1 hstep1 hin1 hview1
  have htj1 : u1.tjSum = s.tjSum := congrArg (fun v => v.2.2.1) hview1
  obtain ⟨hregs2, htok2, hview2⟩ := u1.setSupply_spec (by rw [htj1]; exact hn)
  generalize u1.setSupply = u2 at ht hregs2 htok2 hview2
  have htj2 : u2.tjSum = s.tjSum := (congrArg (fun v => v.2.2.1) hview2).trans htj1
  obtain ⟨hsteps3, hin3, hregs3, hview3⟩ := u2.moveStep_spec (s.now / 1000000) w (by rw [htj2]; exact hn)
  generalize u2.moveStep (s.now / 1000000) w = u3 at ht hsteps3 hin3 hregs3 hview3
  obtain ⟨hregs4, hstep4, hin4, hview4⟩ := u3.stepFlags_spec w
  generalize u3.stepFlags w = u4 at ht hregs4 hstep4 hin4 hview4
  have hview : u4.evalView = (s.svc.deferq, s.mops, s.tjSum, s.now / 1000000) := hview4.trans (hview3.trans (hview2.trans hview1))
  have hq : u4.svc.deferq = [] := (congrArg Prod.fst hview).trans hd
  have hcap2 : u2.capW = s.capW := (hregs2.capW (by decide)).trans (hregs1.capW (by decide))
  have hmin2 : u2.minStep = s.minStep := (hregs2.minStep (by decide)).trans (hregs1.minStep (by decide))
  have hclock2 : u2.clockStep = s.clockStep := (hregs2.clockStep (by decide)).trans hstep1
  have hsame : t = u4 := by
    rw [ht, State.unlessSafe, State.tryDeferred_nothing hq, ite_self]
  rw [hsame]
  refine ⟨hview, ?_, ?_, ?_⟩
  · rw [hregs4.fld_eq (by decide), hregs3.fld_eq (by decide), htok2, htj1, hregs1.capW (by decide), hregs1.fld_eq (by decide)]
  · rw [hin4, hin3, hregs2.fld_eq (by decide), hin1]
  · rw [hstep4]
    exact ⟨hsteps3.lt, by have := hsteps3.rises; rwa [htj2, hcap2, hmin2, hclock2] at this,
      by have := hsteps3.least; rwa [htj2, hcap2, hmin2, hclock2] at this, by have := hsteps3.falls; rwa [htj2, hcap2, hmin2, hclock2] at this⟩

end

/-! ### The thermal factor -/

theorem thermalFactor_cool {sum : Int} {n : Nat} (h : sum ≤ 680 * n) : thermalFactor sum n = (1, 1) := if_pos h

theorem thermalFactor_hot {sum : Int} {n : Nat} (hn : 0 < n) (h : 760 * n ≤ sum) : thermalFactor sum n = (1, 2) :=
  (if_neg (by omega)).trans (if_pos h)

theorem thermalFactor_between {sum : Int} {n : Nat} (hlo : 680 * n < sum) (hhi : sum < 760 * n) :
    thermalFactor sum n = ((840 * (n : Int) - sum).toNat, 160 * n) :=
  (if_neg (Int.not_le.2 hlo)).trans (if_neg (Int.not_le.2 hhi))

/-! ### The supplies -/

section
variable (s : State)

/-- A stack loses its power. -/
def State.stackOff (s : State) (k : Nat) : State := s.setStack k { s.stack k with off := true }

theorem State.stackOff_same (k : Nat) : ((s.stackOff k).stack k).off = true := by
  rw [State.stackOff, State.stack, State.setStack, Tbl.get_set_same]

theorem State.stackOff_keeps (j k : Nat) (h : (s.stack k).off = true) : ((s.stackOff j).stack k).off = true := by
  by_cases hk : k = j
  · rw [hk]
    exact s.stackOff_same j
  · rw [State.stackOff, State.stack, State.setStack, Tbl.get_set_other _ _ _ hk]
    exact h

theorem State.mainOff_eq : s.mainOff =
    (List.range 16).foldl State.stackOff { s with pins := { s.pins with mainOn := false, pwrGood := false, offAt := s.local } } := rfl

theorem State.mainOff_off {k : Nat} (hk : k < 16) : (s.mainOff.stack k).off = true := by
  rw [State.mainOff_eq]
  exact foldl_established (P := fun t : State => (t.stack k).off = true) (fun t j => t.stackOff_keeps j k) (fun t => t.stackOff_same k)
    (List.mem_range.2 hk) _

theorem State.mainOff_pins : s.mainOff.pins = { s.pins with mainOn := false, pwrGood := false, offAt := s.local } := by
  rw [State.mainOff_eq]
  exact foldl_keeps State.pins State.stackOff (fun _ _ => rfl) _ _

/-- The main regulators switch off with a FATAL fault of the supply. -/
theorem State.mainOff_fatal (die block inst kind addr : Nat) :
    (s.mainOff.fatal die block inst kind addr).pins.mainOn = false ∧ (s.mainOff.fatal die block inst kind addr).pins.pwrGood = false
      ∧ (s.mainOff.fatal die block inst kind addr).flt.safe = true
      ∧ ∀ k, k < 16 → ((s.mainOff.fatal die block inst kind addr).stack k).off = true := by
  have h := s.mainOff.fatal_faults die block inst kind addr
  have hsafe := s.mainOff.fatal_safe die block inst kind addr
  obtain ⟨b, hp, -⟩ := h.pins
  rw [s.mainOff_pins] at hp
  generalize s.mainOff.fatal die block inst kind addr = t at h hsafe hp
  rw [hp]
  exact ⟨rfl, rfl, hsafe, fun k hk => h.off k (s.mainOff_off hk)⟩

/-- The reading of MAIN54 in PWR_INPUT. -/
def State.mainRead (s : State) (cv : Nat) : State := s.setFld .pwrInput [] 63 48 (min cv 0xFFFF)

theorem bodyMainRange_up (hup : s.islandsUp = true) (cv : Nat) : bodyMainRange cv s =
    if s.mainRuns && (decide (cv < 4000) || decide (5950 < cv)) then (s.mainRead cv).mainOff.fatal 31 0x1A 2 0x071 cv else s.mainRead cv :=
  if_neg (by rw [hup]; exact Bool.false_ne_true)

theorem State.endAllTests_flt : ∃ l, s.endAllTests = { s with flt := { s.flt with tests := [], waiting := [], log := l } } := by
  have h := foldl_invariant (P := fun t : State => ∃ l, t = { s with flt := { s.flt with tests := [], waiting := [], log := l } })
    (f := fun (s : State) (t : SelfTest) => s.onLog t.seq fun e => { e with verdict := 5 }) (fun u t ⟨l, hl⟩ => by
      subst hl
      unfold State.onLog
      split
      · exact ⟨_, rfl⟩
      · exact ⟨_, rfl⟩) (s.flt.tests ++ s.flt.waiting) (a := { s with flt := { s.flt with tests := [], waiting := [] } }) ⟨_, rfl⟩
  exact h

end

end Sys2Proof.Machine

open Sys2Proof Sys2Proof.Machine

/-- Settles O54: the sensors' registers by one rule per reading, the step by the cases of R423, and the supplies by what a FATAL fault keeps. -/
theorem powerAndHeat : Obligations.PowerAndHeat := by
  refine ⟨fun s dieT stackT hdue => ?_, fun s inputW hup hm htj hd => ?_, fun sum n hn => ?_,
    fun s => ⟨fun cv hup => ⟨fun hin => ?_, fun hruns hout => ?_⟩, ?_⟩⟩
  · have hpow := (State.critical_faults (s.sensed dieT stackT) (sources dieT stackT)).parts.1
    obtain ⟨j, hj⟩ := s.sensed_pow dieT stackT
    refine ⟨_, commit_of (bodySensorRead_due hdue dieT stackT), ?_, rfl, fun d hd => ?_, fun k hk => ?_, fun i v hi hv hn => ?_, fun i v hmax hv => ?_⟩
    · rw [State.kept_pow, hpow, hj]
    · have h := (s.sensed_register dieT stackT (r := .pwrDieTemp) (i := d) (by rw [addr_pwrDieTemp]; omega) (by rw [addr_pwrDieTemp]; omega)).trans
        (State.takeTemps_die _ dieT stackT hd)
      exact Prod.ext_iff.1 h
    · have h := (s.sensed_register dieT stackT (r := .pwrStackTemp) (i := k) (by rw [addr_pwrStackTemp]; omega) (by rw [addr_pwrStackTemp]; omega))
      exact (congrArg Prod.fst h).trans (State.takeTemps_stack _ dieT stackT hk)
    · exact State.critical_new _ hi hv (by rw [hj]; exact hn)
    · have hnone : hotSources (sources dieT stackT) = [] := List.eq_nil_iff_forall_not_mem.2 fun e he => by
        obtain ⟨hm, h840⟩ := mem_hotSources.1 he
        have := (hottest_max hmax).2 _ _ hm
        omega
      obtain ⟨e, he, hei⟩ := (hottest_max hmax).1
      have hi : i < 64 := by
        have := sources_lt he
        omega
      obtain ⟨hpins, hsafe⟩ := s.sensed_calm dieT stackT
      rw [State.critical_none _ hnone]
      have htemp : (s.sensed dieT stackT).fld .pwrTemp [] 63 52 = tempField (some v) ∧ (s.sensed dieT stackT).fld .pwrTemp [] 51 46 = i := by
        rw [State.sensed, hmax]
        exact State.takeHottest_some _ hi
      exact ⟨hsafe, hpins, htemp.1, htemp.2, rfl⟩
  · intro w a hot
    have hn : s.fresh.tjSum.2 ≠ 0 := fun h => htj (List.length_eq_zero_iff.1 h)
    obtain ⟨hview, htok, hin, hsteps⟩ := bodyPowerEvaluation_spec s.fresh hup hm hd hn inputW
    have hmops : (bodyPowerEvaluation inputW s.fresh).mops = [] := congrArg (fun v => v.2.1) hview
    refine ⟨_, commitMem_of rfl, ?_, (congrArg (fun v => v.2.2.2) hview :), (State.keptMem_fld ..).trans htok, (State.keptMem_fld ..).trans hin,
      hsteps.rises, hsteps.least, hsteps.falls⟩
    rw [State.keptMem_mem, hmops]
    rfl
  · intro k
    refine ⟨fun h => ?_, fun h => ?_, fun hlo hhi => ?_⟩
    · rw [show k = (1, 1) from thermalFactor_cool h]
    · exact congrArg (fun k : Nat × Nat => 2 * k.1) (thermalFactor_hot hn h) |>.trans (congrArg Prod.snd (thermalFactor_hot hn h)).symm
    · rw [show k = ((840 * (n : Int) - sum).toNat, 160 * n) from thermalFactor_between hlo hhi]
      dsimp only
      rw [Int.toNat_of_nonneg (by omega), Nat.cast_mul, mul_comm]
      rfl
  · have hno : ¬(s.mainRuns && (decide (cv < 4000) || decide (5950 < cv))) = true := by
      rw [Bool.and_eq_true, Bool.or_eq_true, decide_eq_true_eq, decide_eq_true_eq]
      rcases hin with h | h
      · rw [h]
        exact fun h => Bool.false_ne_true h.1
      · omega
    exact commit_of_keptParts ((bodyMainRange_up s hup cv).trans (if_neg hno)) rfl
  · have hyes : (s.mainRuns && (decide (cv < 4000) || decide (5950 < cv))) = true := by
      rw [Bool.and_eq_true, Bool.or_eq_true, decide_eq_true_eq, decide_eq_true_eq]
      exact ⟨hruns, hout⟩
    obtain ⟨hmain, hgood, hsafe, hoff⟩ := (s.mainRead cv).mainOff_fatal 31 0x1A 2 0x071 cv
    exact ⟨_, commit_of ((bodyMainRange_up s hup cv).trans (if_pos hyes)), hmain, hgood, hsafe, hoff, rfl⟩
  · obtain ⟨l, hl⟩ := s.endAllTests_flt
    refine ⟨_, commit_of rfl, ?_⟩
    unfold bodyAuxLoss State.coldReset
    rw [hl]
    refine ⟨rfl, rfl, rfl, rfl, rfl, rfl, rfl, rfl, rfl, fun e he => ?_⟩
    obtain ⟨x, -, rfl⟩ := List.mem_map.1 he
    rfl
end

section
/-!
PROOFS. Faults are logged and reacted to, tests end with verdicts, and spares take over (O55).
-/

namespace Sys2Proof.Machine

/-! ### The log -/

/-- The entry of a message. -/
def FaultMsg.entry (m : FaultMsg) (n reaction verdict : Nat) : LogEntry := ⟨m, n, reaction, verdict, decide (2 ≤ m.sev), false, 0⟩

section
variable {s t : State}

theorem State.logAt_eq_some {n : Nat} {e : LogEntry} : s.logAt n = some e ↔ s.flt.log.find? (n % 4096) = some e ∧ e.seq = n := by
  unfold State.logAt
  cases s.flt.log.find? (n % 4096) with
  | none => simp
  | some x =>
    dsimp only
    split_ifs with h
    · constructor
      · rintro ⟨⟩
        exact ⟨rfl, h⟩
      · exact fun h' => h'.1
    · constructor
      · intro h'
        exact nomatch h'
      · rintro ⟨⟨⟩, h'⟩
        exact absurd h' h

theorem State.onLog_of_logAt {n : Nat} {e : LogEntry} (h : s.logAt n = some e) (f : LogEntry → LogEntry) :
    s.onLog n f = { s with flt := { s.flt with log := s.flt.log.set (n % 4096) (f e) } } := by
  rw [State.onLog, h]

theorem State.logAt_onLog {n : Nat} {e : LogEntry} (h : s.logAt n = some e) {f : LogEntry → LogEntry} (hf : (f e).seq = e.seq) :
    (s.onLog n f).logAt n = some (f e) := by
  rw [State.onLog_of_logAt h, State.logAt_eq_some]
  exact ⟨Tbl.find?_set_same _ _ _, hf.trans (State.logAt_eq_some.1 h).2⟩

theorem State.overwriteLog_frame (s : State) : ∃ r o, s.overwriteLog = { s with regs := r, flt := { s.flt with openOld := o } }
    ∧ s.regsBut s.overwriteLog [Reg.addr .fltCounts []] := by
  unfold State.overwriteLog
  split
  · exact ⟨_, _, rfl, State.regsBut_refl _ _⟩
  · dsimp only
    have hb := s.regsBut_bump (r := .fltCounts) (is := []) (as := [Reg.addr .fltCounts []]) List.mem_cons_self 31 0 1
    split_ifs
    · exact ⟨_, _, rfl, fun _ _ => rfl⟩
    · exact ⟨_, _, rfl, hb⟩
    · exact ⟨_, _, rfl, State.regsBut_refl _ _⟩
    · exact ⟨_, _, rfl, hb⟩

/-- What the entry of a message changes: the log, its ends and the pages to mirror. -/
theorem State.putLog_frame (s : State) (m : FaultMsg) (r v : Nat) : ∃ regs o first pa u sq,
    s.putLog m r v = { s with regs := regs, flt := { s.flt with
      openOld := o, log := s.flt.log.set (s.flt.nextSeq % 4096) (m.entry s.flt.nextSeq r v), nextSeq := (s.flt.nextSeq + 1) % 2 ^ 32
      first := first, pageAt := pa, urgent := u, safeSeq := sq } }
    ∧ (s.flt.first = none → s.fld .fltFirstCtl [] 61 60 ≤ m.sev → first = some (m.entry s.flt.nextSeq r v))
    ∧ (∀ f, s.flt.first = some f → first = some f) := by
  obtain ⟨regs, o, ho, hregs⟩ := s.overwriteLog_frame
  have hctl := hregs.fld_eq (r := .fltFirstCtl) (is := []) (by decide) 61 60
  unfold State.putLog
  dsimp only
  rw [← hctl]
  generalize s.overwriteLog = u at ho hctl ⊢
  subst ho
  refine ⟨_, _, _, _, _, _, rfl, fun hnone hsev => ?_, fun f hf => ?_⟩
  · dsimp only
    rw [hnone]
    exact if_pos hsev
  · dsimp only
    rw [hf]

end

/-! ### Taking a message -/

section
variable {s : State} {die : Nat} {m : FaultMsg} {rest : List FaultMsg}

theorem bodyFaultMessageTake_merges {k : Nat} (hq : s.flt.queues.get die [] = m :: rest) (hm : s.mergeInto m = some k) :
    bodyFaultMessageTake die false none s = (s.dequeueFault die).onLog k fun e => { e with rep := min 0xFFFF (e.rep + 1) } := by
  have hm' : (s.dequeueFault die).mergeInto m = some k := hm
  unfold bodyFaultMessageTake
  dsimp only
  rw [hq]
  dsimp only
  rw [hm']

theorem bodyFaultMessageTake_logs (hq : s.flt.queues.get die [] = m :: rest) (hm : s.mergeInto m = none)
    (hn : m.sev ≠ 0 ∨ s.notesOf m.die m.block < 1000) : bodyFaultMessageTake die false none s = (s.dequeueFault die).logFault m false := by
  have hm' : (s.dequeueFault die).mergeInto m = none := hm
  unfold bodyFaultMessageTake
  dsimp only
  rw [hq]
  dsimp only
  rw [hm']
  exact if_neg fun h => hn.elim (fun h0 => h0 h.1) fun hlt => absurd h.2 (Nat.not_le.2 hlt)

/-- With nothing held in the units, a message leaves its die's queue. -/
theorem State.dequeueFault_queue (hq : s.flt.queues.get die [] = m :: rest) (hh : s.flt.holding.get die [] = []) :
    (s.dequeueFault die).flt.queues.get die [] = rest := by
  rw [State.dequeueFault, hq, hh]
  exact (Tbl.get_set_same _ _ _ _).trans (List.append_nil rest)

/-- A message is logged on a state with what its NOTE or TIE left in fault collection. -/
theorem State.logFault_eq (s : State) (m : FaultMsg) : ∃ tie notes, s.logFault m false =
    let u : State := { s with flt := { s.flt with tie := tie, notes := notes } }
    let r := s.reactionOf m.kind m.sev
    if r = 2 then u.selfTestOn m
    else if r = 3 then (u.putLog m 3 0).isolate m
    else if r = 4 then
      if m.block = 0x1C ∨ (u.putLog m 4 0).flt.safe = true then u.putLog m 4 0
      else ((u.putLog m 4 0).domainsOf m).foldl State.resetDomain (u.putLog m 4 0)
    else if r = 5 then u.enterSafe.putLog m 5 0
    else u.putLog m 1 0 := ⟨_, _, rfl⟩

/-- A new fault of a unit that starts its test. -/
theorem State.selfTestOn_new (h : (s.flt.tests ++ s.flt.waiting).any (fun t => t.msg.sameUnit m) = false)
    (ht : s.flt.tracker.any (fun v => v.msg.sameUnit m && decide (s.local < v.until_)) = false) :
    s.selfTestOn m = (s.putLog m 2 1).startTest ⟨s.flt.nextSeq, m, false⟩ := by
  unfold State.selfTestOn
  dsimp only
  rw [h, ht]
  exact (if_neg Bool.false_ne_true).trans (if_neg Bool.false_ne_true)

/-- A test of a unit that is neither a lane nor a row changes the lists of tests alone. -/
theorem State.startTest_plain {x : SelfTest} (h : 3 ≤ unitClass x.msg.kind) :
    ∃ a b, s.startTest x = { s with flt := { s.flt with tests := a, waiting := b } } ∧ x ∈ a ++ b := by
  unfold State.startTest
  split_ifs
  · refine ⟨s.flt.tests ++ [x], s.flt.waiting, ?_, by simp⟩
    unfold State.beginTest
    split
    · omega
    · omega
    · rfl
  · exact ⟨s.flt.tests, s.flt.waiting ++ [x], rfl, by simp⟩

end

/-- What logging a message leaves: its entry, FLT_FIRST, and the reaction's own effect. -/
structure State.Logs (s : State) (m : FaultMsg) (r : Nat) (t : State) : Prop where
  queues  : t.flt.queues = s.flt.queues
  entry   : t.logAt s.flt.nextSeq = some (m.entry s.flt.nextSeq r (if r = 2 then 1 else 0))
  nextSeq : t.flt.nextSeq = (s.flt.nextSeq + 1) % 2 ^ 32
  first   : s.flt.first = none → s.fld .fltFirstCtl [] 61 60 ≤ m.sev → t.flt.first = some (m.entry s.flt.nextSeq r (if r = 2 then 1 else 0))
  keeps   : ∀ f, s.flt.first = some f → t.flt.first = some f
  safe    : r = 5 → t.flt.safe = true
  tests   : r = 2 → (⟨s.flt.nextSeq, m, false⟩ : SelfTest) ∈ t.flt.tests ++ t.flt.waiting
  alone   : r = 1 → t.flt.safe = s.flt.safe ∧ t.flt.tests = s.flt.tests

section
variable {s u : State} {m : FaultMsg}

/-- A state that agrees with another on what logging a message asks of it. -/
structure State.LogAgrees (s u : State) : Prop where
  queues  : u.flt.queues = s.flt.queues
  nextSeq : u.flt.nextSeq = s.flt.nextSeq
  first   : u.flt.first = s.flt.first
  least   : u.fld .fltFirstCtl [] 61 60 = s.fld .fltFirstCtl [] 61 60

/-- The entry of a message whose reaction is taken elsewhere, or has none of its own. -/
theorem State.LogAgrees.putLog (h : s.LogAgrees u) (r : Nat) (h2 : r ≠ 2) (h5 : r = 5 → u.flt.safe = true)
    (h1 : r = 1 → u.flt.safe = s.flt.safe ∧ u.flt.tests = s.flt.tests) : s.Logs m r (u.putLog m r 0) := by
  obtain ⟨regs, o, first, pa, w, sq, hput, hfirst, hkeeps⟩ := u.putLog_frame m r 0
  rw [h.first, h.least, h.nextSeq] at hfirst
  rw [h.first] at hkeeps
  rw [hput, h.nextSeq]
  refine ⟨h.queues, ?_, rfl, ?_, hkeeps, h5, fun hr => absurd hr h2, h1⟩ <;> rw [if_neg h2]
  · exact State.logAt_eq_some.2 ⟨Tbl.find?_set_same _ _ _, rfl⟩
  · exact hfirst

/-- The entry of a message that starts a test. -/
theorem State.LogAgrees.selfTest (h : s.LogAgrees u) (hc : 3 ≤ unitClass m.kind) :
    s.Logs m 2 ((u.putLog m 2 1).startTest ⟨u.flt.nextSeq, m, false⟩) := by
  obtain ⟨regs, o, first, pa, w, sq, hput, hfirst, hkeeps⟩ := u.putLog_frame m 2 1
  rw [h.first, h.least, h.nextSeq] at hfirst
  rw [h.first] at hkeeps
  rw [hput, h.nextSeq]
  obtain ⟨a, b, hstart, hmem⟩ := State.startTest_plain (s := { u with regs := regs, flt := { u.flt with
    openOld := o, log := u.flt.log.set (s.flt.nextSeq % 4096) (m.entry s.flt.nextSeq 2 1), nextSeq := (s.flt.nextSeq + 1) % 2 ^ 32
    first := first, pageAt := pa, urgent := w, safeSeq := sq } }) (x := ⟨s.flt.nextSeq, m, false⟩) hc
  rw [hstart]
  exact ⟨h.queues, State.logAt_eq_some.2 ⟨Tbl.find?_set_same _ _ _, rfl⟩, rfl, hfirst, hkeeps, fun hr => absurd hr (by decide), fun _ => hmem,
    fun hr => absurd hr (by decide)⟩

theorem State.LogAgrees.enterSafe (h : s.LogAgrees u) : s.LogAgrees u.enterSafe := by
  obtain ⟨f, hstops, hflt⟩ := u.enterSafe_stops
  refine ⟨?_, ?_, ?_, (u.enterSafe_faults.fld_eq (by decide) (by decide) 61 60).trans h.least⟩ <;> rw [hflt]
  · exact h.queues
  · exact h.nextSeq
  · exact h.first

/-- Logging by the reaction: an entry alone, the safe state, or the test of a unit that is neither a lane nor a row (R436, R442, R443). -/
theorem State.logFault_logs (h : s.reactionOf m.kind m.sev = 1 ∨ s.reactionOf m.kind m.sev = 5 ∨ (s.reactionOf m.kind m.sev = 2
      ∧ (s.flt.tests ++ s.flt.waiting).any (fun t => t.msg.sameUnit m) = false
      ∧ s.flt.tracker.any (fun v => v.msg.sameUnit m && decide (s.local < v.until_)) = false ∧ 3 ≤ unitClass m.kind)) :
    s.Logs m (s.reactionOf m.kind m.sev) (s.logFault m false) := by
  obtain ⟨tie, notes, hlog⟩ := s.logFault_eq m
  have hu : s.LogAgrees { s with flt := { s.flt with tie := tie, notes := notes } } := ⟨rfl, rfl, rfl, rfl⟩
  rw [hlog]
  dsimp only
  rcases h with h | h | ⟨h, htests, htracker, hc⟩ <;> rw [h]
  · exact hu.putLog 1 (by decide) (fun hr => absurd hr (by decide)) fun _ => ⟨rfl, rfl⟩
  · exact hu.enterSafe.putLog 5 (by decide) (fun _ => State.enterSafe_safe _) fun hr => absurd hr (by decide)
  · have hself := State.selfTestOn_new (s := { s with flt := { s.flt with tie := tie, notes := notes } }) htests htracker
    exact (congrArg (s.Logs m 2) hself).mpr (hu.selfTest hc)

end

/-! ### What a unit finds -/

section
variable {s : State}

theorem State.raise_kept (s : State) (die block inst kind sev addr : Nat) :
    (s.raise die block inst kind sev addr).fresh = s.fresh.raise die block inst kind sev addr
      ∧ ∀ t, (s.raise die block inst kind sev addr).keptMem t = s.keptMem t := by
  constructor
  · unfold State.raise
    simp only [apply_ite State.fresh]
    rfl
  · intro t
    obtain ⟨r, f, h⟩ := s.raise_frame die block inst kind sev addr
    rw [h]
    rfl

theorem State.found_kept (s : State) (die : Nat) (f : Found) :
    (s.found die f).fresh = s.fresh.found die f ∧ ∀ t, (s.found die f).keptMem t = s.keptMem t := by
  have hite (c : Prop) [Decidable c] (block inst kind sev addr : Nat) :
      (if c then s.raise die block inst kind sev addr else s).fresh = (if c then s.fresh.raise die block inst kind sev addr else s.fresh)
        ∧ ∀ t, (if c then s.raise die block inst kind sev addr else s).keptMem t = s.keptMem t := by
    split
    · exact s.raise_kept die block inst kind sev addr
    · exact ⟨rfl, fun _ => rfl⟩
  cases f with
  | streamEngine e => exact hite _ _ _ _ _ _
  | poolEngine e a => exact hite _ _ _ _ _ _
  | replicationEngine e => exact hite _ _ _ _ _ _
  | router i => exact hite _ _ _ _ _ _

/-- A first message of a severity of 2 or more is queued. -/
theorem State.raise_firstMajor {die sev : Nat} (h : s.flt.queues.get die [] = []) (hs : 2 ≤ sev) (block inst kind addr : Nat) :
    (s.raise die block inst kind sev addr).flt.queues.get die [] = [⟨die, block, inst, kind, sev, s.now, addr⟩] := by
  simp [State.raise, h, Nat.not_lt.2 hs]

theorem State.found_streamEngine {die e : Nat} (h8 : 8 ≤ die) (h12 : die < 12) (he : e < 128) :
    s.found die (.streamEngine e) = s.raise die 0x0B e 0x028 1 0 := by
  simp [State.found, h8, h12, he]

theorem State.found_router {die i : Nat} (h12 : 12 ≤ die) (h20 : die < 20) (hi : i < 2640) :
    s.found die (.router i) = s.raise die 0x11 i 0x036 2 0 := if_pos ⟨h12, h20, hi⟩

theorem bodyFaultMessageTake_found (hp : s.pins.pwrGood = true) (die : Nat) (tie : Bool) (f : Found) :
    bodyFaultMessageTake die tie (some f) s = bodyFaultMessageTake die tie none (s.found die f) := by
  unfold bodyFaultMessageTake
  dsimp only
  rw [if_pos hp]

theorem execFaultMessageTake_found (hp : s.pins.pwrGood = true) (die : Nat) (tie : Bool) (f : Found) :
    exec (.faultMessageTake die tie (some f)) s = exec (.faultMessageTake die tie none) (s.found die f) := by
  obtain ⟨hfresh, hkept⟩ := s.found_kept die f
  have hbody := bodyFaultMessageTake_found (s := s.fresh) hp die tie f
  rw [← hfresh] at hbody
  exact (commitMem_of hbody).trans (congrArg Host.Outcome.next (hkept _).symm)

end

/-! ### Isolation -/

theorem State.reactionOf_minor (s : State) (kind : Nat) {sev : Nat} (h : sev ≠ 3) : s.reactionOf kind sev = s.reactionOf kind 0 := by
  simp only [State.reactionOf, h, (by decide : (0 : Nat) ≠ 3)]

theorem State.reactionOf_congr {s t : State} {kind : Nat} (h : t.reg .fltReact [kind] = s.reg .fltReact [kind]) (sev : Nat) :
    t.reactionOf kind sev = s.reactionOf kind sev := by
  have hf : t.fld .fltReact [kind] 63 61 = s.fld .fltReact [kind] 63 61 := by rw [State.fld, State.fld, h]
  unfold State.reactionOf
  rw [hf]

theorem State.windowNs_congr {s t : State} {kind : Nat} (h : t.reg .fltReact [kind] = s.reg .fltReact [kind]) : t.windowNs kind = s.windowNs kind := by
  have hf : t.fld .fltReact [kind] 60 44 = s.fld .fltReact [kind] 60 44 := by rw [State.fld, State.fld, h]
  unfold State.windowNs
  rw [hf]

theorem addr_fltReact (kind : Nat) : Reg.addr .fltReact [kind] = 0x301000 + 8 * kind := rfl

/-- The counts of tests lie apart from the reactions. -/
theorem State.fltReact_testCounted (s : State) (hi lo n kind : Nat) : (s.bump .fltSelftest [] hi lo n).reg .fltReact [kind] = s.reg .fltReact [kind] :=
  s.reg_bump_other _ _ _ _ _ _ _ (by rw [addr_fltReact]; exact Nat.ne_of_gt (Nat.lt_of_lt_of_le (by decide) (Nat.le_add_right _ _)))

/-- An isolation is recorded and logged, with no domain reset for it. -/
structure State.Isolates (s : State) (m : FaultMsg) (t : State) : Prop where
  isol    : t.flt.isol = s.flt.isol ++ [⟨m.die, m.block, m.inst, m.kind, m.unit_, false⟩]
  nextSeq : t.flt.nextSeq = (s.flt.nextSeq + 1) % 2 ^ 32
  log     : ∃ x, t.flt.log = s.flt.log.set (s.flt.nextSeq % 4096) x
  tests   : t.flt.tests = s.flt.tests ∧ t.flt.waiting = s.flt.waiting
  fab     : t.fabView = s.fabView
  slots   : ∀ k, t.islot k = s.islot k ∨ t.islot k = {}

section
variable {s : State} {m : FaultMsg}

theorem State.logIsolated_isolates {sev : Nat} (hsev : sev ≠ 3) (hr : s.reactionOf 0x0FF 0 ≠ 4) : s.Isolates m (s.logIsolated m sev) := by
  have hsev' : (if 1024 ≤ s.flt.isol.length then 2 else sev) ≠ 3 := by split_ifs <;> omega
  have hr' := (s.reactionOf_minor 0x0FF hsev').trans_ne hr
  unfold State.logIsolated
  dsimp only
  generalize (if 1024 ≤ s.flt.isol.length then 2 else sev) = sv at hr' ⊢
  generalize s.reactionOf 0x0FF sv = r at hr' ⊢
  rw [if_neg fun h => hr' h.1]
  obtain ⟨u, hu, hflt, hfab, hslots⟩ : ∃ u : State, (if r = 5 then s.enterSafe else s) = u
      ∧ (∃ b f, u.flt = { s.flt with safe := b, safeSeq := f }) ∧ u.fabView = s.fabView ∧ ∀ k, u.islot k = s.islot k ∨ u.islot k = {} := by
    refine ⟨_, rfl, ?_⟩
    split_ifs
    · obtain ⟨f, h, hflt⟩ := s.enterSafe_stops
      exact ⟨⟨true, f, hflt⟩, h.fab, h.slots⟩
    · exact ⟨⟨s.flt.safe, s.flt.safeSeq, rfl⟩, rfl, fun _ => .inl rfl⟩
  rw [hu]
  obtain ⟨b, f, hflt⟩ := hflt
  obtain ⟨regs, o, first, pa, w, sq, hput, -, -⟩ := State.putLog_frame
    { u with flt := { u.flt with isol := u.flt.isol ++ [⟨m.die, m.block, m.inst, m.kind, m.unit_, false⟩] } }
    ⟨m.die, m.block, m.inst, 0x0FF, sv, u.now, m.addr⟩ r 0
  rw [hput, hflt]
  exact ⟨rfl, rfl, ⟨_, rfl⟩, ⟨rfl, rfl⟩, hfab, hslots⟩

/-! ### The end of a test -/

theorem State.nextTests_nothing (h : s.flt.waiting = []) : s.nextTests = s := by
  simp only [State.nextTests, h, List.take_nil, List.drop_nil, List.foldl_nil]
  rw [← h]

variable {seq : Nat} {t : SelfTest}

theorem bodySelftestDone_passes (ht : s.flt.tests.find? (fun t => t.seq == seq) = some t) (hb : s.rowBusy t.msg = false) (ha : t.again = false)
    (hc : unitClass t.msg.kind ≠ 2) : bodySelftestDone seq .pass s =
      (((({ s with flt := { s.flt with tests := s.flt.tests.filter fun x => x.seq != seq } } : State).onLog seq fun e => { e with verdict := 2 }).bump
        .fltSelftest [] 43 22).trackVerdict t.msg).nextTests := by
  unfold bodySelftestDone
  rw [ht]
  dsimp only
  rw [hb, if_neg Bool.false_ne_true, if_pos ⟨rfl, ha⟩, if_neg hc]

theorem State.isolate_row (hc : unitClass m.kind = 2) : s.isolate m = (s.withholdRow m).logIsolated m 0 := by
  simp only [State.isolate, hc]

theorem bodySelftestDone_fails (ht : s.flt.tests.find? (fun t => t.seq == seq) = some t) (hb : s.rowBusy t.msg = false)
    (hc : unitClass t.msg.kind = 2) : bodySelftestDone seq .fail s =
      ((((({ s with flt := { s.flt with tests := s.flt.tests.filter fun x => x.seq != seq } } : State).onLog seq fun e => { e with verdict := 3 }).bump
        .fltSelftest [] 21 0).withholdRow t.msg).logIsolated t.msg 0).nextTests := by
  unfold bodySelftestDone
  rw [ht]
  dsimp only
  rw [hb, if_neg Bool.false_ne_true, if_neg fun h => TestResult.noConfusion h.1, State.isolate_row hc]
  rfl

theorem State.trackVerdict_frame (s : State) (m : FaultMsg) : ∃ l, s.trackVerdict m = { s with flt := { s.flt with tracker := l } } := ⟨_, rfl⟩

theorem State.trackVerdict_tracker (hl : s.flt.tracker.length < 1024) :
    (s.trackVerdict m).flt.tracker = s.flt.tracker ++ [⟨m, s.local + s.windowNs m.kind⟩] := by
  have hdrop : (s.flt.tracker ++ [(⟨m, s.local + s.windowNs m.kind⟩ : Verdict)]).length - 1024 = 0 := by
    rw [List.length_append, List.length_singleton]
    omega
  unfold State.trackVerdict
  dsimp only
  rw [hdrop, List.drop_zero]

/-- A test that passes with no second message: VERDICT 2, and the tracker takes the verdict for its window (R443). -/
theorem bodySelftestDone_pass_spec {e : LogEntry} (ht : s.flt.tests.find? (fun t => t.seq == seq) = some t) (hb : s.rowBusy t.msg = false)
    (hw : s.flt.waiting = []) (he : s.logAt seq = some e) (ha : t.again = false) (hc : unitClass t.msg.kind ≠ 2) (hl : s.flt.tracker.length < 1024) :
    let u := bodySelftestDone seq .pass s
    u.logAt seq = some { e with verdict := 2 } ∧ u.flt.tests = s.flt.tests.filter (fun x => x.seq != seq)
      ∧ u.flt.tracker = s.flt.tracker ++ [⟨t.msg, s.local + s.windowNs t.msg.kind⟩] ∧ u.flt.isol = s.flt.isol
      ∧ u.fld .fltSelftest [] 43 22 = satAdd 22 (s.fld .fltSelftest [] 43 22) 1 := by
  intro u
  have hon := State.onLog_of_logAt (s := { s with flt := { s.flt with tests := s.flt.tests.filter fun x => x.seq != seq } }) he
    fun e => { e with verdict := 2 }
  obtain ⟨v, hv, hvflt, hvlocal, hvreg, hvfld⟩ : ∃ v : State, (({ s with flt := { s.flt with tests := s.flt.tests.filter fun x => x.seq != seq } } :
      State).onLog seq fun e => { e with verdict := 2 }).bump .fltSelftest [] 43 22 = v
      ∧ v.flt = { s.flt with tests := s.flt.tests.filter fun x => x.seq != seq, log := s.flt.log.set (seq % 4096) { e with verdict := 2 } }
      ∧ v.local = s.local ∧ v.reg .fltReact [t.msg.kind] = s.reg .fltReact [t.msg.kind]
      ∧ v.fld .fltSelftest [] 43 22 = satAdd 22 (s.fld .fltSelftest [] 43 22) 1 := by
    refine ⟨_, rfl, ?_⟩
    rw [hon]
    exact ⟨rfl, rfl, s.fltReact_testCounted 43 22 1 _, (s.fld_bump_same _ _ _ _ _).trans (satAdd_mod _ _ _)⟩
  have htrack : (v.trackVerdict t.msg).flt.tracker = s.flt.tracker ++ [⟨t.msg, s.local + s.windowNs t.msg.kind⟩] := by
    rw [State.trackVerdict_tracker (by rw [hvflt]; exact hl), hvflt, hvlocal, State.windowNs_congr hvreg]
  obtain ⟨l, hframe⟩ := v.trackVerdict_frame t.msg
  have hu : u = v.trackVerdict t.msg := by
    refine (bodySelftestDone_passes ht hb ha hc).trans ?_
    rw [hv, hframe]
    exact State.nextTests_nothing (by rw [hvflt]; exact hw)
  refine ⟨State.logAt_eq_some.2 ⟨?_, (State.logAt_eq_some.1 he).2⟩, ?_, hu ▸ htrack, ?_, ?_⟩ <;> rw [hu, hframe]
  · rw [hvflt]
    exact Tbl.find?_set_same _ _ _
  · rw [hvflt]
  · rw [hvflt]
  · exact hvfld

theorem bodySelftestDone_fail_spec {e : LogEntry} (ht : s.flt.tests.find? (fun t => t.seq == seq) = some t) (hb : s.rowBusy t.msg = false)
    (hw : s.flt.waiting = []) (he : s.logAt seq = some e) (hc : unitClass t.msg.kind = 2) (hn : seq % 4096 ≠ s.flt.nextSeq % 4096)
    (hr : s.reactionOf 0x0FF 0 ≠ 4) :
    let u := bodySelftestDone seq .fail s
    u.logAt seq = some { e with verdict := 3 } ∧ u.flt.tests = s.flt.tests.filter (fun x => x.seq != seq)
      ∧ u.flt.isol = s.flt.isol ++ [⟨t.msg.die, t.msg.block, t.msg.inst, t.msg.kind, t.msg.unit_, false⟩]
      ∧ u.flt.nextSeq = (s.flt.nextSeq + 1) % 2 ^ 32 := by
  intro u
  have hon := State.onLog_of_logAt (s := { s with flt := { s.flt with tests := s.flt.tests.filter fun x => x.seq != seq } }) he
    fun e => { e with verdict := 3 }
  obtain ⟨v, hv, hvreg, hvflt⟩ : ∃ v : State, ((({ s with flt := { s.flt with tests := s.flt.tests.filter fun x => x.seq != seq } } : State).onLog seq
      fun e => { e with verdict := 3 }).bump .fltSelftest [] 21 0).withholdRow t.msg = v
      ∧ v.reg .fltReact [0x0FF] = s.reg .fltReact [0x0FF]
      ∧ v.flt = { s.flt with tests := s.flt.tests.filter fun x => x.seq != seq, log := s.flt.log.set (seq % 4096) { e with verdict := 3 } } := by
    refine ⟨_, rfl, ?_, ?_⟩
    · rw [hon]
      exact s.fltReact_testCounted 21 0 1 0x0FF
    · rw [hon]
      rfl
  have hiso : v.Isolates t.msg (v.logIsolated t.msg 0) :=
    State.logIsolated_isolates (by decide) (by rw [State.reactionOf_congr hvreg]; exact hr)
  have hu : u = v.logIsolated t.msg 0 := by
    refine (bodySelftestDone_fails ht hb hc).trans ?_
    rw [hv]
    exact State.nextTests_nothing (hiso.tests.2.trans (by rw [hvflt]; exact hw))
  obtain ⟨x, hx⟩ := hiso.log
  rw [hvflt] at hx
  rw [hu]
  refine ⟨State.logAt_eq_some.2 ⟨?_, (State.logAt_eq_some.1 he).2⟩, hiso.tests.1.trans (by rw [hvflt]), hiso.isol.trans (by rw [hvflt]),
    hiso.nextSeq.trans (by rw [hvflt])⟩
  rw [hx, Tbl.find?_set_other _ _ hn]
  exact Tbl.find?_set_same _ _ _

/-! ### Spare columns -/

theorem bodySpareSelftestDone_passes {u : Subst} (h : s.fab.subst = some u) (hp : u.passed = false) :
    bodySpareSelftestDone u.die .pass s = (({ s with fab := { s.fab with subst := some { u with passed := true } } } : State).setFld .fabSpare [u.die]
      63 63 1).setFld .fabSpare [u.die] 62 57 u.pcol := by
  unfold bodySpareSelftestDone
  rw [h]
  dsimp only
  rw [if_neg (by rw [hp]; simp), if_pos rfl]

theorem bodySubstitutionComplete_passed {u : Subst} (h : s.fab.subst = some u) (hp : u.passed = true) :
    bodySubstitutionComplete u.die s = ((s.endSubst u).logIsolated u.msg 1).nextSubst := by
  unfold bodySubstitutionComplete
  rw [h]
  exact if_pos ⟨rfl, hp⟩

theorem State.nextSubst_nothing (h : s.fab.substq = []) : s.nextSubst = s := by
  rw [State.nextSubst, h]

/-- A quiesced slot goes on. -/
def State.slotResumed (s : State) (k : Nat) : State :=
  if (s.islot k).state = .empty then s else (s.setIslot k { s.islot k with quiet := false }).streamSlot k

theorem State.endSubst_eq (u : Subst) :
    s.endSubst u = (u.slots.foldl State.slotResumed { s with fab := { s.fab with subst := none } }).openHeld u.from_ := rfl

theorem State.islot_streamSlot (k j : Nat) : (s.streamSlot k).islot j = s.islot j :=
  foldl_keeps (fun t : State => t.islot j) (fun (s : State) n => s.streamIssue (n / 128) (n % 128)) (fun t n => by
    unfold State.streamIssue
    dsimp only
    split_ifs <;> rfl) _ s

/-- A slot that goes on, or is empty. -/
def State.Resumed (s : State) (k : Nat) : Prop := (s.islot k).quiet = false ∨ (s.islot k).state = .empty

theorem State.slotResumed_same (k : Nat) : (s.slotResumed k).Resumed k := by
  unfold State.slotResumed
  split_ifs with h
  · exact .inr h
  · refine .inl ?_
    rw [State.islot_streamSlot, State.islot, State.setIslot, Tbl.get_set_same]

theorem State.slotResumed_keeps (j k : Nat) (h : s.Resumed k) : (s.slotResumed j).Resumed k := by
  by_cases hj : k = j
  · rw [hj]
    exact State.slotResumed_same j
  · unfold State.slotResumed
    split_ifs
    · exact h
    · rw [State.Resumed, State.islot_streamSlot, State.islot, State.setIslot, Tbl.get_set_other _ _ _ hj]
      exact h

/-- A state without the slots and engines of the fabric. -/
def State.sansSlots (s : State) : State := { s with fab := { s.fab with slots := [], engines := [] } }

theorem State.streamSlot_sansSlots (k : Nat) : (s.streamSlot k).sansSlots = s.sansSlots :=
  foldl_keeps State.sansSlots (fun (s : State) n => s.streamIssue (n / 128) (n % 128)) (fun t n => by
    unfold State.streamIssue
    dsimp only
    split_ifs <;> rfl) _ s

theorem State.slotResumed_sansSlots (k : Nat) : (s.slotResumed k).sansSlots = s.sansSlots := by
  unfold State.slotResumed
  split_ifs
  · rfl
  · exact State.streamSlot_sansSlots k

/-- The end of a substitution: its slots go on, and nothing else but the contexts' entries changes. -/
theorem State.endSubst_ends (u : Subst) : (s.endSubst u).regs = s.regs ∧ (s.endSubst u).flt = s.flt
    ∧ (s.endSubst u).fabView = (none, s.fab.retired, s.fab.substq) ∧ ∀ k ∈ u.slots, (s.endSubst u).Resumed k := by
  have h : (u.slots.foldl State.slotResumed { s with fab := { s.fab with subst := none } }).sansSlots
      = ({ s with fab := { s.fab with subst := none } } : State).sansSlots :=
    foldl_keeps State.sansSlots State.slotResumed (fun t k => t.slotResumed_sansSlots k) _ _
  refine ⟨(congrArg State.regs h :), (congrArg State.flt h :), (congrArg State.fabView h :), fun k hk => ?_⟩
  exact foldl_established (P := fun t : State => t.Resumed k) (fun t j => t.slotResumed_keeps j k) (fun t => t.slotResumed_same k) hk
    { s with fab := { s.fab with subst := none } }

end

end Sys2Proof.Machine

open Sys2Proof Sys2Proof.Machine

/-- Settles O55: one rule for what an entry of the log leaves, used by the reactions, the ends of tests and the end of a substitution. -/
theorem faultsAreLoggedAndTested : Obligations.FaultsAreLoggedAndTested := by
  refine ⟨fun s die m rest hq hh => ?_, fun s die tie f hp => ⟨execFaultMessageTake_found hp die tie f, fun h8 h12 hempty e he => ?_,
    fun h12 h20 hempty i hi => ?_⟩, fun s => ⟨commit_of_keptParts rfl rfl, fun seq t e ht hb hw he => ⟨fun ha hc hl => ?_, fun hc hn hr => ?_⟩⟩,
    fun s u hsafe hu => ⟨fun hp hdie hcol => ?_, fun hp hnext hr => ?_⟩⟩
  · intro n
    have hqueue := s.fresh.dequeueFault_queue hq hh
    refine ⟨fun k e hk he => ?_, fun hnone hnote => ?_⟩
    · refine ⟨_, commitMem_of (bodyFaultMessageTake_merges (s := s.fresh) hq hk), ?_⟩
      have hon := State.onLog_of_logAt (s := s.fresh.dequeueFault die) he fun e => { e with rep := min 0xFFFF (e.rep + 1) }
      have hat := State.logAt_onLog (s := s.fresh.dequeueFault die) he (f := fun e => { e with rep := min 0xFFFF (e.rep + 1) }) rfl
      rw [hon] at hat ⊢
      exact ⟨hqueue, rfl, hat⟩
    · intro r hr
      have h := State.logFault_logs (s := s.fresh.dequeueFault die) (m := m) hr
      refine ⟨_, _, commitMem_of (bodyFaultMessageTake_logs (s := s.fresh) hq hnone hnote), (congrArg (Tbl.get · die []) h.queues).trans hqueue,
        h.entry, rfl, rfl, rfl, rfl, rfl, h.nextSeq, h.first, h.keeps, h.safe, h.tests, h.alone⟩
  · rw [State.found_streamEngine h8 h12 he]
    exact State.raise_first hempty _ _ _ _
  · rw [State.found_router h12 h20 hi]
    exact State.raise_firstMajor hempty (le_refl 2) _ _ _ _
  · obtain ⟨hlog, htests, htracker, hisol, hcount⟩ := bodySelftestDone_pass_spec (s := s.fresh) ht hb hw he ha hc hl
    exact ⟨_, commitMem_of rfl, hlog, htests, htracker, hisol, (State.keptMem_fld ..).trans hcount⟩
  · obtain ⟨hlog, htests, hisol, hseq⟩ := bodySelftestDone_fail_spec (s := s.fresh) ht hb hw he hc hn hr
    exact ⟨_, commitMem_of rfl, hlog, htests, hisol, hseq⟩
  · refine ⟨_, commitMem_unlessSafe hsafe (bodySpareSelftestDone_passes (s := s.fresh) hu hp), rfl, rfl, ?_, ?_⟩
    · exact (State.fld_setFld_above _ _ _ _ _ _ _ _ (by omega) (by omega)).trans (State.fld_setFld_same _ _ _ _ _ _)
    · exact (State.fld_setFld_same _ _ _ _ _ _).trans (Nat.mod_eq_of_lt hcol)
  · obtain ⟨hregs, hflt, hfab, hslots⟩ := s.fresh.endSubst_ends u
    have hiso : (s.fresh.endSubst u).Isolates u.msg ((s.fresh.endSubst u).logIsolated u.msg 1) :=
      State.logIsolated_isolates (by decide) (by rw [State.reactionOf_congr (s := s) (by rw [State.reg, State.reg, hregs]; rfl)]; exact hr)
    have hview := hiso.fab.trans hfab
    have hbody := (bodySubstitutionComplete_passed (s := s.fresh) hu hp).trans (State.nextSubst_nothing ((congrArg (fun v => v.2.2) hview).trans hnext))
    refine ⟨_, commitMem_unlessSafe hsafe hbody, (congrArg Prod.fst hview :), (congrArg (fun v => v.2.1) hview :), fun k hk => ?_,
      hiso.isol.trans (by rw [hflt]; rfl)⟩
    rcases hiso.slots k with h | h
    · have := hslots k hk
      rwa [State.Resumed, ← h] at this
    · exact .inl (congrArg ImgSlot.quiet h)
end

section
/-!
PROOFS. What the loss of a link leaves of the registers and of the port dies' fault queues, for the chapters on faults and on recovery.
-/

namespace Sys2Proof.Machine

/-- The address of a register that no loss of a link writes: an always-on one but for the count of lost messages, or a port's settings. -/
def settled (a : Nat) : Prop := a ≠ Reg.addr .fltCounts [] ∧ (a < 0x1000000 ∨ (a < 0x2000000 ∧ a % 0x100000 < 0x6000))

/-- Such registers keep their words, and the port dies' queues of messages what they hold. -/
structure State.Sheds (s t : State) : Prop where
  regs   : ∀ a, settled a → t.regs.find? a = s.regs.find? a
  queues : ∀ die, die < 8 → t.flt.queues.get die [] = s.flt.queues.get die []

section
variable {s t u : State}

theorem State.Sheds.refl (s : State) : s.Sheds s := ⟨fun _ _ => rfl, fun _ _ => rfl⟩

theorem State.Sheds.trans (h : s.Sheds t) (h' : t.Sheds u) : s.Sheds u :=
  ⟨fun a ha => (h'.regs a ha).trans (h.regs a ha), fun d hd => (h'.queues d hd).trans (h.queues d hd)⟩

theorem State.Sheds.ite {c : Prop} [Decidable c] (ht : s.Sheds t) (hu : s.Sheds u) : s.Sheds (if c then t else u) := by
  split
  · exact ht
  · exact hu

theorem State.Sheds.foldl {β : Type} {f : State → β → State} (h : ∀ (t : State) (b : β), t.Sheds (f t b)) (l : List β) (s : State) :
    s.Sheds (l.foldl f s) :=
  foldl_invariant (fun t b (ht : s.Sheds t) => ht.trans (h t b)) l (State.Sheds.refl s)

theorem State.Sheds.of_regs_flt (hr : t.regs = s.regs) (hf : t.flt = s.flt) : s.Sheds t := ⟨fun _ _ => by rw [hr], fun _ _ => by rw [hf]⟩

theorem State.Sheds.of_regsBut {as : List Nat} (hr : s.regsBut t as) (ha : ∀ a ∈ as, ¬settled a) (hf : t.flt = s.flt) : s.Sheds t :=
  ⟨fun a h => hr a fun hm => ha a hm h, fun _ _ => by rw [hf]⟩

theorem State.Sheds.reg_eq (h : s.Sheds t) {r : Reg} {is : List Nat} (ha : settled (r.addr is)) : t.reg r is = s.reg r is := by
  rw [State.reg, State.reg, Tbl.get, Tbl.get, h.regs _ ha]

theorem settled_prtPortCfg {p : Nat} (hp : p < 768) : settled (Reg.addr .prtPortCfg (portIdx p)) := by
  rw [addr_prtPortCfg]
  exact ⟨Nat.ne_of_gt (Nat.lt_of_lt_of_le (by decide) (Nat.le_trans (Nat.le_add_right _ _) (Nat.le_add_right _ _))), .inr (by omega)⟩

theorem State.Sheds.cfg (h : s.Sheds t) {p : Nat} (hp : p < 768) (hi lo : Nat) :
    t.fld .prtPortCfg (portIdx p) hi lo = s.fld .prtPortCfg (portIdx p) hi lo := by
  rw [State.fld, State.fld, h.reg_eq (settled_prtPortCfg hp)]

theorem State.Sheds.isPort (h : s.Sheds t) (p : Nat) : t.isPort p = s.isPort p := by
  rw [State.isPort, State.isPort]
  by_cases hp : p < 768
  · rw [State.speed, State.speed, h.cfg hp]
  · rw [decide_eq_false hp, Bool.false_and, Bool.false_and]

end

section
variable (s : State)

theorem State.raise_sheds {die : Nat} (hd : 8 ≤ die) (block inst kind sev addr : Nat) : s.Sheds (s.raise die block inst kind sev addr) := by
  refine ⟨fun a ha => s.raise_regs die block inst kind sev addr a (by simpa using ha.1), fun d hd8 => ?_⟩
  have hne : d ≠ die := by omega
  unfold State.raise
  dsimp only
  split_ifs
  · exact Tbl.get_set_other _ _ _ hne
  · rfl
  · exact Tbl.get_set_other _ _ _ hne
  · rfl
  · rfl

theorem addr_bpmErr (p : Nat) : Reg.addr .bpmErr [p] = 0x5000010 + 0x20 * p := rfl

theorem not_settled_of_le {a : Nat} (h : 0x2000000 ≤ a) : ¬settled a := fun ⟨_, hs⟩ => by omega

theorem State.bump_sheds (r : Reg) (is : List Nat) (hi lo n : Nat) (ha : ¬settled (r.addr is)) : s.Sheds (s.bump r is hi lo n) :=
  .of_regsBut (s.regsBut_bump (as := [r.addr is]) List.mem_cons_self hi lo n) (fun a hm => by rwa [List.mem_singleton.1 hm]) rfl

theorem State.bufCount_sheds (h c i : Nat) : s.Sheds (s.bufCount h c i) :=
  s.bump_sheds _ _ _ _ _ (not_settled_of_le (by rw [addr_bufCnt]; omega))

theorem State.portCount_sheds (p i n : Nat) (hi : i < 20) : s.Sheds (s.portCount p i n) := by
  refine s.bump_sheds _ _ _ _ _ fun ⟨_, h⟩ => ?_
  rw [addr_prtCnt] at h
  omega

theorem State.bpmRelease_sheds (p i owner tag : Nat) : s.Sheds (s.bpmRelease p i owner tag) := by
  cases h : (s.pool p).release i owner tag with
  | done q =>
    rw [State.bpmRelease, h]
    exact .of_regs_flt rfl rfl
  | refused k =>
    obtain ⟨die, addr, hd, hr⟩ := State.bpmRelease_refused h
    have herr : ¬settled (Reg.addr .bpmErr [p]) := not_settled_of_le (by rw [addr_bpmErr]; omega)
    have hcounted : s.Sheds (s.refusalCounted p k) := s.bump_sheds _ _ _ _ _ herr
    rw [hr]
    refine .trans (hcounted.trans ?_) (State.raise_sheds _ hd _ _ _ _ _)
    refine .ite (.of_regsBut (State.regsBut_setReg _ _ _ _) (fun a ha => ?_) rfl) (.refl _)
    rw [List.mem_singleton.1 ha]
    exact not_settled_of_le (by decide)

theorem State.mirrorAt_sheds (die : Nat) (v : Seen) : s.Sheds (s.mirrorAt die v) := by
  refine .of_regsBut (s.mirrorAt_regsBut die v) (fun a ha => not_settled_of_le ?_) (by rw [s.mirrorAt_only die v])
  obtain ⟨h, -, rfl⟩ := List.mem_map.1 ha
  exact Nat.le_trans (by decide : 0x2000000 ≤ 0x5000008) (Nat.le_add_right 0x5000008 _)

theorem State.creditItem_sheds (q : QItem) (n : Nat) : s.Sheds (s.creditItem q n) := by
  unfold State.creditItem State.creditBack
  split_ifs
  · exact .of_regs_flt rfl rfl
  · exact .refl s
  · exact .refl s

theorem State.deficitEnd_sheds (port cls : Nat) : s.Sheds (s.deficitEnd port cls) := .ite (.of_regs_flt rfl rfl) (.refl s)

theorem State.releaseAll_sheds (h owner tag : Nat) (bufs : List Nat) :
    s.Sheds (bufs.foldl (fun (s : State) b => s.bpmRelease h b owner tag) s) := .foldl (fun t b => t.bpmRelease_sheds h b owner tag) bufs s

theorem State.leaveGroup_sheds (h : Nat) (q : QItem) : s.Sheds (s.leaveGroup h q) := by
  unfold State.leaveGroup
  split
  · exact .refl s
  · split
    · exact .refl s
    · exact (s.releaseAll_sheds h _ _ _).trans (.ite (.of_regs_flt rfl rfl) (.refl _))

theorem State.recharged_sheds (h port cls : Nat) : s.Sheds (s.recharged h port cls) := .of_regs_flt rfl rfl

theorem State.leave_sheds (h : Nat) (q : QItem) : s.Sheds (s.leave h q) := by
  rw [State.leave_eq]
  have hfirst : s.Sheds (s.setHub h ((s.hub h).without q)) := .of_regs_flt rfl rfl
  exact ((((hfirst.trans (State.releaseAll_sheds _ h _ 0 q.bufs)).trans (State.leaveGroup_sheds _ h q)).trans (State.recharged_sheds _ _ _ _)).trans
    (State.creditItem_sheds _ _ _)).trans (State.deficitEnd_sheds _ _ _)

theorem State.pfcPort_sheds (h port : Nat) : s.Sheds (s.pfcPort h port) := by
  unfold State.pfcPort
  dsimp only
  cases (s.port port).sched.xoffAt with
  | none => exact .ite (.of_regs_flt rfl rfl) (.refl s)
  | some a => exact .ite (.of_regs_flt rfl rfl) (.refl s)

theorem State.pfcWatch_sheds (h : Nat) : s.Sheds (s.pfcWatch h) := .foldl (fun t p => t.pfcPort_sheds h p) _ s

theorem State.flushItem_sheds (h : Nat) (q : QItem) : s.Sheds (s.flushItem h q) := by
  unfold State.flushItem
  split_ifs
  · exact (s.leave_sheds h q).trans (State.pfcWatch_sheds _ _)
  · exact (s.mirrorAt_sheds _ _).trans ((State.leave_sheds _ _ _).trans ((State.bufCount_sheds _ _ _ _).trans (State.pfcWatch_sheds _ _)))

theorem State.cutLine_sheds (port : Nat) : s.Sheds (s.cutLine port) := .ite (.refl s) (.of_regs_flt rfl rfl)

theorem State.flushPort_sheds (port : Nat) : s.Sheds (s.flushPort port) := by
  rw [State.flushPort_eq]
  exact (s.cutLine_sheds port).trans (.foldl (f := fun (s : State) h => s.flushHub port h) (fun t h => .foldl (fun t q => t.flushItem_sheds h q) _ t) _ _)

theorem State.reportLive_sheds (p : Nat) (up : Bool) : s.Sheds (s.reportLive p up) := .of_regs_flt rfl rfl

theorem State.linkTo_sheds (p : Nat) (st : LinkState) : s.Sheds (s.linkTo p st) := by
  by_cases h : s.linkState p = .up
  · rw [State.linkTo_of_up h]
    have hreset : s.Sheds (s.resetPort p st) := .of_regs_flt rfl rfl
    exact (hreset.trans (State.portCount_sheds _ p 12 1 (by omega))).trans ((State.reportLive_sheds _ p false).trans (State.flushPort_sheds _ p))
  · rw [State.linkTo_of_down h]
    exact .of_regs_flt rfl rfl

theorem State.linkState_linkTo_same (p : Nat) (st : LinkState) : (s.linkTo p st).linkState p = st := by
  by_cases h : s.linkState p = .up
  · exact (State.linkTo_lostLink h).1
  · rw [State.linkTo_of_down h]
    exact State.linkState_setPort_same _ _ _

/-- A move of a port's link, up or down, leaves every other port's link as it is. -/
theorem State.linkState_linkTo_other {p q : Nat} (st : LinkState) (h : q ≠ p) : (s.linkTo p st).linkState q = s.linkState q := by
  have hreset : (s.resetPort p st).linkState q = s.linkState q := s.linkState_setPort_other _ h
  by_cases hup : s.linkState p = .up
  · rw [State.linkTo_of_up hup, State.linkState, (((s.resetPort p st).portCount p 12).reportLive p false).flushPort_loses p |>.link]
    exact hreset
  · rw [State.linkTo_of_down hup]
    exact hreset

end

end Sys2Proof.Machine
end

section
/-!
PROOFS. The log is mirrored and acknowledged; what enters the safe state (O56).
-/

namespace Sys2Proof.Machine

/-! ### The mirror (R439) -/

/-- What the mirror makes of one entry and its place on flash. -/
def mirroredAs : Option LogEntry × Option (List Nat) → Option LogEntry × Option (List Nat)
  | (some e, _) => (some { e with mirrored := true }, some (LogEntry.words { e with mirrored := true }))
  | (none, w) => (none, w)

/-- An entry of the log and its place on flash. -/
def State.mirrorPair (s : State) (q : Nat) : Option LogEntry × Option (List Nat) := (s.logAt q, s.nvm.mlog.find? (q % 131072))

/-- One entry of the page in hand is marked and written. -/
def State.mirrorEntry (s : State) (q : Nat) : State :=
  let s := s.onLog q fun e => { e with mirrored := true }
  match s.logAt q with
  | some e => { s with nvm := { s.nvm with mlog := s.nvm.mlog.set (q % 131072) e.words } }
  | none => s

section
variable (s : State)

theorem State.mirrorEntry_some {q : Nat} {e : LogEntry} (h : s.logAt q = some e) : s.mirrorEntry q = { s with
    flt := { s.flt with log := s.flt.log.set (q % 4096) { e with mirrored := true } }
    nvm := { s.nvm with mlog := s.nvm.mlog.set (q % 131072) (LogEntry.words { e with mirrored := true }) } } := by
  have hat := State.logAt_onLog h (f := fun e => { e with mirrored := true }) rfl
  unfold State.mirrorEntry
  dsimp only
  rw [hat]
  dsimp only
  rw [State.onLog_of_logAt h]

theorem State.mirrorEntry_none {q : Nat} (h : s.logAt q = none) : s.mirrorEntry q = s := by
  have hon (f : LogEntry → LogEntry) : s.onLog q f = s := by rw [State.onLog, h]
  unfold State.mirrorEntry
  dsimp only
  rw [hon, h]

theorem State.mirrorPair_same (q : Nat) : (s.mirrorEntry q).mirrorPair q = mirroredAs (s.mirrorPair q) := by
  cases h : s.logAt q with
  | none => rw [s.mirrorEntry_none h, State.mirrorPair, h]; rfl
  | some e =>
    rw [s.mirrorEntry_some h, State.mirrorPair, State.mirrorPair, h]
    exact Prod.ext (State.logAt_eq_some.2 ⟨Tbl.find?_set_same _ _ _, (State.logAt_eq_some.1 h).2⟩) (Tbl.find?_set_same _ _ _)

theorem State.mirrorPair_other {q p : Nat} (h : p % 4096 ≠ q % 4096) : (s.mirrorEntry q).mirrorPair p = s.mirrorPair p := by
  have h' : p % 131072 ≠ q % 131072 := by omega
  cases hq : s.logAt q with
  | none => rw [s.mirrorEntry_none hq]
  | some e =>
    rw [s.mirrorEntry_some hq, State.mirrorPair, State.mirrorPair, State.logAt, State.logAt]
    dsimp only
    rw [Tbl.find?_set_other _ _ h, Tbl.find?_set_other _ _ h']

/-- The first k entries from a sequence on are marked and written. -/
def State.pageMirrored (from_ k : Nat) (s : State) : State := (List.range k).foldl (fun (s : State) i => s.mirrorEntry ((from_ + i) % 2 ^ 32)) s

/-- The entries of a page of at most 128 are marked and written, each once. -/
theorem State.pageMirrored_entry (from_ : Nat) {k i : Nat} (hk : k ≤ 128) (hi : i < k) :
    (s.pageMirrored from_ k).mirrorPair ((from_ + i) % 2 ^ 32)
      = mirroredAs (s.mirrorPair ((from_ + i) % 2 ^ 32)) := by
  refine foldl_once (P := fun _ => True) (f := fun (s : State) i => s.mirrorEntry ((from_ + i) % 2 ^ 32))
    (g := fun t : State => t.mirrorPair ((from_ + i) % 2 ^ 32)) (F := mirroredAs) (fun _ _ h => h) (fun t _ => t.mirrorPair_same _)
    (fun t j hj hne => t.mirrorPair_other ?_) List.nodup_range (List.mem_range.2 hi) trivial
  have hj := List.mem_range.1 hj
  omega

/-- The page in hand ends after the k entries written of the n that wait. -/
def State.pageClosed (from_ k n : Nat) (s : State) : State := { s with flt := { s.flt with
  pageFrom := (from_ + k) % 2 ^ 32, pageAt := (if k < n then some s.local else none), wroteAt := s.local
  urgent := s.flt.urgent && decide (k < n) } }

theorem bodyLogMirrorWrite_urgent (hn : s.unmirrored.2 ≠ 0) (hu : s.flt.urgent = true) (hb : s.nvm.badB = false) :
    let k := min s.unmirrored.2 (128 - s.unmirrored.1 % 128)
    bodyLogMirrorWrite s = (s.pageMirrored s.unmirrored.1 k).pageClosed s.unmirrored.1 k s.unmirrored.2 := by
  have hnot (b : Bool) : ¬(s.unmirrored.2 = 0 ∨ s.nvm.badB = true ∨ (!(s.flt.urgent || b)) = true) := by simp [hn, hu, hb]
  intro k
  unfold State.pageMirrored
  -- The body is taken apart as a function: applied, the kernel would evaluate the pair that it matches on.
  conv_lhs =>
    fun
    delta bodyLogMirrorWrite
  subst k
  generalize s.unmirrored = p at hnot ⊢
  obtain ⟨a, n⟩ := p
  dsimp only at hnot ⊢
  rw [if_neg (hnot _)]
  refine congrArg (State.pageClosed a (min n (128 - a % 128)) n) (congrArg (fun f => List.foldl f s (List.range (min n (128 - a % 128))))
    (funext fun t => funext fun i => ?_))
  generalize (a + i) % 2 ^ 32 = q
  cases hat : (t.onLog q fun e => { e with mirrored := true }).logAt q <;> simp only [State.mirrorEntry, hat]

/-- The entries written leave the rest of fault collection as it is. -/
theorem State.pageMirrored_frame (from_ k : Nat) : ∃ l m, s.pageMirrored from_ k
    = { s with flt := { s.flt with log := l }, nvm := { s.nvm with mlog := m } } := by
  refine foldl_invariant (P := fun t : State => ∃ l m, t = { s with flt := { s.flt with log := l }, nvm := { s.nvm with mlog := m } })
    (f := fun (s : State) i => s.mirrorEntry ((from_ + i) % 2 ^ 32)) (fun t i ⟨l, m, ht⟩ => ?_) (List.range k) ⟨_, _, rfl⟩
  dsimp only
  cases h : t.logAt ((from_ + i) % 2 ^ 32) with
  | none => exact ⟨l, m, (t.mirrorEntry_none h).trans ht⟩
  | some e =>
    rw [t.mirrorEntry_some h, ht]
    exact ⟨_, _, rfl⟩

/-! ### Acknowledgement (R446) -/

theorem Tbl.find?_map {α : Type} (t : Tbl α) (f : α → α) (k : Nat) : Tbl.find? (t.map fun e => (e.1, f e.2)) k = (Tbl.find? t k).map f := by
  induction t with
  | nil => rfl
  | cons e t ih =>
    by_cases h : e.1 = k
    · exact (if_pos h).trans (congrArg (Option.map f) (if_pos h : Tbl.find? (e :: t) k = _).symm)
    · exact (if_neg h).trans (ih.trans (congrArg (Option.map f) (if_neg h : Tbl.find? (e :: t) k = _).symm))

/-- An open entry within 2^31 behind the sequence closes; a FATAL one not in the safe state. -/
def State.acked (s : State) (a : Nat) (e : LogEntry) : LogEntry :=
  { e with isOpen := e.isOpen && !(decide ((a + 2 ^ 32 - e.seq) % 2 ^ 32 < 2 ^ 31) && !(e.msg.sev == 3 && s.flt.safe)) }

theorem bodyFltAck_eq (a : Nat) : ∃ o, bodyFltAck a s = { s with flt := { s.flt with log := s.flt.log.map fun e => (e.1, s.acked a e.2), openOld := o } } := by
  refine ⟨(bodyFltAck a s).flt.openOld, ?_⟩
  unfold bodyFltAck
  dsimp only
  congr 3
  funext ⟨k, e⟩
  unfold State.acked
  dsimp only
  split_ifs with h
  · rw [h.1, h.2]
    rfl
  · cases ho : e.isOpen with
    | false => rw [Bool.false_and, ← ho]
    | true => rw [Bool.eq_false_iff.2 fun hh => h ⟨ho, hh⟩, Bool.not_false, Bool.and_true, ← ho]

/-! ### What enters the safe state (R448, R449) -/

/-- The state `t` that a command leaves of `s` is the safe state: no port that is known is out of DISABLED, no line sends another frame. -/
def State.EndsSafe (s t : State) : Prop :=
  t.flt.safe = true ∧ t.mem = s.mem ∧ t.sent.map Prod.fst = s.sent.map Prod.fst ∧ (s.flt.safe = true → t.sent = s.sent)
    ∧ (s.flt.safe = false → ∀ p, t.linkState p = .disabled ∨ s.ports.find? p = none)

/-- A FATAL detection is the entry of the safe state from one with the same ports and lines. -/
theorem State.fatal_enters (die block inst kind addr : Nat) : ∃ v : State, s.fatal die block inst kind addr = v.enterSafe
    ∧ v.ports = s.ports ∧ v.sent = s.sent ∧ v.flt.safe = s.flt.safe := by
  obtain ⟨r, f, hraise⟩ := s.raise_frame die block inst kind 3 addr
  obtain ⟨q, h, hflt⟩ := s.raise_flt die block inst kind 3 addr
  rw [State.fatal_eq]
  generalize s.raise die block inst kind 3 addr = t at hraise hflt ⊢
  refine ⟨_, rfl, ?_⟩
  unfold State.dumpsAt
  split_ifs
  · exact ⟨by rw [hraise], by rw [hraise], (congrArg FltSt.safe hflt :)⟩
  · exact ⟨by rw [hraise], by rw [hraise], (congrArg FltSt.safe hflt :)⟩

/-- A FATAL detection ends in the safe state, whatever changed before it beside the ports and the lines. -/
theorem State.fatal_endsSafe {u : State} (hp : u.ports = s.ports) (hs : u.sent = s.sent) (hf : u.flt.safe = s.flt.safe)
    (die block inst kind addr : Nat) : s.EndsSafe (s.kept (u.fatal die block inst kind addr)) := by
  have hfaults := u.fatal_faults die block inst kind addr
  have hsafe := u.fatal_safe die block inst kind addr
  obtain ⟨v, hv, hports, hsent, hflt⟩ := u.fatal_enters die block inst kind addr
  refine ⟨hsafe, rfl, hfaults.sent.trans (by rw [hs]), fun hsf => ?_, fun hsf p => ?_⟩
  · rw [hv, State.enterSafe_of_safe v (by rw [hflt, hf, hsf])]
    exact hsent.trans hs
  · rw [hv, ← hp, ← hports]
    exact v.enterSafe_disabled (by rw [hflt, hf, hsf]) p

theorem forceSafe_endsSafe (hup : s.islandsUp = true) : ∃ t, exec .forceSafe s = .next t ∧ s.EndsSafe t :=
  ⟨_, commit_of (if_pos hup), s.fatal_endsSafe rfl rfl rfl _ _ _ _ _⟩

theorem firmwareHang_endsSafe (hfw : s.flt.fwSeen = true) (hlate : s.flt.checkin + 500000 < s.local) :
    ∃ t, exec .firmwareHang s = .next t ∧ s.EndsSafe t :=
  ⟨_, commit_of (if_pos (by rw [hfw, decide_eq_true hlate]; rfl)),
    s.fatal_endsSafe (u := { s with flt := { s.flt with fwSeen := false } }) rfl rfl rfl _ _ _ _ _⟩

theorem complexFail_endsSafe (h : s.complexUsed = true) : ∃ t, exec .complexFail s = .next t ∧ s.EndsSafe t :=
  ⟨_, commit_of (if_pos h), s.fatal_endsSafe (u := s.tickFree.tickFree) rfl rfl rfl _ _ _ _ _⟩

theorem trussLinkError_endsSafe {die link : Nat} (hp : s.pins.pwrGood = true) (hl : trussLink die link = true) :
    ∃ t, exec (.trussLinkError die link false) s = .next t ∧ s.EndsSafe t :=
  ⟨_, commit_of ((if_neg (by simp [hl, hp])).trans (if_neg Bool.false_ne_true)), s.fatal_endsSafe rfl rfl rfl _ _ _ _ _⟩

/-- A command that raises one message answers with it noted. -/
theorem commit_raise {b : State} {die block inst kind sev addr : Nat} (h : b = s.raise die block inst kind sev addr) :
    commit s b = .next (s.raise die block inst kind sev addr) := by
  obtain ⟨r, f, hraise⟩ := s.raise_frame die block inst kind sev addr
  refine commit_of_keptParts h ?_
  rw [hraise]
  rfl

theorem trussLink_of {die link : Nat} (h : (die < 8 ∧ link < 4) ∨ (8 ≤ die ∧ die < 12 ∧ link < 8)) : trussLink die link = true := by
  unfold trussLink
  split_ifs <;> simp <;> omega

theorem trussLink_none {die link : Nat} (h : (die < 8 ∧ 4 ≤ link) ∨ 8 ≤ link ∨ 12 ≤ die) : trussLink die link = false := by
  unfold trussLink
  split_ifs <;> simp <;> omega

/-! ### A PLL that lost its lock (R412, R511) -/

/-- A port of a die that lost its reference leaves its state for DISABLED. -/
def State.portDark (s : State) (p : Nat) : State := if s.isPort p ∧ s.linkState p ≠ .disabled then s.linkTo p .disabled else s

theorem State.portDark_sheds (p : Nat) : s.Sheds (s.portDark p) := .ite (s.linkTo_sheds p _) (.refl s)

theorem State.portDark_pins (p : Nat) : (s.portDark p).pins = s.pins := by
  unfold State.portDark
  split_ifs
  · by_cases h : s.linkState p = .up
    · obtain ⟨-, -, -, hs, -⟩ := State.linkTo_lostLink (st := .disabled) h
      exact (congrArg State.pins hs :)
    · rw [State.linkTo_of_down h]
      rfl
  · rfl

/-- A port, if it is one, is in DISABLED. -/
def State.darkAt (s : State) (p : Nat) : Prop := s.isPort p = true → s.linkState p = .disabled

theorem State.portDark_darkAt_same (p : Nat) : (s.portDark p).darkAt p := by
  intro hport
  rw [(s.portDark_sheds p).isPort] at hport
  unfold State.portDark
  split_ifs with h
  · exact s.linkState_linkTo_same p _
  · exact not_not.1 fun hd => h ⟨hport, hd⟩

theorem State.portDark_darkAt (p : Nat) {q : Nat} (hq : s.darkAt q) : (s.portDark p).darkAt q := by
  by_cases hqp : q = p
  · subst hqp
    exact s.portDark_darkAt_same q
  · intro hport
    rw [(s.portDark_sheds p).isPort] at hport
    unfold State.portDark
    split_ifs
    · exact (s.linkState_linkTo_other _ hqp).trans (hq hport)
    · exact hq hport

/-- The ports of a port die that lost its reference. -/
def State.dieDark (s : State) (die : Nat) : State := (List.range 96).foldl (fun s q => s.portDark (96 * die + q)) s

theorem pllUnlock_portDie {die pll : Nat} (hd : die < 8) (hp : s.pins.pwrGood = true) (hl : die ∉ s.pins.pllLost) :
    ∃ t, exec (.pllUnlock die pll) s = .next t ∧ t.pins.pllLost = s.pins.pllLost ++ [die]
      ∧ ∀ q, q < 96 → s.isPort (96 * die + q) = true → t.linkState (96 * die + q) = .disabled := by
  have h0 : ¬(20 ≤ die ∨ s.pins.pwrGood = false ∨ (12 ≤ die ∧ s.pllRuns (die - 12) = false)) := by
    rw [hp]
    rintro (h | h | h)
    · omega
    · cases h
    · omega
  let s' : State := { s with pins := { s.pins with pllLost := s.pins.pllLost ++ [die] } }
  have hbody : bodyPllUnlock die pll s = (s'.dieDark die).raise die 0x1B pll 0x048 2 0 :=
    (if_neg h0).trans ((if_pos hd).trans (if_neg (by simpa using hl)))
  refine ⟨_, commit_of hbody, ?_, fun q hq hport => ?_⟩
  · obtain ⟨r, f, hraise⟩ := (s'.dieDark die).raise_frame die 0x1B pll 0x048 2 0
    rw [hraise]
    have hpins : (s'.dieDark die).pins = s'.pins :=
      foldl_keeps_of_mem (f := fun (s : State) q => s.portDark (96 * die + q)) (g := State.pins) (l := List.range 96) (fun t q _ => t.portDark_pins _) s'
    exact congrArg Pins.pllLost hpins
  · have hdark : (s'.dieDark die).darkAt (96 * die + q) :=
      foldl_established (f := fun s q => s.portDark (96 * die + q)) (P := fun t => t.darkAt (96 * die + q)) (b := q)
        (fun t _ ht => t.portDark_darkAt _ ht) (fun t => t.portDark_darkAt_same _) (List.mem_range.2 hq) s'
    have hsheds : s'.Sheds (s'.dieDark die) := .foldl (f := fun s q => s.portDark (96 * die + q)) (fun t q => t.portDark_sheds _) _ _
    obtain ⟨r, f, hraise⟩ := (s'.dieDark die).raise_frame die 0x1B pll 0x048 2 0
    rw [hraise]
    exact hdark ((hsheds.isPort _).trans hport)

theorem pllUnlock_reported {die pll : Nat} (h8 : 8 ≤ die) (h20 : die < 20) (hp : s.pins.pwrGood = true)
    (hr : die < 12 ∨ s.pllRuns (die - 12) = true) : exec (.pllUnlock die pll) s = .next (s.raise die 0x1B pll 0x048 2 0) := by
  refine commit_raise s ((if_neg ?_).trans (if_neg (by omega)))
  rw [hp]
  rintro (h | h | ⟨h12, hoff⟩)
  · omega
  · cases h
  · exact hr.elim (by omega) fun hon => by rw [hoff] at hon; cases hon

/-! ### The log's commands -/

theorem logMirrorWrite_mirrors (hn : s.unmirrored.2 ≠ 0) (hu : s.flt.urgent = true) (hb : s.nvm.badB = false) :
    let k := min s.unmirrored.2 (128 - s.unmirrored.1 % 128)
    ∃ t, exec .logMirrorWrite s = .next t ∧ t.flt.pageFrom = (s.unmirrored.1 + k) % 2 ^ 32 ∧ t.flt.wroteAt = s.local
      ∧ t.flt.urgent = decide (k < s.unmirrored.2)
      ∧ ∀ i e, i < k → s.logAt ((s.unmirrored.1 + i) % 2 ^ 32) = some e →
          t.logAt ((s.unmirrored.1 + i) % 2 ^ 32) = some { e with mirrored := true }
          ∧ t.nvm.mlog.find? ((s.unmirrored.1 + i) % 2 ^ 32 % 131072) = some (LogEntry.words { e with mirrored := true }) := by
  have hk : min s.unmirrored.2 (128 - s.unmirrored.1 % 128) ≤ 128 := Nat.le_trans (Nat.min_le_right _ _) (Nat.sub_le _ _)
  have hbody := bodyLogMirrorWrite_urgent s hn hu hb
  generalize s.unmirrored = p at hk hbody ⊢
  obtain ⟨a, n⟩ := p
  dsimp only at hk hbody ⊢
  generalize min n (128 - a % 128) = k at hk hbody ⊢
  obtain ⟨l, m, hframe⟩ := s.pageMirrored_frame a k
  have hentry (i : Nat) := s.pageMirrored_entry a hk (i := i)
  generalize s.pageMirrored a k = u at hbody hframe hentry
  have hlocal : u.local = s.local := by rw [hframe]; rfl
  have hurgent : u.flt.urgent = true := by rw [hframe]; exact hu
  refine ⟨_, commit_of hbody, rfl, hlocal, ?_, fun i e hi he => ?_⟩
  · exact (congrArg (· && decide (k < n)) hurgent).trans (Bool.true_and _)
  · have hpair := hentry i hi
    rw [State.mirrorPair, State.mirrorPair, he] at hpair
    exact Prod.ext_iff.1 hpair

theorem fltAck_closes (hup : s.islandsUp = true) (a : Nat) {q : Nat} {e : LogEntry} (h : s.logAt q = some e) :
    ∃ t, exec (.fltAck a) s = .next t ∧ t = { s with flt := { s.flt with log := t.flt.log, openOld := t.flt.openOld } }
      ∧ t.logAt q = some (s.acked a e) := by
  obtain ⟨o, ho⟩ := bodyFltAck_eq s a
  obtain ⟨hat, hseq⟩ := State.logAt_eq_some.1 h
  refine ⟨_, commit_ifIslands hup ho, rfl, State.logAt_eq_some.2 ⟨?_, hseq⟩⟩
  exact (Tbl.find?_map _ _ _).trans (congrArg (Option.map (s.acked a)) hat)

end

end Sys2Proof.Machine

open Sys2Proof Sys2Proof.Machine

/-- Settles O56. The mirror writes its page entry by entry, each entry once; every way into the safe state is a FATAL detection, which ends
in it whatever the command changed before. -/
theorem logAndSafeState : Obligations.LogAndSafeState := by
  unfold Obligations.LogAndSafeState
  refine ⟨fun s => ⟨fun hn hu hb _ => logMirrorWrite_mirrors s hn hu hb, fun hup => ⟨fun a q e h => ?_, ?_, fun i => ?_⟩⟩,
    fun s => ⟨forceSafe_endsSafe s, firmwareHang_endsSafe s, complexFail_endsSafe s, fun h => ?_, fun die link hp hl => ⟨?_, ?_⟩, fun die link b hl => ?_,
      fun hr hh => ?_, fun hf hs hl ha => ?_, fun die pll => pllUnlock_reported s, fun die pll h12 hr => ?_, fun die pll => pllUnlock_portDie s⟩⟩
  · obtain rfl := (State.logAt_eq_some.1 h).2
    exact fltAck_closes s hup a h
  · exact commit_ifIslands hup rfl
  · exact commit_ifIslands hup rfl
  · exact commit_of (if_neg (by rw [h]; exact Bool.false_ne_true))
  · exact trussLinkError_endsSafe s hp (trussLink_of hl)
  · exact commit_raise s ((if_neg (by simp [trussLink_of hl, hp])).trans (if_pos rfl))
  · exact commit_of (if_pos (.inl (trussLink_none hl)))
  · exact commit_of (if_pos (by rw [hr, hh]; rfl))
  · exact commit_of (if_pos (by rw [hf, hs, hl, decide_eq_true ha]; rfl))
  · exact commit_of (if_pos (.inr (.inr ⟨h12, hr⟩)))
end

section
/-!
PROOFS. The update commands of the NVM controller (O59).
-/

namespace Sys2Proof.Machine

theorem addr_nvmBuf (i : Nat) : Reg.addr .nvmBuf [i] = 0x401000 + 0x8 * i := rfl

/-- A state as a command of the NVM controller finds it, but for what its flash operations and the buffer may have changed. -/
def State.nvmView (s : State) : Nat × Part := (s.nvm.doneSeq, s.nvm.active)

section
variable (s : State)

/-! ### GO (R489, R490) -/

/-- The commands, each with its OP. -/
theorem exec_nvmRow {c : Instr} {op : Nat} (h : (c, op) ∈ [(Instr.nvmRead, 1), (.eraseStaging, 2), (.nvmWrite, 3), (.copyFromRegion, 4), (.verify, 5),
    (.markPending, 6), (.activate, 7), (.cancel, 8), (.promote, 9)]) : exec c s = commit s (s.nvmRow op) := by
  simp only [List.mem_cons, Prod.mk.injEq, List.not_mem_nil, or_false] at h
  obtain h | h | h | h | h | h | h | h | h := h <;> (obtain ⟨rfl, rfl⟩ := h; rfl)

theorem State.nvmRow_idle {op : Nat} (h : s.islandsUp = false ∨ s.fld .nvmArg0 [] 63 56 ≠ op ∨ s.nvm.cmd.isSome = true) : s.nvmRow op = s := by
  unfold State.nvmRow State.nvmGo
  split_ifs with h1 h2
  · rfl
  · obtain ⟨hup, hop⟩ := h1
    rcases h with h | h | h
    · rw [h] at hup; cases hup
    · exact absurd hop h
    · exact absurd h h2
  · rfl

theorem State.nvmRow_starts {op : Nat} (hup : s.islandsUp = true) (hop : s.fld .nvmArg0 [] 63 56 = op) (hc : s.nvm.cmd = none)
    (hr : s.nvmReason op = 0) : s.nvmRow op = { s with nvm := { s.nvm with
      cmd := some op, cmdWord := s.reg .nvmArg0 [], cmdArg1 := s.reg .nvmArg1 [], cmdArg2 := s.reg .nvmArg2 []
      actAt := if op = 7 then some s.actCount else s.nvm.actAt } } := by
  subst hop
  exact (if_pos ⟨hup, rfl⟩).trans ((if_neg (by rw [hc]; exact Bool.false_ne_true)).trans (if_neg (by rw [hr]; exact fun h => h rfl)))

theorem State.nvmRow_refused {op : Nat} (hup : s.islandsUp = true) (hop : s.fld .nvmArg0 [] 63 56 = op) (hc : s.nvm.cmd = none)
    (hr : s.nvmReason op ≠ 0) : s.nvmRow op = s.nvmEnd (s.nvmReason op) := by
  subst hop
  exact (if_pos ⟨hup, rfl⟩).trans ((if_neg (by rw [hc]; exact Bool.false_ne_true)).trans (if_pos hr))

/-! ### NVM_BUF -/

/-- One word of the buffer is filled from a page. -/
def State.bufWord (bs : List Byte) (s : State) (i : Nat) : State := s.setReg .nvmBuf [i] (beNat ((bs.drop (8 * i)).take 8).reverse)

theorem State.fillBuf_eq (bs : List Byte) : s.fillBuf bs = (List.range 512).foldl (State.bufWord bs) s := rfl

theorem State.fillBuf_frame (bs : List Byte) : ∃ r, s.fillBuf bs = { s with regs := r } := by
  rw [State.fillBuf_eq]
  refine foldl_invariant (P := fun t : State => ∃ r, t = { s with regs := r }) (f := State.bufWord bs) (fun t i ⟨r, ht⟩ => ?_) _ ⟨s.regs, rfl⟩
  rw [ht]
  exact ⟨_, rfl⟩

theorem State.fillBuf_word (bs : List Byte) {i : Nat} (hi : i < 512) :
    (s.fillBuf bs).reg .nvmBuf [i] = beNat ((bs.drop (8 * i)).take 8).reverse := by
  rw [State.fillBuf_eq]
  refine foldl_once (P := fun _ => True) (f := State.bufWord bs) (g := fun t : State => t.reg .nvmBuf [i])
    (F := fun _ => beNat ((bs.drop (8 * i)).take 8).reverse) (fun _ _ h => h) (fun t _ => t.reg_setReg_same _ _ _) (fun t j _ hne => ?_)
    List.nodup_range (List.mem_range.2 hi) trivial
  refine t.reg_setReg_other _ _ _ _ _ ?_
  rw [addr_nvmBuf, addr_nvmBuf]
  omega

theorem State.freePage_frame : ∃ n, s.freePage.2 = { s with free := n } := by
  unfold State.freePage
  refine foldl_invariant (P := fun a : List Byte × State => ∃ n, a.2 = { s with free := n }) (fun a _ ⟨n, ha⟩ => ?_) _ ⟨s.free, rfl⟩
  rw [ha]
  exact ⟨_, rfl⟩

theorem State.flashPage_frame (flash page : Nat) : ∃ n, (s.flashPage flash page).2 = { s with free := n } := by
  unfold State.flashPage
  split_ifs
  · exact ⟨_, rfl⟩
  · exact ⟨_, rfl⟩
  · exact ⟨_, rfl⟩
  · exact ⟨_, rfl⟩
  · exact ⟨_, rfl⟩
  · exact s.freePage_frame

/-! ### The effect of each command (Table 20.8) -/

/-- READ ends with the page in NVM_BUF, and changes no flash. -/
theorem State.nvmEffect_read : ∃ u : State, s.nvmEffect 1 = u.nvmEnd 0 ∧ u.nvm = s.nvm
    ∧ ∀ i, i < 512 → u.reg .nvmBuf [i] = beNat (((s.flashPage s.nvmFlash s.nvmPage).1.drop (8 * i)).take 8).reverse := by
  obtain ⟨n, hn⟩ := s.flashPage_frame s.nvmFlash s.nvmPage
  have heffect : s.nvmEffect 1 = ((s.flashPage s.nvmFlash s.nvmPage).2.fillBuf (s.flashPage s.nvmFlash s.nvmPage).1).nvmEnd 0 := rfl
  rw [heffect]
  generalize s.flashPage s.nvmFlash s.nvmPage = p at hn ⊢
  obtain ⟨r, hr⟩ := p.2.fillBuf_frame p.1
  exact ⟨_, rfl, by rw [hr, hn], fun i hi => p.2.fillBuf_word p.1 hi⟩

theorem State.nvmEffect_uncopied (h : s.regionBytes = none) : s.nvmEffect 4 = s.nvmEnd 0x0A := by rw [State.nvmEffect, h]

theorem State.nvmEffect_copied {bs : List Byte} (h : s.regionBytes = some bs) : s.nvmEffect 4 = (s.setStaging (partOfBytes bs) 1).nvmEnd 0 := by
  rw [State.nvmEffect, h]

theorem State.nvmEffect_unverified {r : Nat} (h : s.verifyStaged = .error r) : s.nvmEffect 5 = (s.setStaging s.nvm.staging 1).nvmEnd r := by
  rw [State.nvmEffect, h]

/-- The staged image verified: its record is written and its hash noted. -/
def State.verifiedAs (s : State) (e : Eudel) (r : FlashRec) : State :=
  { s with nvm := { s.nvm with staging := { s.nvm.staging with record := some r }, stg := 2, stgHash := e.hash } }

theorem State.nvmEffect_verified {e : Eudel} {r : FlashRec} (h : s.verifyStaged = .ok (e, r)) : s.nvmEffect 5 = (s.verifiedAs e r).nvmEnd 0 := by
  rw [State.nvmEffect, h]
  rfl

theorem State.nvmEffect_unpromoted (h : s.nvm.active.recorded = none) : s.nvmEffect 9 = s.nvmEnd 0x01 := by
  simp [State.nvmEffect, h]

/-- The active image written to flash B as the golden one. -/
def State.promoted (s : State) : State := { s with nvm := { s.nvm with golden := some s.nvm.active } }

theorem State.nvmEffect_promoted (h : s.nvm.active.recorded ≠ none) : s.nvmEffect 9 = s.promoted.nvmEnd 0 := by
  obtain ⟨r, hr⟩ := Option.ne_none_iff_exists'.1 h
  simp [State.nvmEffect, hr, State.promoted]

/-! ### A command that fails (R475) -/

theorem State.eitherOf_nvmView {a b : State → State} (ha : ∀ t : State, (a t).nvmView = t.nvmView) (hb : ∀ t : State, (b t).nvmView = t.nvmView) :
    (s.eitherOf a b).nvmView = s.nvmView := by
  unfold State.eitherOf
  split
  · exact ha _
  · exact hb _

theorem State.flashAddr_frame (op : Nat) : ∃ n, (s.flashAddr op).2 = { s with free := n } := by
  unfold State.flashAddr
  split_ifs <;> exact ⟨_, rfl⟩

theorem State.flashAddr_raise_nvmView (op die block inst kind sev addr : Nat) :
    ((s.flashAddr op).2.raise die block inst kind sev addr).nvmView = s.nvmView := by
  obtain ⟨n, hn⟩ := s.flashAddr_frame op
  obtain ⟨r, f, hr⟩ := (s.flashAddr op).2.raise_frame die block inst kind sev addr
  rw [hr, hn]
  rfl

theorem State.fillBuf_nvmView (bs : List Byte) : (s.fillBuf bs).nvmView = s.nvmView := by
  obtain ⟨r, hr⟩ := s.fillBuf_frame bs
  rw [hr]
  rfl

theorem State.freePage_nvmView : s.freePage.2.nvmView = s.nvmView := by
  obtain ⟨n, hn⟩ := s.freePage_frame
  rw [hn]
  rfl

theorem State.setStaging_nvmView (q : Part) (stg : Nat) : (s.setStaging q stg).nvmView = s.nvmView := rfl

/-- What a failed command leaves of the buffer and of the flashes. -/
def State.flashLost (s : State) (op : Nat) : State :=
  if op = 1 then s.freePage.2.fillBuf s.freePage.1
  else if op = 3 then
    s.freePage.2.setStaging { s.nvm.staging with pages := s.nvm.staging.pages.set s.nvmPage s.freePage.1 } 1
  else if op = 9 then s.eitherOf id fun s => { s with nvm := { s.nvm with golden := some { s.nvm.active with record := none } } }
  else if op = 2 ∨ op = 4 ∨ op = 5 then s.eitherOf id fun s => s.setStaging { s.nvm.staging with record := none } 1
  else s

theorem State.nvmFails_eq (op : Nat) : s.nvmFails op
    = (((s.flashLost op).flashAddr op).2.raise 8 0x19 ((s.flashLost op).nvmDevice op) 0x050 1 ((s.flashLost op).flashAddr op).1).nvmEnd 0x09 := rfl

theorem State.flashLost_nvmView (op : Nat) : (s.flashLost op).nvmView = s.nvmView := by
  unfold State.flashLost
  split_ifs
  · exact (s.freePage.2.fillBuf_nvmView _).trans s.freePage_nvmView
  · exact (s.freePage.2.setStaging_nvmView _ _).trans s.freePage_nvmView
  · exact s.eitherOf_nvmView (fun _ => rfl) fun _ => rfl
  · exact s.eitherOf_nvmView (fun _ => rfl) fun _ => rfl
  · rfl

theorem State.nvmFails_ends (op : Nat) : ∃ u : State, s.nvmFails op = u.nvmEnd 0x09 ∧ u.nvmView = s.nvmView :=
  ⟨_, s.nvmFails_eq op, ((s.flashLost op).flashAddr_raise_nvmView _ _ _ _ _ _ _).trans (s.flashLost_nvmView op)⟩

/-! ### NVM_COMMAND_COMPLETE -/

/-- A command has ended with a reason, its count one more, the active image as it was. -/
def State.Ended (s : State) (reason : Nat) (t : State) : Prop :=
  t.nvm.cmd = none ∧ t.nvm.reason = reason ∧ t.nvm.doneSeq = (s.nvm.doneSeq + 1) % 2 ^ 32 ∧ t.nvm.active = s.nvm.active ∧ t.mem = s.mem

theorem State.nvmEnd_ended {u : State} (h : u.nvmView = s.nvmView) (reason : Nat) : s.Ended reason (s.kept (u.nvmEnd reason)) := by
  obtain ⟨hseq, hactive⟩ := Prod.ext_iff.1 h
  exact ⟨rfl, rfl, congrArg (fun n => (n + 1) % 2 ^ 32) hseq, hactive, rfl⟩

end

section
variable {s : State} {op : Nat} (hc : s.nvm.cmd = some op)
include hc

theorem nvmCommandComplete_waits (hdev : s.nvmDevice op = 1) (hd : s.nvm.dumping ≠ []) (ok : Bool) : exec (.nvmCommandComplete ok) s = .next s := by
  refine commit_of ?_
  have hne : s.nvm.dumping.isEmpty = false := by simpa using hd
  rw [bodyNvmCommandComplete, hc]
  exact if_pos (by rw [hdev, hne]; simp)

variable (hup : s.islandsUp = true) (hfree : s.nvmDevice op ≠ 1 ∨ s.nvm.dumping = [])
include hup hfree

/-- The command goes on where it does not wait for a crash dump. -/
theorem bodyNvmCommandComplete_runs (ok : Bool) : bodyNvmCommandComplete ok s
    = if ok && !(op == 3 && !s.pageErased) && !(if s.nvmDevice op = 1 then s.nvm.badB else s.nvm.badA) then s.nvmEffect op else s.nvmFails op := by
  rw [bodyNvmCommandComplete, hc]
  refine if_neg ?_
  rw [hup]
  rcases hfree with h | h <;> simp [h]

theorem nvmCommandComplete_fails {ok : Bool} (h : (ok && !(if s.nvmDevice op = 1 then s.nvm.badB else s.nvm.badA)) = false) :
    ∃ t, exec (.nvmCommandComplete ok) s = .next t ∧ s.Ended 0x09 t := by
  obtain ⟨u, hu, hview⟩ := s.nvmFails_ends op
  refine ⟨_, commit_of ((bodyNvmCommandComplete_runs hc hup hfree ok).trans ((if_neg ?_).trans hu)), s.nvmEnd_ended hview _⟩
  rw [Bool.and_right_comm, h, Bool.false_and]
  exact Bool.false_ne_true

theorem nvmCommandComplete_effect {t : State} (hgood : (if s.nvmDevice op = 1 then s.nvm.badB else s.nvm.badA) = false)
    (hpage : op = 3 → s.pageErased = true) (ht : s.nvmEffect op = t) : exec (.nvmCommandComplete true) s = .next (s.kept t) := by
  refine commit_of ((bodyNvmCommandComplete_runs hc hup hfree true).trans ((if_pos ?_).trans ht))
  rw [hgood]
  by_cases h : op = 3
  · rw [hpage h]; simp
  · simp [h]

end

end Sys2Proof.Machine

open Sys2Proof Sys2Proof.Machine

/-- Settles O59. GO is one row for the nine commands; a command that completes has one effect by its OP, and one that fails leaves the
active image whatever else it does to the flashes. -/
theorem nvmCommands : Obligations.NvmCommands := by
  unfold Obligations.NvmCommands
  refine ⟨fun s c op hcop => ⟨fun h => ?_, fun hup hop hc => ⟨fun hr => ?_, fun hr => ?_, fun h => ?_⟩⟩, fun s op hc hup =>
    ⟨nvmCommandComplete_waits hc, fun hfree => ⟨nvmCommandComplete_fails hc hup hfree rfl,
        fun hbad => nvmCommandComplete_fails hc hup hfree (by rw [hbad]; rfl)⟩,
      fun hfree hgood => ?_⟩⟩
  · exact (exec_nvmRow s hcop).trans (commit_of (s.nvmRow_idle h))
  · exact (exec_nvmRow s hcop).trans (commit_of (s.nvmRow_starts hup hop hc hr))
  · exact (exec_nvmRow s hcop).trans (commit_of (s.nvmRow_refused hup hop hc hr))
  · exact if_pos (by rw [h]; simp)
  · have heffect {t : State} (hne : op ≠ 3) (ht : s.nvmEffect op = t) :=
      nvmCommandComplete_effect hc hup hfree hgood (fun h => absurd h hne) ht
    refine ⟨?_, ?_, ?_, ?_, ?_, ?_, ?_, ?_, ?_, ?_, ?_, ?_⟩
    · rintro rfl
      obtain ⟨u, hu, hnvm, hword⟩ := s.nvmEffect_read
      exact ⟨_, heffect (by decide) hu, s.nvmEnd_ended (by rw [State.nvmView, hnvm]; rfl) 0, (congrArg NvmSt.staging hnvm :), hword⟩
    · rintro rfl
      exact ⟨_, heffect (by decide) rfl, s.nvmEnd_ended (u := s.setStaging {} 0) rfl 0, rfl, rfl⟩
    · rintro rfl hpage
      exact ⟨_, nvmCommandComplete_effect hc hup hfree hgood (fun _ => hpage) rfl,
        s.nvmEnd_ended (u := s.setStaging { s.nvm.staging with pages := s.nvm.staging.pages.set s.nvmPage s.nvmBuf } 1) rfl 0, rfl, rfl⟩
    · rintro rfl hbytes
      exact ⟨_, heffect (by decide) (s.nvmEffect_uncopied hbytes), s.nvmEnd_ended rfl _, rfl⟩
    · rintro bs rfl hbytes
      exact ⟨_, heffect (by decide) (s.nvmEffect_copied hbytes), s.nvmEnd_ended (u := s.setStaging (partOfBytes bs) 1) rfl 0, rfl, rfl⟩
    · rintro r rfl hverify
      exact ⟨_, heffect (by decide) (s.nvmEffect_unverified hverify), s.nvmEnd_ended (u := s.setStaging s.nvm.staging 1) rfl _, rfl, rfl⟩
    · rintro e r rfl hverify
      exact ⟨_, heffect (by decide) (s.nvmEffect_verified hverify), s.nvmEnd_ended (u := s.verifiedAs e r) rfl 0, rfl, rfl, rfl⟩
    · rintro rfl
      exact ⟨_, heffect (by decide) rfl, s.nvmEnd_ended (u := s.setStaging s.nvm.staging 3) rfl 0, rfl⟩
    · rintro rfl
      exact ⟨_, heffect (by decide) rfl, s.nvmEnd_ended (u := s.setStaging s.nvm.staging 4) rfl 0, rfl⟩
    · rintro rfl
      exact ⟨_, heffect (by decide) rfl, s.nvmEnd_ended (u := s.setStaging s.nvm.staging 2) rfl 0, rfl, rfl⟩
    · rintro rfl hrec
      exact ⟨_, heffect (by decide) (s.nvmEffect_unpromoted hrec), s.nvmEnd_ended rfl _, rfl⟩
    · rintro rfl hrec
      exact ⟨_, heffect (by decide) (s.nvmEffect_promoted hrec), s.nvmEnd_ended (u := s.promoted) rfl 0, rfl⟩
end

section
/-!
PROOFS. Live activation and crash dumps (O60).
-/

namespace Sys2Proof.Machine

/-- A state without what the live keys of an image set. -/
def State.sansLive (s : State) : State := { s with regs := [], keys := {}, cfg := {}, nvm := { s.nvm with owners := [] } }

section
variable (s : State)

/-! ### The live keys (R481, R493) -/

theorem State.enrol_sansLive (e : Eudel) : (s.enrol e).sansLive = s.sansLive := by
  unfold State.enrol
  split <;> rfl

theorem State.putWeights_sansLive (old e : Eudel) : (s.putWeights old e).sansLive = s.sansLive := by
  unfold State.putWeights
  dsimp only
  exact (foldl_keeps State.sansLive (fun (s : State) (w : Nat × Nat) => s.setFld .schJob [w.1] 63 56 w.2) (fun _ _ => rfl) _ _).trans
    (foldl_keeps State.sansLive (fun (s : State) (w : Nat × Nat) => s.setReg .schJob [w.1] 0) (fun _ _ => rfl) _ s)

theorem State.putReacts_sansLive (old e : Eudel) : (s.putReacts old e).sansLive = s.sansLive := by
  unfold State.putReacts
  dsimp only
  exact (foldl_keeps State.sansLive (fun (s : State) (r : Nat × Nat) =>
      (s.setFld .fltReact [r.1] 63 61 (r.2 / 2 ^ 61)).setFld .fltReact [r.1] 60 44 (r.2 / 2 ^ 44)) (fun _ _ => rfl) _ _).trans
    (foldl_keeps State.sansLive (fun (s : State) (r : Nat × Nat) => s.setReg .fltReact [r.1] 0) (fun _ _ => rfl) _ _)

theorem State.applyLive_sansLive (old e : Eudel) : (s.applyLive old e).sansLive = s.sansLive := by
  unfold State.applyLive State.putWdg
  exact ((((s.enrol e).liveCfg e).putWeights old e).putReacts_sansLive old e).trans
    ((((s.enrol e).liveCfg e).putWeights_sansLive old e).trans (s.enrol_sansLive e))

/-! ### What Temond holds, and the slots that pause -/

/-- With no item held there is nothing to take. -/
theorem State.flushHeld_nothing (h : s.svc.held = []) : s.flushHeld = s := by
  have hsame : ({ s with svc := { s.svc with held := [] } } : State) = s := by rw [← h]
  rw [State.flushHeld, h]
  exact hsame

/-- A slot stops beginning work. -/
def State.slotPaused (s : State) (k : Nat) : State :=
  if (s.islot k).state = .empty then s else s.setIslot k { s.islot k with quiet := true }

/-- A slot that has stopped, or is empty. -/
def State.Quiet (s : State) (k : Nat) : Prop := (s.islot k).quiet = true ∨ (s.islot k).state = .empty

theorem State.slotPaused_same (k : Nat) : (s.slotPaused k).Quiet k := by
  unfold State.slotPaused
  split_ifs with h
  · exact .inr h
  · refine .inl ?_
    rw [State.islot, State.setIslot, Tbl.get_set_same]

theorem State.slotPaused_keeps (j k : Nat) (h : s.Quiet k) : (s.slotPaused j).Quiet k := by
  by_cases hj : k = j
  · rw [hj]
    exact s.slotPaused_same j
  · unfold State.slotPaused
    split_ifs
    · exact h
    · rw [State.Quiet, State.islot_setIslot_other _ _ hj]
      exact h

theorem State.slotPaused_sansSlots (k : Nat) : (s.slotPaused k).sansSlots = s.sansSlots := by
  unfold State.slotPaused
  split_ifs <;> rfl

/-- A state without its image slots, engines, tiles and contexts. -/
def State.sansSwap (s : State) : State := { s with svc := { s.svc with ctxs := [] }, fab := { s.fab with slots := [], engines := [], tiles := [] } }

theorem State.sansSwap_of_sansSlots {s t : State} (h : t.sansSlots = s.sansSlots) : t.sansSwap = s.sansSwap :=
  congrArg (fun u : State => { u with svc := { u.svc with ctxs := [] }, fab := { u.fab with tiles := [] } }) h

theorem State.pauseSlots_sansSwap (slots : List Nat) : (s.pauseSlots slots).sansSwap = s.sansSwap := by
  have h : (slots.foldl State.slotPaused s).sansSwap = s.sansSwap :=
    State.sansSwap_of_sansSlots (foldl_keeps State.sansSlots State.slotPaused (fun t k => t.slotPaused_sansSlots k) slots s)
  exact h

theorem State.pauseSlots_quiet (slots : List Nat) {k : Nat} (hk : k ∈ slots) : (s.pauseSlots slots).Quiet k :=
  foldl_established (P := fun t : State => t.Quiet k) (f := State.slotPaused) (fun t j => t.slotPaused_keeps j k) (fun t => t.slotPaused_same k) hk s

/-! ### The end of the swaps -/

theorem State.endSwaps_ends {l : Live} (h : s.nvm.live = some l) (hl : l.slots = []) :
    s.endSwaps = { s with nvm := { s.nvm with live := none, stg := 5, copying := true } } := by
  rw [State.endSwaps, h]
  exact if_pos (by rw [hl]; rfl)

theorem State.endSwaps_waits {l : Live} (h : s.nvm.live = some l) (hl : l.slots ≠ []) : s.endSwaps = s := by
  rw [State.endSwaps, h]
  exact if_neg (by simpa using hl)

/-! ### LIVE_ACTIVATION -/

/-- Temond holds the control path, and the check-in of the new Temond, if there is one, is awaited. -/
def State.handsOver (s : State) (live : Option Live) : State :=
  { s with
    svc := { s.svc with holding := true }
    nvm := { s.nvm with actAt := none, live := live }
    flt := { s.flt with checkin := s.local + 49500000 } }

theorem bodyLiveActivation_begins {at_ : Nat} (hat : s.nvm.actAt = some at_) (hstg : s.nvm.stg = 4) (hnow : at_ ≤ s.now) (hq : s.quietNow = true)
    (hr : s.isReady = true) (hs : s.flt.safe = false) :
    ∃ live, bodyLiveActivation s = s.handsOver live
      ∧ (∀ e, s.partImage s.nvm.staging = .ok e → e.hash = s.nvm.stgHash → live = some { image := e, from_ := s.local })
      ∧ ((∃ r, s.partImage s.nvm.staging = .error r) → live = none) := by
  have hgo : ¬(s.nvm.stg ≠ 4 ∨ s.now < at_ ∨ s.quietNow = false ∨ s.isReady = false ∨ s.flt.safe = true) := by
    rw [hstg, hq, hr, hs]
    simpa using hnow
  rw [bodyLiveActivation, hat]
  refine ⟨_, if_neg hgo, fun e he hhash => ?_, fun ⟨r, hr⟩ => ?_⟩
  · rw [he]
    exact if_pos hhash
  · rw [hr]

theorem liveActivation_waits {at_ : Nat} (hat : s.nvm.actAt = some at_)
    (h : s.nvm.stg ≠ 4 ∨ s.now < at_ ∨ s.quietNow = false ∨ s.isReady = false ∨ s.flt.safe = true) : exec .liveActivation s = .next s := by
  refine commit_of ?_
  rw [bodyLiveActivation, hat]
  exact if_pos h

/-! ### NEW_TEMOND_CHECKIN -/

/-- The new Temond runs and has taken over, before the services pause. -/
def State.takenOver (s : State) (old : Eudel) (l : Live) : State :=
  let s := s.applyLive old l.image
  { s with
    nvm := { s.nvm with run := some l.image, live := some { l with checked := true, slots := pausing old l.image, from_ := s.local } }
    flt := { s.flt with fwSeen := true, checkin := s.local }
    svc := { s.svc with holding := false } }

theorem bodyNewTemondCheckin_runs {l : Live} {old : Eudel} (hl : s.nvm.live = some l) (hr : s.nvm.run = some old) (hc : l.checked = false)
    (hs : s.flt.safe = false) (ht : s.local ≤ l.from_ + 50000000) :
    bodyNewTemondCheckin s = (((s.takenOver old l).pauseSlots (pausing old l.image)).flushHeld).endSwaps := by
  rw [bodyNewTemondCheckin, hl, hr]
  refine if_neg ?_
  rw [hc, hs]
  simpa using ht

theorem newTemondCheckin_takesOver {l : Live} {old : Eudel} (hl : s.nvm.live = some l) (hr : s.nvm.run = some old) (hc : l.checked = false)
    (hs : s.flt.safe = false) (ht : s.local ≤ l.from_ + 50000000) (hheld : s.svc.held = []) :
    ∃ t, exec .newTemondCheckin s = .next t ∧ t.nvm.run = some l.image ∧ t.svc.holding = false ∧ t.flt.fwSeen = true
      ∧ t.flt.checkin = s.local ∧ t.mem = s.mem
      ∧ (pausing old l.image = [] → t.nvm.live = none ∧ t.nvm.stg = 5 ∧ t.nvm.copying = true)
      ∧ (pausing old l.image ≠ [] → t.nvm.stg = s.nvm.stg
          ∧ (∀ k ∈ pausing old l.image, (t.islot k).quiet = true ∨ (t.islot k).state = .empty)
          ∧ t.nvm.live = some { l with checked := true, slots := pausing old l.image, from_ := s.local }) := by
  have hlive := s.fresh.applyLive_sansLive old l.image
  have hlocal : (s.fresh.applyLive old l.image).local = s.local := (congrArg State.local hlive :)
  have hpaused := (s.fresh.takenOver old l).pauseSlots_sansSwap (pausing old l.image)
  have hquiet (k : Nat) := (s.fresh.takenOver old l).pauseSlots_quiet (pausing old l.image) (k := k)
  have hbody := bodyNewTemondCheckin_runs s.fresh hl hr hc hs ht
  generalize (s.fresh.takenOver old l).pauseSlots (pausing old l.image) = u at hpaused hquiet hbody
  have hsvc : u.svc.held = [] := (congrArg (fun v : State => v.svc.held) hpaused).trans ((congrArg (fun v : State => v.svc.held) hlive).trans hheld)
  have hnvm : u.nvm = (s.fresh.takenOver old l).nvm := (congrArg State.nvm hpaused :)
  have hnow : u.nvm.live = some { l with checked := true, slots := pausing old l.image, from_ := s.local } := by
    rw [hnvm, ← hlocal]
    rfl
  have hflt : u.flt = { (s.fresh.applyLive old l.image).flt with fwSeen := true, checkin := s.local } := by
    rw [← hlocal]
    exact congrArg State.flt hpaused
  have hmops : u.mops = [] := (congrArg State.mops hpaused).trans (congrArg State.mops hlive)
  have hstg : u.nvm.stg = s.nvm.stg := (congrArg NvmSt.stg hnvm).trans (congrArg (fun v : State => v.nvm.stg) hlive :)
  have hrun : u.nvm.run = some l.image := congrArg NvmSt.run hnvm
  have hholding : u.svc.holding = false := (congrArg (fun v : State => v.svc.holding) hpaused :)
  rw [State.flushHeld_nothing u hsvc] at hbody
  by_cases hp : pausing old l.image = []
  · rw [State.endSwaps_ends u hnow hp] at hbody
    refine ⟨_, commitMem_of hbody, hrun, hholding, by rw [State.keptMem_flt, hflt], by rw [State.keptMem_flt, hflt], ?_,
      fun _ => ⟨rfl, rfl, rfl⟩, fun hne => absurd hp hne⟩
    rw [State.keptMem_mem, hmops]
    rfl
  · rw [State.endSwaps_waits u hnow hp] at hbody
    refine ⟨_, commitMem_of hbody, hrun, hholding, by rw [State.keptMem_flt, hflt], by rw [State.keptMem_flt, hflt], ?_,
      fun hnil => absurd hnil hp, fun _ => ⟨hstg, fun k hk => hquiet k hk, hnow⟩⟩
    rw [State.keptMem_mem, hmops]
    rfl

/-! ### SERVICE_SWAP_DONE -/

theorem State.restartEngines_sansSlots (k : Nat) : (s.restartEngines k).sansSlots = s.sansSlots :=
  foldl_keeps State.sansSlots State.restartEngine (fun t n => by
    unfold State.restartEngine
    split <;> rfl) _ s

theorem State.islot_restartEngines (k j : Nat) : (s.restartEngines k).islot j = s.islot j :=
  foldl_keeps (fun t : State => t.islot j) State.restartEngine (fun t n => by
    unfold State.restartEngine
    split <;> rfl) _ s

theorem State.swapImage_sansSwap (k : Nat) (i : Image) : (s.swapImage k i).sansSwap = s.sansSwap := by
  unfold State.swapImage
  dsimp only
  exact (State.sansSwap_of_sansSlots ((State.streamSlot_sansSlots k).trans (State.restartEngines_sansSlots _ k)) :)

theorem State.islot_swapImage_same (k : Nat) (i : Image) : (s.swapImage k i).islot k = { s.islot k with image := i, quiet := false } := by
  unfold State.swapImage
  dsimp only
  rw [State.islot_streamSlot, State.islot_restartEngines]
  exact Tbl.get_set_same _ _ _ _

theorem State.islot_swapImage_other {j k : Nat} (h : k ≠ j) (i : Image) : (s.swapImage j i).islot k = s.islot k := by
  unfold State.swapImage
  dsimp only
  rw [State.islot_streamSlot, State.islot_restartEngines]
  exact Tbl.get_set_other _ _ _ h

/-- The service of a slot is swapped for the image's, where there is one. -/
def State.slotSwapped (e : Eudel) (s : State) (j : Nat) : State :=
  if (s.islot j).state = .empty then s
  else match s.svcImage e j with
    | some x => s.swapImage j x.2
    | none => s

theorem State.slotSwapped_sansSwap (e : Eudel) (j : Nat) : (s.slotSwapped e j).sansSwap = s.sansSwap := by
  unfold State.slotSwapped
  split_ifs
  · rfl
  · split
    · exact s.swapImage_sansSwap _ _
    · rfl

theorem State.slotSwapped_other (e : Eudel) {j k : Nat} (h : k ≠ j) : (s.slotSwapped e j).islot k = s.islot k := by
  unfold State.slotSwapped
  split_ifs
  · rfl
  · split
    · exact s.islot_swapImage_other h _
    · rfl

theorem State.slotSwapped_same (e : Eudel) {j : Nat} {x : List Byte × Image} (hne : (s.islot j).state ≠ .empty) (hx : s.svcImage e j = some x) :
    (s.slotSwapped e j).islot j = { s.islot j with image := x.2, quiet := false } := by
  unfold State.slotSwapped
  rw [if_neg hne, hx]
  exact s.islot_swapImage_same _ _

/-- The slots that a swap takes together. -/
def swapGroup (k : Nat) : List Nat := if k ≤ 1 then [0, 1] else [k]

theorem nodup_swapGroup (k : Nat) : (swapGroup k).Nodup := by
  unfold swapGroup
  split_ifs
  · decide
  · exact List.nodup_singleton k

/-- Each slot of the group has its new image once all are swapped. -/
theorem State.swapped_islot (e : Eudel) {k j : Nat} (hj : j ∈ swapGroup k) {x : List Byte × Image} (hne : (s.islot j).state ≠ .empty)
    (hx : s.svcImage e j = some x) :
    ((swapGroup k).foldl (State.slotSwapped e) s).islot j = { s.islot j with image := x.2, quiet := false } := by
  have h := foldl_once (P := fun t : State => t.cfg = s.cfg ∧ True) (f := State.slotSwapped e) (g := fun t : State => t.islot j)
    (F := fun p => if p.state = .empty then p else { p with image := x.2, quiet := false })
    (fun t i ht => ⟨((congrArg State.cfg (t.slotSwapped_sansSwap e i) :) : _ = t.cfg).trans ht.1, trivial⟩) (fun t ht => ?_)
    (fun t i _ hne => t.slotSwapped_other e hne.symm) (nodup_swapGroup k) hj (a := s) ⟨rfl, trivial⟩
  · exact h.trans (if_neg hne)
  · by_cases hempty : (t.islot j).state = .empty
    · rw [if_pos hempty, State.slotSwapped, if_pos hempty]
    · rw [if_neg hempty]
      refine t.slotSwapped_same e hempty ?_
      rw [← hx, State.svcImage, State.svcImage, ht.1]

/-- The slots that are left to swap. -/
def State.swapsLeft (s : State) (l : Live) (rest : List Nat) : State := { s with nvm := { s.nvm with live := some { l with slots := rest } } }

theorem bodyServiceSwapDone_swaps {k : Nat} {l : Live} (hl : s.nvm.live = some l) (hc : l.checked = true) (hk : k ∈ l.slots) :
    bodyServiceSwapDone k s = (((((swapGroup k).foldl (State.slotSwapped l.image) s).swapsLeft l
      (l.slots.filter fun j => !(swapGroup k).contains j)).openHeld l.from_).flushHeld).endSwaps := by
  rw [bodyServiceSwapDone, hl]
  refine (if_neg ?_).trans rfl
  rw [hc, List.contains_eq_mem, decide_eq_true hk]
  simp

theorem serviceSwapDone_swaps {k : Nat} {l : Live} (hl : s.nvm.live = some l) (hc : l.checked = true) (hk : k ∈ l.slots)
    (hs : s.flt.safe = false) (hheld : s.svc.held = []) :
    ∃ t, exec (.serviceSwapDone k) s = .next t ∧ t.mem = s.mem
      ∧ ((l.slots.filter fun j => !(swapGroup k).contains j) = [] → t.nvm.live = none ∧ t.nvm.stg = 5 ∧ t.nvm.copying = true)
      ∧ ((l.slots.filter fun j => !(swapGroup k).contains j) ≠ [] →
          t.nvm.live = some { l with slots := l.slots.filter fun j => !(swapGroup k).contains j })
      ∧ ∀ j x, j ∈ swapGroup k → (s.islot j).state ≠ .empty → s.svcImage l.image j = some x →
          t.islot j = { s.islot j with image := x.2, quiet := false } := by
  have hbody := bodyServiceSwapDone_swaps s.fresh hl hc hk
  have hview : ((swapGroup k).foldl (State.slotSwapped l.image) s.fresh).sansSwap = s.fresh.sansSwap :=
    foldl_keeps State.sansSwap (State.slotSwapped l.image) (fun t j => t.slotSwapped_sansSwap l.image j) _ _
  have hslot (j : Nat) (x : List Byte × Image) (hj : j ∈ swapGroup k) := s.fresh.swapped_islot l.image hj (x := x)
  generalize (swapGroup k).foldl (State.slotSwapped l.image) s.fresh = u at hbody hview hslot
  generalize (l.slots.filter fun j => !(swapGroup k).contains j) = rest at hbody ⊢
  have hmops : u.mops = [] := congrArg State.mops hview
  have hmem : Memory.after s.mem u.mops = s.mem := by rw [hmops]; rfl
  have hnone : u.svc.held = [] := (congrArg (fun v : State => v.svc.held) hview :).trans hheld
  rw [State.flushHeld_nothing ((u.swapsLeft l rest).openHeld l.from_) hnone] at hbody
  by_cases hr : rest = []
  · rw [State.endSwaps_ends _ rfl hr] at hbody
    exact ⟨_, commitMem_unlessSafe hs hbody, hmem, fun _ => ⟨rfl, rfl, rfl⟩, fun hne => absurd hr hne, hslot⟩
  · rw [State.endSwaps_waits _ rfl hr] at hbody
    exact ⟨_, commitMem_unlessSafe hs hbody, hmem, fun hnil => absurd hnil hr, fun _ => rfl, hslot⟩

/-! ### CRASH_DUMP_DONE (R469, R470) -/

/-- The dump under way is complete in the older slot, before the services that wait for it are switched off. -/
def State.dumped (s : State) (at_ : Nat) (rest : List Nat) : State :=
  { s.tickFree with nvm := { s.nvm with
      dumps := s.nvm.dumps.set s.olderSlot (s.dumpOf at_), dumpSlot := some s.olderSlot, dseq := (s.dumpOf at_).dseq, dumping := rest } }

theorem State.dumped_dumps (at_ : Nat) (rest : List Nat) : (s.dumped at_ rest).nvm.dumps = s.nvm.dumps.set s.olderSlot (s.dumpOf at_) := rfl

theorem State.dumpOf_dseq (at_ : Nat) : (s.dumpOf at_).dseq = (s.nvm.dseq + 1) % 2 ^ 32 := by rw [State.dumpOf]

theorem State.dumpOf_ctxs (at_ : Nat) : (s.dumpOf at_).ctxs = s.dumpCtxs := by rw [State.dumpOf]

theorem State.dumpOf_regions (at_ : Nat) : (s.dumpOf at_).regions = s.dumpRegions := by rw [State.dumpOf]

theorem State.dumpOf_tiles (at_ : Nat) : (s.dumpOf at_).tiles = (s.haltOrder.take 384).map s.tileRecord := by rw [State.dumpOf]

theorem State.dumpOf_omitted (at_ : Nat) : (s.dumpOf at_).omitted = s.haltOrder.length - 384 := by rw [State.dumpOf]

theorem crashDumpDone_completes {at_ : Nat} {rest : List Nat} (h : s.nvm.dumping = at_ :: rest) (hup : s.islandsUp = true) :
    ∃ t, exec .crashDumpDone s = .next (s.kept t) ∧ t.nvm = (s.dumped at_ rest).nvm ∧ t.flt = s.flt := by
  have hbody : bodyCrashDumpDone s = (s.dumped at_ rest).servicesOff := by
    rw [bodyCrashDumpDone, h]
    exact if_pos hup
  have hstops := (s.dumped at_ rest).servicesOff_stops
  exact ⟨_, commit_of hbody, hstops.keeps.2.1, hstops.flt⟩

theorem crashDumpDone_idle (h : s.nvm.dumping = [] ∨ s.islandsUp = false) : exec .crashDumpDone s = .next s := by
  refine commit_of ?_
  unfold bodyCrashDumpDone
  rcases h with h | h
  · rw [h]
  · split
    · rfl
    · exact if_neg (by rw [h]; exact Bool.false_ne_true)

end

end Sys2Proof.Machine

open Sys2Proof Sys2Proof.Machine

/-- Settles O60. The live keys and the swaps leave the control path as it is, so that what Temond takes from its hold is what it held; a
dump ends as one change of flash state. -/
theorem liveActivationAndCrashDumps : Obligations.LiveActivationAndCrashDumps := by
  unfold Obligations.LiveActivationAndCrashDumps
  refine ⟨fun s => ⟨fun at_ hat => ⟨liveActivation_waits s hat, fun hstg hnow hq hr hs => ?_⟩, fun l old => newTemondCheckin_takesOver s,
    fun l k hl hc hk hs hheld => serviceSwapDone_swaps s hl hc hk hs hheld, fun hcopy hstg hr hs => commit_of (if_pos ⟨hcopy, hstg, hr, hs⟩),
    fun h => commit_of (if_neg ?_)⟩, fun s => ⟨crashDumpDone_idle s, fun a rest hd hup => ?_⟩⟩
  · obtain ⟨live, hbody, hok, herr⟩ := bodyLiveActivation_begins s hat hstg hnow hq hr hs
    exact ⟨_, commit_of hbody, rfl, rfl, rfl, hok, herr⟩
  · rintro ⟨hcopy, hstg, hr, hs⟩
    rcases h with h | h | h | h
    · rw [hcopy] at h; cases h
    · exact h hstg
    · rw [hr] at h; cases h
    · rw [hs] at h; cases h
  · obtain ⟨t, ht, hnvm, hflt⟩ := crashDumpDone_completes s hd hup
    exact ⟨_, s.dumpOf a, ht, congrArg NvmSt.dumping hnvm, congrArg NvmSt.dumpSlot hnvm, (congrArg NvmSt.dumps hnvm).trans (s.dumped_dumps a rest), rfl, rfl, 
      s.dumpOf_dseq a, s.dumpOf_ctxs a, s.dumpOf_regions a,      s.dumpOf_tiles a, s.dumpOf_omitted a, congrArg NvmSt.dseq hnvm, hflt, rfl⟩
end

section
/-!
PROOFS. Resets of ports and engines, searches, and the stacks that train again (O57).
-/

namespace Sys2Proof.Machine

theorem addr_fltDom (n : Nat) : Reg.addr .fltDom [n] = 0x340000 + 0x8 * n := rfl

theorem addr_fltSearch : Reg.addr .fltSearch [] = 0x300060 := rfl

theorem addr_fltCounts : Reg.addr .fltCounts [] = 0x300008 := rfl

theorem settled_fltDom {n : Nat} (hn : n < 1497) : settled (Reg.addr .fltDom [n]) := by
  rw [settled, addr_fltDom, addr_fltCounts]
  omega

section
variable (s : State)

/-! ### Detections -/

theorem State.raise_major {die sev : Nat} (h : (s.flt.queues.get die []).length < 256) (hs : 2 ≤ sev) (block inst kind addr : Nat) :
    s.raise die block inst kind sev addr
      = { s with flt := { s.flt with queues := s.flt.queues.set die (s.flt.queues.get die [] ++ [⟨die, block, inst, kind, sev, s.now, addr⟩]) } } :=
  (if_neg (Nat.not_lt.2 hs)).trans (if_pos h)

/-! ### A reset begins (R457) -/

section
variable {s} (ht : s.flt.tests = []) (hw : s.flt.waiting = [])
include ht hw

/-- With no self-test under way, a reset ends none. -/
theorem State.abandonTests_nothing (n : Nat) : s.abandonTests n = s := by
  have hsame : ({ s with flt := { s.flt with tests := [], waiting := [] } } : State) = s :=
    calc ({ s with flt := { s.flt with tests := [], waiting := [] } } : State)
        = { s with flt := { s.flt with tests := s.flt.tests, waiting := s.flt.waiting } } := by rw [ht, hw]
      _ = s := rfl
  unfold State.abandonTests
  dsimp only
  rw [ht, hw]
  exact (State.nextTests_nothing rfl).trans hsame

/-- The domain of a reset that begins. -/
def State.resetNoted (s : State) (n : Nat) : State :=
  let d : DomSt := { s.reco.doms.get n {} with since := some s.local, times := (s.local :: (s.reco.doms.get n {}).times).take 4 }
  { s with reco := { s.reco with doms := s.reco.doms.set n d } }

theorem State.markReset_eq (n : Nat) : s.markReset n = ((s.resetNoted n).bump .fltDom [n] 55 32).bumpMod .fltDom [n] 63 56 :=
  State.abandonTests_nothing (s := ((s.resetNoted n).bump .fltDom [n] 55 32).bumpMod .fltDom [n] 63 56) ht hw n

theorem State.markReset_gen (n : Nat) : (s.markReset n).fld .fltDom [n] 63 56 = (s.fld .fltDom [n] 63 56 + 1) % 256 := by
  rw [State.markReset_eq ht hw, State.bumpMod, State.fld_setFld_same, State.bump, State.fld_setFld_above _ _ _ _ _ _ _ _ (by omega) (by omega)]
  rfl

theorem State.markReset_count (n : Nat) : (s.markReset n).fld .fltDom [n] 55 32 = satAdd 24 (s.fld .fltDom [n] 55 32) 1 := by
  rw [State.markReset_eq ht hw, State.bumpMod, State.fld_setFld_below _ _ _ _ _ _ _ _ (by omega), State.fld_bump_same]
  exact satAdd_mod _ _ _

theorem State.markReset_regs (n : Nat) : s.regsBut (s.markReset n) [Reg.addr .fltDom [n]] := by
  rw [State.markReset_eq ht hw]
  exact ((s.resetNoted n).regsBut_bump (r := .fltDom) (is := [n]) List.mem_cons_self 55 32 1).trans (State.regsBut_setFld _ .fltDom [n] 63 56 _)

/-- A reset that begins changes registers and the domains' states alone. -/
theorem State.markReset_frame (n : Nat) : ∃ r, s.markReset n = { s.resetNoted n with regs := r } := by
  rw [State.markReset_eq ht hw]
  exact ⟨_, rfl⟩

theorem State.markReset_reco (n : Nat) : (s.markReset n).reco = (s.resetNoted n).reco := by
  obtain ⟨r, hr⟩ := State.markReset_frame ht hw n
  rw [hr]

theorem State.markReset_dom {n : Nat} (hd : s.reco.doms.find? n = none) : (s.markReset n).reco.doms.get n {} = ⟨some s.local, [s.local]⟩ := by
  have hget : s.reco.doms.get n {} = {} := by rw [Tbl.get, hd]; rfl
  rw [State.markReset_reco ht hw, State.resetNoted, hget]
  dsimp only
  rw [Tbl.get_set_same]
  rfl

end

/-- A unit that was not reset in the last second is reset alone. -/
theorem State.resetNarrow_first {n : Nat} (ht : s.flt.tests = []) (hw : s.flt.waiting = []) (hn : n < 1408) (hd : s.reco.doms.find? n = none)
    (hk : ((s.markReset n).loseNarrow n).reco = (s.markReset n).reco) : s.resetNarrow n = (s.markReset n).loseNarrow n := by
  have hshared : sharedWith n = [n] := by
    unfold sharedWith
    rw [if_neg (by omega), if_neg (by omega)]
  have hoften : ((s.markReset n).loseNarrow n).resetOften n = false := by
    rw [State.resetOften, hk, State.markReset_dom ht hw hd]
  unfold State.resetNarrow
  dsimp only
  rw [if_neg (show ¬1472 ≤ n by omega), hshared]
  exact if_neg (Bool.eq_false_iff.1 hoften)

/-! ### The watchdog of a port (R455) -/

/-- The loss of a link changes nothing of the resets, and notes no change of HBM. -/
theorem State.linkTo_reco (p : Nat) (st : LinkState) : (s.linkTo p st).reco = s.reco ∧ (s.linkTo p st).mops = s.mops := by
  by_cases h : s.linkState p = .up
  · obtain ⟨-, -, -, hs, -⟩ := State.linkTo_lostLink (st := st) h
    exact ⟨(congrArg State.reco hs :), (congrArg State.mops hs :)⟩
  · rw [State.linkTo_of_down h]
    exact ⟨rfl, rfl⟩

theorem State.anState_congr {s t : State} {p : Nat} (h : t.reg .prtPortCfg (portIdx p) = s.reg .prtPortCfg (portIdx p)) : t.anState p = s.anState p := by
  rw [State.anState, State.anState, State.fld, State.fld, h]

theorem prtPortCfg_ne_fltDom {p : Nat} (hp : p < 768) : Reg.addr .prtPortCfg (portIdx p) ∉ [Reg.addr .fltDom [p]] := by
  rw [List.mem_singleton, addr_prtPortCfg, addr_fltDom]
  omega

/-- The reset of a port that is not held in DISABLED restarts it, counts the reset, and loses nothing else that a reset's end or a report
rests on. -/
theorem State.resetPort_resets {n : Nat} (hn : n < 768) (ht : s.flt.tests = []) (hw : s.flt.waiting = []) (hd : s.reco.doms.find? n = none)
    (hup : s.linkState n = .up) :
    (s.resetNarrow n).linkState n = s.anState n ∧ (s.resetNarrow n).domBusy n = true ∧ (s.resetNarrow n).mops = s.mops
      ∧ (∀ die, die < 8 → (s.resetNarrow n).flt.queues.get die [] = s.flt.queues.get die [])
      ∧ (s.resetNarrow n).fld .fltDom [n] 63 56 = (s.fld .fltDom [n] 63 56 + 1) % 256
      ∧ (s.resetNarrow n).fld .fltDom [n] 55 32 = satAdd 24 (s.fld .fltDom [n] 55 32) 1 := by
  have hregs := State.markReset_regs ht hw n
  have hgen := State.markReset_gen ht hw n
  have hcount := State.markReset_count ht hw n
  have hdom := State.markReset_dom ht hw hd
  have hfirst := s.resetNarrow_first (n := n) ht hw (by omega) hd
  obtain ⟨r, hr⟩ := State.markReset_frame ht hw n
  generalize s.markReset n = u at hregs hgen hcount hdom hfirst hr
  have huup : u.linkState n = .up := by rw [hr]; exact hup
  have hlose : u.loseNarrow n = u.linkTo n (u.anState n) := (if_pos hn).trans (if_neg (by rw [huup]; decide))
  have han : u.anState n = s.anState n := State.anState_congr (State.regsBut.reg_eq hregs (prtPortCfg_ne_fltDom hn))
  obtain ⟨hreco, hmops⟩ := u.linkTo_reco n (u.anState n)
  have hsheds := u.linkTo_sheds n (u.anState n)
  have hdomReg : (u.linkTo n (u.anState n)).reg .fltDom [n] = u.reg .fltDom [n] := hsheds.reg_eq (settled_fltDom (by omega))
  rw [hfirst (by rw [hlose, hreco]), hlose]
  refine ⟨(u.linkState_linkTo_same n _).trans han, ?_, hmops.trans (by rw [hr]; rfl), fun die h8 => (hsheds.queues die h8).trans (by rw [hr]; rfl), ?_, ?_⟩
  · rw [State.domBusy, hreco, hdom]
    rfl
  · rw [State.fld, hdomReg]
    exact hgen
  · rw [State.fld, hdomReg]
    exact hcount

theorem bodyWatchdogFire_unwatched {n : Nat} (h : s.watched n = false) : bodyWatchdogFire n s = s := if_pos (by rw [h]; rfl)

theorem State.watched_port {n : Nat} (hn : n < 768) (h : s.watched n = true) : s.isPort n = true ∧ s.linkState n = .up := by
  unfold State.watched at h
  rw [if_pos hn] at h
  simp only [Bool.and_eq_true] at h
  obtain ⟨-, hport, hup⟩ := h
  exact ⟨hport, eq_of_beq hup⟩

theorem State.domBusy_of_none {n : Nat} (h : s.reco.doms.find? n = none) : s.domBusy n = false := by
  rw [State.domBusy, Tbl.get, h]
  rfl

/-- The message of a watchdog changes neither the reaction to it nor the resets under way. -/
theorem State.raise_reacts (n : Nat) (hr : s.reactionOf 0x040 2 = 4) (hd : s.reco.doms.find? n = none) :
    (s.raise (domainDie n) 0x1C n 0x040 2 0).reactionOf 0x040 2 = 4 ∧ (s.raise (domainDie n) 0x1C n 0x040 2 0).domBusy n = false
      ∧ (s.raise (domainDie n) 0x1C n 0x040 2 0).reco = s.reco := by
  have hreact := State.reactionOf_congr (State.regsBut.reg_eq (r := .fltReact) (is := [0x040]) (s.raise_regs (domainDie n) 0x1C n 0x040 2 0)
    (by decide)) 2
  obtain ⟨r, f, hraise⟩ := s.raise_frame (domainDie n) 0x1C n 0x040 2 0
  refine ⟨hreact.trans hr, State.domBusy_of_none _ ?_, by rw [hraise]⟩
  rw [hraise]
  exact hd

/-- A watchdog that fires where nothing else is under way resets its domain. -/
theorem bodyWatchdogFire_resets {n : Nat} (h : s.watched n = true) (hr : s.reactionOf 0x040 2 = 4) (hn : n < 1408)
    (hd : s.reco.doms.find? n = none) (hs : s.reco.search = none) :
    bodyWatchdogFire n s = (s.raise (domainDie n) 0x1C n 0x040 2 0).resetDomain n := by
  obtain ⟨hreact, hbusy, hreco⟩ := s.raise_reacts n hr hd
  unfold bodyWatchdogFire
  dsimp only
  generalize s.raise (domainDie n) 0x1C n 0x040 2 0 = u at hreact hbusy hreco ⊢
  rw [if_neg (by rw [h]; exact Bool.false_ne_true), if_neg (show ¬(1408 ≤ n ∧ n < 1472) by omega), if_neg (not_not.2 hreact),
    if_neg (by rw [hbusy]; exact Bool.false_ne_true), hreco, hs]

/-- The message of a port's watchdog waits in its die's queue. -/
def State.noProgress (s : State) (n : Nat) : State := { s with flt := { s.flt with
  queues := s.flt.queues.set (n / 96) (s.flt.queues.get (n / 96) [] ++ [⟨n / 96, 0x1C, n, 0x040, 2, s.now, 0⟩]) } }

theorem watchdogFire_port {n : Nat} (hn : n < 768) (h : s.watched n = true) (hr : s.reactionOf 0x040 2 = 4) (hd : s.reco.doms.find? n = none)
    (hs : s.reco.search = none) (ht : s.flt.tests = []) (hw : s.flt.waiting = []) (hq : (s.flt.queues.get (n / 96) []).length < 256) :
    ∃ t, exec (.watchdogFire n) s = .next t ∧ t.linkState n = s.anState n ∧ t.domBusy n = true ∧ t.mem = s.mem
      ∧ t.flt.queues.get (n / 96) [] = s.flt.queues.get (n / 96) [] ++ [⟨n / 96, 0x1C, n, 0x040, 2, s.now, 0⟩]
      ∧ t.fld .fltDom [n] 63 56 = (s.fld .fltDom [n] 63 56 + 1) % 256
      ∧ t.fld .fltDom [n] 55 32 = satAdd 24 (s.fld .fltDom [n] 55 32) 1 := by
  obtain ⟨hport, hup⟩ := s.watched_port hn h
  have hbody := bodyWatchdogFire_resets s.fresh h hr (by omega) hd hs
  have hraise : _ = s.fresh.noProgress n := s.fresh.raise_major (die := n / 96) hq (le_refl 2) 0x1C n 0x040 0
  rw [show domainDie n = n / 96 from if_pos hn] at hbody
  obtain ⟨hlink, hbusy, hmops, hkeep, hgen, hcount⟩ := (s.fresh.noProgress n).resetPort_resets hn ht hw hd hup
  rw [hraise] at hbody
  refine ⟨_, commitMem_of (hbody.trans ((if_pos hn).trans (if_pos hport))), hlink, hbusy, ?_, ?_, hgen, hcount⟩
  · rw [State.keptMem_mem, hmops]
    rfl
  · exact (hkeep _ (by omega)).trans (Tbl.get_set_same _ _ _ _)

/-! ### Requests that a reset loses leave the search alone (R206, R464) -/

/-- What a search rests on: the contexts, the resets, and the count of quarantines. -/
def State.searchView (s : State) : Svc × RecSt × Nat := (s.svc, s.reco, s.fld .fltSearch [] 21 0)

theorem fltSearch_ne_of_lt {a : Nat} (h : 0x400000 ≤ a) : Reg.addr .fltSearch [] ≠ a := by
  rw [addr_fltSearch]
  omega

theorem State.bump_searchView {r : Reg} {is : List Nat} (h : 0x400000 ≤ r.addr is) (hi lo n : Nat) :
    (s.bump r is hi lo n).searchView = s.searchView :=
  Prod.ext rfl (Prod.ext rfl (s.fld_bump_other _ _ _ _ _ _ _ _ _ (fltSearch_ne_of_lt h)))

theorem State.originate_searchView (die : Nat) (p : Packet) (note : Nat) : (s.originate die p note).searchView = s.searchView := by
  refine Prod.ext (s.originate_svc die p note) (Prod.ext (s.originate_reco die p note)
    (s.fld_originate_other die (fun i => fltSearch_ne_of_lt ?_) 21 0 p note))
  exact Nat.le_trans (by decide) (Nat.le_add_right Reg.fwdCnt.place.base _)

theorem State.nackFrom_searchView (die port : Nat) (p : Packet) (status expect : Nat) :
    (s.nackFrom die port p status expect).searchView = s.searchView := by
  refine (State.originate_searchView _ _ _ _).trans (s.bump_searchView ?_ _ _ _)
  rw [addr_prtQft]
  omega

theorem State.rollback_searchView (q : PReq) : (s.rollback q).searchView = s.searchView := by
  unfold State.rollback
  dsimp only
  split
  · rfl
  · refine (foldl_keeps State.searchView _ (fun t x => ?_) _ _).trans ?_
    · refine (State.nackFrom_searchView _ _ _ _ _ _).trans (t.bump_searchView ?_ _ _ _)
      exact Nat.le_trans (by decide) (Nat.le_add_right Reg.rgnErr.place.base _)
    · split
      · split_ifs <;> rfl
      · rfl

theorem State.loseReqs_searchView (lost : PReq → Bool) : (s.loseReqs lost).searchView = s.searchView :=
  foldl_keeps State.searchView State.rollback (fun t q => t.rollback_searchView q) _ _

theorem State.loseEngine_searchView (h e : Nat) : (s.loseEngine h e).searchView = s.searchView := by
  unfold State.loseEngine
  dsimp only
  split_ifs
  · rfl
  · exact s.loseReqs_searchView _
  · rfl

theorem State.loseNarrow_engine {n : Nat} (h : 768 ≤ n) (h' : n < 1408) : s.loseNarrow n = s.loseEngine ((n - 768) / 160) ((n - 768) % 160) :=
  (if_neg (Nat.not_lt.2 h)).trans (if_pos h')

/-- The reset of an engine with no self-test under way and no reset before: its search goes on as it stood. -/
theorem State.resetEngine_resets {n : Nat} (h : 768 ≤ n) (h' : n < 1408) (ht : s.flt.tests = []) (hw : s.flt.waiting = [])
    (hd : s.reco.doms.find? n = none) : (s.resetNarrow n).searchView = (s.resetNoted n).searchView := by
  have hregs := State.markReset_regs ht hw n
  have hfirst := s.resetNarrow_first (n := n) ht hw (by omega) hd
  have hreco := State.markReset_reco ht hw n
  obtain ⟨r, hr⟩ := State.markReset_frame ht hw n
  generalize s.markReset n = u at hregs hfirst hreco hr
  have hlose : (u.loseNarrow n).searchView = u.searchView := by
    rw [u.loseNarrow_engine h h']
    exact u.loseEngine_searchView _ _
  rw [hfirst (congrArg (fun v => v.2.1) hlose), hlose]
  refine Prod.ext (by rw [hr]; rfl) (Prod.ext hreco ?_)
  refine State.regsBut.fld_eq hregs ?_ 21 0
  rw [List.mem_singleton, addr_fltDom, addr_fltSearch]
  omega

theorem State.resetNoted_dom (n : Nat) : (s.resetNoted n).reco.doms.get n {}
    = { s.reco.doms.get n {} with since := some s.local, times := (s.local :: (s.reco.doms.get n {}).times).take 4 } := Tbl.get_set_same _ _ _ _

/-! ### The search (R464) -/

/-- A context as a search holds it. -/
def State.heldFor (s : State) (n : Nat) (c : Ctx) : Ctx :=
  if c.steer = .open_ ∧ s.usesDomain c n = true then { c with steer := .held, suspect := c.state == .active } else c

/-- A search under way, its suspects held. -/
def State.searching (s : State) (n : Nat) : State :=
  { s with
    svc := { s.svc with ctxs := s.svc.ctxs.map fun e => (e.1, s.heldFor n e.2) }
    reco := { s.reco with search := some ⟨n, s.suspectsOf n, none, s.local, s.local, []⟩ } }

theorem State.beginSearch_first (n : Nat) (h : s.reco.search = none) : s.beginSearch n = s.searching n := by
  have hctxs (e : Nat × Ctx) : (if e.2.steer = .open_ ∧ s.usesDomain e.2 n = true then (e.1, { e.2 with steer := .held, suspect := e.2.state == .active })
      else e) = (e.1, s.heldFor n e.2) := by
    unfold State.heldFor
    split_ifs <;> rfl
  unfold State.beginSearch
  dsimp only
  rw [funext hctxs, h]
  rfl

theorem State.endUnretained_engine {n : Nat} (h : n < 1408) : s.endUnretained n = s := if_neg (by omega)

theorem State.resetDomain_engine {n : Nat} (h : 768 ≤ n) (h' : n < 1408) (hs : s.reco.search = none) : s.resetDomain n = (s.searching n).resetNarrow n := by
  unfold State.resetDomain
  rw [if_neg (Nat.not_lt.2 h), if_pos (by omega), if_neg (by omega), s.endUnretained_engine h', s.beginSearch_first n hs]

theorem domainGo_searches {n : Nat} (h : 768 ≤ n) (h' : n < 1408) (hup : s.islandsUp = true) (hp : s.pins.pwrGood = true) (hsafe : s.flt.safe = false)
    (hd : s.reco.doms.find? n = none) (hs : s.reco.search = none) (ht : s.flt.tests = []) (hw : s.flt.waiting = []) :
    ∃ t, exec (.domainGo n) s = .next t ∧ t.domBusy n = true ∧ t.reco.search = some ⟨n, s.suspectsOf n, none, s.local, s.local, []⟩
      ∧ ∀ k c, s.svc.ctxs.find? k = some c → t.svc.ctxs.find? k = some (s.heldFor n c) := by
  have hbody : bodyDomainGo n s.fresh = (s.fresh.searching n).resetNarrow n :=
    (if_pos ⟨by omega, hsafe, hp⟩).trans (s.fresh.resetDomain_engine h h' hs)
  have hview := (s.fresh.searching n).resetEngine_resets h h' ht hw hd
  refine ⟨_, commitMem_ifIslands hup hbody, ?_, ?_, fun k c hc => ?_⟩
  · have hreco : ((s.fresh.searching n).resetNarrow n).reco = ((s.fresh.searching n).resetNoted n).reco := congrArg (fun v => v.2.1) hview
    rw [State.domBusy, State.keptMem_reco, hreco, State.resetNoted_dom]
    rfl
  · exact congrArg (fun v => v.2.1.search) hview
  · have hsvc : ((s.fresh.searching n).resetNarrow n).svc = (s.fresh.searching n).svc := congrArg Prod.fst hview
    rw [State.keptMem_svc, hsvc]
    exact (Tbl.find?_map _ _ _).trans (congrArg (Option.map (s.heldFor n)) hc)

/-! ### The guilty context (R465) -/

/-- The quarantine list with a descriptor's hash in it, its 256 last entries kept. -/
def quarWith (l : List (List Byte)) (h : List Byte) : List (List Byte) :=
  let l' := if l.contains h then l else l ++ [h]
  l'.drop (l'.length - 256)

theorem mem_quarWith {l : List (List Byte)} (h : List Byte) (hl : l.length ≤ 256) : h ∈ quarWith l h := by
  unfold quarWith
  dsimp only
  split_ifs with hc
  · rw [Nat.sub_eq_zero_of_le hl]
    exact List.contains_iff_mem.1 hc
  · rw [List.length_append, List.length_singleton, List.drop_append_of_le_length (by omega)]
    exact List.mem_append_right _ (List.mem_singleton_self h)

/-- A descriptor is quarantined, and no suspect is readmitted any more. -/
def State.convicted (s : State) (q : Search) (h : List Byte) : State :=
  { s with
    svc := { s.svc with quar := quarWith s.svc.quar h }
    reco := { s.reco with search := some { q with current := none } } }

section
variable {s} {g : Nat} {c : Ctx} (hc : s.ctx? g = some c)
include hc

theorem State.endAbort_device : s.endAbort g stDEVICE_RESET 0 [] none
    = (s.setCtx g (c.aborted stDEVICE_RESET s.local)).toMembers g c tABORT (abortPayload stDEVICE_RESET 0 []) none := by
  rw [State.endAbort, hc]
  exact if_neg fun h => absurd h.2 (by decide)

theorem State.guilty_eq (q : Search) : s.guilty q g
    = ((s.endAbort g stDEVICE_RESET 0 [] none).convicted q (sha256 c.fix.desc)).bump .fltSearch [] 21 0 := by
  have hat : (s.endAbort g stDEVICE_RESET 0 [] none).ctx? g = some (c.aborted stDEVICE_RESET s.local) := by
    rw [State.endAbort_device hc]
    exact Tbl.find?_set_same _ _ _
  unfold State.guilty
  generalize s.endAbort g stDEVICE_RESET 0 [] none = u at hat
  dsimp only
  rw [hat]
  rfl

/-- The readmitted suspect is guilty: its generation ends, its descriptor is quarantined, and the search has none readmitted. -/
theorem State.guilty_convicts (q : Search) : ∃ u : State, s.guilty q g = u.bump .fltSearch [] 21 0
    ∧ u.svc.quar = quarWith s.svc.quar (sha256 c.fix.desc) ∧ u.reco = { s.reco with search := some { q with current := none } }
    ∧ u.flt = s.flt ∧ u.regs = s.regs := by
  have h := State.endAbort_device hc
  refine ⟨_, State.guilty_eq hc q, ?_⟩
  generalize s.endAbort g stDEVICE_RESET 0 [] none = u at h ⊢
  have hquar : u.svc.quar = s.svc.quar := by rw [h]; rfl
  have hreco : u.reco = s.reco := by rw [h]; rfl
  have hflt : u.flt = s.flt := by rw [h]; rfl
  have hregs : u.regs = s.regs := by rw [h]; rfl
  rw [← hquar, ← hreco, ← hflt, ← hregs]
  simp only [State.convicted, and_self]

end

/-- A watchdog that fires again while a suspect is readmitted finds it guilty. -/
theorem bodyWatchdogFire_guilty {n : Nat} {q : Search} {g : Nat} (h : s.watched n = true) (hr : s.reactionOf 0x040 2 = 4) (hn : n < 1408)
    (hd : s.reco.doms.find? n = none) (hs : s.reco.search = some q) (hq : q.domain = n) (hg : q.current = some g) :
    bodyWatchdogFire n s = ((s.raise (domainDie n) 0x1C n 0x040 2 0).guilty q g).resetNarrow n := by
  obtain ⟨hreact, hbusy, hreco⟩ := s.raise_reacts n hr hd
  unfold bodyWatchdogFire
  dsimp only
  generalize s.raise (domainDie n) 0x1C n 0x040 2 0 = u at hreact hbusy hreco ⊢
  rw [if_neg (by rw [h]; exact Bool.false_ne_true), if_neg (show ¬(1408 ≤ n ∧ n < 1472) by omega), if_neg (not_not.2 hreact),
    if_neg (by rw [hbusy]; exact Bool.false_ne_true), hreco, hs]
  dsimp only
  rw [if_pos hq, hg]

theorem watchdogFire_guilty {n : Nat} {q : Search} {g : Nat} {c : Ctx} (h768 : 768 ≤ n) (h1408 : n < 1408) (h : s.watched n = true)
    (hr : s.reactionOf 0x040 2 = 4) (hd : s.reco.doms.find? n = none) (hs : s.reco.search = some q) (hq : q.domain = n) (hg : q.current = some g)
    (hc : s.ctx? g = some c) (hl : s.svc.quar.length ≤ 256) (ht : s.flt.tests = []) (hw : s.flt.waiting = []) :
    ∃ t, exec (.watchdogFire n) s = .next t ∧ sha256 c.fix.desc ∈ t.svc.quar ∧ t.reco.search = some { q with current := none }
      ∧ t.fld .fltSearch [] 21 0 = satAdd 22 (s.fld .fltSearch [] 21 0) 1 := by
  have hbody := bodyWatchdogFire_guilty s.fresh h hr h1408 hd hs hq hg
  obtain ⟨qs, w, hflt⟩ := s.fresh.raise_flt (domainDie n) 0x1C n 0x040 2 0
  have hregs := s.fresh.raise_regs (domainDie n) 0x1C n 0x040 2 0
  obtain ⟨r, f, hraise⟩ := s.fresh.raise_frame (domainDie n) 0x1C n 0x040 2 0
  generalize s.fresh.raise (domainDie n) 0x1C n 0x040 2 0 = v at hbody hflt hregs hraise
  have hvc : v.ctx? g = some c := by rw [hraise]; exact hc
  obtain ⟨u, hu, hquar, hreco, huflt, huregs⟩ := State.guilty_convicts hvc q
  have hfld : u.fld .fltSearch [] 21 0 = s.fld .fltSearch [] 21 0 := by
    rw [State.fld, State.reg, huregs]
    exact State.regsBut.fld_eq hregs (by decide) 21 0
  rw [hu] at hbody
  have hureco : u.reco.doms.find? n = none := by rw [hreco, hraise]; exact hd
  have hview := (u.bump .fltSearch [] 21 0).resetEngine_resets h768 h1408 (by rw [State.bump_flt, huflt, hflt]; exact ht)
    (by rw [State.bump_flt, huflt, hflt]; exact hw) hureco
  refine ⟨_, commitMem_of hbody, ?_, ?_, ?_⟩
  · have hsvc : ((u.bump .fltSearch [] 21 0).resetNarrow n).svc = u.svc := congrArg Prod.fst hview
    rw [State.keptMem_svc, hsvc, hquar, hraise]
    exact mem_quarWith _ hl
  · have hsearch : ((u.bump .fltSearch [] 21 0).resetNarrow n).reco.search = u.reco.search := congrArg (fun v => v.2.1.search) hview
    rw [State.keptMem_reco, hsearch, hreco]
  · have hcount : ((u.bump .fltSearch [] 21 0).resetNarrow n).fld .fltSearch [] 21 0 = (u.bump .fltSearch [] 21 0).fld .fltSearch [] 21 0 :=
      congrArg (fun v => v.2.2) hview
    rw [State.keptMem_fld, hcount, State.fld_bump_same, hfld]
    exact satAdd_mod _ _ _

/-! ### The end of an engine's reset, and of a suspect's trial (R457, R464) -/

theorem State.searchOn_nothing (h : s.reco.search = none) : s.searchOn = s := by
  rw [State.searchOn, State.goOn, h]

theorem State.quarantineLost_nothing (h : ∀ e ∈ s.svc.ctxs, e.2.lost = false) : s.quarantineLost = s := by
  have hnone : (s.svc.ctxs.filter fun (e : Nat × Ctx) => e.2.lost && e.2.state != .quarantine) = [] :=
    List.filter_eq_nil_iff.2 fun e he => by rw [h e he]; exact Bool.false_ne_true
  unfold State.quarantineLost
  split_ifs
  · rfl
  · rw [hnone]
    rfl

/-- What a reset engine does again. -/
def State.engineServes (s : State) (n : Nat) : State :=
  if (n - 768) % 160 < 128 then (s.clearBusy n).streamIssue ((n - 768) / 160) ((n - 768) % 160) else s.clearBusy n

/-- An engine that serves again changes the engines and the domains' states alone. -/
theorem State.engineServes_frame (n : Nat) : ∃ f, s.engineServes n = { s.clearBusy n with fab := f } := by
  unfold State.engineServes
  split_ifs
  · exact ⟨_, State.streamIssue_only _ _ _⟩
  · exact ⟨_, rfl⟩

/-- An engine issues as before whatever changes of HBM are noted. -/
theorem State.streamIssue_noted (h e : Nat) (ops : List MemOp) :
    ({ s with mops := ops } : State).streamIssue h e = { s.streamIssue h e with mops := ops } := by
  by_cases hr : s.engineRuns (s.engine h e) = true
  · exact (if_pos hr).trans (congrArg (fun t : State => { t with mops := ops }) (if_pos hr : s.streamIssue h e = _)).symm
  · exact (if_neg hr).trans (congrArg (fun t : State => { t with mops := ops }) (if_neg hr : s.streamIssue h e = _)).symm

theorem State.engineServes_fresh (n : Nat) : s.fresh.engineServes n = { s.engineServes n with mops := [] } := by
  unfold State.engineServes
  split_ifs
  · exact (s.clearBusy n).streamIssue_noted _ _ []
  · rfl

theorem State.keptMem_engineServes (n : Nat) : s.keptMem (s.fresh.engineServes n) = s.engineServes n := by
  obtain ⟨f, hf⟩ := s.engineServes_frame n
  rw [s.engineServes_fresh, hf]
  rfl

theorem domainResetDone_engine {n : Nat} (h : 768 ≤ n) (h' : n < 1408) (hb : s.domBusy n = true) (hsafe : s.flt.safe = false) (hheld : s.svc.held = [])
    (hs : s.reco.search = none) (hl : ∀ e ∈ s.svc.ctxs, e.2.lost = false) : exec (.domainResetDone n) s = .next (s.engineServes n) := by
  have hshared : sharedWith n = [n] := by
    unfold sharedWith
    rw [if_neg (by omega), if_neg (by omega)]
  have hserve : s.fresh.serveAgain n = s.fresh.engineServes n := (if_neg (Nat.not_lt.2 h)).trans (if_pos h')
  obtain ⟨f, hf⟩ := s.fresh.engineServes_frame n
  have hbody : bodyDomainResetDone n s.fresh = s.fresh.engineServes n := by
    have hgo : (s.fresh.domBusy n && !s.fresh.flt.safe) = true := Bool.and_eq_true_iff.2 ⟨hb, by rw [State.fresh_flt, hsafe]; rfl⟩
    refine (if_pos hgo).trans ?_
    rw [hshared, List.foldl_cons, List.foldl_nil, hserve]
    generalize s.fresh.engineServes n = u at hf
    dsimp only
    rw [u.quarantineLost_nothing (by rw [hf]; exact hl), u.flushHeld_nothing (by rw [hf]; exact hheld), u.searchOn_nothing (by rw [hf]; exact hs)]
  rw [← s.keptMem_engineServes n]
  exact commitMem_of hbody

/-- The trial of the suspect that is readmitted has ended. -/
theorem bodySuspectCleared_ends {q : Search} {n : Nat} (hs : s.reco.search = some q) (hq : q.current = some n)
    (hlong : q.since + 2 * s.watchLimit q.domain ≤ s.local) :
    bodySuspectCleared s = ({ s with reco := { s.reco with search := some { q with current := none } } } : State).searchOn := by
  rw [bodySuspectCleared, hs]
  dsimp only
  rw [hq]
  exact if_pos (by rw [decide_eq_true hlong, Bool.or_true])

/-- A search with no suspect left ends, where none waits. -/
theorem State.searchOn_ends {q : Search} (hs : s.reco.search = some q) (hc : q.current = none) (hb : s.domBusy q.domain = false)
    (hleft : q.left = []) (hlater : s.reco.later = []) : s.searchOn.reco = { s.reco with search := none } := by
  have hgo : s.searchOn = ({ s with reco := { s.reco with search := s.reco.later.head?, later := s.reco.later.drop 1 } } : State).openHeld q.from_ := by
    rw [State.searchOn, show s.reco.later.length + 1 = 0 + 1 by rw [hlater]; rfl, State.goOn, hs]
    dsimp only
    rw [if_neg (by rw [hb, hc]; exact Bool.false_ne_true), hleft]
    rfl
  rw [hgo]
  have hreco : ({ s.reco with search := s.reco.later.head?, later := s.reco.later.drop 1 } : RecSt) = { s.reco with search := none, later := s.reco.later } := by
    rw [hlater]
    rfl
  exact hreco

theorem suspectCleared_ends {q : Search} {n : Nat} (hs : s.reco.search = some q) (hq : q.current = some n) (hsafe : s.flt.safe = false)
    (hb : s.domBusy q.domain = false) (hlong : q.since + 2 * s.watchLimit q.domain ≤ s.local) (hleft : q.left = []) (hlater : s.reco.later = []) :
    ∃ t, exec .suspectCleared s = .next t ∧ t.reco = { s.reco with search := none } :=
  ⟨_, commitMem_unlessSafe hsafe (bodySuspectCleared_ends s.fresh hs hq hlong),
    State.searchOn_ends { s.fresh with reco := { s.fresh.reco with search := some { q with current := none } } } rfl rfl hb hleft hlater⟩

theorem bodySuspectCleared_waits {q : Search} {n : Nat} {c : Ctx} (hs : s.reco.search = some q) (hq : q.current = some n)
    (hc : s.ctx? n = some c) (hr : c.runs = true) (hlong : s.local < q.since + 2 * s.watchLimit q.domain) : bodySuspectCleared s = s := by
  rw [bodySuspectCleared, hs]
  dsimp only
  rw [hq]
  dsimp only
  rw [hc]
  dsimp only
  exact if_neg (by rw [hr, decide_eq_false (Nat.not_le.2 hlong)]; exact Bool.false_ne_true)

theorem suspectCleared_waits {q : Search} {n : Nat} {c : Ctx} (hs : s.reco.search = some q) (hq : q.current = some n) (hsafe : s.flt.safe = false)
    (hc : s.ctx? n = some c) (hr : c.runs = true) (hlong : s.local < q.since + 2 * s.watchLimit q.domain) :
    exec .suspectCleared s = .next s :=
  commitMem_unlessSafe hsafe (bodySuspectCleared_waits s.fresh hs hq hc hr hlong)

/-! ### A stack that trained again (R215) -/

/-- A byte of HBM after whole pages were zeroed. -/
theorem Memory.byte_clears (m : Memory) {size : Nat} (hsize : 0 < size) (ps : List Nat) (a : Nat) :
    Memory.byte (Memory.after m (ps.map fun p => .clear (p * size) size)) a = if a / size ∈ ps then blankByte else Memory.byte m a := by
  induction ps generalizing m with
  | nil => rfl
  | cons p ps ih =>
    refine (ih (m.zero (p * size) size)).trans ?_
    have hpage : a / size = p ↔ p * size ≤ a ∧ a < p * size + size := by
      rw [Nat.div_eq_iff hsize, Nat.le_sub_one_iff_lt (by omega)]
    by_cases hp : a / size = p
    · obtain ⟨hlo, hhi⟩ := hpage.1 hp
      rw [Memory.byte_zero_in m _ _ a hlo hhi, ite_self, if_pos (List.mem_cons.2 (.inl hp))]
    · have hout : a < p * size ∨ p * size + size ≤ a := by
        by_contra h
        exact hp (hpage.2 ⟨by omega, by omega⟩)
      rw [Memory.byte_zero_other m _ _ a hout]
      simp only [List.mem_cons, hp, false_or]

/-- A byte whose page holds no listed cell is blank. -/
theorem Memory.byte_unlisted {m : Memory} {size a : Nat} (h : a / size ∉ (m.map fun (c : Host.Cell) => c.1 / size)) : Memory.byte m a = blankByte := by
  have hnone : m.find? (fun c => c.1 == a) = none := by
    refine List.find?_eq_none.2 fun c hc hca => h ?_
    rw [← eq_of_beq hca]
    exact List.mem_map.2 ⟨c, hc, rfl⟩
  rw [Memory.byte, hnone]

/-- The pages of a stack that hold something and are no region's, as `stackBack` zeroes them. -/
def strayPages (m : Memory) (k : Nat) (held : List Nat) : List Nat :=
  ((m.map fun (c : Host.Cell) => c.1 / pageBytes).eraseDups).filter fun p => p / stackPages == k && !held.contains (p % stackPages)

theorem byte_strayPages (m : Memory) (k a : Nat) (held : List Nat) :
    Memory.byte (Memory.after m ((strayPages m k held).map fun p => .clear (p * pageBytes) pageBytes)) a
      = if a / pageBytes / stackPages = k ∧ a / pageBytes % stackPages ∉ held then blankByte else Memory.byte m a := by
  rw [Memory.byte_clears m (by decide)]
  have hmem : a / pageBytes ∈ strayPages m k held ↔ a / pageBytes ∈ (m.map fun (c : Host.Cell) => c.1 / pageBytes)
      ∧ (a / pageBytes / stackPages = k ∧ a / pageBytes % stackPages ∉ held) := by
    rw [strayPages, List.mem_filter, List.mem_eraseDups]
    simp only [Bool.and_eq_true, beq_iff_eq, Bool.not_eq_true', List.contains_eq_mem, decide_eq_false_iff_not]
  by_cases hin : a / pageBytes ∈ (m.map fun (c : Host.Cell) => c.1 / pageBytes)
  · exact if_congr (hmem.trans (and_iff_right hin)) rfl rfl
  · rw [Memory.byte_unlisted hin, ite_self, ite_self]

/-- The poison of a stack that trained again: none on it but on the pages that regions hold. -/
def State.repoisoned (s : State) (k : Nat) : State :=
  (s.rgnPages k).foldl (fun (s : State) p =>
      s.poisonLines ((k * stackPages + p) * (pageBytes / 64)) ((k * stackPages + p + 1) * (pageBytes / 64)))
    (s.cleanLines (k * stackPages * (pageBytes / 64)) ((k + 1) * stackPages * (pageBytes / 64)))

theorem State.repoisoned_frame (k : Nat) : ∃ l, s.repoisoned k = { s with mp := { s.mp with poison := l } } := by
  refine foldl_invariant (P := fun t : State => ∃ l, t = { s with mp := { s.mp with poison := l } }) (fun t p ⟨l, ht⟩ => ?_) _ ⟨_, rfl⟩
  rw [ht]
  unfold State.poisonLines
  split_ifs <;> exact ⟨_, rfl⟩

theorem State.foldl_clear (ps : List Nat) :
    ps.foldl (fun (s : State) p => s.memOp (.clear (p * pageBytes) pageBytes)) s
      = { s with mops := s.mops ++ ps.map fun p => .clear (p * pageBytes) pageBytes } := by
  induction ps generalizing s with
  | nil => rw [List.map_nil, List.append_nil]; rfl
  | cons p ps ih =>
    refine (ih _).trans ?_
    rw [List.map_cons, List.append_cons]
    rfl

/-- A stack serves again. -/
def State.retrained (s : State) (k : Nat) : State := s.setStack k { s.stack k with retrain := false, lastUse := s.local }

theorem State.stackBack_eq (k : Nat) (h : s.mops = []) : ∃ l, s.stackBack k
    = (({ s with mp := { s.mp with poison := l }, mops := (strayPages s.mem k (s.rgnPages k)).map fun p => .clear (p * pageBytes) pageBytes }
        : State).retrained k).clearBusy (1472 + k) := by
  obtain ⟨l, hl⟩ := s.repoisoned_frame k
  have hhbm : (s.repoisoned k).hbm = s.mem := by
    rw [hl, State.hbm, h]
    rfl
  have hfold := (s.repoisoned k).foldl_clear (strayPages s.mem k (s.rgnPages k))
  refine ⟨l, ?_⟩
  have hback : s.stackBack k = (((strayPages (s.repoisoned k).hbm k (s.rgnPages k)).foldl
      (fun (s : State) p => s.memOp (.clear (p * pageBytes) pageBytes)) (s.repoisoned k)).retrained k).clearBusy (1472 + k) := rfl
  rw [hback, hhbm, hfold, hl, h, List.nil_append]

section
variable {k : Nat} (hk : k < 16) (hr : (s.stack k).retrain = true) (hsafe : s.flt.safe = false)
include hk hr hsafe

theorem stackRetrainDone_fails (hq : s.flt.queues.get (8 + k / 4) [] = []) :
    ∃ t, exec (.stackRetrainDone k .fail) s = .next t ∧ (t.stack k).retrain = true ∧ t.mem = s.mem
      ∧ t.flt.queues.get (8 + k / 4) [] = [⟨8 + k / 4, 0x0A, 32 * (k % 4), 0x022, 2, s.now, 0⟩] := by
  have hbody : bodyStackRetrainDone k .fail s.fresh = s.fresh.raise (8 + k / 4) 0x0A (32 * (k % 4)) 0x022 2 0 := if_pos ⟨hk, hr⟩
  have hqueue := State.raise_firstMajor (s := s.fresh) hq (le_refl 2) 0x0A (32 * (k % 4)) 0x022 0
  obtain ⟨r, f, hraise⟩ := s.fresh.raise_frame (8 + k / 4) 0x0A (32 * (k % 4)) 0x022 2 0
  refine ⟨_, commitMem_unlessSafe hsafe hbody, ?_, ?_, hqueue⟩
  · rw [hraise]
    exact hr
  · rw [hraise]
    rfl

theorem stackRetrainDone_serves :
    ∃ t, exec (.stackRetrainDone k .pass) s = .next t ∧ (t.stack k).retrain = false ∧ t.domBusy (1472 + k) = false
      ∧ ∀ a, Memory.byte t.mem a
          = if a / pageBytes / stackPages = k ∧ a / pageBytes % stackPages ∉ s.rgnPages k then blankByte else Memory.byte s.mem a := by
  obtain ⟨l, hl⟩ := s.fresh.stackBack_eq k rfl
  have hbody : bodyStackRetrainDone k .pass s.fresh = s.fresh.stackBack k := if_pos ⟨hk, hr⟩
  refine ⟨_, commitMem_unlessSafe hsafe (hbody.trans hl), ?_, ?_, fun a => byte_strayPages s.mem k a (s.rgnPages k)⟩
  · rw [State.stack, State.keptMem_mp]
    exact congrArg StackSt.retrain (Tbl.get_set_same _ _ _ _)
  · rw [State.domBusy, State.keptMem_reco, State.clearBusy]
    exact congrArg (fun d : DomSt => d.since.isSome) (Tbl.get_set_same _ _ _ _)

end

end

end Sys2Proof.Machine
end

section
/-!
PROOFS. What the resets of the whole module lose and keep (O57).
-/

namespace Sys2Proof.Machine

/-! ### The register words that a warm reset leaves (R12, R468) -/

/-- A table whose entries are changed key by key, an entry at a time. -/
theorem Tbl.find?_flatMap {α : Type} (t : Tbl α) {f : Nat × α → List (Nat × α)} (hkey : ∀ e, ∀ x ∈ f e, x.1 = e.1) {a : Nat} {g : α → α}
    (hat : ∀ v, f (a, v) = [(a, g v)]) : Tbl.find? (t.flatMap f) a = (Tbl.find? t a).map g := by
  have hskip (l : Tbl α) (u : Tbl α) (h : ∀ x ∈ l, x.1 ≠ a) : Tbl.find? (l ++ u) a = Tbl.find? u a := by
    induction l with
    | nil => rfl
    | cons x l ih =>
      obtain ⟨hx, hl⟩ := List.forall_mem_cons.1 h
      exact (if_neg hx).trans (ih hl)
  induction t with
  | nil => rfl
  | cons e t ih =>
    obtain ⟨b, v⟩ := e
    rw [List.flatMap_cons]
    by_cases hb : b = a
    · subst hb
      rw [hat v]
      exact (if_pos rfl).trans (congrArg (Option.map g) (if_pos rfl : Tbl.find? ((b, v) :: t) b = _)).symm
    · have hne : Tbl.find? ((b, v) :: t) a = Tbl.find? t a := if_neg hb
      rw [hskip _ _ (fun x hx => by rw [hkey _ x hx]; exact hb), ih, hne]

theorem mem_warmWord {e x : Nat × Nat} (h : x ∈ warmWord e) : x.1 = e.1 := by
  unfold warmWord at h
  split_ifs at h
  · rw [List.mem_singleton.1 h]
  · split at h
    · cases h
    · dsimp only at h
      split_ifs at h
      · rw [List.mem_singleton.1 h]
      · cases h
      · rw [List.mem_singleton.1 h]

theorem warmWord_alwaysOn {a : Nat} (h : a < 0x500000) (v : Nat) : warmWord (a, v) = [(a, v)] := if_pos h

/-- A field laid over a word from the same field of another. -/
def layField (v w : Nat) (f : RegField) : Nat := Nat.withField w f.hi f.lo (v / 2 ^ f.lo)

/-- What a warm reset leaves of a word of FAB_SPARE: its three fields, all RWS. -/
def spareKept (v : Nat) : Nat := [⟨63, 63, .rws, 0⟩, ⟨62, 57, .rws, 0⟩, ⟨56, 47, .rws, 0⟩].foldl (layField v) 0

theorem locate_fabSpare {d : Nat} (h : d < 8) : locate (Reg.addr .fabSpare [d]) = some (.fabSpare, [d]) := by
  interval_cases d <;> rfl

theorem warmWord_located {a d : Nat} (ha : ¬a < 0x500000) (hl : locate a = some (.fabSpare, [d])) (v : Nat) : warmWord (a, v) = [(a, spareKept v)] := by
  have hfields : (Reg.fields .fabSpare).filter (fun f => f.acc == .rws) = [⟨63, 63, .rws, 0⟩, ⟨62, 57, .rws, 0⟩, ⟨56, 47, .rws, 0⟩] := by decide
  have hreset : regReset .fabSpare [d] = 0 := by simp [regReset, fieldsReset, Reg.fields]
  -- As a function: applied, the kernel would evaluate the address map.
  conv_lhs =>
    fun
    delta warmWord
  rw [if_neg ha, hl]
  dsimp only
  rw [if_neg (by decide), hfields, hreset]
  exact if_neg Bool.false_ne_true

theorem warmWord_fabSpare {d : Nat} (h : d < 8) (v : Nat) : warmWord (Reg.addr .fabSpare [d], v) = [(Reg.addr .fabSpare [d], spareKept v)] :=
  warmWord_located (Nat.not_lt.2 (Nat.le_trans (by decide) (Nat.le_add_right Reg.fabSpare.place.base _))) (locate_fabSpare h) v

/-- Field `f` of a word. -/
def RegField.of (f : RegField) (w : Nat) : Nat := w / 2 ^ f.lo % 2 ^ (f.hi + 1 - f.lo)

theorem layField_same (v w : Nat) (f : RegField) : f.of (layField v w f) = f.of v := Nat.field_withField_same _ _ _ _

theorem layField_above (v w : Nat) {f g : RegField} (hf : f.lo ≤ f.hi) (h : f.hi < g.lo) : g.of (layField v w f) = g.of w :=
  Nat.field_withField_above _ _ _ _ _ _ h hf

/-- Fields laid over a word from the top down are all kept. -/
theorem foldl_layField (v : Nat) (fs : List RegField) (hfs : fs.Pairwise fun f g => g.hi < f.lo) (hwf : ∀ f ∈ fs, f.lo ≤ f.hi) (w : Nat) {f : RegField}
    (h : f ∈ fs ∨ f.of w = f.of v ∧ ∀ g ∈ fs, g.hi < f.lo) : f.of (fs.foldl (layField v) w) = f.of v := by
  induction fs generalizing w with
  | nil => exact h.elim (fun hm => by cases hm) And.left
  | cons g fs ih =>
    obtain ⟨hg, hpair⟩ := List.pairwise_cons.1 hfs
    obtain ⟨hgwf, hwf⟩ := List.forall_mem_cons.1 hwf
    refine ih hpair hwf (layField v w g) ?_
    rcases h with hm | ⟨hw, hbelow⟩
    · rcases List.mem_cons.1 hm with rfl | hm
      · exact .inr ⟨layField_same v w f, hg⟩
      · exact .inl hm
    · obtain ⟨hgf, hbelow⟩ := List.forall_mem_cons.1 hbelow
      exact .inr ⟨(layField_above v w hgwf hgf).trans hw, hbelow⟩

theorem field_spareKept (v : Nat) {f : RegField} (h : f ∈ Reg.fields .fabSpare) : f.of (spareKept v) = f.of v :=
  foldl_layField v _ (by decide) (by decide) 0 (.inl h)

/-- The registers as a warm reset leaves them. -/
def State.warmRegs (s : State) : Tbl Nat := (s.regs.flatMap warmWord).map fun e => (e.1, restarted e.1 e.2)

theorem State.find?_warmRegs (s : State) {a : Nat} {g : Nat → Nat} (hat : ∀ v, warmWord (a, v) = [(a, g v)]) :
    Tbl.find? s.warmRegs a = (s.regs.find? a).map fun v => restarted a (g v) := by
  rw [State.warmRegs, List.map_flatMap]
  refine Tbl.find?_flatMap _ (fun e x hx => ?_) fun v => ?_
  · obtain ⟨y, hy, rfl⟩ := List.mem_map.1 hx
    exact (mem_warmWord hy :)
  · rw [hat v]
    rfl

theorem restarted_other {a : Nat} (h : 0x500000 ≤ a) (v : Nat) : restarted a v = v := by
  have hstart : Reg.ctlStart.addr [] = 0x40 := rfl
  have hcomplex : Reg.ctlComplex.addr [] = 0x10 := rfl
  have htokens : Reg.pwrTokens.addr [] = 0x200010 := rfl
  rw [restarted, hstart, hcomplex, htokens, if_neg (by omega), if_neg (by omega)]

section
variable {s t : State} (h : t.regs = s.warmRegs)
include h

/-- A warm reset keeps the words of the always-on registers, but for the fields that restart. -/
theorem State.warmRegs_alwaysOn {a : Nat} (ha : a < 0x500000) : t.regs.find? a = (s.regs.find? a).map (restarted a) := by
  rw [h]
  exact s.find?_warmRegs (g := id) (warmWord_alwaysOn ha)

theorem State.warmRegs_zero {r : Reg} (hr : r = .ctlStart ∨ r = .ctlComplex) : t.reg r [] = 0 := by
  have haddr : r.addr [] = Reg.ctlStart.addr [] ∨ r.addr [] = Reg.ctlComplex.addr [] := hr.imp (by rintro rfl; rfl) (by rintro rfl; rfl)
  have hlow : r.addr [] < 0x500000 := by rcases hr with rfl | rfl <;> decide
  rw [State.reg, Tbl.get, State.warmRegs_alwaysOn h hlow]
  cases s.regs.find? (r.addr []) with
  | none => rcases hr with rfl | rfl <;> rfl
  | some w => exact if_pos haddr

theorem State.warmRegs_fixed : t.fld .pwrTokens [] 31 16 = 0 := by
  rw [State.fld, State.reg, Tbl.get, State.warmRegs_alwaysOn h (by decide)]
  cases s.regs.find? (Reg.pwrTokens.addr []) with
  | none => rfl
  | some w =>
    have hre : restarted (Reg.pwrTokens.addr []) w = Nat.withField w 31 16 0 := (if_neg (by decide)).trans (if_pos rfl)
    rw [Option.map_some, hre, Option.getD_some, Nat.field_withField_same, Nat.zero_mod]

theorem State.warmRegs_spare {d : Nat} (hd : d < 8) {f : RegField} (hf : f ∈ Reg.fields .fabSpare) :
    t.fld .fabSpare [d] f.hi f.lo = s.fld .fabSpare [d] f.hi f.lo := by
  have haddr : 0x500000 ≤ Reg.addr .fabSpare [d] := Nat.le_trans (by decide) (Nat.le_add_right Reg.fabSpare.place.base _)
  rw [State.fld, State.fld, State.reg, State.reg, Tbl.get, Tbl.get, h, s.find?_warmRegs (warmWord_fabSpare hd)]
  cases s.regs.find? (Reg.addr .fabSpare [d]) with
  | none => rfl
  | some w =>
    have hkept := field_spareKept w hf
    rw [RegField.of, RegField.of] at hkept
    rw [Option.map_some, restarted_other haddr, Option.getD_some, Option.getD_some, hkept]

end

/-! ### What a reset of the module leaves (R467, R468) -/

/-- Fields of a register named by their bits. -/
theorem fabSpare_field {f : Nat × Nat} (h : f ∈ [(63, 63), (62, 57), (56, 47)]) : ⟨f.1, f.2, .rws, 0⟩ ∈ Reg.fields .fabSpare := by
  simp only [List.mem_cons, List.not_mem_nil, or_false] at h
  rcases h with rfl | rfl | rfl <;> decide

/-- The module has been reset: what it forwards, serves and runs is gone, what its flash, its log and its spare columns hold is not. -/
def State.Restarts (s t : State) : Prop := t.stage = 0 ∧ t.ports = [] ∧ t.hubs = [] ∧ t.bpm = [] ∧ t.fwd = {} ∧ t.mp.regions = [] ∧ t.fab.slots = []
  ∧ t.fab.tiles = [] ∧ t.pins.pwrGood = false ∧ t.pins.mainOn = false ∧ t.pins.thermLow = false ∧ t.flt.safe = false
  ∧ t.flt.nextSeq = s.flt.nextSeq ∧ t.flt.first = s.flt.first ∧ t.nvm.active = s.nvm.active ∧ t.nvm.staging = s.nvm.staging
  ∧ t.nvm.golden = s.nvm.golden ∧ t.nvm.mlog = s.nvm.mlog ∧ t.nvm.dumps = s.nvm.dumps ∧ t.mem = s.mem
  ∧ (∀ d f, d < 8 → f ∈ [(63, 63), (62, 57), (56, 47)] → t.fld .fabSpare [d] f.1 f.2 = s.fld .fabSpare [d] f.1 f.2)

section
variable (s : State)

theorem State.endAllTests_parts : s.endAllTests.regs = s.regs ∧ s.endAllTests.nvm = s.nvm ∧ s.endAllTests.svc = s.svc ∧ s.endAllTests.pins = s.pins
    ∧ s.endAllTests.flt.nextSeq = s.flt.nextSeq ∧ s.endAllTests.flt.first = s.flt.first := by
  obtain ⟨l, hl⟩ := s.endAllTests_flt
  rw [hl]
  exact ⟨rfl, rfl, rfl, rfl, rfl, rfl⟩

theorem State.warmReset_regs : (s.kept s.warmReset).regs = s.warmRegs := by
  have hregs : (s.kept s.warmReset).regs = s.endAllTests.warmRegs := rfl
  rw [hregs, State.warmRegs, State.warmRegs, s.endAllTests_parts.1]

theorem State.warmReset_restarts : s.Restarts (s.kept s.warmReset) := by
  have hregs := s.warmReset_regs
  obtain ⟨-, hnvm, -, -, hseq, hfirst⟩ := s.endAllTests_parts
  refine ⟨?_, rfl, rfl, rfl, rfl, rfl, rfl, rfl, rfl, rfl, rfl, rfl, hseq, hfirst, (congrArg NvmSt.active hnvm :), (congrArg NvmSt.staging hnvm :),
    (congrArg NvmSt.golden hnvm :), (congrArg NvmSt.mlog hnvm :), (congrArg NvmSt.dumps hnvm :), rfl,
    fun d f hd hf => State.warmRegs_spare hregs hd (fabSpare_field hf)⟩
  rw [State.stage, State.fld, State.warmRegs_zero hregs (.inl rfl)]
  rfl

/-- A context as a warm reset leaves it. -/
def Ctx.reset (c : Ctx) : Ctx := { c.lose with fix := { c.fix with blocks := [] } }

theorem Ctx.reset_lost (c : Ctx) (h : c.state ≠ .quarantine) :
    c.reset.lost = true ∧ c.reset.state = .draining ∧ c.reset.steer = .absent ∧ c.reset.kept = [] ∧ c.reset.fix.blocks = [] := by
  unfold Ctx.reset Ctx.lose
  rw [if_neg h]
  exact ⟨rfl, rfl, rfl, rfl, rfl⟩

theorem State.warmReset_ctx {n : Nat} {c : Ctx} (h : s.ctx? n = some c) : (s.kept s.warmReset).ctx? n = some c.reset := by
  have hctxs : (s.kept s.warmReset).svc.ctxs = s.endAllTests.svc.ctxs.map fun e => (e.1, e.2.reset) := rfl
  obtain ⟨-, -, hsvc, -, -, -⟩ := s.endAllTests_parts
  rw [State.ctx?, hctxs, hsvc]
  exact (Tbl.find?_map _ _ _).trans (congrArg (Option.map Ctx.reset) h)

/-- What a warm reset keeps, beside what every reset of the module does. -/
theorem State.warmReset_keeps : (s.kept s.warmReset).time = s.time ∧ (s.kept s.warmReset).svc.quar = s.svc.quar
    ∧ (s.kept s.warmReset).svc.lastGen = s.svc.lastGen ∧ (s.kept s.warmReset).keys = s.keys
    ∧ (s.kept s.warmReset).reco.genAll = s.reco.genAll + 1 ∧ (s.kept s.warmReset).nvm.reason = s.nvm.reason
    ∧ (s.kept s.warmReset).nvm.source = s.nvm.source := by
  obtain ⟨l, hl⟩ := s.endAllTests_flt
  unfold State.warmReset
  generalize s.endAllTests = u at hl ⊢
  subst hl
  exact ⟨rfl, rfl, rfl, rfl, rfl, rfl, rfl⟩

theorem exec_warm {c : Instr} (hc : c ∈ [Instr.warm, .resetNPulse]) : exec c s = commit s (if s.islandsUp then s.warmReset else s) := by
  simp only [List.mem_cons, List.not_mem_nil, or_false] at hc
  rcases hc with rfl | rfl <;> rfl

/-! ### A cold start (R468) -/

/-- The addresses that a cold start keeps. -/
def isSpare (a : Nat) : Bool := (List.range 8).any fun d => a == Reg.fabSpare.addr [d]

theorem isSpare_fabSpare {d : Nat} (h : d < 8) : isSpare (Reg.fabSpare.addr [d]) = true :=
  List.any_eq_true.2 ⟨d, List.mem_range.2 h, beq_self_eq_true _⟩

/-- The state that a cold start leaves, but for what it starts from. -/
theorem State.coldReset_parts : (s.coldReset).regs = s.regs.filter (fun e => isSpare e.1) ∧ s.coldReset.flt.nextSeq = s.flt.nextSeq
    ∧ s.coldReset.flt.first = s.flt.first ∧ s.coldReset.nvm.active = s.nvm.active ∧ s.coldReset.nvm.staging = s.nvm.staging
    ∧ s.coldReset.nvm.golden = s.nvm.golden ∧ s.coldReset.nvm.mlog = s.nvm.mlog ∧ s.coldReset.nvm.dumps = s.nvm.dumps
    ∧ s.coldReset.pins = { s.pins with pwrGood := false, mainOn := false, thermLow := false, pllLost := [], offAt := 0, sampledN := true } := by
  obtain ⟨l, hl⟩ := s.endAllTests_flt
  unfold State.coldReset
  generalize s.endAllTests = u at hl ⊢
  subst hl
  exact ⟨rfl, rfl, rfl, rfl, rfl, rfl, rfl, rfl, rfl⟩

theorem State.coldReset_restarts {t : State} (hp : t = { s.kept s.coldReset with pins := t.pins })
    (hpins : t.pins.pwrGood = false ∧ t.pins.mainOn = false ∧ t.pins.thermLow = false) : s.Restarts t := by
  obtain ⟨hregs, hseq, hfirst, hactive, hstaging, hgolden, hmlog, hdumps, -⟩ := s.coldReset_parts
  obtain ⟨hgood, hon, htherm⟩ := hpins
  generalize t.pins = x at hp hgood hon htherm
  subst hp
  refine ⟨?_, rfl, rfl, rfl, rfl, rfl, rfl, rfl, hgood, hon, htherm, rfl, hseq, hfirst, hactive, hstaging, hgolden, hmlog, hdumps, rfl,
    fun d f hd hf => ?_⟩
  · have hstage : s.coldReset.fld .ctlStart [] 63 60 = 0 := by
      rw [State.fld, State.reg, Tbl.get, hregs, Tbl.find?_filter_dropped _ _ (by decide)]
      rfl
    exact hstage
  · have hspare : s.coldReset.fld .fabSpare [d] f.1 f.2 = s.fld .fabSpare [d] f.1 f.2 := by
      rw [State.fld, State.fld, State.reg, State.reg, Tbl.get, Tbl.get, hregs, Tbl.find?_filter_kept _ _ (isSpare_fabSpare hd)]
    exact hspare

theorem State.coldReset_fresh : s.coldReset.time = {} ∧ s.coldReset.svc = {} ∧ s.coldReset.keys = {} ∧ s.coldReset.reco = {}
    ∧ (∀ e ∈ s.coldReset.flt.log, e.2.isOpen = false) ∧ (∀ r ∈ s.coldReset.flt.isol, r.pending = false) ∧ s.coldReset.nvm.source = 0
    ∧ s.coldReset.nvm.stgHash = [] ∧ s.coldReset.nvm.reason = 0 := by
  refine ⟨rfl, rfl, rfl, rfl, fun e he => ?_, fun r hr => ?_, rfl, rfl, rfl⟩
  · obtain ⟨x, -, rfl⟩ := List.mem_map.1 he
    rfl
  · simpa using (List.mem_filter.1 hr).2

end

/-- What a command that starts the module cold answers. -/
theorem cold_restarts {s : State} (hup : s.islandsUp = true) :
    ∃ t, exec .cold s = .next t ∧ s.Restarts t ∧ t.time = {} ∧ t.svc = {} ∧ t.keys = {} ∧ t.reco = {}
      ∧ (∀ e ∈ t.flt.log, e.2.isOpen = false) ∧ (∀ r ∈ t.flt.isol, r.pending = false) ∧ t.islandsUp = true
      ∧ t.nvm.source = 0 ∧ t.nvm.stgHash = [] ∧ t.nvm.reason = 0 ∧ t.pins.sampledN = true := by
  obtain ⟨-, -, -, -, -, -, -, -, hpins⟩ := s.coldReset_parts
  obtain ⟨htime, hsvc, hkeys, hreco, hlog, hisol, hsource, hhash, hreason⟩ := s.coldReset_fresh
  have hislands : (s.kept s.coldReset).islandsUp = true := by
    rw [State.islandsUp, State.kept_pins, hpins]
    exact hup
  refine ⟨s.kept s.coldReset, commit_of (if_pos hup), s.coldReset_restarts rfl ?_, htime, hsvc, hkeys, hreco, hlog, hisol, hislands, hsource, hhash,
    hreason, ?_⟩
  · rw [State.kept_pins, hpins]
    exact ⟨rfl, rfl, rfl⟩
  · rw [State.kept_pins, hpins]

theorem resetNHeld_restarts {s : State} (ha : s.pins.auxGood = true) :
    ∃ t, exec .resetNHeld s = .next t ∧ s.Restarts t ∧ t.time = {} ∧ t.svc = {} ∧ t.islandsUp = false := by
  obtain ⟨-, -, -, -, -, -, -, -, hpins⟩ := s.coldReset_parts
  have hbody : bodyResetNHeld s = { s.coldReset with pins := { s.coldReset.pins with resetN := false } } := if_pos ha
  refine ⟨_, commit_of hbody, s.coldReset_restarts rfl ?_, rfl, rfl, ?_⟩
  · rw [State.kept_pins, hpins]
    exact ⟨rfl, rfl, rfl⟩
  · exact Bool.and_false _

end Sys2Proof.Machine

open Sys2Proof Sys2Proof.Machine

/-- Settles O57. A reset that begins is noted and counted once, with no test to end; what the loss of a link, the search and a stack that
trained again leave is said apart; the resets of the module share what they lose. -/
theorem hangsAndModuleResets : Obligations.HangsAndModuleResets := by
  unfold Obligations.HangsAndModuleResets
  refine ⟨fun s => ⟨fun n h => commitMem_of (bodyWatchdogFire_unwatched s.fresh h), fun n hn h hr hd hs ht hw hq => watchdogFire_port s hn h hr hd hs ht hw hq,
    fun n h h' hup hp hsafe hd hs ht hw => ?_, fun n q g c h768 h1408 h hr hd hs hq hg hc hl ht hw => watchdogFire_guilty s h768 h1408 h hr hd hs hq hg hc hl ht hw,
    fun n h h' hb hsafe hheld hs hl => domainResetDone_engine s h h' hb hsafe hheld hs hl,
    fun q n hs hq hsafe hb => ⟨suspectCleared_ends s hs hq hsafe hb, fun c => suspectCleared_waits s hs hq hsafe⟩,
    fun k hk hr hsafe => ⟨stackRetrainDone_fails s hk hr hsafe, stackRetrainDone_serves s hk hr hsafe⟩⟩,
    fun s => ⟨fun c hc => ⟨fun hup => ?_, fun hup => ?_⟩, cold_restarts, fun hup => ?_, resetNHeld_restarts, fun ha => ?_, fun hup hp => ?_⟩⟩
  · obtain ⟨t, ht, hbusy, hsearch, hctx⟩ := domainGo_searches s h h' hup hp hsafe hd hs ht hw
    refine ⟨t, ht, hbusy, hsearch, fun k c hc => ⟨fun ho hu => ?_, fun hno => ?_⟩⟩
    · rw [hctx k c hc, State.heldFor, if_pos ⟨ho, hu⟩]
    · rw [hctx k c hc, State.heldFor, if_neg ?_]
      rintro ⟨ho, hu⟩
      exact hno.elim (fun h => h ho) fun h => by rw [hu] at h; cases h
  · rw [exec_warm s hc]
    exact commit_of (if_neg (by rw [hup]; exact Bool.false_ne_true))
  · obtain ⟨htime, hquar, hgen, hkeys, hall, hreason, hsource⟩ := s.warmReset_keeps
    rw [exec_warm s hc]
    exact ⟨_, commit_of (if_pos hup), s.warmReset_restarts, htime, hquar, hgen, hkeys, hall, hreason, hsource,
      fun a ha => State.warmRegs_alwaysOn s.warmReset_regs ha, State.warmRegs_zero s.warmReset_regs (.inr rfl), State.warmRegs_fixed s.warmReset_regs,
      fun n c hn hq => ⟨c.reset, s.warmReset_ctx hn, c.reset_lost hq⟩⟩
  · exact commit_of (if_neg (by rw [hup]; exact Bool.false_ne_true))
  · exact commit_of (if_neg (by rw [ha]; exact Bool.false_ne_true))
  · exact commit_ifMain hup hp rfl
end
